-- ==== Sys2Proof/Word.lean ====
section
/-!
DEFINITION. The word types of the block: a byte, a 32-bit register (R27: "Every register is 32 bits wide"), a 64-bit quantity.
-/
namespace Sys2Proof

/-- One byte of memory, of a payload or of a frame. -/
abbrev Byte := BitVec 8
/-- One register of BAR0 (02, Register access). -/
abbrev W32 := BitVec 32
/-- A 64-bit value: a general register of a Longavel core, a host address. -/
abbrev W64 := BitVec 64

end Sys2Proof
end

