-- ==== Sys2Proof/Machine/Base.lean ====
section
/-!
DEFINITION. Machine/Base.lean: the sparse table every big register array and memory of the model is held in, byte and
bit helpers, and the text helpers of Bipol lines. Nothing here knows the state.
-/
namespace Sys2Proof.Machine

/-- A table of values by number, held sparsely in one canonical form: numbers strictly rising, and no entry equal to what
an unlisted number reads as. [log entry 13 DESIGN CHOICE] -/
abbrev Tab (α : Type) := List (Nat × α)

/-- The value of number `k`: the listed one, else the default of `k`. [log entries 12 DESIGN CHOICE, 13 DESIGN CHOICE] -/
def tabGet {α : Type} (d : Nat → α) : Tab α → Nat → α
  | [], k => d k
  | (i, a) :: t, k => if i = k then a else tabGet d t k

/-- A table without the entries of number `k`. -/
def tabDrop {α : Type} (t : Tab α) (k : Nat) : Tab α := t.filter (fun e => e.1 != k)

/-- Store `v` at number `k`, keeping the canonical form: a default value leaves no entry. [log entry 13 DESIGN CHOICE] -/
def tabSet {α : Type} [DecidableEq α] (d : Nat → α) : Tab α → Nat → α → Tab α
  | [], k, v => if v = d k then [] else [(k, v)]
  | (i, a) :: t, k, v =>
    if k < i then (if v = d k then (i, a) :: tabDrop t k else (k, v) :: (i, a) :: t)
    else if k = i then (if v = d k then tabDrop t k else (k, v) :: t)
    else (i, a) :: tabSet d t k v

/-- Every listed number is above `lo`, in rising order, and no entry is a default. -/
def tabWfFrom {α : Type} [DecidableEq α] (d : Nat → α) : Nat → Tab α → Bool
  | _, [] => true
  | lo, (i, a) :: t => decide (lo ≤ i) && decide (a ≠ d i) && tabWfFrom d (i + 1) t

/-- The canonical form of a table. [log entry 13 DESIGN CHOICE] -/
def tabWf {α : Type} [DecidableEq α] (d : Nat → α) (t : Tab α) : Bool := tabWfFrom d 0 t

/-- Memory: one byte an address (Host.Cell pairs); an unlisted byte reads `d`. -/
abbrev Mem := Tab Byte

/-- The canonical form of a memory: addresses strictly rising, no entry that reads as an unlisted one. [log entry 11 DESIGN CHOICE] -/
def Memory.wf (d : Byte) (m : Mem) : Bool := tabWf (fun _ => d) m

/-- Read one byte. [log entry 11 DESIGN CHOICE] -/
def memByte (d : Byte) (m : Mem) (a : Nat) : Byte := tabGet (fun _ => d) m a

/-- Read `n` bytes from `a` upwards. -/
def memRead (d : Byte) (m : Mem) (a : Nat) : Nat → List Byte
  | 0 => []
  | n + 1 => memByte d m a :: memRead d m (a + 1) n

/-- Write bytes from `a` upwards. [log entry 11 DESIGN CHOICE] -/
def memWrite (d : Byte) : Mem → Nat → List Byte → Mem
  | m, _, [] => m
  | m, a, b :: bs => memWrite d (tabSet (fun _ => d) m a b) (a + 1) bs

/-- The number little-endian bytes spell (00, Numbers and sizes). -/
def ofLe : List Byte → Nat
  | [] => 0
  | b :: bs => b.toNat + 256 * ofLe bs

/-- `n` little-endian bytes of a number. -/
def toLe : Nat → Nat → List Byte
  | 0, _ => []
  | n + 1, v => BitVec.ofNat 8 v :: toLe n (v / 256)

/-- The number big-endian bytes spell (FIPS strings). -/
def ofBe (l : List Byte) : Nat := l.foldl (fun a b => a * 256 + b.toNat) 0

/-- `n` big-endian bytes of a number. -/
def toBe (n v : Nat) : List Byte := (toLe n v).reverse

/-- `n` elements from offset `off`. -/
def slice {α : Type} (l : List α) (off n : Nat) : List α := (l.drop off).take n

/-- The little-endian number in bytes off .. off+n-1 of a structure. -/
def fieldLe (l : List Byte) (off n : Nat) : Nat := ofLe (slice l off n)

/-- Exactly `n` bytes: cut, or filled with zero. -/
def padTo (n : Nat) (l : List Byte) : List Byte := (l ++ List.replicate (n - l.length) 0).take n

/-- Bits [hi:lo] of a number. -/
def bitsOf (v hi lo : Nat) : Nat := (v >>> lo) % 2 ^ (hi + 1 - lo)

/-- Bit `i` of a number. -/
def bitOf (v i : Nat) : Bool := (v >>> i) % 2 == 1

/-- A Bool as 0 or 1. -/
def b2n (b : Bool) : Nat := if b then 1 else 0

/-- A field placed at bit `lo`. -/
def at' (v lo : Nat) : Nat := v <<< lo

/-- Replace element `i` of a list (nothing where it has none). -/
def listSet {α : Type} (l : List α) (i : Nat) (v : α) : List α := l.set i v

/-- Update element `i` of a list. -/
def listMod {α : Type} : List α → Nat → (α → α) → List α
  | [], _, _ => []
  | a :: t, 0, f => f a :: t
  | a :: t, i + 1, f => a :: listMod t i f

/-- Element `i` or a default. -/
def listGet {α : Type} (d : α) (l : List α) (i : Nat) : α := l.getD i d

/-- Fold `f` over 0 .. n-1. -/
def forN {σ : Type} : Nat → (Nat → σ → σ) → σ → σ
  | 0, _, s => s
  | n + 1, f, s => f n (forN n f s)

/-- Fold over a list, left to right. -/
def foldSt {α σ : Type} (l : List α) (f : α → σ → σ) (s : σ) : σ := l.foldl (fun s a => f a s) s

/-- Signed reading of the low `w` bits of a number. -/
def sgn (w v : Nat) : Int :=
  let u := v % 2 ^ w
  if u < 2 ^ (w - 1) then (u : Int) else (u : Int) - (2 : Int) ^ w

/-- The low `w` bits of an integer. -/
def low (w : Nat) (i : Int) : Nat := (i % ((2 : Int) ^ w)).toNat

/-- An integer clamped to the signed range of `w` bits. -/
def clampS (w : Nat) (i : Int) : Int :=
  let hi : Int := (2 : Int) ^ (w - 1) - 1
  let lo : Int := -((2 : Int) ^ (w - 1))
  if i > hi then hi else if i < lo then lo else i

/-- How many bits of a number are 1. -/
def popcount (w v : Nat) : Nat := (List.range w).foldl (fun n i => n + v / 2 ^ i % 2) 0

/-- Least index below `n` meeting `p`. -/
def findIdx (n : Nat) (p : Nat → Bool) : Option Nat := (List.range n).find? p

/-! ### Text -/

/-- One hexadecimal digit, upper case. -/
def hexDigit (n : Nat) : Char := (Nat.digitChar (n % 16)).toUpper

/-- Exactly `n` hexadecimal digits of a number, as characters. -/
def hexChars : Nat → Nat → List Char
  | 0, _ => []
  | n + 1, v => hexChars n (v / 16) ++ [hexDigit v]

/-- `n` hexadecimal digits, upper case, without a prefix. -/
def hexN (n v : Nat) : String := String.ofList (hexChars n v)

/-- 0x and `n` digits. -/
def hex0 (n v : Nat) : String := "0x" ++ hexN n v

/-- Digits grouped by four from the right with underscores (00, Numbers and sizes), after 0x. -/
def hexGrouped (n v : Nat) : String :=
  let cs := hexChars n v
  let rec grp : Nat → List Char → List Char
    | 0, l => l
    | f + 1, l => if l.length ≤ 4 then l else grp f (l.take (l.length - 4)) ++ ['_'] ++ l.drop (l.length - 4)
  "0x" ++ String.ofList (grp (n / 4 + 1) cs)

/-- A number in decimal. -/
def dec (n : Nat) : String := String.ofList (Nat.toDigits 10 n)

/-- An integer in decimal. -/
def decI (i : Int) : String := if i < 0 then "-" ++ dec i.natAbs else dec i.natAbs

/-- A fixed number of decimal places: `v` is the value times 10^p. -/
def decP (p v : Nat) : String :=
  let q := 10 ^ p
  let f := Nat.toDigits 10 (v % q)
  dec (v / q) ++ "." ++ String.ofList (List.replicate (p - f.length) '0' ++ f)

/-- Words joined by one space. -/
def spaced (l : List String) : String := String.intercalate " " l

/-- The bytes of ASCII text. -/
def textBytes (t : String) : List Byte := t.toList.map fun c => BitVec.ofNat 8 c.toNat

/-- ASCII text of bytes. -/
def bytesText (l : List Byte) : String := String.ofList (l.map fun b => Char.ofNat b.toNat)

/-- Bytes as hex pairs, two digits each, no separator. -/
def hexBytes (l : List Byte) : String := String.ofList (l.flatMap fun b => hexChars 2 b.toNat)

end Sys2Proof.Machine
end

