-- ==== Sys2Proof/Machine/SoftFloat.lean ====
section
/-!
DEFINITION. Machine/SoftFloat.lean: IEEE 754 arithmetic on bit patterns, exact and then rounded to nearest even with subnormals
kept, for binary16, bf16, binary32 and binary64 (Tarn sums 10 R207 and R212, links R213; Basin formats 11; Longavel 13).
-/
namespace Sys2Proof.Machine

/-- A binary floating format: exponent bits and stored fraction bits. -/
structure FFmt where
  eb : Nat
  mb : Nat
  deriving DecidableEq, Repr

/-- binary16. -/
def f16 : FFmt := ⟨5, 10⟩
/-- bf16. -/
def bf16 : FFmt := ⟨8, 7⟩
/-- binary32. -/
def f32 : FFmt := ⟨8, 23⟩
/-- binary64. -/
def f64 : FFmt := ⟨11, 52⟩

/-- What a bit pattern means: a NaN, an infinity, or ± m × 2^e. -/
inductive FVal where
  | nan
  | inf (neg : Bool)
  | fin (neg : Bool) (m : Nat) (e : Int)
  deriving DecidableEq, Repr

/-- Exponent bias. -/
def fBias (f : FFmt) : Nat := 2 ^ (f.eb - 1) - 1

/-- Exponent of the unit in the last place of a subnormal. -/
def fQmin (f : FFmt) : Int := 1 - (fBias f : Int) - (f.mb : Int)

/-- The pattern of an infinity. -/
def fInf (f : FFmt) (neg : Bool) : Nat := b2n neg <<< (f.eb + f.mb) ||| ((2 ^ f.eb - 1) <<< f.mb)

/-- The quiet NaN every operation gives (0x7E00, 0x7FC0, 0x7FC0_0000). -/
def fNaN (f : FFmt) : Nat := ((2 ^ f.eb - 1) <<< f.mb) ||| 2 ^ (f.mb - 1)

/-- Read a bit pattern. -/
def fDec (f : FFmt) (v : Nat) : FVal :=
  let neg := bitOf v (f.eb + f.mb)
  let e := bitsOf v (f.eb + f.mb - 1) f.mb
  let m := v % 2 ^ f.mb
  if e = 2 ^ f.eb - 1 then (if m = 0 then .inf neg else .nan)
  else if e = 0 then .fin neg m (fQmin f)
  else .fin neg (2 ^ f.mb + m) (fQmin f + (e : Int) - 1)

/-- Number of bits of a number. -/
def bitLen (m : Nat) : Nat := if m = 0 then 0 else Nat.log2 m + 1

/-- m / 2^k rounded to the nearest integer, ties to even. -/
def shrEven (m k : Nat) : Nat :=
  if k = 0 then m else
  let q := m >>> k
  let r := m % 2 ^ k
  let h := 2 ^ (k - 1)
  if r > h then q + 1 else if r = h then q + q % 2 else q

/-- ± m × 2^e rounded to nearest even in a format, overflowing to infinity. -/
def fRound (f : FFmt) (neg : Bool) (m : Nat) (e : Int) : Nat :=
  let sgn := b2n neg <<< (f.eb + f.mb)
  if m = 0 then sgn else
  let q0 := e + (bitLen m : Int) - ((f.mb : Int) + 1)
  let q := if q0 < fQmin f then fQmin f else q0
  let n := if q ≤ e then m <<< (e - q).toNat else shrEven m (q - e).toNat
  let bits := if n < 2 ^ f.mb then n else ((q - fQmin f + 1).toNat <<< f.mb) + (n - 2 ^ f.mb)
  if bits ≥ (2 ^ f.eb - 1) <<< f.mb then fInf f neg else sgn ||| bits

/-- Write a value in a format. -/
def fEnc (f : FFmt) : FVal → Nat
  | .nan => fNaN f
  | .inf n => fInf f n
  | .fin n m e => fRound f n m e

/-- Negate. -/
def vNeg : FVal → FVal
  | .nan => .nan
  | .inf n => .inf (!n)
  | .fin n m e => .fin (!n) m e

/-- Exact sum. -/
def vAdd : FVal → FVal → FVal
  | .nan, _ => .nan
  | _, .nan => .nan
  | .inf a, .inf b => if a = b then .inf a else .nan
  | .inf a, _ => .inf a
  | _, .inf b => .inf b
  | .fin s1 m1 e1, .fin s2 m2 e2 =>
    let e := if e1 ≤ e2 then e1 else e2
    let i1 : Int := (m1 <<< (e1 - e).toNat : Nat)
    let i2 : Int := (m2 <<< (e2 - e).toNat : Nat)
    let t := (if s1 then -i1 else i1) + (if s2 then -i2 else i2)
    if t = 0 then .fin (s1 && s2) 0 e else .fin (decide (t < 0)) t.natAbs e

/-- Exact product. -/
def vMul : FVal → FVal → FVal
  | .nan, _ => .nan
  | _, .nan => .nan
  | .inf a, .inf b => .inf (a != b)
  | .inf a, .fin s m _ => if m = 0 then .nan else .inf (a != s)
  | .fin s m _, .inf b => if m = 0 then .nan else .inf (s != b)
  | .fin s1 m1 e1, .fin s2 m2 e2 => .fin (s1 != s2) (m1 * m2) (e1 + e2)

/-- Quotient, carried far enough (with a sticky bit) that one rounding to any of the formats is correct. -/
def vDiv : FVal → FVal → FVal
  | .nan, _ => .nan
  | _, .nan => .nan
  | .inf _, .inf _ => .nan
  | .inf a, .fin s _ _ => .inf (a != s)
  | .fin s _ e, .inf b => .fin (s != b) 0 e
  | .fin s1 m1 e1, .fin s2 m2 e2 =>
    let s := s1 != s2
    if m2 = 0 then (if m1 = 0 then .nan else .inf s)
    else if m1 = 0 then .fin s 0 0
    else
      let k := 70 + bitLen m2
      let n := m1 <<< k
      let q := n / m2
      let st := if n % m2 = 0 then 0 else 1
      .fin s (q * 2 + st) (e1 - e2 - (k : Int) - 1)

/-- Integer square root by bits, from bit `b` down. -/
def isqrtFrom : Nat → Nat → Nat → Nat
  | 0, r, _ => r
  | b + 1, r, n => let t := r + 2 ^ b; if t * t ≤ n then isqrtFrom b t n else isqrtFrom b r n

/-- Integer square root. -/
def isqrt (n : Nat) : Nat := isqrtFrom (bitLen n / 2 + 1) 0 n

/-- Square root, carried far enough for one rounding. -/
def vSqrt : FVal → FVal
  | .nan => .nan
  | .inf n => if n then .nan else .inf false
  | .fin s m e =>
    if m = 0 then .fin s 0 e
    else if s then .nan
    else
      let k : Nat := 130 + (if (e % 2 = 0) then 0 else 1)
      let n := m <<< k
      let r := isqrt n
      let st := if r * r = n then 0 else 1
      .fin false (r * 2 + st) ((e - (k : Int)) / 2 - 1)

/-- Sum, product, quotient and root in a format (one rounding each). -/
def fAdd (f : FFmt) (a b : Nat) : Nat := fEnc f (vAdd (fDec f a) (fDec f b))
/-- Difference in a format. -/
def fSub (f : FFmt) (a b : Nat) : Nat := fEnc f (vAdd (fDec f a) (vNeg (fDec f b)))
/-- Product in a format. -/
def fMul (f : FFmt) (a b : Nat) : Nat := fEnc f (vMul (fDec f a) (fDec f b))
/-- Quotient in a format. -/
def fDiv (f : FFmt) (a b : Nat) : Nat := fEnc f (vDiv (fDec f a) (fDec f b))
/-- Square root in a format. -/
def fSqrt (f : FFmt) (a : Nat) : Nat := fEnc f (vSqrt (fDec f a))
/-- Convert between formats, rounding to nearest even. -/
def fConv (src dst : FFmt) (a : Nat) : Nat := fEnc dst (fDec src a)
/-- An integer in a format. -/
def fOfInt (f : FFmt) (i : Int) : Nat := fRound f (decide (i < 0)) i.natAbs 0

/-- Is the pattern a NaN. -/
def fIsNaN (f : FFmt) (a : Nat) : Bool := fDec f a == .nan

/-- Is the pattern finite. -/
def fFinite (f : FFmt) (a : Nat) : Bool := match fDec f a with | .fin .. => true | _ => false

/-- a < b; false where either is NaN; −0 equals +0. -/
def vLt : FVal → FVal → Bool
  | .nan, _ => false
  | _, .nan => false
  | .inf a, .inf b => a && !b
  | .inf a, .fin .. => a
  | .fin .., .inf b => !b
  | .fin s1 m1 e1, .fin s2 m2 e2 =>
    let e := if e1 ≤ e2 then e1 else e2
    let i1 : Int := (m1 <<< (e1 - e).toNat : Nat)
    let i2 : Int := (m2 <<< (e2 - e).toNat : Nat)
    decide ((if s1 then -i1 else i1) < (if s2 then -i2 else i2))

/-- a = b as numbers. -/
def vEq : FVal → FVal → Bool
  | .nan, _ => false
  | _, .nan => false
  | a, b => !vLt a b && !vLt b a

/-- a < b in a format. -/
def fLt (f : FFmt) (a b : Nat) : Bool := vLt (fDec f a) (fDec f b)
/-- a = b in a format. -/
def fEq (f : FFmt) (a b : Nat) : Bool := vEq (fDec f a) (fDec f b)
/-- a ≤ b in a format. -/
def fLe (f : FFmt) (a b : Nat) : Bool := fLt f a b || fEq f a b

/-- A value rounded to the nearest integer, ties to even (finite values; 0 otherwise). -/
def vRint : FVal → Int
  | .fin s m e =>
    let n : Nat := if e ≥ 0 then m <<< e.toNat else shrEven m (-e).toNat
    if s then -(n : Int) else (n : Int)
  | _ => 0

/-- A value truncated towards zero. -/
def vTrunc : FVal → Int
  | .fin s m e =>
    let n : Nat := if e ≥ 0 then m <<< e.toNat else m >>> (-e).toNat
    if s then -(n : Int) else (n : Int)
  | _ => 0

/-- Times a power of two in binary64. -/
def f64Scale (a : Nat) (k : Int) : Nat :=
  match fDec f64 a with
  | .fin s m e => fRound f64 s m (e + k)
  | v => fEnc f64 v

/-- j! -/
def factorial : Nat → Nat
  | 0 => 1
  | n + 1 => (n + 1) * factorial n

/-- Cj: the binary64 value nearest to 1/j! (10 R213). -/
def expC (j : Nat) : Nat := fDiv f64 (fOfInt f64 1) (fOfInt f64 (factorial j))
/-- LOG2E: the binary64 value nearest to 1/ln 2 (10 R213). -/
def expLog2e : Nat := 0x3FF71547652B82FE
/-- LN2: the binary64 value nearest to ln 2 (10 R213). -/
def expLn2 : Nat := 0x3FE62E42FEFA39EF

/-- e64 of 10 R213: every operation rounds to nearest even and none is fused. -/
def e64 (x : Nat) : Nat :=
  if fIsNaN f64 x then fNaN f64
  else if fLt f64 (fOfInt f64 710) x then fInf f64 false
  else if fLt f64 x (fOfInt f64 (-746)) then 0
  else
    let k := vRint (fDec f64 (fMul f64 x expLog2e))
    let r := fSub f64 x (fMul f64 (fOfInt f64 k) expLn2)
    let p := [6, 5, 4, 3, 2].foldl (fun p j => fAdd f64 (fMul f64 p r) (expC j)) (expC 7)
    let p := fAdd f64 (fMul f64 p r) (fOfInt f64 1)
    let p := fAdd f64 (fMul f64 p r) (fOfInt f64 1)
    f64Scale (f64Scale p (-((-k) / 2))) (k / 2)

end Sys2Proof.Machine
end

