-- ==== Sys2Proof/Machine/BasinAlgo.lean ====
section
/-!
DEFINITION. Machine/BasinAlgo.lean: the number formats of a Basin (11 R228), the reference arithmetic of a pass (R229, R230), the drain
conversions (R232) and the layouts of a weight stream (R233).
-/
namespace Sys2Proof.Machine

/-- Bits of an element of a format code (Table 11-4); 0 for a reserved code. -/
def fmtBits (c : Nat) : Nat :=
  if c = 0 ∨ c = 2 ∨ c = 3 then 8 else if c = 1 then 4 else if c = 4 ∨ c = 5 then 16 else if c = 6 ∨ c = 7 then 32 else 0

/-- E5M2. -/
def e5m2 : FFmt := ⟨5, 2⟩

/-- Read an E4M3 pattern: e = 15 is finite except f = 7. -/
def e4m3Dec (v : Nat) : FVal :=
  let neg := bitOf v 7
  let e := bitsOf v 6 3
  let f := v % 8
  if e = 15 ∧ f = 7 then .nan
  else if e = 0 then .fin neg f (-9)
  else .fin neg (8 + f) ((e : Int) - 10)

/-- Write a value as E4M3; beyond 448: 448 under saturation, else NaN (R232). -/
def e4m3Enc (sat : Bool) : FVal → Nat
  | .nan => 0x7F
  | .inf n => if sat then b2n n * 128 + 0x7E else 0x7F
  | .fin n m e =>
    if m = 0 then b2n n * 128 else
    let q0 := e + (bitLen m : Int) - 4
    let q := if q0 < -9 then -9 else q0
    let k := if q ≤ e then m <<< (e - q).toNat else shrEven m (q - e).toNat
    let bits := if k < 8 then k else ((q + 10).toNat <<< 3) + (k - 8)
    if bits > 0x7E then (if sat then b2n n * 128 + 0x7E else 0x7F) else b2n n * 128 + bits

/-- Read a float element of a format code. -/
def eltDec (c v : Nat) : FVal :=
  if c = 2 then e4m3Dec v else if c = 3 then fDec e5m2 v else if c = 4 then fDec bf16 v
  else if c = 5 then fDec f16 v else fDec f32 v

/-- The five modes of Table 11-3, by BASIN_STAT code: 1 I8, 2 I4, 3 F8, 4 BF, 5 H; 0: the pairing is refused. -/
def macMode (act wgt : Nat) : Nat :=
  if act = 0 ∧ wgt = 0 then 1 else if act = 0 ∧ wgt = 1 then 2
  else if (act = 2 ∨ act = 3) ∧ (wgt = 2 ∨ wgt = 3) then 3
  else if act = 4 ∧ wgt = 4 then 4 else if act = 5 ∧ wgt = 5 then 5 else 0

/-- Is the mode's bank int32 (else binary32). -/
def modeInt (m : Nat) : Bool := m == 1 || m == 2

/-- One add of the reference arithmetic (R230): the accumulator after it and whether it clamped. -/
def macAdd (mode act wgt a w acc : Nat) : Nat × Bool :=
  if modeInt mode then
    let t := sgn 32 acc + sgn 8 a * sgn (fmtBits wgt) w
    let c := clampS 32 t
    (low 32 c, decide (c ≠ t))
  else
    let p := fEnc f32 (vMul (eltDec act a) (eltDec wgt w))
    (fAdd f32 acc p, false)

/-- Element `i` of a packed run of elements. -/
def eltAt (c : Nat) (l : List Byte) (i : Nat) : Nat :=
  if c = 1 then (let b := fieldLe l (i / 2) 1; if i % 2 = 0 then b % 16 else b / 16)
  else let n := fmtBits c / 8; fieldLe l (i * n) n

/-- Bytes of a slice (KMAJOR) or record (NMAJOR) of `n` elements, padded to 64 (R233). -/
def lineBytes (c n : Nat) : Nat := (n * fmtBits c + 511) / 512 * 64

/-- The bytes a stream carries for K, NCOL, format and layout (R233; layout 0 KMAJOR, 1 NMAJOR). -/
def streamLen (k ncol wfmt layout : Nat) : Nat := if layout = 0 then k * lineBytes wfmt ncol else ncol * lineBytes wfmt k

/-- W[k][n] in a stream's bytes. -/
def wgtAt (wfmt layout k' ncol : Nat) (l : List Byte) (k n : Nat) : Nat :=
  let ln := if layout = 0 then lineBytes wfmt ncol else lineBytes wfmt k'
  if layout = 0 then eltAt wfmt (slice l (k * ln) ln) n else eltAt wfmt (slice l (n * ln) ln) k

/-- One accumulator through a whole pass: k ascending. -/
def macCell (mode act wgt : Nat) : List (Nat × Nat) → Nat → Nat × Nat
  | [], acc => (acc, 0)
  | (a, w) :: t, acc =>
    let (acc, s) := macAdd mode act wgt a w acc
    let (acc, n) := macCell mode act wgt t acc
    (acc, n + b2n s)

/-- The drain conversion of one accumulator (R232): the element and whether it clamped. `intBank`: the bank's type is int32. -/
def drainElt (intBank : Bool) (dfmt a mult shift zpt fscale : Nat) (satfp : Bool) : Nat × Bool :=
  if intBank then
    if dfmt = 7 then (a, false)
    else
      let t := sgn 32 a * sgn 32 mult
      let q : Int := let r : Int := (shrEven t.natAbs shift : Nat); if t < 0 then -r else r
      let z := q + sgn 8 zpt
      let c := clampS 8 z
      (low 8 c, decide (c ≠ z))
  else if dfmt = 6 then (a, false)
  else
    let t := fDec f32 (fMul f32 a fscale)
    if dfmt = 2 then (e4m3Enc satfp t, false)
    else
      let f := if dfmt = 3 then e5m2 else if dfmt = 4 then bf16 else f16
      let r := fEnc f t
      let fin : Bool := match t with | .inf _ => false | .nan => false | _ => true
      if satfp ∧ fin ∧ (r = fInf f false ∨ r = fInf f true) then (r - 1, false) else (r, false)

/-- May a bank of this type be drained to this format (R232). -/
def drainOk (intBank : Bool) (dfmt : Nat) : Bool :=
  if intBank then dfmt == 7 || dfmt == 0 else dfmt == 6 || dfmt == 4 || dfmt == 5 || dfmt == 2 || dfmt == 3

end Sys2Proof.Machine
end

