-- ==== Sys2Proof/Machine/ReedAlgo.lean ====
section
/-!
DEFINITION. Machine/ReedAlgo.lean: the reference arithmetic of Reedbed (08): UTF-8 intake (R162), normalisation (R163), the source
map (R164), limits (R165, R166), the piece lookup (R167, R168), segmentation (R169), decoding (R172) and stop strings (R173).
Nothing here knows the state: a pack is its bytes (R177).
-/
namespace Sys2Proof.Machine

/-! ### UTF-8 (R162) -/

/-- For a lead byte: the range of the second byte and the length of the sequence. -/
def utf8Lead (b : Nat) : Option (Nat × Nat × Nat) :=
  if b < 0x80 then some (0, 0, 1)
  else if b < 0xC2 then none
  else if b ≤ 0xDF then some (0x80, 0xBF, 2)
  else if b = 0xE0 then some (0xA0, 0xBF, 3)
  else if b ≤ 0xEC then some (0x80, 0xBF, 3)
  else if b = 0xED then some (0x80, 0x9F, 3)
  else if b ≤ 0xEF then some (0x80, 0xBF, 3)
  else if b = 0xF0 then some (0x90, 0xBF, 4)
  else if b ≤ 0xF3 then some (0x80, 0xBF, 4)
  else if b = 0xF4 then some (0x80, 0x8F, 4)
  else none

/-- How many of the bytes after the lead continue the sequence, up to `n`. -/
def utf8Cont (lo hi : Nat) : Nat → List Byte → Nat
  | 0, _ => 0
  | _ + 1, [] => 0
  | n + 1, b :: t => if lo ≤ b.toNat ∧ b.toNat ≤ hi then 1 + utf8Cont 0x80 0xBF n t else 0

/-- The bytes of one decoded unit at the front, and its code point (none: an ill-formed maximal subpart). -/
def utf8Step : List Byte → Nat × Option Nat
  | [] => (0, none)
  | b :: t =>
    match utf8Lead b.toNat with
    | none => (1, none)
    | some (lo, hi, len) =>
      let c := utf8Cont lo hi (len - 1) t
      if c + 1 = len then
        let top := if len = 1 then b.toNat else if len = 2 then b.toNat % 32 else if len = 3 then b.toNat % 16 else b.toNat % 8
        (len, some ((t.take (len - 1)).foldl (fun a x => a * 64 + x.toNat % 64) top))
      else (c + 1, none)

/-- The UTF-8 bytes of a code point. -/
def utf8Enc (c : Nat) : List Byte :=
  let k (n : Nat) : Byte := BitVec.ofNat 8 n
  if c < 0x80 then [k c]
  else if c < 0x800 then [k (0xC0 + c / 64), k (0x80 + c % 64)]
  else if c < 0x10000 then [k (0xE0 + c / 4096), k (0x80 + c / 64 % 64), k (0x80 + c % 64)]
  else [k (0xF0 + c / 262144), k (0x80 + c / 4096 % 64), k (0x80 + c / 64 % 64), k (0x80 + c % 64)]

/-- A code point with the source bytes [src, stop) it stands for; `bad`: it replaces an ill-formed subsequence. -/
structure SrcCp where
  cp   : Nat
  src  : Nat
  stop : Nat
  bad  : Bool := false
  deriving DecidableEq, Repr

/-- Decode a payload from offset `off` (fuel: the bytes left). -/
def utf8Decode : Nat → Nat → List Byte → List SrcCp
  | 0, _, _ => []
  | _ + 1, _, [] => []
  | f + 1, off, l =>
    let (n, c) := utf8Step l
    match c with
    | some c => ⟨c, off, off + n, false⟩ :: utf8Decode f (off + n) (l.drop n)
    | none => ⟨0xFFFD, off, off + n, true⟩ :: utf8Decode f (off + n) (l.drop n)

/-- Is a byte string valid UTF-8. -/
def utf8Valid (l : List Byte) : Bool := (utf8Decode l.length 0 l).all fun c => !c.bad

/-! ### The pack (R177) -/

/-- Offset and length of section `i` of a pack. -/
def rpSec (p : List Byte) (i : Nat) : Nat × Nat := (fieldLe p (64 + 8 * i) 4, fieldLe p (68 + 8 * i) 4)
/-- The bytes of section `i`. -/
def rpSecBytes (p : List Byte) (i : Nat) : List Byte := let (o, n) := rpSec p i; slice p o n
/-- NPIECE. -/
def rpNPiece (p : List Byte) : Nat := fieldLe p 12 4
/-- LOG2B. -/
def rpLog2B (p : List Byte) : Nat := fieldLe p 16 1
/-- MAXLEN. -/
def rpMaxLen (p : List Byte) : Nat := fieldLe p 17 1
/-- NSTOPSET. -/
def rpNStop (p : List Byte) : Nat := fieldLe p 18 1
/-- NPROFILE. -/
def rpNProf (p : List Byte) : Nat := fieldLe p 19 1
/-- SEED. -/
def rpSeed (p : List Byte) : Nat := fieldLe p 20 4
/-- The HANGUL flag. -/
def rpHangul (p : List Byte) : Bool := bitOf (fieldLe p 6 2) 0

/-- A profile (Table 8-6). -/
structure RProfile where
  byteLimit : Nat
  tokLimit  : Nat
  headTail  : Bool
  tailShare : Nat
  passes    : Nat
  actions   : Nat
  deriving DecidableEq, Repr

/-- Profile `i` of a pack. -/
def rpProfile (p : List Byte) (i : Nat) : RProfile :=
  let b := slice (rpSecBytes p 12) (16 * i) 16
  ⟨fieldLe b 0 4, fieldLe b 4 2, fieldLe b 6 1 == 1, fieldLe b 7 1, fieldLe b 8 1, fieldLe b 9 1⟩

/-- Look a code point up in a mapping section (DECOMP, CASE, WIDTH, CONFUSE): its replacement, where it has one. -/
def rpMap (p : List Byte) (sec c : Nat) : Option (List Nat) :=
  let s := rpSecBytes p sec
  let pool := rpSecBytes p 6
  match findIdx (s.length / 8) (fun i => fieldLe s (8 * i) 4 % 2 ^ 21 == c) with
  | none => none
  | some i =>
    let n := bitsOf (fieldLe s (8 * i) 4) 23 21
    let ix := fieldLe s (8 * i + 4) 4
    some ((List.range n).map fun k => fieldLe pool (4 * (ix + k)) 4)

/-- Canonical combining class (CCC; absent: 0). -/
def rpClass (p : List Byte) (c : Nat) : Nat :=
  let s := rpSecBytes p 1
  match findIdx (s.length / 4) (fun i => fieldLe s (4 * i) 4 % 2 ^ 21 == c) with
  | none => 0
  | some i => fieldLe s (4 * i + 3) 1

/-- The composite of a pair: COMPOSE, or Hangul when the flag is set (R163). -/
def rpCompose (p : List Byte) (a b : Nat) : Option Nat :=
  let s := rpSecBytes p 2
  match findIdx (s.length / 8) (fun i => let e := fieldLe s (8 * i) 8; bitsOf e 20 0 == a && bitsOf e 41 21 == b) with
  | some i => some (bitsOf (fieldLe s (8 * i) 8) 62 42)
  | none =>
    if rpHangul p then
      if 0x1100 ≤ a ∧ a < 0x1113 ∧ 0x1161 ≤ b ∧ b < 0x1176 then
        some (0xAC00 + ((a - 0x1100) * 21 + (b - 0x1161)) * 28)
      else if 0xAC00 ≤ a ∧ a < 0xD7A4 ∧ (a - 0xAC00) % 28 = 0 ∧ 0x11A8 ≤ b ∧ b < 0x11C3 then some (a + (b - 0x11A7))
      else none
    else none

/-- The full decomposition of a code point (R163). -/
def rpDecomp (p : List Byte) (c : Nat) : List Nat :=
  match rpMap p 0 c with
  | some l => l
  | none =>
    if rpHangul p ∧ 0xAC00 ≤ c ∧ c < 0xD7A4 then
      let i := c - 0xAC00
      let l := 0x1100 + i / 588
      let v := 0x1161 + i % 588 / 28
      if i % 28 = 0 then [l, v] else [l, v, 0x11A7 + i % 28]
    else [c]

/-! ### Normalisation (R163) -/

/-- Insert by class, after equal classes (a stable sort). -/
def insClass (p : List Byte) (x : SrcCp) : List SrcCp → List SrcCp
  | [] => [x]
  | y :: t => if rpClass p x.cp < rpClass p y.cp then x :: y :: t else y :: insClass p x t

/-- Canonical reordering: `run` holds the current run of non-zero classes, reversed. -/
def reorder (p : List Byte) : List SrcCp → List SrcCp → List SrcCp
  | run, [] => flush run
  | run, x :: t => if rpClass p x.cp = 0 then flush run ++ x :: reorder p [] t else reorder p (x :: run) t
where
  flush (run : List SrcCp) : List SrcCp :=
    let r := run.reverse
    (r.take 31).foldl (fun acc x => insClass p x acc) [] ++ r.drop 31

/-- Canonical composition: what stands before the starter (reversed), the starter, what follows it (reversed). [log entry 43 DEDUCED] -/
def compose (p : List Byte) : List SrcCp → Option SrcCp → List SrcCp → List SrcCp → List SrcCp
  | pre, st, mid, [] => pre.reverse ++ st.toList ++ mid.reverse
  | pre, none, _, c :: t => if rpClass p c.cp = 0 then compose p pre (some c) [] t else compose p (c :: pre) none [] t
  | pre, some s, mid, c :: t =>
    let blocked := mid.any fun k => decide (rpClass p k.cp ≥ rpClass p c.cp)
    match (if blocked then none else rpCompose p s.cp c.cp) with
    | some r => compose p pre (some ⟨r, min s.src c.src, max s.stop c.stop, s.bad || c.bad⟩) mid t
    | none => if rpClass p c.cp = 0 then compose p (mid ++ s :: pre) (some c) [] t else compose p pre (some s) (c :: mid) t

/-- One folding pass through a mapping section. -/
def foldPass (p : List Byte) (sec : Nat) (l : List SrcCp) : List SrcCp :=
  l.flatMap fun c => match rpMap p sec c.cp with
    | none => [c]
    | some r => r.map fun x => { c with cp := x }

/-- All passes of a profile over a decoded payload. -/
def normalise (p : List Byte) (passes : Nat) (l : List SrcCp) : List SrcCp :=
  let l := if bitOf passes 4 then (match l with | c :: t => if c.cp = 0xFEFF ∧ c.src = 0 then t else l | [] => l) else l
  let l := if bitOf passes 0 then
      compose p [] none [] (reorder p [] (l.flatMap fun c => (rpDecomp p c.cp).map fun x => { c with cp := x }))
    else l
  let l := if bitOf passes 1 then foldPass p 3 l else l
  let l := if bitOf passes 2 then foldPass p 4 l else l
  if bitOf passes 3 then foldPass p 5 l else l

/-- The prefix of the normalised text within the byte limit, and the first code point left out (R165). -/
def byteCut (limit : Nat) : Nat → List SrcCp → List SrcCp × Option SrcCp
  | _, [] => ([], none)
  | n, c :: t =>
    let k := n + (utf8Enc c.cp).length
    if k > limit then ([], some c) else let (a, r) := byteCut limit k t; (c :: a, r)

/-! ### Source map (R164) -/

/-- A run record. -/
structure MapRec where
  noff  : Nat
  ident : Bool
  soff  : Nat
  deriving DecidableEq, Repr

/-- The output bytes of the code points of one source group at the front, and the rest. [log entry 43 DEDUCED] -/
def takeGroup (s e : Nat) : List SrcCp → List Byte × List SrcCp
  | [] => ([], [])
  | c :: t => if c.src = s ∧ c.stop = e then let (b, r) := takeGroup s e t; (utf8Enc c.cp ++ b, r) else ([], c :: t)

/-- Run records in order: an IDENT run goes on while the groups copy the payload without a gap. -/
def mapRuns (payload : List Byte) : Nat → Nat → Option (Nat × Nat) → List SrcCp → List MapRec
  | 0, _, _, _ => []
  | _ + 1, _, _, [] => []
  | f + 1, noff, run, c :: t =>
    let (b, r) := takeGroup c.src c.stop (c :: t)
    let ident := decide (b = slice payload c.src (c.stop - c.src))
    let goesOn := match run with | some (n0, s0) => ident && decide (c.src = s0 + (noff - n0)) | none => false
    if goesOn then mapRuns payload f (noff + b.length) run r
    else ⟨noff, ident, c.src⟩ :: mapRuns payload f (noff + b.length) (if ident then some (noff, c.src) else none) r

/-- The source map of a kept text: at most 8,192 records. -/
def sourceMap (payload : List Byte) (l : List SrcCp) : List MapRec :=
  let m := mapRuns payload (l.length + 1) 0 none l
  if m.length > 8192 then m.take 8191 ++ ((m.drop 8191).take 1).map fun r => { r with ident := false } else m

/-- The run that contains a normalised offset, and the SOFF of the record after it. -/
def mapFind (plen : Nat) : List MapRec → Nat → Option (MapRec × Nat)
  | [], _ => none
  | [r], _ => some (r, plen)
  | r :: q :: t, a => if a < q.noff then some (r, q.soff) else mapFind plen (q :: t) a

/-- A normalised span [a, b) as a payload span (R164). -/
def mapSpan (plen : Nat) (m : List MapRec) (a b : Nat) : Nat × Nat :=
  let s := match mapFind plen m a with | some (r, _) => if r.ident then r.soff + (a - r.noff) else r.soff | none => a
  let e := match mapFind plen m (b - 1) with | some (r, nx) => if r.ident then r.soff + (b - 1 - r.noff) + 1 else nx | none => b
  (s, e)

/-- A record's 8 bytes. -/
def mapRecBytes (r : MapRec) : List Byte := toLe 4 (r.noff % 2 ^ 17 + b2n r.ident * 2 ^ 31) ++ toLe 4 r.soff

/-- Read records back. -/
def mapOfBytes (n : Nat) (l : List Byte) : List MapRec :=
  (List.range n).map fun i => ⟨fieldLe l (8 * i) 4 % 2 ^ 17, bitOf (fieldLe l (8 * i) 4) 31, fieldLe l (8 * i + 4) 4⟩

/-! ### The vocabulary (R167, R168) -/

/-- The hash word of a byte string. -/
def pieceHash (seed : Nat) (s : List Byte) : Nat :=
  let m := 2 ^ 32
  let h := Nat.xor seed (s.length * 0x2C1B3C6D % m)
  let h := s.foldl (fun h b => let x := (Nat.xor h b.toNat) * 0x297A2D39 % m; Nat.xor x (x >>> 15)) h
  let h := h * 0x5A3CE9C5 % m
  Nat.xor h (h >>> 13)

/-- PIECES entry `i`: offset, length, CONTROL. -/
def rpPiece (p : List Byte) (i : Nat) : Nat × Nat × Bool :=
  let e := fieldLe (rpSecBytes p 8) (4 * i) 4
  (bitsOf e 21 0, bitsOf e 26 22 + 1, bitOf e 27)

/-- The bytes of piece `i`. -/
def rpPieceBytes (p : List Byte) (i : Nat) : List Byte :=
  if i < 256 then [BitVec.ofNat 8 i] else let (o, n, _) := rpPiece p i; slice (rpSecBytes p 10) o n

/-- The score of piece `i`. -/
def rpScore (p : List Byte) (i : Nat) : Int := sgn 16 (fieldLe (rpSecBytes p 9) (2 * i) 2)

/-- Look a byte string up (R168). -/
def rpLookup (p : List Byte) (s : List Byte) : Option Nat :=
  let h := pieceHash (rpSeed p) s
  let bkt := h % 2 ^ rpLog2B p
  let tag := let t := h >>> 18; if t = 0 then 1 else t
  let b := rpSecBytes p 7
  ((List.range 4).map fun w => fieldLe b (16 * bkt + 4 * w) 4).findSome? fun v =>
    let id := v % 2 ^ 18
    let (o, n, ctl) := rpPiece p id
    if v ≠ 0 ∧ v >>> 18 = tag ∧ id ≥ 256 ∧ n = s.length ∧ ctl = false ∧ slice (rpSecBytes p 10) o n = s then some id else none

/-! ### Segmentation (R169) -/

/-- A boundary reached: its offset, the best sum, the tokens in reverse, the bytes of the code point after it and on. -/
structure SegPt where
  off   : Nat
  best  : Int
  toks  : List Nat
  rest  : List (List Byte)
  deriving DecidableEq, Repr

/-- The bytes of the first code points that make exactly `n` bytes. -/
def takeBytes : Nat → List (List Byte) → Option (List Byte)
  | 0, _ => some []
  | _ + 1, [] => none
  | n + 1, c :: t => if c.length ≤ n + 1 ∧ c ≠ [] then (takeBytes (n + 1 - c.length) t).map (c ++ ·) else none

/-- Does any ordinary edge start here. -/
def hasEdge (p : List Byte) (rest : List (List Byte)) : Bool :=
  (List.range (rpMaxLen p)).any fun k => match takeBytes (k + 1) rest with
    | some s => (rpLookup p s).isSome
    | none => false

/-- One candidate edge into a boundary: sum, length, ID for ties, tokens in reverse. -/
structure SegEdge where
  sum : Int
  len : Nat
  id  : Nat
  toks : List Nat
  deriving DecidableEq, Repr

/-- The better of two edges (R169: greater sum, then longer, then lower ID). -/
def segBetter (a b : SegEdge) : SegEdge :=
  if b.sum > a.sum then b else if b.sum < a.sum then a
  else if b.len > a.len then b else if b.len < a.len then a
  else if b.id < a.id then b else a

/-- The edges into offset `e` from the boundaries before it, nearest first. -/
def segEdges (p : List Byte) (e : Nat) (pts : List SegPt) : List SegEdge :=
  (pts.flatMap fun s =>
    if e - s.off ≤ rpMaxLen p then
      match takeBytes (e - s.off) s.rest with
      | some b => match rpLookup p b with
        | some id => [⟨s.best + rpScore p id, e - s.off, id, id :: s.toks⟩]
        | none => []
      | none => []
    else []) ++
  (match pts with
    | s :: _ => match s.rest with
      | c :: _ => if hasEdge p s.rest then [] else
          [⟨s.best + (c.map fun b => rpScore p b.toNat).sum, c.length, (c.headD 0).toNat, (c.map (·.toNat)).reverse ++ s.toks⟩]
      | [] => []
    | [] => [])

/-- Walk the boundaries in order. -/
def segWalk (p : List Byte) : List (List Byte) → Nat → List SegPt → List SegPt
  | [], _, pts => pts
  | c :: t, off, pts =>
    let e := off + c.length
    match segEdges p e pts with
    | [] => segWalk p t e pts
    | x :: xs => let b := xs.foldl segBetter x; segWalk p t e (⟨e, b.sum, b.toks, t⟩ :: pts)

/-- The tokens of a kept text (its code points' bytes). -/
def segment (p : List Byte) (cps : List (List Byte)) : List Nat :=
  match segWalk p cps 0 [⟨0, 0, [], cps⟩] with
  | s :: _ => s.toks.reverse
  | [] => []

/-- The token limit (R166). -/
def tokCut (pr : RProfile) (t : List Nat) : List Nat :=
  if t.length ≤ pr.tokLimit then t
  else if pr.headTail then
    let tl := pr.tokLimit * pr.tailShare / 256
    t.take (pr.tokLimit - tl) ++ t.drop (t.length - tl)
  else t.take pr.tokLimit

/-! ### Requests (R170) -/

/-- What Reedbed makes of a text request. -/
structure ReqText where
  text   : List Byte
  map    : List MapRec
  toks   : List Nat
  nAll   : Nat
  nRepl  : Nat
  truncB : Bool
  truncT : Bool
  rest   : Bool := false     -- whole words of the input lie behind the cut
  deriving DecidableEq, Repr

/-- A text request through a pack and profile. [log entry 43 DEDUCED] -/
def reedText (p : List Byte) (pr : RProfile) (payload : List Byte) : ReqText :=
  let src := utf8Decode payload.length 0 payload
  let norm := normalise p pr.passes src
  let (kept, ovr) := byteCut pr.byteLimit 0 norm
  let nRepl := match ovr with
    | none => (src.filter (·.bad)).length
    | some c => (src.filter fun x => x.bad && decide (x.src ≤ c.src)).length
  let cps := kept.map fun c => utf8Enc c.cp
  let toks := segment p cps
  ⟨cps.flatten, sourceMap payload kept, tokCut pr toks, toks.length, nRepl, ovr.isSome, decide (toks.length > pr.tokLimit),
   match ovr with | some c => decide ((c.stop - 1) / 64 < (payload.length - 1) / 64) | none => false⟩

/-- Bytes filled up to a whole word. -/
def fillWord (b : Byte) (l : List Byte) : List Byte := l ++ List.replicate ((64 - l.length % 64) % 64) b

/-- The product of a kind 0x1 reply: text section, map section, token section, trailer (R170). `prop` and `trunc` are of R171. -/
def reqProduct (r : ReqText) (prop : Nat) : List Byte :=
  (if r.text.length % 64 = 0 then r.text ++ List.replicate 64 0xFF else fillWord 0xFF r.text) ++
  fillWord 0 (r.map.flatMap mapRecBytes) ++
  fillWord 0 (r.toks.flatMap fun t => toLe 4 (t % 2 ^ 18)) ++
  padTo 64 (toLe 4 r.text.length ++ toLe 4 r.map.length ++ toLe 4 r.toks.length ++ toLe 4 r.nAll ++ toLe 4 r.nRepl ++
    [BitVec.ofNat 8 (prop + 16 * b2n (r.truncB || r.truncT) + 32 * b2n r.truncB + 64 * b2n r.truncT)])

/-! ### Answers (R172, R173) -/

/-- Decode a chunk's payload: its bytes, the token IDs read, the REED_BADIDCNT events. -/
def decodeChunk (p : List Byte) : Nat → List Byte → List Byte × Nat × Nat
  | 0, _ => ([], 0, 0)
  | f + 1, l =>
    if l.length = 0 then ([], 0, 0)
    else if l.length < 4 then ([], 0, 1)
    else
      let v := ofLe (l.take 4)
      let (b, n, bad) := decodeChunk p f (l.drop 4)
      if v ≥ rpNPiece p ∨ v ≥ 2 ^ 18 then ([0xEF, 0xBF, 0xBD] ++ b, n + 1, bad + 1)
      else if v ≥ 256 ∧ (rpPiece p v).2.2 then (b, n + 1, bad)
      else (rpPieceBytes p v ++ b, n + 1, bad)

/-- The stop strings of set `i` of a pack (0xF: none). -/
def rpStops (p : List Byte) (i : Nat) : List (List Byte) :=
  if i = 0xF then [] else
  let s := slice (rpSecBytes p 11) (4360 * i) 4360
  (List.range (fieldLe s 0 1)).map fun k => slice s (8 + 68 * k + 4) (fieldLe s (8 + 68 * k) 1)

/-- The stop strings that complete at end offset `e`, as (begin, index). -/
def stopsAt (stops : List (List Byte)) (w : List Byte) (e : Nat) : List (Nat × Nat) :=
  ((List.range stops.length).zip stops).filterMap fun (i, s) =>
    if s ≠ [] ∧ s.length ≤ e ∧ slice w (e - s.length) s.length = s then some (e - s.length, i) else none

/-- The first completion: begin offset and index of the string that begins earliest (R173 case 1). -/
def firstStop (stops : List (List Byte)) (w : List Byte) : Option (Nat × Nat) :=
  (List.range (w.length + 1)).findSome? fun e =>
    match stopsAt stops w e with
    | [] => none
    | x :: xs => some (xs.foldl (fun a b => if b.1 < a.1 then b else a) x)

/-- Is a byte string an incomplete UTF-8 sequence of 1 to 3 bytes. -/
def utf8Open : List Byte → Bool
  | [] => false
  | b :: t => match utf8Lead b.toNat with
    | some (lo, hi, len) => decide (t.length + 1 < len) && decide (utf8Cont lo hi (len - 1) t = t.length)
    | none => false

/-- How many bytes at the end of the working text are held back (R173 case 2). -/
def holdLen (stops : List (List Byte)) (w : List Byte) : Nat :=
  ((List.range 64).filter fun k => decide (0 < k ∧ k ≤ w.length) &&
    (let suf := w.drop (w.length - k)
     utf8Open suf || stops.any fun s => decide (k < s.length) && decide (s.take k = suf))).foldl max 0

/-- The carried state of an answer stream (R173). -/
structure ReedSt where
  held    : List Byte := []
  stopped : Bool := false
  deriving DecidableEq, Repr

/-- A chunk's outcome: text, new state, whether it cuts (with the offset), STOP and STOPIDX. -/
structure ChunkOut where
  text : List Byte
  st   : ReedSt
  cut  : Option Nat
  stop : Option Nat
  deriving DecidableEq, Repr

/-- Apply a chunk's decoded bytes to the carried state (R173). -/
def chunkStep (stops : List (List Byte)) (st : ReedSt) (dec : List Byte) : ChunkOut :=
  if st.stopped then ⟨[], st, some 0, none⟩
  else
    let w := st.held ++ dec
    match firstStop stops w with
    | some (b, i) => ⟨w.take b, ⟨[], true⟩, some b, some i⟩
    | none =>
      let h := holdLen stops w
      ⟨w.take (w.length - h), ⟨w.drop (w.length - h), false⟩, none, none⟩

end Sys2Proof.Machine
end

