-- ==== Sys2Proof/Machine/ShoalAlgo.lean ====
section
/-!
DEFINITION. Machine/ShoalAlgo.lean: the reference walk of a Shoal scanner (09 R190), spans (R191), proposal (R192), scores (R193)
and the reply product (R194), over a pack's bytes (R189).
-/
namespace Sys2Proof.Machine

/-- A length rounded up to a multiple of `k`. -/
def roundUp (k n : Nat) : Nat := (n + k - 1) / k * k

/-- NSTATE. -/
def spNState (p : List Byte) : Nat := fieldLe p 12 4
/-- NPAT. -/
def spNPat (p : List Byte) : Nat := fieldLe p 16 4
/-- NCLASS. -/
def spNClass (p : List Byte) : Nat := fieldLe p 20 2
/-- NPROFILE. -/
def spNProf (p : List Byte) : Nat := fieldLe p 22 1
/-- NACC. -/
def spNAcc (p : List Byte) : Nat := fieldLe p 24 4
/-- NACCLIST. -/
def spNAccList (p : List Byte) : Nat := fieldLe p 28 4

/-- Lengths of the six sections in order (Table 9-3). -/
def spLens (p : List Byte) : List Nat :=
  [256, spNProf p * 16, spNPat p * 8, spNAcc p * 8, spNAccList p * 2, spNState p * spNClass p * 4]

/-- Offset of section `i`, 0 CLASSMAP to 5 STATES. -/
def spOff (p : List Byte) (i : Nat) : Nat := ((spLens p).take i).foldl (fun o n => o + roundUp 64 n) 64

/-- A profile (Table 9-4). -/
structure SProfile where
  groups   : Nat
  matchMax : Nat
  noMatch  : Nat
  overAct  : Nat
  deriving DecidableEq, Repr

/-- Profile `i`. -/
def spProfile (p : List Byte) (i : Nat) : SProfile :=
  let o := spOff p 1 + 16 * i
  ⟨fieldLe p o 2, fieldLe p (o + 2) 2, fieldLe p (o + 4) 1, fieldLe p (o + 5) 1⟩

/-- Pattern `i` as its 64 bits. -/
def spPat (p : List Byte) (i : Nat) : Nat := fieldLe p (spOff p 2 + 8 * i) 8
/-- ACTION. -/
def spAction (p : List Byte) (i : Nat) : Nat := bitsOf (spPat p i) 3 0
/-- SPANLEN. -/
def spSpanLen (p : List Byte) (i : Nat) : Nat := bitsOf (spPat p i) 15 8
/-- WEIGHT. -/
def spWeight (p : List Byte) (i : Nat) : Nat := bitsOf (spPat p i) 31 16
/-- GROUP. -/
def spGroup (p : List Byte) (i : Nat) : Nat := bitsOf (spPat p i) 35 32

/-- The accept list of a state, in order. -/
def spAccept (p : List Byte) (st : Nat) : List Nat :=
  match findIdx (spNAcc p) (fun i => fieldLe p (spOff p 3 + 8 * i) 4 % 2 ^ 21 == st) with
  | none => []
  | some i =>
    let e := fieldLe p (spOff p 3 + 8 * i) 8
    (List.range (bitsOf e 63 48)).map fun k => fieldLe p (spOff p 4 + 2 * (bitsOf e 47 32 + k)) 2

/-- A counted match: pattern and end offset. -/
structure SMatch where
  pat : Nat
  fin : Nat
  deriving DecidableEq, Repr

/-- The walk of R190: the counted matches and the state after the last byte. -/
def shoalWalk (p : List Byte) (pr : SProfile) : List Byte → Nat → Nat → List SMatch × Nat
  | [], _, st => ([], st)
  | b :: t, i, st =>
    let e := fieldLe p (spOff p 5 + (st * spNClass p + fieldLe p (64 + b.toNat) 1) * 4) 4
    let nx := e % 2 ^ 21
    let ms := if bitOf e 21 then ((spAccept p nx).filter fun q => bitOf pr.groups (spGroup p q)).map fun q => SMatch.mk q (i + 1) else []
    let (r, st') := shoalWalk p pr t (i + 1) nx
    (ms ++ r, st')

/-- Severity of a proposal (R139): BLOCK, CUT, MASK, HOLD, PASS, then ABSTAIN. Codes are those of Table 7-4. -/
def propRank (c : Nat) : Nat :=
  if c = 1 then 5 else if c = 2 then 4 else if c = 3 then 3 else if c = 4 then 2 else if c = 0 then 1 else 0

/-- The more severe of two proposal codes. -/
def worse (a b : Nat) : Nat := if propRank b > propRank a then b else a

/-- Insert a span by offset, then length. -/
def spanIns (x : Nat × Nat) : List (Nat × Nat) → List (Nat × Nat)
  | [] => [x]
  | y :: t => if x.1 < y.1 ∨ (x.1 = y.1 ∧ x.2 ≤ y.2) then x :: y :: t else y :: spanIns x t

/-- Merge spans [start, end) that overlap or touch, given in ascending order after `cur`. -/
def spanMergeFrom (cur : Nat × Nat) : List (Nat × Nat) → List (Nat × Nat)
  | [] => [cur]
  | y :: t => if y.1 ≤ cur.2 then spanMergeFrom (cur.1, max cur.2 y.2) t else cur :: spanMergeFrom y t

/-- Merge spans that overlap or touch. -/
def spanMerge : List (Nat × Nat) → List (Nat × Nat)
  | [] => []
  | x :: t => spanMergeFrom x t

/-- The smallest gap between neighbours. -/
def minGap : List (Nat × Nat) → Option Nat
  | x :: y :: t => match minGap (y :: t) with
    | some g => some (min g (y.1 - x.2))
    | none => some (y.1 - x.2)
  | _ => none

/-- Merge the first two neighbours with that gap. -/
def closeGap (g : Nat) : List (Nat × Nat) → List (Nat × Nat)
  | x :: y :: t => if y.1 - x.2 = g then (x.1, y.2) :: t else x :: closeGap g (y :: t)
  | l => l

/-- While more than `n` spans remain, merge the two neighbours with the smallest gap, the lower offset first on ties. -/
def spanLimit (n : Nat) : Nat → List (Nat × Nat) → List (Nat × Nat)
  | 0, l => l
  | f + 1, l => if l.length ≤ n then l else match minGap l with
    | some g => spanLimit n f (closeGap g l)
    | none => l

/-- Spans as [start, end) sorted, merged and limited. -/
def spanSet (n : Nat) (l : List (Nat × Nat)) : List (Nat × Nat) :=
  let l := spanMerge ((l.filter fun x => decide (x.1 < x.2)).foldr spanIns [])
  spanLimit n l.length l

/-- The scores of R193. -/
def shoalScores (p : List Byte) (ms : List SMatch) : List (BitVec 16) :=
  let n := ms.length
  let key (w : Nat) : Nat := if bitOf w 15 then 0 else (w % 2 ^ 15) + 1   -- −0 below +0
  let mx := ms.foldl (fun a m => match a with
    | none => some (spWeight p m.pat)
    | some w => if key (spWeight p m.pat) > key w then some (spWeight p m.pat) else some w) (none : Option Nat)
  let sum := ms.foldl (fun s m => fAdd f32 s (fConv f16 f32 (spWeight p m.pat))) 0
  [BitVec.ofNat 16 (fOfInt f16 (min n 65504)), BitVec.ofNat 16 (mx.getD 0x7E00), BitVec.ofNat 16 (fConv f32 f16 sum), 0x7E00]

/-- What a scan makes of an item. -/
structure ScanOut where
  prop   : Nat
  cut    : Nat := 0
  spans  : List (Nat × Nat) := []     -- [start, end) in payload offsets
  scores : List (BitVec 16)
  nMatch : Nat
  recs   : List (Nat × Bool × Nat)    -- pattern, CROSS, mapped END
  nScan  : Nat
  ovr   : Bool
  st     : Nat
  acted  : Bool                       -- a counted match had ACTION 1 to 4
  deriving DecidableEq, Repr

/-- Scan bytes with a profile from a state; `mp` maps scanned spans to payload spans (R191 to R193). -/
def shoalScan (p : List Byte) (pr : SProfile) (mp : Nat → Nat → Nat × Nat) (st : Nat) (bytes : List Byte) : ScanOut :=
  let (ms, st') := shoalWalk p pr bytes 0 st
  let span (m : SMatch) := mp (m.fin - spSpanLen p m.pat) m.fin
  let acts := (ms.map fun m => spAction p m.pat).filter fun a => decide (a ≠ 0)
  let overA := if ms.length > pr.matchMax then (if pr.overAct = 1 then [4] else if pr.overAct = 2 then [1] else []) else []
  let prop : Nat := match acts ++ overA with
    | [] => if pr.noMatch = 0 then 0 else 0xF
    | a :: r => r.foldl worse a
  let cuts := (ms.filter fun m => decide (spAction p m.pat = 2)).map fun m => (span m).1
  let cut := if prop = 2 then cuts.foldl min (cuts.headD 0) else 0
  let spans := if prop = 3 then spanSet 64 ((ms.filter fun m => decide (spAction p m.pat = 3)).map span) else []
  let rep := ms.take pr.matchMax
  { prop := prop, cut := cut, spans := spans, scores := shoalScores p ms, nMatch := ms.length,
    recs := rep.map fun m => (m.pat, decide (m.fin < spSpanLen p m.pat), (mp (m.fin - 1) m.fin).2),
    nScan := bytes.length, ovr := decide (ms.length > pr.matchMax), st := st', acted := !acts.isEmpty }

/-- The product of a Shoal reply: header word and match records (R194). -/
def shoalProduct (o : ScanOut) (carriedIn flushed : Bool) : List Byte :=
  padTo 64 (toLe 4 (min o.nMatch 0xFFFFFFFF) ++ toLe 4 o.recs.length ++ toLe 4 o.nScan ++
    [BitVec.ofNat 8 (b2n o.ovr + 2 * b2n carriedIn + 4 * b2n flushed), 0, 0, 0] ++ toLe 4 o.st) ++
  fillWord 0 (o.recs.flatMap fun (q, x, e) => toLe 2 q ++ [BitVec.ofNat 8 (b2n x), 0] ++ toLe 4 e)

end Sys2Proof.Machine
end

