-- ==== Sys2Proof/Machine/TarnAlgo.lean ====
section
/-!
DEFINITION. Machine/TarnAlgo.lean: the reference arithmetic of the Sieve and of Tarn (10): rows (R204, R205), operations (R207), walks
(R209, R210), sums (R212), links (R213), proposal and scores (R214), over a pack's bytes (R217).
-/
namespace Sys2Proof.Machine

/-- NCLASS. -/
def tpNClass (p : List Byte) : Nat := fieldLe p 6 1
/-- LINK. -/
def tpLink (p : List Byte) : Nat := fieldLe p 7 1
/-- NNODE. -/
def tpNNode (p : List Byte) : Nat := fieldLe p 12 4
/-- NTREE. -/
def tpNTree (p : List Byte) : Nat := fieldLe p 16 4
/-- NSLOT. -/
def tpNSlot (p : List Byte) : Nat := fieldLe p 20 2
/-- NPROFILE. -/
def tpNProf (p : List Byte) : Nat := fieldLe p 22 1
/-- NCAL. -/
def tpNCal (p : List Byte) : Nat := fieldLe p 23 1
/-- NOP. -/
def tpNOp (p : List Byte) : Nat := fieldLe p 24 4
/-- NEDGE. -/
def tpNEdge (p : List Byte) : Nat := fieldLe p 28 4
/-- NCATREC. -/
def tpNCatRec (p : List Byte) : Nat := fieldLe p 32 4

/-- Lengths of the eight sections (Table 10-5). -/
def tpLens (p : List Byte) : List Nat :=
  [tpNProf p * 64, tpNOp p * 32, tpNEdge p * 4, tpNClass p * 4, tpNCal p * 8, tpNTree p * 4, tpNCatRec p * 16, tpNNode p * 16]

/-- Offset of section `i`, 0 PROFILES to 7 NODES. -/
def tpOff (p : List Byte) (i : Nat) : Nat := ((tpLens p).take i).foldl (fun o n => o + roundUp 16 n) 64

/-- A profile (Table 10-6). -/
structure TProfile where
  nFeat   : Nat
  inFmt   : Nat
  miss8   : Nat
  opFirst : Nat
  opCount : Nat
  dClass  : Nat
  nanAct  : Nat
  badRow  : Nat
  holdAt  : Nat
  blockAt : Nat
  deriving DecidableEq, Repr

/-- Profile `i`. -/
def tpProfile (p : List Byte) (i : Nat) : TProfile :=
  let o := tpOff p 0 + 64 * i
  ⟨fieldLe p o 2, fieldLe p (o + 2) 1, fieldLe p (o + 3) 1, fieldLe p (o + 4) 4, fieldLe p (o + 8) 2, fieldLe p (o + 10) 1,
   bitsOf (fieldLe p (o + 11) 1) 1 0, bitsOf (fieldLe p (o + 11) 1) 3 2, fieldLe p (o + 12) 4, fieldLe p (o + 16) 4⟩

/-- A Sieve operation (Table 10-7). -/
structure TOp where
  op : Nat
  srcSlot : Bool
  missMark : Bool
  src : Nat
  dst : Nat
  arg : Nat
  a : Nat
  b : Nat
  lo : Nat
  hi : Nat
  miss : Nat
  edge0 : Nat
  deriving DecidableEq, Repr

/-- Operation `i` of OPS. -/
def tpOp (p : List Byte) (i : Nat) : TOp :=
  let o := tpOff p 1 + 32 * i
  ⟨fieldLe p o 1, bitOf (fieldLe p (o + 1) 1) 0, bitOf (fieldLe p (o + 1) 1) 1, fieldLe p (o + 2) 2, fieldLe p (o + 4) 2,
   fieldLe p (o + 6) 2, fieldLe p (o + 8) 4, fieldLe p (o + 12) 4, fieldLe p (o + 16) 4, fieldLe p (o + 20) 4,
   fieldLe p (o + 24) 4, fieldLe p (o + 28) 4⟩

/-- A working slot (R205): F holds binary32 bits, B a bin or category. -/
inductive WSlot where
  | f (bits : Nat)
  | b (v : Nat)
  deriving DecidableEq, Repr

/-- Does the slot hold missing (NaN or 0xFFFF). -/
def WSlot.miss : WSlot → Bool
  | .f v => fIsNaN f32 v
  | .b v => v == 0xFFFF

/-- The length a row must have (R204). -/
def rowLen (pr : TProfile) : Nat := if pr.inFmt = 0 then 4 * pr.nFeat else if pr.inFmt = 1 then pr.nFeat else 2 * pr.nFeat

/-- The working vector before any operation (R205). -/
def rowInit (p : List Byte) (pr : TProfile) (row : List Byte) : List WSlot :=
  let pre := if pr.inFmt = 0 then [] else (List.range pr.nFeat).map fun i =>
    if pr.inFmt = 1 then let v := fieldLe row i 1; WSlot.b (if v = pr.miss8 then 0xFFFF else v)
    else WSlot.b (fieldLe row (2 * i) 2)
  pre ++ List.replicate (tpNSlot p - pre.length) (WSlot.f 0)

/-- read(op) of R207: a binary32 pattern. -/
def opRead (row : List Byte) (w : List WSlot) (o : TOp) : Nat :=
  let x := if o.srcSlot then (match listGet (.f 0) w o.src with | .f v => v | .b v => v) else fieldLe row (4 * o.src) 4
  if o.missMark ∧ x = o.miss then fNaN f32 else x

/-- scale of R207. -/
def opScale (x : Nat) (o : TOp) : Nat :=
  let t := fAdd f32 (fMul f32 o.a x) o.b
  let t := if fLt f32 t o.lo then o.lo else t
  if fLt f32 o.hi t then o.hi else t

/-- The value of a B source, with its missing marker. -/
def opB (w : List WSlot) (o : TOp) (i : Nat) : Nat :=
  let v := match listGet (.b 0) w i with | .b v => v | .f v => v
  if o.missMark ∧ v = o.miss then 0xFFFF else v

/-- One Sieve operation (R206, R207). [log entry 39 DEDUCED] -/
def opRun (p : List Byte) (row : List Byte) (o : TOp) (w : List WSlot) : List WSlot :=
  if o.op = 1 then listSet w o.dst (.f (opScale (opRead row w o) o))
  else if o.op = 2 then
    let t := opScale (opRead row w o) o
    listSet w o.dst (.b (if fIsNaN f32 t then 0xFFFF else
      ((List.range o.arg).filter fun i => fLe f32 (fieldLe p (tpOff p 2 + 4 * (o.edge0 + i)) 4) t).length))
  else if o.op = 3 then
    let x := opRead row w o
    let i := vTrunc (fDec f32 x)
    listSet w o.dst (.b (if fIsNaN f32 x then 0xFFFF
      else if fFinite f32 x ∧ fEq f32 (fOfInt f32 i) x ∧ 0 ≤ i ∧ i ≤ 65533 then i.toNat else 0xFFFE))
  else if o.op = 4 then
    let v := opB w o o.src
    forN o.arg (fun i w => listSet w (o.dst + i) (.f (if v = 0xFFFF then fNaN f32 else if v = i then 0x3F800000 else 0))) w
  else if o.op = 5 then
    let b1 := opB w o o.src
    let b2 := match listGet (.b 0) w o.arg with | .b v => v | .f v => v
    listSet w o.dst (.b (if b1 ≥ 0xFFFE ∨ b2 ≥ 0xFFFE then 0xFFFF else (b1 * o.a + b2) % o.b))
  else w

/-- The finished working vector of a row. -/
def sieve (p : List Byte) (pr : TProfile) (row : List Byte) : List WSlot :=
  (List.range pr.opCount).foldl (fun w i => opRun p row (tpOp p (pr.opFirst + i)) w) (rowInit p pr row)

/-- Byte `k` of node `n`. -/
def tpNode (p : List Byte) (n off len : Nat) : Nat := fieldLe p (tpOff p 7 + 16 * n + off) len

/-- What a walk of a tree gives: leaf value, whether a default was taken, records read. -/
structure WalkOut where
  value : Nat
  dflt  : Bool
  recs  : Nat
  deriving DecidableEq, Repr

/-- Is category `v` set in the set that starts at record `set` (R209). -/
def catBit (p : List Byte) (set v : Nat) : Bool :=
  bitOf (fieldLe p (tpOff p 6 + 16 * (set + v / 128) + v % 128 / 8) 1) (v % 8)

/-- Which child a split takes: right?, by default? (R210). [log entry 39 DEDUCED] -/
def nodeGo (p : List Byte) (n : Nat) (w : List WSlot) : Bool × Bool :=
  let d := tpNode p n 0 4
  let dr := bitOf d 14
  let le := bitOf d 16
  let t := tpNode p n 4 4
  match listGet (.b 0xFFFF) w (bitsOf d 12 0), bitOf d 15 with
  | .b v, true => if v ≥ bitsOf t 30 20 then (dr, true) else (!catBit p (bitsOf t 19 0) v, false)
  | .f v, true => if v ≥ bitsOf t 30 20 then (dr, true) else (!catBit p (bitsOf t 19 0) v, false)
  | .f v, false => if fIsNaN f32 v then (dr, true) else (!(fLt f32 v t || (le && fEq f32 v t)), false)
  | .b v, false => if v ≥ 0xFFFE then (dr, true) else (!(decide (v < t) || (le && v == t)), false)

/-- The walk of one tree from a node; every path ends within 24 splits (R219 depth). -/
def treeWalk (p : List Byte) (w : List WSlot) : Nat → Nat → Bool → Nat → WalkOut
  | 0, n, df, rs => ⟨tpNode p n 4 4, df, rs⟩
  | f + 1, n, df, rs =>
    let d := tpNode p n 0 4
    if bitOf d 13 then ⟨tpNode p n 4 4, df, rs + 1⟩
    else
      let (r, dd) := nodeGo p n w
      treeWalk p w f ((if r then tpNode p n 12 4 else tpNode p n 8 4) % 2 ^ 20) (df || dd) (rs + if bitOf d 15 then 2 else 1)

/-- The walk of tree `t`. -/
def walkTree (p : List Byte) (w : List WSlot) (t : Nat) : WalkOut :=
  treeWalk p w 25 (fieldLe p (tpOff p 5 + 4 * t) 4 % 2 ^ 20) false 0

/-- CLASS of tree `t`. -/
def treeClass (p : List Byte) (t : Nat) : Nat := bitsOf (fieldLe p (tpOff p 5 + 4 * t) 4) 23 20

/-- The starting sums (R212). -/
def baseSums (p : List Byte) : List Nat := (List.range (tpNClass p)).map fun c => fieldLe p (tpOff p 3 + 4 * c) 4

/-- Add the leaf of tree `t` to its class (R212). -/
def addLeaf (p : List Byte) (t leaf : Nat) (s : List Nat) : List Nat :=
  listMod s (treeClass p t) fun v => fAdd f32 v leaf

/-- Calibration over the pack's points (R213). -/
def calib (p : List Byte) (s : Nat) : Nat :=
  let pt (i : Nat) : Nat × Nat := (fieldLe p (tpOff p 4 + 8 * i) 4, fieldLe p (tpOff p 4 + 8 * i + 4) 4)
  let n := tpNCal p
  if fIsNaN f32 s then fNaN f32
  else if fLe f32 s (pt 0).1 then (pt 0).2
  else if fLe f32 (pt (n - 1)).1 s then (pt (n - 1)).2
  else match findIdx (n - 1) (fun i => fLe f32 (pt i).1 s && fLt f32 s (pt (i + 1)).1) with
    | none => fNaN f32
    | some i =>
      let up (v : Nat) := fConv f32 f64 v
      let (x0, y0) := pt i
      let (x1, y1) := pt (i + 1)
      fConv f64 f32 (fAdd f64 (up y0)
        (fDiv f64 (fMul f64 (fSub f64 (up s) (up x0)) (fSub f64 (up y1) (up y0))) (fSub f64 (up x1) (up x0))))

/-- The link function (R213): outputs from sums, all binary32. -/
def linkOut (p : List Byte) (s : List Nat) : List Nat :=
  let up (v : Nat) := fConv f32 f64 v
  let one := fOfInt f64 1
  match tpLink p with
  | 0 => s
  | 1 => s.map fun v => fConv f64 f32 (fDiv f64 one (fAdd f64 one (e64 (Nat.xor (up v) (2 ^ 63)))))
  | 2 =>
    if s.any (fun v => !fFinite f32 v) then s.map fun _ => fNaN f32
    else
      let m := s.foldl (fun a v => if fLt f32 a v then v else a) (s.headD 0)
      let z := s.map fun v => e64 (fSub f64 (up v) (up m))
      let t := z.foldl (fAdd f64) 0
      z.map fun v => fConv f64 f32 (fDiv f64 v t)
  | 3 => s.map fun v => fConv f64 f32 (e64 (up v))
  | _ => s.map (calib p)

/-- The proposal of R214 from y[DCLASS]: code, and whether it was NaN. -/
def tarnProp (pr : TProfile) (y : Nat) : Nat × Bool :=
  if fIsNaN f32 y then (if pr.nanAct = 1 then 4 else 1, true)
  else if fLe f32 pr.blockAt y then (1, false)
  else if fLe f32 pr.holdAt y then (4, false)
  else (0, false)

/-- The scores of R214. -/
def tarnScores (y s : List Nat) (nDef : Nat) : List (BitVec 16) :=
  let h (v : Nat) : BitVec 16 := BitVec.ofNat 16 (fConv f32 f16 v)
  if y.length = 1 then [h (y.headD 0), h (s.headD 0), BitVec.ofNat 16 (fOfInt f16 (min nDef 65504)), 0x7E00]
  else (List.range 4).map fun j => if j < y.length then h (y.getD j 0) else 0x7E00

/-- The three product words of a Tarn reply (R215). -/
def tarnProduct (nTree v nDef nMiss nClass : Nat) (badRow badTab : Bool) (y s : List Nat) : List Byte :=
  let vals (l : List Nat) : List Byte :=
    if badRow || badTab then (List.range 16).flatMap fun _ => toLe 4 0x7FC00000
    else (List.range 16).flatMap fun i => toLe 4 (l.getD i 0)
  padTo 64 (toLe 4 nTree ++ toLe 4 v ++ toLe 2 (min nDef 0xFFFF) ++ toLe 2 (min nMiss 0xFFFF) ++
    [BitVec.ofNat 8 nClass, BitVec.ofNat 8 (b2n badRow + 2 * b2n badTab)]) ++ vals y ++ vals s

end Sys2Proof.Machine
end

