-- ==== Sys2Proof/Machine/TypesCore.lean ====
section
/-!
DEFINITION. Machine/TypesCore.lean: plain data of the clock and Gauge (02), the Unit Directory (03), the notice registers
and event counters every window holds (02 R31 to R33), and the Bipol sessions (04).
-/
namespace Sys2Proof.Machine

/-! ### Variant and fuses (00 R3 to R5, 02 R34) -/

/-- The three variants of Table 0-1. -/
inductive Variant where
  | hg8 | hg4 | hg2w
  deriving DecidableEq, Repr

/-! ### Clock (02) -/

/-- The five clock steps of Table 2-1. -/
inductive ClkStep where
  | full | step1 | step2 | step3 | ice
  deriving DecidableEq, Repr

/-- GLB_STEP code (Table 2-1). -/
def ClkStep.code : ClkStep → Nat
  | .full => 0 | .step1 => 1 | .step2 => 2 | .step3 => 3 | .ice => 4

/-- Gauge units per tick (Table 2-1). -/
def ClkStep.gu : ClkStep → Nat
  | .full => 6 | .step1 => 8 | .step2 => 12 | .step3 => 24 | .ice => 375

/-- Audio divider (Table 2-1). -/
def ClkStep.audioDiv : ClkStep → Nat
  | .full => 500 | .step1 => 375 | .step2 => 250 | .step3 => 125 | .ice => 8

/-- The step of a code 0 to 4. -/
def stepOfCode : Nat → ClkStep
  | 0 => .full | 1 => .step1 | 2 => .step2 | 3 => .step3 | _ => .ice

/-! ### Notices and counters (02 R31 to R33) -/

/-- One notice register of a window: status bits (HS/W1C), enables, and what this tick has done to them: `sets` the bits
hardware set in this tick (R31: a clear of such a bit is lost), `msgd` the bits that have raised their message in this tick
(R33: one message in each tick). -/
structure Note where
  bits : BitVec 8 := 0
  en   : BitVec 8 := 0
  sets : BitVec 8 := 0
  msgd : BitVec 8 := 0
  deriving DecidableEq, Repr

/-- An RC event counter: `old` the count before this tick, `fresh` the events of this tick (R32: a read-clear in the tick of
an event returns the value without it and leaves the event counted). -/
structure Ctr where
  old   : Nat := 0
  fresh : Nat := 0
  deriving DecidableEq, Repr

/-! ### Unit Directory (03) -/

/-- The eight states of Table 3-2. -/
inductive UState where
  | absent | off | ice | waking | ready | draining | faulted | updating
  deriving DecidableEq, Repr

/-- STATE code (Table 3-2). -/
def UState.code : UState → Nat
  | .absent => 0 | .off => 1 | .ice => 2 | .waking => 3 | .ready => 4 | .draining => 5 | .faulted => 6 | .updating => 7

/-- Actions: four of UDIR_REQ (R55) and the Thermocline's three (R44). -/
inductive UAct where
  | on | off | reset | update | ice | exit | abandon
  deriving DecidableEq, Repr

/-- PEND_ACTION code (R55). -/
def UAct.code : UAct → Nat
  | .on => 1 | .off => 2 | .reset => 3 | .update => 4 | .ice => 5 | .exit => 6 | .abandon => 7

/-- CAUSE codes (R55). -/
inductive Cause where
  | none | req | shore | thermo | fault | bound | boot
  deriving DecidableEq, Repr

/-- CAUSE code (R55). -/
def Cause.code : Cause → Nat
  | .none => 0 | .req => 1 | .shore => 2 | .thermo => 3 | .fault => 4 | .bound => 5 | .boot => 6

/-- RESULT codes of UDIR_RESP (R55). -/
inductive UResult where
  | none | accepted | busy | absent | stale | denied | range | done | failed
  deriving DecidableEq, Repr

/-- RESULT code (R55). -/
def UResult.code : UResult → Nat
  | .none => 0 | .accepted => 1 | .busy => 2 | .absent => 3 | .stale => 4 | .denied => 5 | .range => 6 | .done => 7 | .failed => 8

/-- Who asked (R44): the host through UDIR_REQ with its TAG; the Shore agent for a Bipol command (session, tag, waiting or not)
or for a load mechanism, or on its own (16 R345); the boot
sequence (R41); the Thermocline. -/
inductive UPath where
  | udir (tag : Nat)
  | bipol (sid : Nat) (tag : String) (wait : Bool)
  | load
  | agent
  | boot
  | thermo
  deriving DecidableEq, Repr

/-- One request to the Directory (R44): unit number, action code as given (R44 refuses unlisted ones with range), generation. -/
structure UReq where
  path : UPath
  unit : Nat
  act  : Nat
  gen  : Nat
  enc  : Option Bool := none   -- LCFG ENC, which `up link` writes with it (16 R369)
  deriving DecidableEq, Repr

/-- One entry of the Directory (R55) and what the agent sequences for it: the accepted action awaiting acknowledgement and its
bound (R46), the recorded target of a drain (R40), the requester to whom done or failed goes (R47), and the drain and wake
instants (R46, R48). -/
structure UEntry where
  state  : UState := .absent
  gen    : BitVec 16 := 0
  cause  : Cause := .none
  pend   : Option UAct := none
  ackBy  : Nat := 0              -- number of the tick by which the unit has acknowledged (R46)
  leaving : Option Cause := none -- its drain or load has ended, and it has not acknowledged what follows (R46): CAUSE of that move
  target : Option UAct := none
  who    : Option UPath := none
  drainEnd : Nat := 0
  wakeEnd  : Nat := 0
  deriving DecidableEq, Repr

/-- The Unit Directory window's own state (R55). -/
structure Udir where
  ent     : Tab UEntry := []
  resp    : W32 := 0
  chgmap  : Tab Bool := []
  chgset  : Tab Bool := []      -- bits set in this tick (R31)
  drain   : Tab Nat := []       -- written bounds; an unlisted number holds Table 3-1's
  wake    : Tab Nat := []
  taken   : Bool := false       -- a request has been accepted in this tick (R44)
  waiting : List UReq := []     -- requests that wait for the next tick (R44), in order
  shore   : Bool := false       -- a Shore agent's request stands behind the present command in its tick (R44)
  deriving DecidableEq, Repr

/-! ### Bipol (04) -/

/-- Log levels (R85). -/
inductive LogLevel where
  | info | warn | fault
  deriving DecidableEq, Repr

/-- A log entry (R85). -/
structure LogEntry where
  gauge : Nat
  unit  : Nat
  level : LogLevel
  text  : String
  deriving DecidableEq, Repr

/-- The session and tag a Bipol command came with (R59, R61): 0 the UART, 1 the mailbox, 2 to 17 inbound; an empty tag is none. -/
structure BRef where
  sid : Nat
  tag : String
  deriving DecidableEq, Repr

/-- What an outstanding command waits for: nothing more than its output, a unit's done or failed, a commit (R159), a slot load
(R179, R199, R220, R272, R335), a Siphon job, a remote node (R81), or an operation of its own number. -/
inductive WaitObj where
  | output
  | unit (n : Nat)
  | commit (route : Nat)
  | slot (unit slot : Nat)
  | siphon (job : Nat)
  | remote (node : Nat)
  | other (n : Nat)
  deriving DecidableEq, Repr

/-- An outstanding command of a session (R70). -/
structure Outst where
  tag : String
  obj : WaitObj
  line : Nat := 0        -- inbound: the origin's line counter of the command (R82)
  deriving DecidableEq, Repr

/-- One piece of output: its text with its terminator, the tag whose command ends when it has been sent (R70), and for an inbound
session the message type (R82) and the line counter echoed. -/
structure OutLine where
  text : String
  ends : Option String := none
  event : Bool := false
  line : Nat := 0
  baud : Option Nat := none   -- the UART rate in force once this line has left (R76)
  deriving DecidableEq, Repr

/-- A response that a session owes in the order of its lines (R74): to a command of this tag, its lines once it has them. -/
structure Owed where
  tag   : String
  lines : Option (List OutLine)
  deriving DecidableEq, Repr

/-- A Bipol session (R59 to R70). -/
structure Session where
  live    : Bool := false
  machine : Bool := false
  crc     : Bool := false
  lines   : Nat := 0                 -- line counter, 16 bits (R69)
  part    : List Byte := []          -- the partial line
  bad     : Bool := false            -- the line fails with syntax (R60, R77)
  skip    : Nat := 0                 -- bytes Escape still discards (Table 4-4)
  cr      : Bool := false            -- the last byte was CR: an LF now belongs to it (R60)
  ahead   : List (Option Byte) := [] -- bytes typed while a command runs (R66); none: a framing error
  outst   : List Outst := []
  follow  : Option LogLevel := none  -- log follow (R85)
  events  : List String := []        -- buffered event lines, at most 256
  lost    : Nat := 0
  order   : List Owed := []          -- responses that come after one still owed (R74)
  outq    : List OutLine := []       -- lines not yet in the output buffer or response ring (R77, R79)
  node    : Nat := 0                 -- inbound: origin node (R83)
  origin  : Nat := 0                 -- inbound: origin session
  oline   : Nat := 0                 -- inbound: origin line counter (R82 LINE)
  lastEnd : Nat := 0                 -- inbound: Gauge of the last end line
  keepAt  : Nat := 0                 -- inbound: Gauge of the last keep-alive or response (R81)
  deriving DecidableEq, Repr

/-- A command forwarded to another node (R81). -/
structure RemoteCmd where
  sid   : Nat
  tag   : String
  node  : Nat
  line  : Nat
  heard : Nat
  got   : List String := []   -- the response lines that have come
  deriving DecidableEq, Repr

/-- A Bipol message (R82, Table 4-6a). -/
structure BipolMsg where
  dest : Nat
  src  : Nat
  type : Nat
  hops : Nat
  session : Nat
  line : Nat
  text : List Byte
  raw  : Option (List Byte) := none   -- a message that this node forwards, byte for byte but for HOPS
  deriving DecidableEq, Repr

/-- The Bipol transports and sessions: 0 the UART session, 1 the mailbox session, 2 to 17 the inbound sessions (R59). -/
structure Bipol where
  sess    : Tab Session := []
  cmdRing : Mem := []
  rspRing : Mem := []
  chead   : Nat := 0     -- 13 bits: WRAP and offset (R80)
  ctail   : Nat := 0
  rhead   : Nat := 0     -- 17 bits
  rtail   : Nat := 0
  baud    : Nat := 115200
  newBaud : List (Nat × Nat) := []  -- rates to come: output bytes still to leave first, and the rate (R76)
  uartOut : List Byte := []      -- the 64 KiB output buffer (R77)
  inBreak : Bool := false        -- the receive line is in a break (R78)
  log     : List LogEntry := []
  uartNext : Bool := false       -- a UART line stands behind the present command in its tick (R75)
  lineNext : Bool := false       -- a line of any transport does
  remote  : List RemoteCmd := []
  mgmt    : List BipolMsg := []  -- messages waiting for the Jetty management class (R81)
  deriving DecidableEq, Repr

end Sys2Proof.Machine
end

