-- ==== Sys2Proof/Machine/TypesItem.lean ====
section
/-!
DEFINITION. Machine/TypesItem.lean: plain data of the host attachment (05), the Sluices (06), routes, items and the Weir (07)
and the Ledger (18).
-/
namespace Sys2Proof.Machine

/-! ### What leaves the block -/

/-- One thing the block does to the world outside. -/
inductive Out where
  /-- An MSI-X message on a vector (R104). -/
  | msix (vector : Nat)
  /-- A posted write of the Outlet to host memory (R100); `relaxed`: it may carry Relaxed Ordering. -/
  | hostWrite (addr : Nat) (data : List Byte) (relaxed : Bool)
  /-- The registers a BAR0 read returned (R29), lowest address first. -/
  | regs (vals : List W32)
  /-- Bytes a BAR2 or BAR4 read returned, poisoned or not (R91). -/
  | mem (data : List Byte) (poisoned : Bool)
  /-- Bytes sent on the management UART. -/
  | uart (data : List Byte)
  /-- AER: a Corrected Internal Error, or an Uncorrectable Internal Error (R107). -/
  | aerCorrected
  | aerUncorrectable
  /-- AER report of a failed host read, as the standard requires (R107). -/
  | aerRead
  /-- An error message on the link: 0 correctable, 1 non-fatal, 2 fatal (R107). -/
  | errMsg (sev : Nat)
  /-- The doubleword a configuration read returned (R88). -/
  | cfg (v : Nat)
  /-- A DOE response object (R106): the SPDM code and its body. -/
  | doe (code : Nat) (data : List Byte)
  /-- What a Sluice read returned: data, sideband FIRST LAST STILL ABORT, valid bytes (R112, R116). -/
  | sluice (data : List Byte) (first last still abort : Bool) (valid : Nat)
  /-- A frame put on a Jetty link. -/
  | frame (link : Nat) (data : List Byte)
  /-- A word written to the regulator: VOUT_COMMAND in millivolts (R466). -/
  | vout (millivolts : Nat)
  /-- A pin driven to a level. -/
  | pin (name : String) (level : Bool)
  /-- The boundary-scan or identification register shifted out (R469). -/
  | tdo (bits : Nat)
  /-- A flash command on the xSPI port (R419): kind (1 program, 2 erase), address. -/
  | flash (kind addr : Nat)
  deriving DecidableEq, Repr

/-! ### Host attachment (05) -/

/-- A submission ring (R92 to R97, R109). A pointer is as its register shows it: INDEX in bits 15 to 0, WRAP in bit 16. -/
structure SubRing where
  baseLo : W32 := 0
  baseHi : W32 := 0
  enable : Bool := false
  log2   : Nat := 0
  cq     : Nat := 0
  vector : Nat := 0
  head   : Nat := 0
  tail   : Nat := 0
  next   : Nat := 0                -- next descriptor the Inlet takes
  stopped : Bool := false          -- STATE 2: a descriptor read failed twice (R97)
  flight : List (Nat × Bool × Nat) := []  -- descriptors taken and not passed: index, NOTIFY, LIDX (Ledger index + 1, 0: refused)
  deriving DecidableEq, Repr

/-- One completion entry waiting for room in its ring or for mastering (R102): the Ledger record it delivers, and BACKLOG. -/
structure HeldEntry where
  lidx    : Nat
  backlog : Bool
  deriving DecidableEq, Repr

/-- A completion ring (R92, R101, R105, R109). -/
structure CplRing where
  baseLo : W32 := 0
  baseHi : W32 := 0
  enable : Bool := false
  log2   : Nat := 0
  vector : Nat := 0
  head   : Nat := 0
  tail   : Nat := 0
  count  : Nat := 1
  time   : Nat := 0
  since  : Nat := 0            -- entries written since the last message
  firstAt : Nat := 0           -- Gauge of the first of them
  held   : List HeldEntry := []
  era    : Nat := 0            -- how often it has been enabled or reset (R102: re-enabled since admission)
  deriving DecidableEq, Repr

/-- A host read waiting for its one retry (R97). -/
structure Retry where
  ring : Nat
  lidx : Nat        -- Ledger index + 1 of the item whose payload it is; 0: a descriptor
  due  : Nat
  deriving DecidableEq, Repr

/-- A host access that has been received and waits for one before it to take effect (02 R30, R90). -/
inductive HostAcc where
  | read (a n : Nat)
  | write (a n be v : Nat)
  | mem (bar a n : Nat) (data : Option (List Byte)) (pois : Bool) (err : Nat)
  deriving DecidableEq, Repr

/-- Configuration space of the host function beyond what acts elsewhere (R87, R88, R107). -/
structure Pcie where
  cmd     : Nat := 0           -- Command, but for Bus Master Enable
  sts     : Nat := 0           -- error bits of Status
  bar0Base : Nat := 0          -- BAR0 and BAR2 base addresses (R89)
  bar2Base : Nat := 0
  devCtl  : Nat := 0x2810      -- Device Control: error reporting, max payload and read request size, Relaxed Ordering, No Snoop
  devSts  : Nat := 0           -- Device Status: errors detected
  lnkCtl  : Nat := 0           -- Link Control: ASPM L1
  rate    : Nat := 6           -- Link Status: current speed, 1 to 6 (2.5 to 64 GT/s)
  width   : Nat := 16          -- negotiated width
  devCtl2 : Nat := 0           -- Device Control 2: completion timeout, 10-bit tags
  lnkCtl2 : Nat := 6           -- Link Control 2: target speed
  aerUnc  : Nat := 0           -- AER: uncorrectable status, mask, severity; correctable status, mask; first error; header log
  aerUncMask : Nat := 0x400000
  aerUncSev : Nat := 0x62030
  aerCor  : Nat := 0
  aerCorMask : Nat := 0x6000
  aerFirst : Nat := 0
  hdrLog  : List W32 := []
  deriving DecidableEq, Repr

/-- The host function (05). -/
structure HostLink where
  linkUp  : Bool := true
  fnReset : Bool := false      -- a function reset is under way: configuration requests get Request Retry Status (R108)
  perst   : Bool := false      -- PERST_n is asserted
  bme     : Bool := false      -- Bus Master Enable
  d3      : Bool := false      -- the function is in D3hot
  bar4    : Nat := 34          -- log2 of the BAR4 size (R88: default 16 GiB)
  bar4Base : Nat := 0          -- BAR4 base address
  msixEn  : Bool := false      -- MSI-X Enable of the standard's Message Control
  fnMask  : Bool := false      -- MSI-X function mask
  vecTab  : Tab W32 := []      -- the MSI-X table, 8,192 registers
  pba     : Tab Bool := []     -- pending bits
  sub     : Tab SubRing := []
  cpl     : Tab CplRing := []
  rrRing  : Nat := 0           -- the ring whose turn it is (R95)
  rrTaken : Nat := 0           -- descriptors taken in this turn, up to 16
  admitted : Bool := false     -- an item has been admitted in this tick (R95)
  retries : List Retry := []
  fetchRing : Option Nat := none   -- a backlog fetch is running into this ring (R103)
  lastFetch : Nat := 0
  fnEra   : Nat := 0           -- how many function resets there have been
  doeOpen : Option (List Byte) := none  -- SPDM exchange in progress (R106)
  cfg     : Pcie := {}
  resetBy : Nat := 0           -- Gauge by which a function-level reset completes (R108)
  stopTlp : Option Nat := none -- a reset stops the payload write of a release after this many TLPs (R108)
  acc     : List HostAcc := []     -- accesses that wait behind a commit which reaches the Weir in a later tick (R30, R90)
  deriving DecidableEq, Repr

/-! ### Sluices (06) -/

/-- One word with its sideband (R112). `fresh`: written in this tick, so not yet committed (R115). `bad`: its packet has turned bad in
this tick, and is rewound at the tick's end (R118). -/
structure SWord where
  data  : List Byte
  first : Bool
  last  : Bool
  valid : Nat
  fresh : Bool
  bad   : Bool := false
  prog  : Nat := 0             -- a core's program wrote it: its program slot plus one (14 R301)
  jm    : Nat := 0             -- first word: in a Sluice of a Jetty link, where its packet goes (16 R347); in a reply Sluice, the stage of the
                               -- request that an absent reply or abort marker answers, plus one
  abort : Bool := false        -- an abort marker (R112)
  on    : Nat := 0             -- Gauge of the tick in which it was written
  deriving DecidableEq, Repr

/-- A whole packet of an engine Sluice (R114): the common header's fields and the bytes from byte 12 of word 0 on. -/
structure Pkt where
  stream  : Nat := 0
  kind    : Nat := 0
  absent  : Bool := false
  aborted : Bool := false
  gen     : Nat := 0
  lidx    : Nat := 0xFFFFFFFF
  stage   : Nat := 0           -- an absent reply or abort marker: the stage of the request it answers, plus one
  body    : List Byte := []
  deriving DecidableEq, Repr

/-- The frame and pointer state of a Sluice (R115 to R132). -/
structure Sluice where
  cap    : Nat := 0
  res    : Nat := 0
  ct     : Nat := 0
  ovf    : Bool := false
  hi     : Nat := 0xFFFF
  lo     : Nat := 0
  level  : Bool := false
  words  : List SWord := []
  opened : Bool := false       -- the producer has a packet open
  openN  : Nat := 0            -- words of it written
  openL  : Nat := 0xFFFFFFFF   -- its LIDX
  openS  : Nat := 0            -- its STREAM
  openG  : Nat := 0            -- its byte 12: the STAGE of a request or reply
  lastAt : Nat := 0            -- Gauge of its last committed word (R119)
  absorb : Bool := false       -- the producer's words up to LAST are accepted and discarded (R121, R126)
  started : Bool := false      -- the consumer has started the packet at the front
  abortE : Bool := false       -- an open packet has turned bad in this tick
  abortP : Bool := false       -- the consumer's next read returns an abort marker
  abortL : Nat := 0xFFFFFFFF   -- LIDX and STREAM it carries
  abortS : Nat := 0
  stillN : Nat := 0            -- STILLCNT of the consumer port (R114)
  borrowed : Nat := 0          -- frames borrowed from the pool
  ovr   : Nat := 0            -- frames in the overflow region
  headOff : Nat := 0           -- words already read of the front frame
  fr     : List Nat := []      -- the frames that hold words, the front one first: 0 reserved, 1 borrowed, 2 overflow (R128, R131)
  wait   : List (List SWord) := []       -- packets its unit is writing: the words not yet written (R122)
  held   : List (Nat × Nat × Nat) := []  -- requests that wait under back-pressure at its port: STREAM, LIDX, stage (R39, R132)
  rx     : List SWord := []    -- words its consuming unit has read of the packet it has started under cut-through (R120)
  rdL    : Nat := 0xFFFFFFFF   -- LIDX, STREAM and stage of the packet the consumer has started
  rdS    : Nat := 0
  rdG    : Nat := 0
  turned : Bool := false       -- a reset of the Sluice has turned that packet bad (R126)
  answer : Bool := false       -- an absorbed packet gets its absent reply at LAST (R39)
  resetT : Nat := 0            -- ticks of the pointer-mismatch reset still to run, 9 in the tick of the mismatch (R126)
  paceT  : Nat := 0            -- ticks in which its class's pacing still refuses a grant (R130)
  deriving DecidableEq, Repr

/-- The pool and window state of all Sluices. -/
structure Sluices where
  s      : Tab Sluice := []
  stall  : Nat := 9216000
  ptrLast : Nat := 0
  granted : Bool := false      -- the pool has granted in this tick (R129)
  wins   : Tab Nat := []       -- last winner of each class, plus one
  deriving DecidableEq, Repr

/-! ### Items, routes, the Weir (01, 07) -/

/-- What a stage proposes, or a route results in (Table 1-3, Table 7-4). -/
inductive Prop' where
  | pass | block | cut | mask | hold | absentStage | abstain
  deriving DecidableEq, Repr

/-- The outcome of a stage or a Combine (R138, R140). -/
structure Outcome' where
  prop   : Prop'
  cut    : Nat := 0
  spans  : List (Nat × Nat) := []
  scores : List (BitVec 16) := [0x7E00, 0x7E00, 0x7E00, 0x7E00]
  deriving DecidableEq, Repr

/-- Where a stage of an item stands. -/
inductive StageSt where
  /-- Not dispatched. -/
  | idle
  /-- Dispatched on this core (0 for other kinds) while its unit stood at this generation; not yet answered. -/
  | sent (core gen : Nat)
  /-- Waits for its unit under HOLD_TO_DEADLINE (R52). -/
  | waiting
  /-- A Combine that started in this tick (R137). -/
  | combining (tick : Nat)
  /-- Its outcome is accepted or fixed. -/
  | done (o : Outcome')
  /-- Skipped under SKIP (R52). -/
  | skipped
  /-- Not to run: ended by STOP, withdrawn or released with ERROR 14. -/
  | dropped
  deriving DecidableEq, Repr

/-- An item held by the Weir (01, 07), with the copy of its Ledger record kept apart. -/
structure Item where
  stream  : Nat
  kind    : Nat
  dir     : Nat
  seq     : Nat
  route   : Nat
  epoch   : Nat
  admitAt : Nat
  deadline : Nat
  early   : Bool             -- the release mode it was admitted under (R151, R152)
  payload : List Byte
  whole   : Bool             -- the Weir has its whole payload
  inn     : Bool := false    -- its payload is wholly committed to the intake Sluice (05 R95)
  kept    : Bool := false    -- the Weir has taken it from there and writes it into the hold store (18 R401)
  host    : Bool             -- it came from the Inlet
  src     : Nat := 0         -- SRC_ADDR
  rbuf    : Nat := 0
  rlen    : Nat := 0         -- RBUF_LEN
  cq      : Nat := 0
  cqEra   : Nat := 0
  fnEra   : Nat := 0
  stages  : List StageSt := []
  products : List (List Byte) := []   -- accepted stage products (R401), one a stage
  skips   : Nat := 0                  -- bit i: stage i met an absent unit and was skipped
  result  : Option Outcome' := none   -- the route's result
  endAt   : Nat := 8                  -- the stage whose outcome it is (R142)
  readyAt : Nat := 0                  -- start of the tick in which it became ready, and that tick's number
  readyTick : Nat := 0
  released : Bool := false
  late    : Bool := false
  relTick : Nat := 0                  -- number of the tick of its release
  failed  : Bool := false             -- released with BLOCK and ERROR 14 (R97, R402)
  gone    : Bool := false             -- its work is withdrawn (R153)
  accAt   : List Nat := []            -- of each stage, the Gauge at which its reply was accepted, plus one (R154)
  ans     : Nat := 0                  -- end-of-answer markers of its stream admitted before it (R144)
  prev    : Nat × List Nat × List Nat := (0, [], [])  -- what the stream's previous answer item had reached before it (R149; 18 R403)
  flush  : Bool := false              -- Reedbed and Shoal flush the stream's state before it (R149)
  deriving DecidableEq, Repr

/-- What the Weir keeps per stream and direction. -/
structure StreamSt where
  next    : Nat := 0        -- next sequence number (R12)
  rels    : List (Nat × Nat) := []  -- released items whose successor is not: sequence number and tick of the release (R151)
  ansN    : Nat := 0        -- end-of-answer markers admitted
  cuts    : List (Nat × Nat) := []  -- answers that have been cut off: the number of markers before, and the first item cut off (R144)
  prevRoute : Nat := 0      -- route + 1 of the previous answer item, and the Reedbed and Shoal TABLEs it reached (R149)
  prevReed : List Nat := []
  prevShoal : List Nat := []
  deriving DecidableEq, Repr

/-- One live copy of a route (R146, R147). -/
structure LiveCopy where
  epoch : Nat
  img   : List Byte
  deriving DecidableEq, Repr

/-- A commit the Shore agent holds until the older epoch retires (R159), or, without `wait`, until the next tick (R147). -/
structure CommitWait where
  hold  : Bool
  sid   : Nat
  tag   : String
  route : Nat
  epoch : Nat
  deriving DecidableEq, Repr

/-- A stage dispatched under cut-through, whose request goes on once the stage that yields its input has replied: record, stage, that stage (R137). -/
structure CutStage where
  lidx  : Nat
  stage : Nat
  src   : Nat
  deriving DecidableEq, Repr

/-- The Weir (07). -/
structure Weir where
  stage   : Tab (List Byte) := []    -- staging copies
  live    : Tab (List LiveCopy) := []  -- newest first
  fresh   : Tab Nat := []            -- routes committed in this tick: the tick's items still take the old epoch (R146)
  bind    : Tab W32 := []
  bindOld : Tab W32 := []            -- binds as at the start of the tick, for those written in it (R148)
  earlyOff : Bool := false
  earlyOld : Bool := false           -- EARLY_OFF as at the start of the tick (R152)
  cresp   : W32 := 0
  items   : List (Nat × Item) := []  -- by LIDX, in admission order
  streams : Tab StreamSt := []       -- by 2 × stream + direction
  waits   : List CommitWait := []
  committed : Bool := false          -- a commit has been taken in this tick (R147: one per tick)
  shore   : Bool := false            -- a commit of the Shore agent stands behind the present command in its tick (R147)
  cut     : List CutStage := []
  deriving DecidableEq, Repr

/-! ### The Ledger (18) -/

/-- A Ledger record (R398, Table 18-1). -/
structure LRec where
  phase   : Nat := 0        -- 0 FREE, 1 ADMITTED, 2 RUNNING LATE, 3 DONE
  deliv   : Nat := 0        -- 0 none pending, 1 held, 2 orphaned
  stream  : Nat := 0
  kind    : Nat := 0
  dir     : Nat := 0
  route   : Nat := 0
  epoch   : Nat := 0
  seq     : Nat := 0
  flags   : Nat := 0
  verdict : Nat := 0
  scores  : List (BitVec 16) := [0, 0, 0, 0]
  cut     : Nat := 0
  relAt   : Nat := 0        -- RELEASE_GAUGE
  admitAt : Nat := 0
  deadline : Nat := 0
  plen    : Nat := 0
  spans   : List (Nat × Nat) := []
  cookie  : Nat := 0
  rlen    : Nat := 0
  subidx  : Nat := 0
  subring : Nat := 0
  done    : Nat := 0
  type    : Nat := 0
  error   : Nat := 0
  mark    : Nat := 0
  replays : Nat := 0
  dlv     : Bool := false
  amend   : Bool := false
  early   : Bool := false
  mirrored : Bool := false
  host    : Bool := false
  refetch : Bool := false
  clipped : Bool := false
  backlog : Bool := false
  phaseBit : Bool := false
  cq      : Nat := 0        -- the completion ring of its submission ring
  poison  : Bool := false   -- an uncorrectable error stands in the record (R413)
  deriving DecidableEq, Repr

/-- A mirror packet (R409). -/
structure MirrorPkt where
  op     : Nat
  origin : Nat
  mseq   : Nat
  lidx   : Nat
  rcd    : Option LRec
  deriving DecidableEq, Repr

/-- A mirror write not yet acknowledged (R410). -/
structure MirrorWait where
  lidx : Nat
  mseq : Nat
  due  : Nat
  again : Bool
  deriving DecidableEq, Repr

/-- The Ledger (18). -/
structure Ledger where
  recs    : Tab LRec := []
  last    : Nat := 0            -- record allocated last (R397)
  mirror  : Tab LRec := []      -- the peer's mirror area
  mirrorSeq : Tab Nat := []     -- MSEQ stored for each of its records
  mseq    : Nat := 0
  unacked : List MirrorWait := []
  mout    : List MirrorPkt := []   -- mirror packets still to be written into Sluice 168
  degraded : Bool := false
  fetchDue : Option Nat := none    -- a mirror fetch runs until this Gauge (R411)
  fetchWho : Option (Nat × String) := none
  fetched : Nat := 0
  full    : Bool := false          -- admission is stopped (R407)
  maxReplay : Nat := 3
  mirrorOn : Bool := false
  serve   : Bool := false          -- as written; in force from the next warm reset
  serveNow : Bool := false
  forced  : Bool := false
  autoFetch : Bool := true
  peerV   : Bool := false
  peer    : Nat := 0
  orphTtl : Nat := 0
  mirTo   : Nat := 921600
  deriving DecidableEq, Repr

end Sys2Proof.Machine
end

