-- ==== Sys2Proof/Machine/TypesEng.lean ====
section
/-!
DEFINITION. Machine/TypesEng.lean: plain data of Reedbed (08), Shoal (09) and Sieve/Tarn (10): pack slots, carried state, scanners,
rows in the walk, and loads in progress.
-/
namespace Sys2Proof.Machine

/-- A pack slot: where its pack lies in the engine's store, and the pack's bytes (empty: the slot is empty). -/
structure PackSlot where
  base  : Nat := 0
  bytes : List Byte := []
  deriving DecidableEq, Repr

/-- Where a load reads from (08 R184, 09 R202, 10 R223, 12 R272, 15 R335): the image store, or a signed image staged in Mere. -/
inductive LoadSrc where
  | image (n : Nat)
  | mere (addr : Nat)
  deriving DecidableEq, Repr

/-- A load accepted and not yet complete (R179, R199, R220, R272, R335): engine unit (16 for a model load), slot, the pack or model, the
cores of a model load, those that have still to take it, whether it goes by UPDATE, whether it is the reload after an ON (R180), and who
waits. -/
structure LoadJob where
  unit    : Nat
  slot    : Nat
  cores   : Nat := 0
  left    : Nat := 1
  image   : List Byte
  upd     : Bool
  again   : Bool := false
  sid     : Nat := 0
  tag     : String := ""
  wait    : Bool := false
  deriving DecidableEq, Repr

/-- Carried state of an answer stream in Reedbed (R176): the latest copy and the one before it, the latest applied sequence number,
and the mark of a clear. -/
structure ReedCarry where
  now  : ReedSt := {}
  was  : ReedSt := {}
  seq  : Nat := 0
  mark : Bool := true
  deriving DecidableEq, Repr

/-- Reedbed (08). -/
structure Reed where
  slots   : Tab PackSlot := []
  carry   : Tab ReedCarry := []
  waiting : List Pkt := []     -- replies that wait behind the open one on Sluice 144 (R475)
  reload  : List Nat := []     -- slots named in the NV configuration and not yet reloaded (R180)
  deriving DecidableEq, Repr

/-- Carried state of an answer stream in Shoal (R195). -/
structure ShoalCarry where
  now  : Nat := 0
  was  : Nat := 0
  slot : Nat := 0
  seq  : Nat := 0
  mark : Bool := true
  deriving DecidableEq, Repr

/-- Shoal (09): the scanners hold the request packets taken (R185). -/
structure Shoal where
  slots  : Tab PackSlot := []
  scan   : Tab (Option Pkt) := []
  carry  : Tab ShoalCarry := []
  reload : List Nat := []
  deriving DecidableEq, Repr

/-- A row in the Sieve or in the walk (R205, R211, R212). -/
structure TarnRow where
  pkt   : Pkt
  slot  : Nat
  prof  : Nat
  bad   : Nat := 0             -- 1: a bad row, 2: a bad TABLE: nothing is walked
  w     : List WSlot := []
  nextT : Nat := 0             -- lowest undealt tree
  got   : List (Nat × Nat) := []   -- leaves that have been read and not added: tree, value
  addT  : Nat := 0             -- tree whose leaf is added next
  sums  : List Nat := []
  nDef  : Nat := 0
  v     : Nat := 0             -- node store records read
  deriving DecidableEq, Repr

/-- A walker lane on a tree (R211): the row by record and stage, the tree, what its walk yields, and the number of the tick after its last read. -/
structure TarnLane where
  key   : Nat × Nat
  t     : Nat
  leaf  : Nat
  dflt  : Bool
  recs  : Nat
  till  : Nat
  deriving DecidableEq, Repr

/-- Sieve and Tarn (10). -/
structure Tarn where
  slots  : Tab PackSlot := []
  sieve  : Option TarnRow := none   -- the row the Sieve has finished
  walk   : List TarnRow := []       -- oldest first, at most 16
  lanes  : List TarnLane := []      -- lanes walking, at most 64
  rows   : Nat := 0                 -- TARN_ROWS
  reload : List Nat := []
  deriving DecidableEq, Repr

end Sys2Proof.Machine
end

