-- ==== Sys2Proof/Machine/TypesLong.lean ====
section
/-!
DEFINITION. Machine/TypesLong.lean: plain data of the Basins (11) and the Longavel cores (12, 13): the operations of the eight slots,
registers, stream handles, program slots and batches.
-/
namespace Sys2Proof.Machine

/-! ### Slot operations (13) -/

/-- Slot 0 (R277). -/
inductive CtlOp where
  | br | jr | call | ret | eret
  deriving DecidableEq, Repr

/-- Scalar format R (R280, R281). -/
inductive SROp where
  | add | sub | and | or | xor | shl | shr | sar | min | max | minu | maxu | sel | popc | clz | mul | mulh | mulhu
  | div | divu | rem | remu | cmpeq | cmpne | cmplt | cmpltu | cmple | cmpleu | pand | por | pxor | pandn
  deriving DecidableEq, Repr

/-- Scalar format I (R280). -/
inductive SIOp where
  | addi | andi | ori | xori | shli | shri | sari | cmpeqi | cmplti | cmpltui
  deriving DecidableEq, Repr

/-- Slot 3 (R282). -/
inductive MOp where
  | ldb | ldbu | ldh | ldhu | ldw | ldwu | ldd | stb | sth | stw | std | vld64 | vld | vst64 | vst | tld | tst
  deriving DecidableEq, Repr

/-- Slots 4 and 5 (R284, R285). -/
inductive VOp where
  | vadd | vsub | vadds | vsubs | vmin | vmax | vand | vor | vxor | vshl | vshr | vsar | vcmpeq | vcmplt | vcmpltu | vsel
  | vbcast | vget | vput | vmul | vaddf | vsubf | vmulf | vminf | vmaxf | vcmpltf | vcmpeqf | vcvtif | vcvtfi | vpacks
  | vpackf | vpackb | vunpk | vunpkf | vunpkb | vrcp | vsqrt | vexp | vrsum | vrmax | vrsumf | vrmaxf
  deriving DecidableEq, Repr

/-- One slot's instruction with its fields, as its format gives them. -/
inductive LOp where
  | ctl (o : CtlOp) (a : Nat) (off : Int)
  | sr (o : SROp) (d a b c : Nat)
  | si (o : SIOp) (d a : Nat) (imm : Int)
  | movi (d : Nat) (imm : Int)
  | movh (d : Nat) (imm : Nat)
  | mfk (g k : Nat)
  | mtk (g k : Nat)
  | mem (o : MOp) (t a seg : Nat) (off : Int)
  | vec (o : VOp) (d a b c w g imm : Nat)
  | tacc (bank t src : Nat) (init type : Bool) (ncol : Nat)
  | tmac (bank a h : Nat)
  | tdrn (bank d dfmt gm gf : Nat)
  | twait
  | tset (t field g : Nat)
  | sopen (h src : Nat) (grp : Bool) (a b lay ncol : Nat)
  | sclose (h : Nat)
  | slrd (v seg g idx : Nat)
  | slwr (v seg idx : Nat) (first last : Bool) (valid : Nat)
  | slwait (g idx : Nat)
  | sldrop (idx : Nat)
  | sinit (a b : Nat)
  | sapp (a b n : Nat)
  | sfree (a : Nat)
  deriving DecidableEq, Repr

/-- A slot of a word: its number, guard (or condition) predicate and sense, whether a bit that must be zero is set, and its
instruction. -/
structure Slot where
  slot : Nat
  gp   : Nat
  gs   : Bool
  res  : Bool
  op   : LOp
  deriving DecidableEq, Repr

/-! ### Basins (11) -/

/-- A tile descriptor (R225). -/
structure Tile where
  off   : Nat
  row0  : Nat
  nrows : Nat
  len   : Nat
  fmt   : Nat
  bad   : Bool      -- a reserved bit is set
  deriving DecidableEq, Repr

/-- Where a weight stream's bytes come from (R233, R239, R241, R289). -/
inductive StreamSrc where
  /-- HBM address of a stream table entry. -/
  | hbm (addr : Nat)
  /-- A Ferry ring slot. -/
  | ferry (slot : Nat)
  /-- NCOL consecutive rows of a session from a row. -/
  | session (id row : Nat)
  deriving DecidableEq, Repr

/-- An open stream (R290): its source and shape, the group it belongs to, whether it is an int4 twin, whether a TMAC names it. -/
structure Stream where
  src   : StreamSrc
  len   : Nat
  k     : Nat
  ncol  : Nat
  wfmt  : Nat
  lay   : Nat
  group : Option Nat
  twin  : Bool
  named : Bool
  deriving DecidableEq, Repr

/-- An operation issued to a Basin and not finished (R226, R227). -/
inductive BOp where
  | acc (bank : Nat) (t : Tile) (ncol : Nat) (f32' : Bool) (src : Option Tile)
  | mac (bank : Nat) (a : Tile) (st : Stream) (handle : Nat)
  | drain (bank : Nat) (d : Tile) (dfmt mult shift zpt : Nat) (satfp : Bool) (fscale : Nat)
  deriving DecidableEq, Repr

/-- A queued operation: started (a MAC has begun its first slice), the weight bytes its stream has brought so far, and for how many ticks its slices
have run (R234, R238). -/
structure BQ where
  op      : BOp
  started : Bool
  got     : List Byte := []
  gotBad  : Bool := false
  run     : Nat := 0
  deriving DecidableEq, Repr

/-- Basin b (11). Store: lane r, byte o at 16,384 r + o. Accumulator (bank, r, n) at 262,144 bank + 512 r + n. -/
structure Basin where
  store   : Mem := []
  pois    : Tab Bool := []       -- poisoned 64-byte words of the store
  acc     : Tab Nat := []
  type0   : Bool := false        -- bank 0 is binary32 (false: int32)
  type1   : Bool := false
  accPois : Tab Bool := []       -- poisoned rows: 512 bank + r
  queue   : List BQ := []
  groupEn : Bool := false
  gid     : Nat := 0
  passes  : Nat := 0
  stall   : Nat := 0
  busy    : Nat := 0
  parRun  : Nat := 0             -- consecutive passes with a parity error (R244)
  patrol  : Nat := 0             -- the next word the patrol reads (R243)
  patAt   : Nat := 0             -- the 64-tick window it last read in, plus one
  deriving DecidableEq, Repr

/-- One held block of a group stream: its index, bytes, poison, and the members that have consumed it (bits). -/
structure GBlock where
  idx  : Nat
  data : List Byte
  bad  : Bool
  took : Nat
  deriving DecidableEq, Repr

/-- The open stream of a broadcast group (R235, R236). -/
structure GStream where
  st      : Stream
  members : Nat           -- bits: Basins still in the stream
  next    : Nat := 0      -- next block to fetch
  held    : List GBlock := []
  deriving DecidableEq, Repr

/-! ### Longavel cores (12) -/

/-- One item of a batch (R266, R268). -/
structure BItem where
  lidx   : Nat
  stream : Nat
  dir    : Nat
  kind   : Nat
  epoch  : Nat
  seq    : Nat
  stage  : Nat
  row0   : Nat
  nrows  : Nat
  inaddr : Nat
  inlen  : Nat
  deadline : Nat
  prio    : Nat           -- PRIO of its route (17 R380)
  deriving DecidableEq, Repr

/-- A batch (R266). -/
structure Batch where
  slot   : Nat
  entry  : Nat
  items  : List BItem
  lane   : Nat            -- next free lane
  openAt : Nat            -- Gauge at its first item
  input  : Nat            -- next free byte of its input area
  deriving DecidableEq, Repr

/-- What a core waits for: a class Q operation not yet complete (R262, R263, R293). -/
inductive CoreWait where
  | none
  | open' (h src : Nat) (grp : Bool) (a b lay ncol since : Nat)
  | write (idx : Nat) (data : List Byte) (first last : Bool) (valid : Nat) (bad : Bool)
  | wait (idx until' : Nat)
  | append (id : Nat) (addr n : Nat)
  /-- Rows of an append have gone to peers; ROWS advances once their writes are acknowledged (16 R359). `took`: the local pages it took. -/
  | sent (id n rows first last : Nat) (took : List Nat)
  /-- A session is freed, and opened again for `init`'s ROWBYTES and FMT, once its table pages on peers have been read (R239, R292). -/
  | free (id : Nat) (init : Option (Nat × Nat))
  | read (v seg g idx : Nat)      -- a word of a started packet that has not committed (R116)
  deriving DecidableEq, Repr

/-- A program slot of a core (R270 to R274): the image's header, stream table and code size, and where its data and weights lie. -/
structure ProgSlot where
  hdr     : List Byte := []      -- the 256-byte image header; empty: the slot holds no program
  table   : List Byte := []      -- the stream table, 32 bytes an entry
  code    : List Byte := []
  dataAt  : Nat := 0
  wgtAt   : Nat := 0
  deriving DecidableEq, Repr

/-- Longavel core c (12). -/
structure Core where
  g       : Tab W64 := []
  gP      : Tab Bool := []       -- poison of g registers
  p       : BitVec 8 := 1        -- p0 reads 1
  v       : Tab (List Byte) := []
  vP      : Tab Bool := []       -- poison of segments: 8 × register + segment
  t       : Tab (List Byte) := []
  tP      : Tab Bool := []
  prog    : Bool := false        -- k0 MODE
  epc     : Nat := 0
  ecause  : Nat := 0
  einfo   : Nat := 0
  batchK  : Nat := 0             -- k6
  dataK   : Nat := 0             -- k7
  xstat   : Nat := 0
  scratch : Tab W64 := []        -- k16 to k31
  ticks   : Nat := 0             -- k10
  pc      : Nat := 0             -- code offset of the next word
  entry   : Nat := 0             -- the kernel's chosen entry (R277 ERET)
  asm     : List Slot := []      -- slots of the word being formed
  held    : List (List Slot × Nat) := []   -- words given whole that wait to issue, in order (R254), each with the memory error its access meets
  issued  : Nat := 0             -- k10 plus one at the tick of the last issue (R254: one word a tick)
  handles : Tab (Option Stream) := []
  wait    : CoreWait := .none
  tileWait : Bool := false       -- its TWAIT waits for tile operations (R256, R293)
  waitAt  : Nat := 0             -- code offset of the word that waits (R293)
  ret     : Bool := false        -- that word returns once its operation completes
  discard : Nat := 0             -- bits: program Sluices whose words are discarded up to the next FIRST (R262 REWOUND)
  budget  : Nat := 0             -- Gauge at which BUDGET expires
  twin    : Bool := false        -- a stream of the running batch chose a twin (R269)
  slots   : Tab ProgSlot := []
  openB   : List Batch := []
  closed  : List Batch := []
  asked   : Option Nat := none   -- dispatch requested at this Gauge for the earliest closed batch (R267)
  granted : Bool := false        -- a grant has come and the program has not been entered
  running : Option Batch := none
  startAt : Nat := 0             -- Gauge at entry
  startTick : Nat := 0           -- k10 at entry
  replies : List (Pkt × Bool) := []   -- replies still to commit, in entry order; true: written with BAD (R269)
  kfault  : Bool := false        -- an exception in kernel mode (R259)
  lastRun : Tab Nat := []        -- length of the last run of each program slot (17)
  elog    : Nat := 0             -- LONG_ECAUSE
  epcLog  : Nat := 0             -- LONG_EPC
  batches : Nat := 0             -- LONG_BATCHCNT
  deriving DecidableEq, Repr

/-- The Longavel state shared by all cores. -/
structure Longs where
  core    : Tab Core := []
  stopped : Tab Bool := []       -- program slots marked stopped (R272), by slot
  reload  : Tab Bool := []       -- 16 × core + slot: named in the NV configuration and not yet reloaded (R273)
  deriving DecidableEq, Repr

end Sys2Proof.Machine
end

