-- ==== Sys2Proof/Syntax.lean ====
section
/-!
DEFINITION. Syntax.lean: the commands the block takes, one constructor for each row of spec/opcode_table.json, with the operands the row's rule
gives the command. A quantity the surroundings choose (a sample, a frame, a time a boot took) is an operand.
-/
namespace Sys2Proof

open Sys2Proof.Machine (BRef LoadSrc)

/-- The commands of the block. -/
inductive Instr where
  /-- POWER_ON (R436). The whole boot runs, to READY or recovery; no effect while PWR_GOOD is high already. `vrOk`: the regulator reads as R464 requires; `hbmBad`: stacks that fail training; `sfdp`: the octal DTR rate in MHz the flash lists, 0 none; `g`: the Gauge at which the boot has finished. -/
  | powerOn (vrOk : Bool) (hbmBad : Nat) (sfdp : Nat) (g : Nat)
  /-- WARM_RESET (R459). SYS_RST_n is released after an assertion and the whole boot runs, `g` gauge units long; `refOk`: REF24 is within limits; the rest as for POWER_ON. -/
  | warmReset (vrOk : Bool) (refOk : Bool) (hbmBad : Nat) (sfdp : Nat) (g : Nat)
  /-- POWER_DOWN (R458). PWR_GOOD stays low for 25 reference periods. -/
  | powerDown
  /-- PERST_ASSERT (R460). PERST_n is low for 25 reference periods; `mid`: the record whose release is under way, and the TLPs of its payload write that have left. -/
  | perstAssert (mid : Option (Nat × Nat))
  /-- PERST_DEASSERT (R437). PERST_n is released. -/
  | perstDeassert
  /-- REF24_LOSS (R461). The monitor finds REF24 missing or out of range. -/
  | ref24Loss
  /-- FIRMWARE_TRIP (R421). A sensor has two samples of 110 °C or more; no effect before that. -/
  | firmwareTrip
  /-- HARDWARE_TRIP (R422). The comparators of the sensors in this bit map are at 120 °C. -/
  | hardwareTrip (sensors : Nat)
  /-- VR_ALERT (R464). VR_ALERT_n falls; STATUS_WORD reads `w`. -/
  | vrAlert (w : Nat)
  /-- FUNCTION_LEVEL_RESET (R108). A function-level reset starts; `mid`: the record whose release is under way, and the TLPs of its payload write that have left. -/
  | functionLevelReset (mid : Option (Nat × Nat))
  /-- HOT_RESET (R108). A hot reset or a link down; `mid`: the record whose release is under way, and the TLPs of its payload write that have left. -/
  | hotReset (mid : Option (Nat × Nat))
  /-- D3HOT_ENTRY (R102). The function enters D3hot. -/
  | d3hotEntry
  /-- D3HOT_TO_D0 (R108). The function returns from D3hot to D0. -/
  | d3hotToD0
  /-- MASTERING_PAUSE (R102). Bus Master Enable is cleared. -/
  | masteringPause
  /-- MASTERING_RESUME (R102). Bus Master Enable is set. -/
  | masteringResume
  /-- GAUGE_LO_READ (R24). Requester `q` (0 the host) reads GLB_GAUGE_LO; `wide`: by an 8-byte read, which returns GLB_GAUGE_HI too; `hi`: the GLB_GAUGE_HI read that follows. -/
  | gaugeLoRead (q : Nat) (wide : Bool) (hi : Bool)
  /-- RC_FIELD_READ (R32). A host read of `n` bytes at BAR0 offset `a`, with the read side effects of every register it touches. -/
  | rcFieldRead (a : Nat) (n : Nat)
  /-- UNASSIGNED_READ (R28). A host read of `n` bytes at BAR0 offset `a`; each unassigned register touched reads zero and is counted. -/
  | unassignedRead (a : Nat) (n : Nat)
  /-- REGISTER_WRITE (R29). A host write of `n` bytes `v` at BAR0 offset `a` with byte enables `be`. -/
  | registerWrite (a : Nat) (n : Nat) (be : Nat) (v : Nat)
  /-- IMASK_WRITE (R35). A write of GLB_IMASKk. -/
  | imaskWrite (k : Nat) (v : Nat)
  /-- HOST_MEMORY_ACCESS (R90). A host read of n bytes at a (no data), or a write of data, poisoned or not; e: the read meets a corrected (1) or uncorrectable (2) error, or a second parity failure (3); in BAR2 or BAR4 (R89 to R91, 14 R296). -/
  | hostMemoryAccess (bar : Nat) (a : Nat) (n : Nat) (data : Option (List Byte)) (pois : Bool) (e : Nat)
  /-- BAR4_RESIZE (R89). A control write of the resizable BAR capability sets the BAR4 size to 2^k bytes, 1 GiB to 256 GiB (R88, R89). -/
  | bar4Resize (k : Nat)
  /-- UDIR_ON (R44). A write of UDIR_REQ with action ON: the checks of Table 3-4 in order (R44, R45, R55, R56). -/
  | udirOn (unit : Nat) (gen : Nat) (tag : Nat)
  /-- UDIR_OFF (R44). A write of UDIR_REQ with action OFF: the checks of Table 3-4 in order (R44, R45, R55, R56). -/
  | udirOff (unit : Nat) (gen : Nat) (tag : Nat)
  /-- UDIR_RESET (R44). A write of UDIR_REQ with action RESET: the checks of Table 3-4 in order (R44, R45, R55, R56). -/
  | udirReset (unit : Nat) (gen : Nat) (tag : Nat)
  /-- UDIR_UPDATE (R37). A write of UDIR_REQ with action UPDATE: the checks of Table 3-4 in order (R44, R45, R55, R56). -/
  | udirUpdate (unit : Nat) (gen : Nat) (tag : Nat)
  /-- UDIR_REQUEST_RETRY (R44). Requests that passed every check in a tick in which another was accepted are evaluated afresh (R44). -/
  | udirRequestRetry
  /-- UNIT_ACK (R46). Unit n acknowledges the accepted transition (R40, R46). -/
  | unitAck (n : Nat)
  /-- ACK_BOUND_EXPIRY (R46). Unit n has not acknowledged within 4 ticks (R46); nothing before that. -/
  | ackBoundExpiry (n : Nat)
  /-- DRAIN_COMPLETE (R48). The last accepted request of DRAINING unit n has committed (R48); `ack`: the unit acknowledges the move at once (R46). -/
  | drainComplete (n : Nat) (ack : Bool)
  /-- DRAIN_BOUND_EXPIRY (R48). The drain bound of unit n expires (R48, R49); nothing before that; `ack`: the unit acknowledges the move at once (R46). -/
  | drainBoundExpiry (n : Nat) (ack : Bool)
  /-- WAKE_COMPLETE (R46). WAKING unit n is READY (R46, R47). -/
  | wakeComplete (n : Nat)
  /-- WAKE_BOUND_EXPIRY (R40). The wake bound of unit n expires (R40, R46); nothing before that. -/
  | wakeBoundExpiry (n : Nat)
  /-- UNIT_FAULT (R51). An uncorrectable fault of unit n (R51). -/
  | unitFault (n : Nat)
  /-- LOAD_COMPLETE (R474). The load of UPDATING unit n completes and verifies (R474); `ack`: the unit acknowledges WAKING at once (R46). -/
  | loadComplete (n : Nat) (ack : Bool)
  /-- LOAD_FAIL (R474). The load of UPDATING unit n fails (R474). -/
  | loadFail (n : Nat)
  /-- LIST_UNIT (R58). `list unit [state S]`. -/
  | listUnit (r : BRef) (state : Option String)
  /-- SHOW_UNIT (R58). `show unit N`. -/
  | showUnit (r : BRef) (n : Nat)
  /-- ON_UNIT (R58). `on unit N [gen G] [wait]`. -/
  | onUnit (r : BRef) (n : Nat) (gen : Option Nat) (wait : Bool)
  /-- OFF_UNIT (R58). `off unit N [gen G] [wait]`. -/
  | offUnit (r : BRef) (n : Nat) (gen : Option Nat) (wait : Bool)
  /-- RESET_UNIT (R58). `reset unit N [gen G] [wait]`. -/
  | resetUnit (r : BRef) (n : Nat) (gen : Option Nat) (wait : Bool)
  /-- UART_BYTE (R66). A character arrives on the UART; `bad`: with a framing error. -/
  | uartByte (b : Nat) (bad : Bool)
  /-- LINE_TERMINATOR (R75). The bytes of a line that have not arrived yet, and its terminator: on the UART (session 0), through the command ring (1), or in a message (2 to 17). -/
  | lineTerminator (sid : Nat) (line : List Byte)
  /-- CTRL_C (R67). Ctrl-C arrives on the UART. -/
  | ctrlC
  /-- UART_BREAK (R78). The receive line has been low for 1 ms. -/
  | uartBreak
  /-- BREAK_END_PROMPT (R78). The receive line has been high for 100 µs after a break; no effect without one. -/
  | breakEndPrompt
  /-- OUTPUT_ROOM_RESUME (R77). `n` bytes leave the output buffer of the UART session (0), and what session `sid` holds back goes on where it has room. -/
  | outputRoomResume (sid : Nat) (n : Nat)
  /-- MODE_TYPED (R84). `mode typed`. -/
  | modeTyped (r : BRef)
  /-- MODE_MACHINE (R68). `mode machine [crc]`. -/
  | modeMachine (r : BRef) (crc : Bool)
  /-- MODE_BAUD (R76). `mode baud N`. -/
  | modeBaud (r : BRef) (n : Nat)
  /-- SHOW_GAUGE (R84). `show gauge`. -/
  | showGauge (r : BRef)
  /-- SHOW_LOG (R84). `show log [count N]`. -/
  | showLog (r : BRef) (n : Option Nat)
  /-- FOLLOW_LOG (R85). `follow log [level L]`; 0 info, 1 warn, 2 fault. -/
  | followLog (r : BRef) (l : Option Nat)
  /-- QUIET_LOG (R84). `quiet log`. -/
  | quietLog (r : BRef)
  /-- CLEAR_LOG (R84). `clear log`. -/
  | clearLog (r : BRef)
  /-- SHOW_HELP (R84). `show help [noun]`. -/
  | showHelp (r : BRef) (noun : Option String)
  /-- MAILBOX_CHEAD_WRITE (R79). A write of GLB_BIP_CHEAD. -/
  | mailboxCheadWrite (v : Nat)
  /-- MAILBOX_RTAIL_WRITE (R79). A write of GLB_BIP_RTAIL. -/
  | mailboxRtailWrite (v : Nat)
  /-- MAILBOX_SESSION_END (R80). A write of 1 to GLB_BIP_CTL SESSION_END. -/
  | mailboxSessionEnd
  /-- BIPOL_MESSAGE_RECEIVE (R82). A Bipol message of these bytes arrives. -/
  | bipolMessageReceive (m : List Byte)
  /-- KEEPALIVE_SEND (R81). Inbound session `i` sends its keep-alive; no effect before 1 ms. -/
  | keepaliveSend (i : Nat)
  /-- REMOTE_TIMEOUT (R81). Nothing has come for the remote command for 10 ms; no effect before that. -/
  | remoteTimeout (r : BRef)
  /-- INBOUND_SESSION_CLOSE (R83). Inbound session `i` closes 10 ms after its last end line; no effect before that. -/
  | inboundSessionClose (i : Nat)
  /-- RING_ENABLE (R92). A write of INL_RCTLn (`sub`) or OUT_CCTLn. -/
  | ringEnable (sub : Bool) (n : Nat) (v : Nat)
  /-- DOORBELL (R94). A write of INL_DBn. -/
  | doorbell (n : Nat) (v : Nat)
  /-- DESCRIPTOR_ADMIT (R95). The Inlet takes the next descriptor in round-robin order: `b`, the 64 bytes host memory holds there; `payload`, what the read of SRC_ADDR returned, none where it is not here. No effect where no ring has one, or nothing can be admitted in this tick. -/
  | descriptorAdmit (b : List Byte) (payload : Option (List Byte))
  /-- HOST_READ_FAIL (R97). The read of the next descriptor of ring n (x 0), or of the payload of record x − 1, fails: 0 Unsupported Request, 1 Completer Abort, 2 poisoned, 3 timed out. -/
  | hostReadFail (n : Nat) (x : Nat) (kind : Nat)
  /-- HOST_READ_RETRY (R97). The retry of a failed read runs, 921,600 gu later: it succeeds with the descriptor or the payload, or fails again. No effect before that. A payload read that is under way and has not failed succeeds. -/
  | hostReadRetry (n : Nat) (x : Nat) (kind : Nat) (good : Bool) (b : List Byte) (payload : Option (List Byte))
  /-- COMPLETION_HEAD_WRITE (R101). A write of OUT_CDBn. -/
  | completionHeadWrite (c : Nat) (v : Nat)
  /-- BACKLOG_FETCH (R103). A write of OUT_BKL_FETCH. -/
  | backlogFetch (v : Nat)
  /-- COMPLETION_TIMER_MESSAGE (R105). TIME has passed since the first entry without a message; no effect before that. -/
  | completionTimerMessage (c : Nat)
  /-- SPDM_REQUEST (R106). An object arrives through DOE and is answered: CMA/SPDM, or with `disc` DOE Discovery. -/
  | spdmRequest (disc : Bool) (q : List Byte)
  /-- DOE_ABORT (R106). A DOE Abort. -/
  | doeAbort
  /-- SHOW_INLET (R110). `show inlet [ring N]`. -/
  | showInlet (r : BRef) (ring : Option Nat)
  /-- SET_INLET (R110). `set inlet ring N enable 0|1`. -/
  | setInlet (r : BRef) (n : Nat) (en : Nat)
  /-- SHOW_OUTLET (R110). `show outlet [ring N]`. -/
  | showOutlet (r : BRef) (ring : Option Nat)
  /-- SHOW_OUTLET_BACKLOG (R110). `show outlet backlog`. -/
  | showOutletBacklog (r : BRef)
  /-- SET_OUTLET (R110). `set outlet ring N count C time T`. -/
  | setOutlet (r : BRef) (n : Nat) (c : Nat) (t : Nat)
  /-- FETCH_OUTLET (R110). `fetch outlet ring N [wait]`. -/
  | fetchOutlet (r : BRef) (n : Nat) (wait : Bool)
  /-- SLUICE_WORD_WRITE (R115). The producer port of Sluice n offers one word with its sideband; it commits at the end of the tick (R112 to R118, R122). -/
  | sluiceWordWrite (n : Nat) (data : List Byte) (first : Bool) (last : Bool) (valid : Nat) (bad : Bool)
  /-- SLUICE_READ (R116). The consumer port of Sluice n reads: the next word, a still word or an abort marker (R116, R120). -/
  | sluiceRead (n : Nat)
  /-- SLUICE_DROP (R121). The consumer of Sluice n discards the rest of the packet it has started (R121). -/
  | sluiceDrop (n : Nat)
  /-- SLUICE_STALL_EXPIRY (R119). A packet open in Sluice n without progress for SLU_STALL turns bad; nothing where the bound has not passed. -/
  | sluiceStallExpiry (n : Nat)
  /-- POINTER_MISMATCH (R126). The duplicated pointers of Sluice n disagree; its 8-tick reset starts in the next tick. -/
  | pointerMismatch (n : Nat)
  /-- SLUICE_RESET_END (R126). The last tick of the reset of Sluice n has passed; the rest of its open packet is absorbed. -/
  | sluiceResetEnd (n : Nat)
  /-- POOL_GRANT (R129). The frame pool grants one frame, or an overflow frame (R129 to R131). -/
  | poolGrant
  /-- SLUICE_CONFIG_WRITE (R123). A write of SLU_CFGn, or of SLU_CAPn where cap is set. -/
  | sluiceConfigWrite (n : Nat) (cap : Bool) (v : W32)
  /-- LIST_SLUICE (R134). `list sluice`. -/
  | listSluice (r : BRef)
  /-- SHOW_SLUICE (R134). `show sluice N`. -/
  | showSluice (r : BRef) (n : Nat)
  /-- SET_SLUICE (R134). `set sluice N …`. -/
  | setSluice (r : BRef) (n : Nat) (cap : Option Nat) (res : Option Nat) (ct : Option Nat) (hi : Option Nat) (lo : Option Nat) (up : Option Bool) (down : Option Bool)
  /-- CLEAR_SLUICE (R134). `clear sluice N`. -/
  | clearSluice (r : BRef) (n : Nat)
  /-- ROUTE_COMMIT (R145). A write of WEIR_COMMIT: the staging copy is checked and becomes a new epoch, or the commit is refused (R145 to R147). -/
  | routeCommit (v : W32)
  /-- COMMIT_WAIT_RETIRE (R159). The first held commit of a route tries again once the older epoch has retired (R147, R159). -/
  | commitWaitRetire (route : Nat)
  /-- BIND_WRITE (R148). A write of WEIR_BINDs: the stream's routes for items admitted in later ticks (R148). -/
  | bindWrite (stream : Nat) (v : W32)
  /-- STAGE_DISPATCH (R137). The Weir dispatches stage `i` of the item of record `l`, or applies the policy for an absent stage (R136, R137; 03 R39, R52). -/
  | stageDispatch (l : Nat) (i : Nat)
  /-- HELD_STAGE_RESUME (R52). A stage held under HOLD_TO_DEADLINE runs once its unit is READY (03 R52). -/
  | heldStageResume (l : Nat) (i : Nat)
  /-- STAGE_REPLY (R138). The Weir consumes the packet at the front of reply Sluice `n` (R138; 03 R50). -/
  | stageReply (n : Nat)
  /-- COMBINE_FINISH (R137). The Combine at stage `i` finishes 10 ticks after its inputs are in (R137, R139 to R142); nothing before that. -/
  | combineFinish (l : Nat) (i : Nat)
  /-- DEADLINE_RELEASE (R151). Release of the item of record `l` at its deadline (R151). -/
  | deadlineRelease (l : Nat)
  /-- EARLY_RELEASE (R151). Release of an in-time Early item 10 ticks after it is ready and after its predecessor (R151). -/
  | earlyRelease (l : Nat)
  /-- AMENDMENT_POST (R153). The amended record of a late item (R153). -/
  | amendmentPost (l : Nat)
  /-- AMEND_WINDOW_CLOSE (R153). The amendment window of a late item closes (R153). -/
  | amendWindowClose (l : Nat)
  /-- LIST_ROUTE (R159). `list route`. -/
  | listRoute (r : BRef)
  /-- SHOW_ROUTE (R159). `show route R [staged]`. -/
  | showRoute (r : BRef) (n : Nat) (staged : Bool)
  /-- SET_ROUTE (R159). `set route R …`: the header fields given; `dirs` 1 req, 2 ans, 3 both, `maskb` 256 off. -/
  | setRoute (r : BRef) (n : Nat) (valid : Option Nat) (deadline : Option Nat) (early : Option Nat) (dlv : Option Nat) (amend : Option Nat) (window : Option Nat) (hold : Option Nat) (prio : Option Nat) (emptyv : Option Nat) (dirs : Option Nat) (maskb : Option Nat) (stages : Option Nat)
  /-- SET_ROUTE_STAGE (R159). `set route R stage I kind K …`; `slots` gives each `slotJ I.S` as J, I and S. -/
  | setRouteStage (r : BRef) (n : Nat) (i : Nat) (kind : Nat) (table : Option Nat) (cores : Option Nat) (rule : Option Nat) (inputs : Option Nat) (k : Option Nat) (stop : Option Nat) (slots : List (Nat × Nat × Nat))
  /-- COMMIT_ROUTE (R159). `commit route R epoch E [wait]`. -/
  | commitRoute (r : BRef) (n : Nat) (epoch : Option Nat) (wait : Bool)
  /-- BIND_ROUTE (R159). `bind route R stream S dir req/ans`; no route is `none`. -/
  | bindRoute (r : BRef) (route : Option Nat) (stream : Nat) (ans : Bool)
  /-- SHOW_WEIR (R159). `show weir`. -/
  | showWeir (r : BRef)
  /-- SET_WEIR (R152). `set weir early-off X` (R152). -/
  | setWeir (r : BRef) (x : Nat)
  /-- REED_REQUEST_ITEM (R170). Reedbed takes the text request at the front of Sluice 143 and makes its reply (R160 to R171, R182). -/
  | reedRequestItem
  /-- REED_ANSWER_CHUNK (R173). Reedbed takes the answer chunk at the front of Sluice 143 (R172, R173, R175, R176). -/
  | reedAnswerChunk
  /-- REED_MARKER (R174). Reedbed takes the end-of-answer marker at the front of Sluice 143 (R174 to R176). -/
  | reedMarker
  /-- REED_REPLY_OPEN (R475). The first waiting reply opens on Sluice 144 once the open one has committed (R475). -/
  | reedReplyOpen
  /-- SHOW_REED (R184). `show reed [slot S]`. -/
  | showReed (r : BRef) (k : Option Nat)
  /-- LOAD_REED (R179). `load reed slot S …` (R179, R184). -/
  | loadReed (r : BRef) (k : Nat) (src : LoadSrc) (replace : Bool) (wait : Bool)
  /-- SET_REED_SLOT_EMPTY (R184). `set reed slot S empty`. -/
  | setReedSlotEmpty (r : BRef) (k : Nat)
  /-- SET_REED_STREAM_FLUSH (R184). `set reed stream N flush`. -/
  | setReedStreamFlush (r : BRef) (n : Nat)
  /-- ENGINE_RELOAD_AFTER_ON (R180). The Shore agent loads what CONFIG names into the empty slots of unit `u`, READY after an ON outside boot (R180, R200, R220; 12 R273). -/
  | engineReloadAfterOn (u : Nat)
  /-- SHOAL_TAKE_ITEM (R185). The lowest free scanner takes the packet at the front of Sluice 145 (R185, R186). -/
  | shoalTakeItem
  /-- SHOAL_SCAN_COMPLETE (R194). Scanner `i` commits the reply of its item (R190 to R195). -/
  | shoalScanComplete (i : Nat)
  /-- SHOW_SHOAL (R202). `show shoal [slot S]`. -/
  | showShoal (r : BRef) (k : Option Nat)
  /-- LOAD_SHOAL (R199). `load shoal slot S …` (R198, R199, R202). -/
  | loadShoal (r : BRef) (k : Nat) (src : LoadSrc) (replace : Bool) (wait : Bool)
  /-- TARN_ROW_SIEVE (R207). The Sieve takes the row at the front of Sluice 147 and runs its profile (R203 to R207). -/
  | tarnRowSieve
  /-- TARN_ROW_ENTER_WALK (R211). The finished row enters the walk when fewer than 16 rows are in it (R211). -/
  | tarnRowEnterWalk
  /-- TARN_LANE_TAKE_TREE (R211). A free lane walks the lowest undealt tree of the oldest row (R208 to R212). -/
  | tarnLaneTakeTree
  /-- TARN_REPLY (R215). The reply of the oldest finished row commits (R213 to R215). -/
  | tarnReply
  /-- SHOW_TARN (R223). `show tarn [slot S]`. -/
  | showTarn (r : BRef) (k : Option Nat)
  /-- LOAD_TARN (R219). `load tarn slot S …` (R219, R220, R223). -/
  | loadTarn (r : BRef) (k : Nat) (src : LoadSrc) (replace : Bool) (wait : Bool)
  /-- SET_TARN_SLOT_EMPTY (R223). `set tarn slot S empty`. -/
  | setTarnSlotEmpty (r : BRef) (k : Nat)
  /-- BASIN_MAC_START (R227). The MAC at place `i` of Basin b's queue starts its first slice (R227, R234). -/
  | basinMacStart (b : Nat) (i : Nat)
  /-- BASIN_OP_COMPLETE (R238). The operation at place `i` finishes and its results become final (R226, R230, R232, R238). The surroundings give its corrected errors, words of the store (`ue`) and of HBM (`hue`) that fail, and the rows with a parity error (R243, R244). -/
  | basinOpComplete (b : Nat) (i : Nat) (ce : Nat) (ue : List Nat) (hue : List Nat) (par : List Nat)
  /-- GROUP_BLOCK_FETCH (R236). Group `g` fetches its next 4 KiB block (R236); `ue`: the words that fail. -/
  | groupBlockFetch (g : Nat) (ue : List Nat)
  /-- BASIN_PATROL (R243). The patrol reads and corrects word `w` of Basin b's store (R243): 0 no error, 1 corrected, 2 uncorrectable. -/
  | basinPatrol (b : Nat) (w : Nat) (kind : Nat)
  /-- SHOW_BASIN (R246). `show basin [B]`. -/
  | showBasin (r : BRef) (b : Option Nat)
  /-- SET_BASIN_GROUP (R246). `set basin B group G`. -/
  | setBasinGroup (r : BRef) (b : Nat) (g : Nat)
  /-- SET_BASIN_GROUP_NONE (R246). `set basin B group none`. -/
  | setBasinGroupNone (r : BRef) (b : Nat)
  /-- KERNEL_REQUEST_READ (R266). The kernel of core c reads the request at the front of Sluice 149 + c (R265, R266). -/
  | kernelRequestRead (c : Nat)
  /-- BATCH_CLOSE_TIMER (R266). Open batches of core c whose GATHER or deadline has come close (R266). -/
  | batchCloseTimer (c : Nat)
  /-- DISPATCH_EVALUATE (R381). The Thermocline evaluates the waiting dispatch requests (17 R381); `drawn`: the energy drawn so far in the layer, in µJ. -/
  | dispatchEvaluate (drawn : Nat)
  /-- DISPATCH_GRANT (R267). A grant reaches the kernel of core c, which writes the batch table and enters the program (R267). -/
  | dispatchGrant (c : Nat)
  /-- BUDGET_EXPIRY (R258). The program of core c has run past BUDGET (R258, R293). -/
  | budgetExpiry (c : Nat)
  /-- SLWAIT_TIMEOUT (R262). The timeout of a waiting SLWAIT on core c (R262). -/
  | slwaitTimeout (c : Nat)
  /-- QUEUE_OP_COMPLETE (R293). The operation core c waits on completes, if it can (13 R293); `remote`: pages of peers granted to an append, node and page each (R240); `errs`: memory errors its source meets, address and kind (R243). -/
  | queueOpComplete (c : Nat) (remote : List (Nat × Nat)) (errs : List (Nat × Nat))
  /-- SHOW_LONG (R275). `show long [C]`. -/
  | showLong (r : BRef) (c : Option Nat)
  /-- SHOW_LONG_PROG (R275). `show long C prog P`. -/
  | showLongProg (r : BRef) (c : Nat) (p : Nat)
  /-- LOAD_LONG (R272). `load long prog P …` (R272). -/
  | loadLong (r : BRef) (p : Nat) (src : LoadSrc) (cores : Nat) (replace : Bool) (wait : Bool)
  /-- STOP_LONG (R272). `stop long prog P`. -/
  | stopLong (r : BRef) (p : Nat)
  /-- START_LONG (R272). `start long prog P`. -/
  | startLong (r : BRef) (p : Nat)
  /-- BR (R277). Slot 0: branches by `off` words when the condition holds (R277, R278). -/
  | br (c : Nat) (sl : Nat) (gp : Nat) (gs : Bool) (res : Bool) (off : Int) (more : Bool) (err : Nat)
  /-- JR (R277). Slot 0: branches to the code offset in g[A]. -/
  | jr (c : Nat) (sl : Nat) (gp : Nat) (gs : Bool) (res : Bool) (a : Nat) (more : Bool) (err : Nat)
  /-- CALL (R277). Slot 0: g31 takes the return offset, then as BR. -/
  | call (c : Nat) (sl : Nat) (gp : Nat) (gs : Bool) (res : Bool) (off : Int) (more : Bool) (err : Nat)
  /-- RET (R267). Slot 0: returns to the kernel with status g1, and the batch's replies commit (12 R267, R269). -/
  | ret (c : Nat) (sl : Nat) (gp : Nat) (gs : Bool) (res : Bool) (more : Bool) (err : Nat)
  /-- ERET (R277). Slot 0, kernel only: enters program mode at the chosen entry. -/
  | eret (c : Nat) (sl : Nat) (gp : Nat) (gs : Bool) (res : Bool) (more : Bool) (err : Nat)
  /-- ADD (R280). Scalar, format R (R279 to R281). -/
  | add (c : Nat) (sl : Nat) (gp : Nat) (gs : Bool) (res : Bool) (d : Nat) (a : Nat) (b : Nat) (more : Bool) (err : Nat)
  /-- SUB (R280). Scalar, format R (R279 to R281). -/
  | sub (c : Nat) (sl : Nat) (gp : Nat) (gs : Bool) (res : Bool) (d : Nat) (a : Nat) (b : Nat) (more : Bool) (err : Nat)
  /-- AND (R280). Scalar, format R (R279 to R281). -/
  | andG (c : Nat) (sl : Nat) (gp : Nat) (gs : Bool) (res : Bool) (d : Nat) (a : Nat) (b : Nat) (more : Bool) (err : Nat)
  /-- OR (R280). Scalar, format R (R279 to R281). -/
  | orG (c : Nat) (sl : Nat) (gp : Nat) (gs : Bool) (res : Bool) (d : Nat) (a : Nat) (b : Nat) (more : Bool) (err : Nat)
  /-- XOR (R280). Scalar, format R (R279 to R281). -/
  | xor (c : Nat) (sl : Nat) (gp : Nat) (gs : Bool) (res : Bool) (d : Nat) (a : Nat) (b : Nat) (more : Bool) (err : Nat)
  /-- SHL (R280). Scalar, format R (R279 to R281). -/
  | shl (c : Nat) (sl : Nat) (gp : Nat) (gs : Bool) (res : Bool) (d : Nat) (a : Nat) (b : Nat) (more : Bool) (err : Nat)
  /-- SHR (R280). Scalar, format R (R279 to R281). -/
  | shr (c : Nat) (sl : Nat) (gp : Nat) (gs : Bool) (res : Bool) (d : Nat) (a : Nat) (b : Nat) (more : Bool) (err : Nat)
  /-- SAR (R280). Scalar, format R (R279 to R281). -/
  | sar (c : Nat) (sl : Nat) (gp : Nat) (gs : Bool) (res : Bool) (d : Nat) (a : Nat) (b : Nat) (more : Bool) (err : Nat)
  /-- MIN (R280). Scalar, format R (R279 to R281). -/
  | minG (c : Nat) (sl : Nat) (gp : Nat) (gs : Bool) (res : Bool) (d : Nat) (a : Nat) (b : Nat) (more : Bool) (err : Nat)
  /-- MAX (R280). Scalar, format R (R279 to R281). -/
  | maxG (c : Nat) (sl : Nat) (gp : Nat) (gs : Bool) (res : Bool) (d : Nat) (a : Nat) (b : Nat) (more : Bool) (err : Nat)
  /-- MINU (R280). Scalar, format R (R279 to R281). -/
  | minu (c : Nat) (sl : Nat) (gp : Nat) (gs : Bool) (res : Bool) (d : Nat) (a : Nat) (b : Nat) (more : Bool) (err : Nat)
  /-- MAXU (R280). Scalar, format R (R279 to R281). -/
  | maxu (c : Nat) (sl : Nat) (gp : Nat) (gs : Bool) (res : Bool) (d : Nat) (a : Nat) (b : Nat) (more : Bool) (err : Nat)
  /-- SEL (R280). Scalar, format R: g[A] or g[B] by p[C]. -/
  | sel (c : Nat) (sl : Nat) (gp : Nat) (gs : Bool) (res : Bool) (d : Nat) (a : Nat) (b : Nat) (x : Nat) (more : Bool) (err : Nat)
  /-- POPC (R280). Scalar, format R with B zero. -/
  | popc (c : Nat) (sl : Nat) (gp : Nat) (gs : Bool) (res : Bool) (d : Nat) (a : Nat) (more : Bool) (err : Nat)
  /-- CLZ (R280). Scalar, format R with B zero. -/
  | clz (c : Nat) (sl : Nat) (gp : Nat) (gs : Bool) (res : Bool) (d : Nat) (a : Nat) (more : Bool) (err : Nat)
  /-- MUL (R280). Scalar, format R (R279 to R281). -/
  | mul (c : Nat) (sl : Nat) (gp : Nat) (gs : Bool) (res : Bool) (d : Nat) (a : Nat) (b : Nat) (more : Bool) (err : Nat)
  /-- MULH (R280). Scalar, format R (R279 to R281). -/
  | mulh (c : Nat) (sl : Nat) (gp : Nat) (gs : Bool) (res : Bool) (d : Nat) (a : Nat) (b : Nat) (more : Bool) (err : Nat)
  /-- MULHU (R280). Scalar, format R (R279 to R281). -/
  | mulhu (c : Nat) (sl : Nat) (gp : Nat) (gs : Bool) (res : Bool) (d : Nat) (a : Nat) (b : Nat) (more : Bool) (err : Nat)
  /-- DIV (R281). Scalar, format R (R279 to R281). -/
  | div (c : Nat) (sl : Nat) (gp : Nat) (gs : Bool) (res : Bool) (d : Nat) (a : Nat) (b : Nat) (more : Bool) (err : Nat)
  /-- DIVU (R281). Scalar, format R (R279 to R281). -/
  | divu (c : Nat) (sl : Nat) (gp : Nat) (gs : Bool) (res : Bool) (d : Nat) (a : Nat) (b : Nat) (more : Bool) (err : Nat)
  /-- REM (R281). Scalar, format R (R279 to R281). -/
  | rem (c : Nat) (sl : Nat) (gp : Nat) (gs : Bool) (res : Bool) (d : Nat) (a : Nat) (b : Nat) (more : Bool) (err : Nat)
  /-- REMU (R281). Scalar, format R (R279 to R281). -/
  | remu (c : Nat) (sl : Nat) (gp : Nat) (gs : Bool) (res : Bool) (d : Nat) (a : Nat) (b : Nat) (more : Bool) (err : Nat)
  /-- ADDI (R280). Scalar, format I. -/
  | addi (c : Nat) (sl : Nat) (gp : Nat) (gs : Bool) (res : Bool) (d : Nat) (a : Nat) (imm : Int) (more : Bool) (err : Nat)
  /-- ANDI (R280). Scalar, format I. -/
  | andi (c : Nat) (sl : Nat) (gp : Nat) (gs : Bool) (res : Bool) (d : Nat) (a : Nat) (imm : Int) (more : Bool) (err : Nat)
  /-- ORI (R280). Scalar, format I. -/
  | ori (c : Nat) (sl : Nat) (gp : Nat) (gs : Bool) (res : Bool) (d : Nat) (a : Nat) (imm : Int) (more : Bool) (err : Nat)
  /-- XORI (R280). Scalar, format I. -/
  | xori (c : Nat) (sl : Nat) (gp : Nat) (gs : Bool) (res : Bool) (d : Nat) (a : Nat) (imm : Int) (more : Bool) (err : Nat)
  /-- SHLI (R280). Scalar, format I. -/
  | shli (c : Nat) (sl : Nat) (gp : Nat) (gs : Bool) (res : Bool) (d : Nat) (a : Nat) (imm : Int) (more : Bool) (err : Nat)
  /-- SHRI (R280). Scalar, format I. -/
  | shri (c : Nat) (sl : Nat) (gp : Nat) (gs : Bool) (res : Bool) (d : Nat) (a : Nat) (imm : Int) (more : Bool) (err : Nat)
  /-- SARI (R280). Scalar, format I. -/
  | sari (c : Nat) (sl : Nat) (gp : Nat) (gs : Bool) (res : Bool) (d : Nat) (a : Nat) (imm : Int) (more : Bool) (err : Nat)
  /-- CMPEQ (R280). Scalar, format R (R279 to R281). -/
  | cmpeq (c : Nat) (sl : Nat) (gp : Nat) (gs : Bool) (res : Bool) (d : Nat) (a : Nat) (b : Nat) (more : Bool) (err : Nat)
  /-- CMPNE (R280). Scalar, format R (R279 to R281). -/
  | cmpne (c : Nat) (sl : Nat) (gp : Nat) (gs : Bool) (res : Bool) (d : Nat) (a : Nat) (b : Nat) (more : Bool) (err : Nat)
  /-- CMPLT (R280). Scalar, format R (R279 to R281). -/
  | cmplt (c : Nat) (sl : Nat) (gp : Nat) (gs : Bool) (res : Bool) (d : Nat) (a : Nat) (b : Nat) (more : Bool) (err : Nat)
  /-- CMPLTU (R280). Scalar, format R (R279 to R281). -/
  | cmpltu (c : Nat) (sl : Nat) (gp : Nat) (gs : Bool) (res : Bool) (d : Nat) (a : Nat) (b : Nat) (more : Bool) (err : Nat)
  /-- CMPLE (R280). Scalar, format R (R279 to R281). -/
  | cmple (c : Nat) (sl : Nat) (gp : Nat) (gs : Bool) (res : Bool) (d : Nat) (a : Nat) (b : Nat) (more : Bool) (err : Nat)
  /-- CMPLEU (R280). Scalar, format R (R279 to R281). -/
  | cmpleu (c : Nat) (sl : Nat) (gp : Nat) (gs : Bool) (res : Bool) (d : Nat) (a : Nat) (b : Nat) (more : Bool) (err : Nat)
  /-- CMPEQI (R280). Scalar, format I. -/
  | cmpeqi (c : Nat) (sl : Nat) (gp : Nat) (gs : Bool) (res : Bool) (d : Nat) (a : Nat) (imm : Int) (more : Bool) (err : Nat)
  /-- CMPLTI (R280). Scalar, format I. -/
  | cmplti (c : Nat) (sl : Nat) (gp : Nat) (gs : Bool) (res : Bool) (d : Nat) (a : Nat) (imm : Int) (more : Bool) (err : Nat)
  /-- CMPLTUI (R280). Scalar, format I. -/
  | cmpltui (c : Nat) (sl : Nat) (gp : Nat) (gs : Bool) (res : Bool) (d : Nat) (a : Nat) (imm : Int) (more : Bool) (err : Nat)
  /-- PAND (R280). Scalar, format R (R279 to R281). -/
  | pand (c : Nat) (sl : Nat) (gp : Nat) (gs : Bool) (res : Bool) (d : Nat) (a : Nat) (b : Nat) (more : Bool) (err : Nat)
  /-- POR (R280). Scalar, format R (R279 to R281). -/
  | por (c : Nat) (sl : Nat) (gp : Nat) (gs : Bool) (res : Bool) (d : Nat) (a : Nat) (b : Nat) (more : Bool) (err : Nat)
  /-- PXOR (R280). Scalar, format R (R279 to R281). -/
  | pxor (c : Nat) (sl : Nat) (gp : Nat) (gs : Bool) (res : Bool) (d : Nat) (a : Nat) (b : Nat) (more : Bool) (err : Nat)
  /-- PANDN (R280). Scalar, format R (R279 to R281). -/
  | pandn (c : Nat) (sl : Nat) (gp : Nat) (gs : Bool) (res : Bool) (d : Nat) (a : Nat) (b : Nat) (more : Bool) (err : Nat)
  /-- MOVI (R280). Scalar, format L. -/
  | movi (c : Nat) (sl : Nat) (gp : Nat) (gs : Bool) (res : Bool) (d : Nat) (imm : Int) (more : Bool) (err : Nat)
  /-- MOVH (R280). Scalar, format L: the high 17 bits of g[D]. -/
  | movh (c : Nat) (sl : Nat) (gp : Nat) (gs : Bool) (res : Bool) (d : Nat) (hi : Nat) (more : Bool) (err : Nat)
  /-- MFK (R281). Reads control register K (12 R253). -/
  | mfk (c : Nat) (sl : Nat) (gp : Nat) (gs : Bool) (res : Bool) (g : Nat) (k : Nat) (more : Bool) (err : Nat)
  /-- MTK (R281). Writes control register K, kernel only (12 R253). -/
  | mtk (c : Nat) (sl : Nat) (gp : Nat) (gs : Bool) (res : Bool) (g : Nat) (k : Nat) (more : Bool) (err : Nat)
  /-- LDB (R282). Slot 3, format M: the access at g[A] + OFF (R282, R283; 12 R255, R257). `err`: a memory error it meets, 1 corrected, 2 not. -/
  | ldb (c : Nat) (sl : Nat) (gp : Nat) (gs : Bool) (res : Bool) (t : Nat) (a : Nat) (off : Int) (more : Bool) (err : Nat)
  /-- LDBU (R282). Slot 3, format M: the access at g[A] + OFF (R282, R283; 12 R255, R257). `err`: a memory error it meets, 1 corrected, 2 not. -/
  | ldbu (c : Nat) (sl : Nat) (gp : Nat) (gs : Bool) (res : Bool) (t : Nat) (a : Nat) (off : Int) (more : Bool) (err : Nat)
  /-- LDH (R282). Slot 3, format M: the access at g[A] + OFF (R282, R283; 12 R255, R257). `err`: a memory error it meets, 1 corrected, 2 not. -/
  | ldh (c : Nat) (sl : Nat) (gp : Nat) (gs : Bool) (res : Bool) (t : Nat) (a : Nat) (off : Int) (more : Bool) (err : Nat)
  /-- LDHU (R282). Slot 3, format M: the access at g[A] + OFF (R282, R283; 12 R255, R257). `err`: a memory error it meets, 1 corrected, 2 not. -/
  | ldhu (c : Nat) (sl : Nat) (gp : Nat) (gs : Bool) (res : Bool) (t : Nat) (a : Nat) (off : Int) (more : Bool) (err : Nat)
  /-- LDW (R282). Slot 3, format M: the access at g[A] + OFF (R282, R283; 12 R255, R257). `err`: a memory error it meets, 1 corrected, 2 not. -/
  | ldw (c : Nat) (sl : Nat) (gp : Nat) (gs : Bool) (res : Bool) (t : Nat) (a : Nat) (off : Int) (more : Bool) (err : Nat)
  /-- LDWU (R282). Slot 3, format M: the access at g[A] + OFF (R282, R283; 12 R255, R257). `err`: a memory error it meets, 1 corrected, 2 not. -/
  | ldwu (c : Nat) (sl : Nat) (gp : Nat) (gs : Bool) (res : Bool) (t : Nat) (a : Nat) (off : Int) (more : Bool) (err : Nat)
  /-- LDD (R282). Slot 3, format M: the access at g[A] + OFF (R282, R283; 12 R255, R257). `err`: a memory error it meets, 1 corrected, 2 not. -/
  | ldd (c : Nat) (sl : Nat) (gp : Nat) (gs : Bool) (res : Bool) (t : Nat) (a : Nat) (off : Int) (more : Bool) (err : Nat)
  /-- STB (R282). Slot 3, format M: the access at g[A] + OFF (R282, R283; 12 R255, R257). `err`: a memory error it meets, 1 corrected, 2 not. -/
  | stb (c : Nat) (sl : Nat) (gp : Nat) (gs : Bool) (res : Bool) (t : Nat) (a : Nat) (off : Int) (more : Bool) (err : Nat)
  /-- STH (R282). Slot 3, format M: the access at g[A] + OFF (R282, R283; 12 R255, R257). `err`: a memory error it meets, 1 corrected, 2 not. -/
  | sth (c : Nat) (sl : Nat) (gp : Nat) (gs : Bool) (res : Bool) (t : Nat) (a : Nat) (off : Int) (more : Bool) (err : Nat)
  /-- STW (R282). Slot 3, format M: the access at g[A] + OFF (R282, R283; 12 R255, R257). `err`: a memory error it meets, 1 corrected, 2 not. -/
  | stw (c : Nat) (sl : Nat) (gp : Nat) (gs : Bool) (res : Bool) (t : Nat) (a : Nat) (off : Int) (more : Bool) (err : Nat)
  /-- STD (R282). Slot 3, format M: the access at g[A] + OFF (R282, R283; 12 R255, R257). `err`: a memory error it meets, 1 corrected, 2 not. -/
  | std (c : Nat) (sl : Nat) (gp : Nat) (gs : Bool) (res : Bool) (t : Nat) (a : Nat) (off : Int) (more : Bool) (err : Nat)
  /-- VLD64 (R283). Slot 3, format M, one 64-byte segment. -/
  | vld64 (c : Nat) (sl : Nat) (gp : Nat) (gs : Bool) (res : Bool) (t : Nat) (a : Nat) (seg : Nat) (off : Int) (more : Bool) (err : Nat)
  /-- VLD (R282). Slot 3, format M: the access at g[A] + OFF (R282, R283; 12 R255, R257). `err`: a memory error it meets, 1 corrected, 2 not. -/
  | vld (c : Nat) (sl : Nat) (gp : Nat) (gs : Bool) (res : Bool) (t : Nat) (a : Nat) (off : Int) (more : Bool) (err : Nat)
  /-- VST64 (R282). Slot 3, format M, one 64-byte segment. -/
  | vst64 (c : Nat) (sl : Nat) (gp : Nat) (gs : Bool) (res : Bool) (t : Nat) (a : Nat) (seg : Nat) (off : Int) (more : Bool) (err : Nat)
  /-- VST (R282). Slot 3, format M: the access at g[A] + OFF (R282, R283; 12 R255, R257). `err`: a memory error it meets, 1 corrected, 2 not. -/
  | vst (c : Nat) (sl : Nat) (gp : Nat) (gs : Bool) (res : Bool) (t : Nat) (a : Nat) (off : Int) (more : Bool) (err : Nat)
  /-- TLD (R283). Slot 3, format M: the access at g[A] + OFF (R282, R283; 12 R255, R257). `err`: a memory error it meets, 1 corrected, 2 not. -/
  | tld (c : Nat) (sl : Nat) (gp : Nat) (gs : Bool) (res : Bool) (t : Nat) (a : Nat) (off : Int) (more : Bool) (err : Nat)
  /-- TST (R283). Slot 3, format M: the access at g[A] + OFF (R282, R283; 12 R255, R257). `err`: a memory error it meets, 1 corrected, 2 not. -/
  | tst (c : Nat) (sl : Nat) (gp : Nat) (gs : Bool) (res : Bool) (t : Nat) (a : Nat) (off : Int) (more : Bool) (err : Nat)
  /-- VADD (R284). Vector slot, format V (R284, R285). -/
  | vadd (c : Nat) (sl : Nat) (gp : Nat) (gs : Bool) (res : Bool) (d : Nat) (a : Nat) (b : Nat) (cc : Nat) (w : Nat) (g : Nat) (imm : Nat) (more : Bool) (err : Nat)
  /-- VSUB (R284). Vector slot, format V (R284, R285). -/
  | vsub (c : Nat) (sl : Nat) (gp : Nat) (gs : Bool) (res : Bool) (d : Nat) (a : Nat) (b : Nat) (cc : Nat) (w : Nat) (g : Nat) (imm : Nat) (more : Bool) (err : Nat)
  /-- VADDS (R284). Vector slot, format V (R284, R285). -/
  | vadds (c : Nat) (sl : Nat) (gp : Nat) (gs : Bool) (res : Bool) (d : Nat) (a : Nat) (b : Nat) (cc : Nat) (w : Nat) (g : Nat) (imm : Nat) (more : Bool) (err : Nat)
  /-- VSUBS (R284). Vector slot, format V (R284, R285). -/
  | vsubs (c : Nat) (sl : Nat) (gp : Nat) (gs : Bool) (res : Bool) (d : Nat) (a : Nat) (b : Nat) (cc : Nat) (w : Nat) (g : Nat) (imm : Nat) (more : Bool) (err : Nat)
  /-- VMIN (R284). Vector slot, format V (R284, R285). -/
  | vmin (c : Nat) (sl : Nat) (gp : Nat) (gs : Bool) (res : Bool) (d : Nat) (a : Nat) (b : Nat) (cc : Nat) (w : Nat) (g : Nat) (imm : Nat) (more : Bool) (err : Nat)
  /-- VMAX (R284). Vector slot, format V (R284, R285). -/
  | vmax (c : Nat) (sl : Nat) (gp : Nat) (gs : Bool) (res : Bool) (d : Nat) (a : Nat) (b : Nat) (cc : Nat) (w : Nat) (g : Nat) (imm : Nat) (more : Bool) (err : Nat)
  /-- VAND (R284). Vector slot, format V (R284, R285). -/
  | vand (c : Nat) (sl : Nat) (gp : Nat) (gs : Bool) (res : Bool) (d : Nat) (a : Nat) (b : Nat) (cc : Nat) (w : Nat) (g : Nat) (imm : Nat) (more : Bool) (err : Nat)
  /-- VOR (R284). Vector slot, format V (R284, R285). -/
  | vor (c : Nat) (sl : Nat) (gp : Nat) (gs : Bool) (res : Bool) (d : Nat) (a : Nat) (b : Nat) (cc : Nat) (w : Nat) (g : Nat) (imm : Nat) (more : Bool) (err : Nat)
  /-- VXOR (R284). Vector slot, format V (R284, R285). -/
  | vxor (c : Nat) (sl : Nat) (gp : Nat) (gs : Bool) (res : Bool) (d : Nat) (a : Nat) (b : Nat) (cc : Nat) (w : Nat) (g : Nat) (imm : Nat) (more : Bool) (err : Nat)
  /-- VSHL (R284). Vector slot, format V (R284, R285). -/
  | vshl (c : Nat) (sl : Nat) (gp : Nat) (gs : Bool) (res : Bool) (d : Nat) (a : Nat) (b : Nat) (cc : Nat) (w : Nat) (g : Nat) (imm : Nat) (more : Bool) (err : Nat)
  /-- VSHR (R284). Vector slot, format V (R284, R285). -/
  | vshr (c : Nat) (sl : Nat) (gp : Nat) (gs : Bool) (res : Bool) (d : Nat) (a : Nat) (b : Nat) (cc : Nat) (w : Nat) (g : Nat) (imm : Nat) (more : Bool) (err : Nat)
  /-- VSAR (R284). Vector slot, format V (R284, R285). -/
  | vsar (c : Nat) (sl : Nat) (gp : Nat) (gs : Bool) (res : Bool) (d : Nat) (a : Nat) (b : Nat) (cc : Nat) (w : Nat) (g : Nat) (imm : Nat) (more : Bool) (err : Nat)
  /-- VCMPEQ (R284). Vector slot, format V (R284, R285). -/
  | vcmpeq (c : Nat) (sl : Nat) (gp : Nat) (gs : Bool) (res : Bool) (d : Nat) (a : Nat) (b : Nat) (cc : Nat) (w : Nat) (g : Nat) (imm : Nat) (more : Bool) (err : Nat)
  /-- VCMPLT (R284). Vector slot, format V (R284, R285). -/
  | vcmplt (c : Nat) (sl : Nat) (gp : Nat) (gs : Bool) (res : Bool) (d : Nat) (a : Nat) (b : Nat) (cc : Nat) (w : Nat) (g : Nat) (imm : Nat) (more : Bool) (err : Nat)
  /-- VCMPLTU (R284). Vector slot, format V (R284, R285). -/
  | vcmpltu (c : Nat) (sl : Nat) (gp : Nat) (gs : Bool) (res : Bool) (d : Nat) (a : Nat) (b : Nat) (cc : Nat) (w : Nat) (g : Nat) (imm : Nat) (more : Bool) (err : Nat)
  /-- VSEL (R284). Vector slot, format V (R284, R285). -/
  | vsel (c : Nat) (sl : Nat) (gp : Nat) (gs : Bool) (res : Bool) (d : Nat) (a : Nat) (b : Nat) (cc : Nat) (w : Nat) (g : Nat) (imm : Nat) (more : Bool) (err : Nat)
  /-- VBCAST (R284). Vector slot, format V (R284, R285). -/
  | vbcast (c : Nat) (sl : Nat) (gp : Nat) (gs : Bool) (res : Bool) (d : Nat) (a : Nat) (b : Nat) (cc : Nat) (w : Nat) (g : Nat) (imm : Nat) (more : Bool) (err : Nat)
  /-- VGET (R284). Vector slot, format V (R284, R285). -/
  | vget (c : Nat) (sl : Nat) (gp : Nat) (gs : Bool) (res : Bool) (d : Nat) (a : Nat) (b : Nat) (cc : Nat) (w : Nat) (g : Nat) (imm : Nat) (more : Bool) (err : Nat)
  /-- VPUT (R284). Vector slot, format V (R284, R285). -/
  | vput (c : Nat) (sl : Nat) (gp : Nat) (gs : Bool) (res : Bool) (d : Nat) (a : Nat) (b : Nat) (cc : Nat) (w : Nat) (g : Nat) (imm : Nat) (more : Bool) (err : Nat)
  /-- VMUL (R284). Vector slot, format V (R284, R285). -/
  | vmul (c : Nat) (sl : Nat) (gp : Nat) (gs : Bool) (res : Bool) (d : Nat) (a : Nat) (b : Nat) (cc : Nat) (w : Nat) (g : Nat) (imm : Nat) (more : Bool) (err : Nat)
  /-- VADDF (R285). Vector slot, format V (R284, R285). -/
  | vaddf (c : Nat) (sl : Nat) (gp : Nat) (gs : Bool) (res : Bool) (d : Nat) (a : Nat) (b : Nat) (cc : Nat) (w : Nat) (g : Nat) (imm : Nat) (more : Bool) (err : Nat)
  /-- VSUBF (R285). Vector slot, format V (R284, R285). -/
  | vsubf (c : Nat) (sl : Nat) (gp : Nat) (gs : Bool) (res : Bool) (d : Nat) (a : Nat) (b : Nat) (cc : Nat) (w : Nat) (g : Nat) (imm : Nat) (more : Bool) (err : Nat)
  /-- VMULF (R285). Vector slot, format V (R284, R285). -/
  | vmulf (c : Nat) (sl : Nat) (gp : Nat) (gs : Bool) (res : Bool) (d : Nat) (a : Nat) (b : Nat) (cc : Nat) (w : Nat) (g : Nat) (imm : Nat) (more : Bool) (err : Nat)
  /-- VMINF (R285). Vector slot, format V (R284, R285). -/
  | vminf (c : Nat) (sl : Nat) (gp : Nat) (gs : Bool) (res : Bool) (d : Nat) (a : Nat) (b : Nat) (cc : Nat) (w : Nat) (g : Nat) (imm : Nat) (more : Bool) (err : Nat)
  /-- VMAXF (R285). Vector slot, format V (R284, R285). -/
  | vmaxf (c : Nat) (sl : Nat) (gp : Nat) (gs : Bool) (res : Bool) (d : Nat) (a : Nat) (b : Nat) (cc : Nat) (w : Nat) (g : Nat) (imm : Nat) (more : Bool) (err : Nat)
  /-- VCMPLTF (R285). Vector slot, format V (R284, R285). -/
  | vcmpltf (c : Nat) (sl : Nat) (gp : Nat) (gs : Bool) (res : Bool) (d : Nat) (a : Nat) (b : Nat) (cc : Nat) (w : Nat) (g : Nat) (imm : Nat) (more : Bool) (err : Nat)
  /-- VCMPEQF (R285). Vector slot, format V (R284, R285). -/
  | vcmpeqf (c : Nat) (sl : Nat) (gp : Nat) (gs : Bool) (res : Bool) (d : Nat) (a : Nat) (b : Nat) (cc : Nat) (w : Nat) (g : Nat) (imm : Nat) (more : Bool) (err : Nat)
  /-- VCVTIF (R285). Vector slot, format V (R284, R285). -/
  | vcvtif (c : Nat) (sl : Nat) (gp : Nat) (gs : Bool) (res : Bool) (d : Nat) (a : Nat) (b : Nat) (cc : Nat) (w : Nat) (g : Nat) (imm : Nat) (more : Bool) (err : Nat)
  /-- VCVTFI (R285). Vector slot, format V (R284, R285). -/
  | vcvtfi (c : Nat) (sl : Nat) (gp : Nat) (gs : Bool) (res : Bool) (d : Nat) (a : Nat) (b : Nat) (cc : Nat) (w : Nat) (g : Nat) (imm : Nat) (more : Bool) (err : Nat)
  /-- VPACKS (R285). Vector slot, format V (R284, R285). -/
  | vpacks (c : Nat) (sl : Nat) (gp : Nat) (gs : Bool) (res : Bool) (d : Nat) (a : Nat) (b : Nat) (cc : Nat) (w : Nat) (g : Nat) (imm : Nat) (more : Bool) (err : Nat)
  /-- VPACKF (R285). Vector slot, format V (R284, R285). -/
  | vpackf (c : Nat) (sl : Nat) (gp : Nat) (gs : Bool) (res : Bool) (d : Nat) (a : Nat) (b : Nat) (cc : Nat) (w : Nat) (g : Nat) (imm : Nat) (more : Bool) (err : Nat)
  /-- VPACKB (R285). Vector slot, format V (R284, R285). -/
  | vpackb (c : Nat) (sl : Nat) (gp : Nat) (gs : Bool) (res : Bool) (d : Nat) (a : Nat) (b : Nat) (cc : Nat) (w : Nat) (g : Nat) (imm : Nat) (more : Bool) (err : Nat)
  /-- VUNPK (R285). Vector slot, format V (R284, R285). -/
  | vunpk (c : Nat) (sl : Nat) (gp : Nat) (gs : Bool) (res : Bool) (d : Nat) (a : Nat) (b : Nat) (cc : Nat) (w : Nat) (g : Nat) (imm : Nat) (more : Bool) (err : Nat)
  /-- VUNPKF (R285). Vector slot, format V (R284, R285). -/
  | vunpkf (c : Nat) (sl : Nat) (gp : Nat) (gs : Bool) (res : Bool) (d : Nat) (a : Nat) (b : Nat) (cc : Nat) (w : Nat) (g : Nat) (imm : Nat) (more : Bool) (err : Nat)
  /-- VUNPKB (R285). Vector slot, format V (R284, R285). -/
  | vunpkb (c : Nat) (sl : Nat) (gp : Nat) (gs : Bool) (res : Bool) (d : Nat) (a : Nat) (b : Nat) (cc : Nat) (w : Nat) (g : Nat) (imm : Nat) (more : Bool) (err : Nat)
  /-- VRCP (R285). Vector slot, format V (R284, R285). -/
  | vrcp (c : Nat) (sl : Nat) (gp : Nat) (gs : Bool) (res : Bool) (d : Nat) (a : Nat) (b : Nat) (cc : Nat) (w : Nat) (g : Nat) (imm : Nat) (more : Bool) (err : Nat)
  /-- VSQRT (R285). Vector slot, format V (R284, R285). -/
  | vsqrt (c : Nat) (sl : Nat) (gp : Nat) (gs : Bool) (res : Bool) (d : Nat) (a : Nat) (b : Nat) (cc : Nat) (w : Nat) (g : Nat) (imm : Nat) (more : Bool) (err : Nat)
  /-- VEXP (R285). Vector slot, format V (R284, R285). -/
  | vexp (c : Nat) (sl : Nat) (gp : Nat) (gs : Bool) (res : Bool) (d : Nat) (a : Nat) (b : Nat) (cc : Nat) (w : Nat) (g : Nat) (imm : Nat) (more : Bool) (err : Nat)
  /-- VRSUM (R285). Vector slot, format V (R284, R285). -/
  | vrsum (c : Nat) (sl : Nat) (gp : Nat) (gs : Bool) (res : Bool) (d : Nat) (a : Nat) (b : Nat) (cc : Nat) (w : Nat) (g : Nat) (imm : Nat) (more : Bool) (err : Nat)
  /-- VRMAX (R285). Vector slot, format V (R284, R285). -/
  | vrmax (c : Nat) (sl : Nat) (gp : Nat) (gs : Bool) (res : Bool) (d : Nat) (a : Nat) (b : Nat) (cc : Nat) (w : Nat) (g : Nat) (imm : Nat) (more : Bool) (err : Nat)
  /-- VRSUMF (R285). Vector slot, format V (R284, R285). -/
  | vrsumf (c : Nat) (sl : Nat) (gp : Nat) (gs : Bool) (res : Bool) (d : Nat) (a : Nat) (b : Nat) (cc : Nat) (w : Nat) (g : Nat) (imm : Nat) (more : Bool) (err : Nat)
  /-- VRMAXF (R285). Vector slot, format V (R284, R285). -/
  | vrmaxf (c : Nat) (sl : Nat) (gp : Nat) (gs : Bool) (res : Bool) (d : Nat) (a : Nat) (b : Nat) (cc : Nat) (w : Nat) (g : Nat) (imm : Nat) (more : Bool) (err : Nat)
  /-- TACC (R286). Slot 6: ACC (R286; 11 R226). -/
  | tacc (c : Nat) (sl : Nat) (gp : Nat) (gs : Bool) (res : Bool) (bank : Nat) (t : Nat) (td : Nat) (init : Bool) (type : Bool) (ncol : Nat) (more : Bool) (err : Nat)
  /-- TMAC (R286). Slot 6: MAC of tile A with the stream on handle H (R286; 11 R229, R230). -/
  | tmac (c : Nat) (sl : Nat) (gp : Nat) (gs : Bool) (res : Bool) (bank : Nat) (a : Nat) (h : Nat) (more : Bool) (err : Nat)
  /-- TDRN (R286). Slot 6: DRAIN to tile D (R286; 11 R232). -/
  | tdrn (c : Nat) (sl : Nat) (gp : Nat) (gs : Bool) (res : Bool) (bank : Nat) (t : Nat) (dfmt : Nat) (gm : Nat) (gf : Nat) (more : Bool) (err : Nat)
  /-- TWAIT (R256). Slot 6: waits until every issued tile operation has finished (12 R256). -/
  | twait (c : Nat) (sl : Nat) (gp : Nat) (gs : Bool) (res : Bool) (more : Bool) (err : Nat)
  /-- TSET (R286). Slot 6: writes one field of a tile descriptor (R286). -/
  | tset (c : Nat) (sl : Nat) (gp : Nat) (gs : Bool) (res : Bool) (t : Nat) (field : Nat) (g : Nat) (more : Bool) (err : Nat)
  /-- SOPEN (R290). Slot 7: opens a stream on a handle (R289, R290; 11 R235, R242). -/
  | sopen (c : Nat) (sl : Nat) (gp : Nat) (gs : Bool) (res : Bool) (h : Nat) (src : Nat) (grp : Bool) (a : Nat) (b : Nat) (lay : Nat) (ncol : Nat) (more : Bool) (err : Nat)
  /-- SCLOSE (R289). Slot 7: ends a handle's stream no TMAC has named (R289). -/
  | sclose (c : Nat) (sl : Nat) (gp : Nat) (gs : Bool) (res : Bool) (h : Nat) (more : Bool) (err : Nat)
  /-- SLRD (R289). Slot 7: reads a Sluice word (R289; 12 R261). -/
  | slrd (c : Nat) (sl : Nat) (gp : Nat) (gs : Bool) (res : Bool) (v : Nat) (seg : Nat) (g : Nat) (idx : Nat) (more : Bool) (err : Nat)
  /-- SLWR (R291). Slot 7: writes a Sluice word (R289, R291). -/
  | slwr (c : Nat) (sl : Nat) (gp : Nat) (gs : Bool) (res : Bool) (v : Nat) (seg : Nat) (idx : Nat) (first : Bool) (last : Bool) (valid : Nat) (more : Bool) (err : Nat)
  /-- SLWAIT (R262). Slot 7: waits for a packet, or g[G] gu (12 R262). -/
  | slwait (c : Nat) (sl : Nat) (gp : Nat) (gs : Bool) (res : Bool) (g : Nat) (idx : Nat) (more : Bool) (err : Nat)
  /-- SLDROP (R289). Slot 7: DROP (R289). -/
  | sldrop (c : Nat) (sl : Nat) (gp : Nat) (gs : Bool) (res : Bool) (idx : Nat) (more : Bool) (err : Nat)
  /-- SINIT (R292). Slot 7: opens a session (R292). -/
  | sinit (c : Nat) (sl : Nat) (gp : Nat) (gs : Bool) (res : Bool) (a : Nat) (b : Nat) (more : Bool) (err : Nat)
  /-- SAPP (R292). Slot 7: appends rows to a session (R292; 11 R240). -/
  | sapp (c : Nat) (sl : Nat) (gp : Nat) (gs : Bool) (res : Bool) (a : Nat) (b : Nat) (n : Nat) (more : Bool) (err : Nat)
  /-- SFREE (R292). Slot 7: frees a session's pages (R292). -/
  | sfree (c : Nat) (sl : Nat) (gp : Nat) (gs : Bool) (res : Bool) (a : Nat) (more : Bool) (err : Nat)
  /-- MERE_REFRESH (R297). Bank b refreshes one row at its Gauge value (R297); nothing at another. -/
  | mereRefresh (b : Nat)
  /-- MERE_PATROL (R298). The patrol reads word w of bank b; kind: 0 good, 1 a single-bit error, 2 a double-bit error (R298). -/
  | merePatrol (b : Nat) (w : Nat) (kind : Nat)
  /-- SIPHON_JOB (R301). The Siphon takes the next job of core c, of the siphon noun (c = 8) or of service Sluice 240 + c − 9, where its turn it is, checks it (R299, R301), and has written so many bytes of it (R302); `errs`: memory errors its reads meet, address and kind. -/
  | siphonJob (c : Nat) (written : Nat) (errs : List (Nat × Nat))
  /-- SIPHON_COMPLETION (R303). Job i in progress ends and its completion commits (R303, R304). -/
  | siphonCompletion (i : Nat)
  /-- SIPHON_ABORT_REPORT (R305). After a reset the READY Siphon commits an ABORTED completion before it takes any new job (R305). -/
  | siphonAbortReport
  /-- SHOW_MERE (R311). `show mere`. -/
  | showMere (r : BRef)
  /-- READ_MERE (R311). `read mere A [length N]`. -/
  | readMere (r : BRef) (a : Nat) (len : Option Nat)
  /-- SHOW_SIPHON (R311). `show siphon`. -/
  | showSiphon (r : BRef)
  /-- COPY_SIPHON (R311). `copy siphon src SP:A dst SP:A len L [rows R] [sstride S] [dstride D] [wait]`; spaces 0 mere, 1 hbm, 2 basin, 3 sluice. -/
  | copySiphon (r : BRef) (ssp : Nat) (sb : Nat) (src : Nat) (dsp : Nat) (db : Nat) (dst : Nat) (len : Nat) (rows : Option Nat) (ss : Option Int) (ds : Option Int) (wait : Bool)
  /-- SHOW_HBM (R311). `show hbm [stack H]`. -/
  | showHbm (r : BRef) (h : Option Nat)
  /-- SET_HBM_LEDGER (R308). `set hbm ledger L sessions S` (R308). -/
  | setHbmLedger (r : BRef) (l : Nat) (n : Nat)
  /-- SET_HBM_REPAIR (R309). `set hbm repair A` (R309). -/
  | setHbmRepair (r : BRef) (a : Nat)
  /-- BIAS_OVERLOAD (R314). A load above 4 mA on supply A (k = 1) or B (k = 2) has lasted 100 us (R314). -/
  | biasOverload (k : Nat)
  /-- INPUT_RAMP_END (R315). Input n reaches full operation 2 ms after power-up (R315); nothing before that. -/
  | inputRampEnd (n : Nat)
  /-- WELL_FRAME_BOUNDARY (R318). The frame in progress ends with what the decimators of its channels have computed, x, in units of 2⁻¹⁶ of a sample step (R316, R317), and pending changes take effect (R318 to R320). -/
  | wellFrameBoundary (x : List (List Int))
  /-- SEEP_HOP (R326). A 10 ms hop of the listen input ends; x: what its decimator has computed, in units of 2⁻¹⁶ of a sample step (R326, R327). -/
  | seepHop (x : List Int)
  /-- SEEP_TRIGGER (R325). NTRIG consecutive active hops make LSTATE RIPPLE (R325). -/
  | seepTrigger
  /-- HANG_ZEROISE (R326). HANG consecutive inactive hops in SEEP zeroise the ring (R326). -/
  | hangZeroise
  /-- RIPPLE_EVALUATION (R327). Ripple evaluates its model over the feature history; a score at or above RTHR is a wake (R327, R328). -/
  | rippleEvaluation
  /-- RIPPLE_TIMEOUT (R325). RTIME hops in RIPPLE without acceptance (R325). -/
  | rippleTimeout
  /-- WAKE_DRAIN_START (R328). The drain of the ring starts once the unit is READY (R328). -/
  | wakeDrainStart
  /-- DRAIN_FRAME_EMIT (R328). The drain commits its next frame, at most one per 8 ticks (R328). -/
  | drainFrameEmit
  /-- WELL_FRAME_ADMIT (R329). The Weir admits the frame at the front of Sluice 165, or discards it (R329, R333). -/
  | wellFrameAdmit
  /-- WAKE_DECISION (R330). The verdict released for the LASTPRE frame decides the wake (R330). -/
  | wakeDecision
  /-- WHANG_EXPIRY (R325). WHANG consecutive inactive hops in AWAKE (R325). -/
  | whangExpiry
  /-- OPENTTL_EXPIRY (R330). LASTPRE has not been released by OPENTTL after the wake (R330); nothing before that. -/
  | openttlExpiry
  /-- FRAME_STAGE_FEATURES (R324). The feature engine replies for stage i of the item of record l (R321 to R324). -/
  | frameStageFeatures (l : Nat) (i : Nat)
  /-- LISTEN_WRITE (R325). A write of WELL_CFG LISTEN (R325, R331). -/
  | listenWrite (v : Nat)
  /-- WELL_CTL_DRAIN (R332). WELL_CTL DRAIN is written 1 (R332). -/
  | wellCtlDrain
  /-- WELL_CTL_FORGET (R331). WELL_CTL FORGET is written 1 (R331). -/
  | wellCtlForget
  /-- SHOW_AUDIO (R337). `show audio`. -/
  | showAudio (r : BRef)
  /-- SET_AUDIO (R337). `set audio [rate] [flen] [listen] [mic M] [stream S]`, by register codes. -/
  | setAudio (r : BRef) (rate : Option Nat) (flen : Option Nat) (listen : Option Nat) (mic : Option Nat) (stream : Option Nat)
  /-- SET_AUDIO_IN (R337). `set audio in N [gain G] [bias a/b/none]`; the gain in tenths of a dB, bias 0 none, 1 a, 2 b. -/
  | setAudioIn (r : BRef) (n : Nat) (gain : Option Nat) (bias : Option Nat)
  /-- SET_AUDIO_BIAS (R337). `set audio bias a/b [volts V] [on/off]`; the voltage in tenths of a volt. -/
  | setAudioBias (r : BRef) (b : Bool) (volts : Option Nat) (on : Option Bool)
  /-- SET_AUDIO_CHAN (R337). `set audio chan C in N/off`. -/
  | setAudioChan (r : BRef) (c : Nat) (n : Option Nat)
  /-- SET_AUDIO_SEEP (R337). `set audio seep [ethr E] [zmin Z] [zmax Z] [ntrig N] [hang H]`. -/
  | setAudioSeep (r : BRef) (ethr : Option Nat) (zmin : Option Nat) (zmax : Option Nat) (ntrig : Option Nat) (hang : Option Nat)
  /-- SET_AUDIO_RIPPLE (R337). `set audio ripple [thr T] [time N] [whang N] [ttl T]`; the threshold as its 32-bit word, ttl in gauge units. -/
  | setAudioRipple (r : BRef) (thr : Option Nat) (time : Option Nat) (whang : Option Nat) (ttl : Option Nat)
  /-- SET_AUDIO_PACK (R335). `set audio pack image N [wait]` (R335). -/
  | setAudioPack (r : BRef) (n : Nat) (wait : Bool)
  /-- SET_AUDIO_DRAIN (R332). `set audio drain` (R332). -/
  | setAudioDrain (r : BRef)
  /-- FORGET_AUDIO (R331). `forget audio` (R331). -/
  | forgetAudio (r : BRef)
  /-- LINK_TRAIN_DONE (R340). All four lanes of link j are equalised (R340). -/
  | linkTrainDone (j : Nat)
  /-- LINK_ALIGN_LOCK (R340). FEC and alignment lock are held on all lanes of link j (R340). -/
  | linkAlignLock (j : Nat)
  /-- HELLO_SEND (R341). Link j sends its HELLO frame every 9,216 gu (R341); nothing before that. -/
  | helloSend (j : Nat)
  /-- HELLO_FRAME_RECEIVE (R341). The bytes of a HELLO frame arrive on link j (R341). -/
  | helloFrameReceive (j : Nat) (b : List Byte)
  /-- KEY_FRAME_RECEIVE (R356). The bytes of a KEY frame arrive on link j (R356). -/
  | keyFrameReceive (j : Nat) (b : List Byte)
  /-- KEY_RESEND (R356). Link j repeats its KEY frame every 92,160 gu (R356); nothing before that. -/
  | keyResend (j : Nat)
  /-- FRAME_RECEIVE (R344). The bytes of a frame arrive on link j; fec: its codeword was uncorrectable (R343, R344). -/
  | frameReceive (j : Nat) (fec : Bool) (b : List Byte)
  /-- ACK_TIMER (R344). Link j returns ACKSEQ at least every 9,216 gu (R344). -/
  | ackTimer (j : Nat)
  /-- REPLAY_TIMEOUT (R344). 18,432 gu pass without an advance while frames are unacknowledged (R344). -/
  | replayTimeout (j : Nat)
  /-- LINK_FAILURE (R345). Link j has replayed a frame 16 times, or lost alignment lock for 92,160 gu (R345). -/
  | linkFailure (j : Nat) (lock : Bool)
  /-- LINK_AUTO_RESET (R345). With LCFG AUTO the Shore agent resets link j 92,160,000 gu after it faulted (R345). -/
  | linkAutoReset (j : Nat)
  /-- JETTY_TRANSMIT_GRANT (R348). Transmitter j grants a waiting packet by the 16-slot schedule (R346, R348). -/
  | jettyTransmitGrant (j : Nat)
  /-- JETTY_ROUTE_WRITE (R351). A write of JETTY_ROUTEn (R349 to R352). -/
  | jettyRouteWrite (n : Nat) (v : Nat)
  /-- JETTY_TRUNK_WRITE (R350). A write of one half of JETTY_TRUNKt (R350, R352). -/
  | jettyTrunkWrite (t : Nat) (hi : Bool) (v : Nat)
  /-- DRAIN_MARKER_RECEIVE (R351). A DRAIN marker at the head of a receive lane of link j is served (R351, R353). -/
  | drainMarkerReceive (j : Nat) (vl : Nat)
  /-- DRAINACK_RECEIVE (R351). A DRAINACK at the head of a receive lane of link j is served (R351). -/
  | drainackReceive (j : Nat) (vl : Nat)
  /-- FENCE_TIMEOUT (R351). The fence of destination n stays unacknowledged for 9,216,000 gu (R351); nothing before that. -/
  | fenceTimeout (n : Nat)
  /-- KEY_WORD_WRITE (R367). A write of JETTY_KEYk_w of link j (R355, R367). -/
  | keyWordWrite (j : Nat) (k : Nat) (w : Nat) (v : Nat)
  /-- KEY_CLEAR (R367). KCTL CLRk of link j is written 1 (R355). -/
  | keyClear (j : Nat) (k : Nat)
  /-- KEY_USE (R357). KCTL USE of link j is written 1 with slot k (R357). -/
  | keyUse (j : Nat) (k : Nat)
  /-- MEM_REQUEST (R358). The memory server answers the oldest MEM request delivered; lent: Shore firmware has lent its page to the requester (R358). -/
  | memRequest (lent : Bool)
  /-- MEMTO_EXPIRY (R359). A MEM request has stayed unanswered for JETTY_MEMTO gu (R359); nothing before that. -/
  | memtoExpiry (tag : Nat)
  /-- FERRY_TOKEN_RECEIVE (R361). The bytes of a token packet reach this stop (R361, R363). -/
  | ferryTokenReceive (b : List Byte)
  /-- FERRY_BLOCK_RECEIVE (R363). The bytes of a block packet reach this stop (R360, R362, R363). -/
  | ferryBlockReceive (b : List Byte)
  /-- FERRY_BLOCK_FORWARD (R362). The block in hand longest is forwarded to NEXT, or absorbed where NEXT owns it (R361, R362). -/
  | ferryBlockForward (absorb : Bool)
  /-- FERRY_OPEN_TIMEOUT (R364). Block 0 of the slot core c waits for has not come within FERRY_REVB (R364). -/
  | ferryOpenTimeout (c : Nat)
  /-- FERRY_BREAK (R365). The token has not returned to stop 0, or nothing has arrived here, for 2 x REVB (R365). -/
  | ferryBreak
  /-- LIST_LINK (R369). `list link`. -/
  | listLink (r : BRef)
  /-- SHOW_LINK (R369). `show link N`. -/
  | showLink (r : BRef) (j : Nat)
  /-- SHOW_LINK_ROUTE (R369). `show link route D`. -/
  | showLinkRoute (r : BRef) (n : Nat)
  /-- UP_LINK (R369). `up link N [enc on/off] [gen G] [wait]`. -/
  | upLink (r : BRef) (j : Nat) (enc : Option Bool) (gen : Option Nat) (wait : Bool)
  /-- DOWN_LINK (R369). `down link N [gen G] [wait]`. -/
  | downLink (r : BRef) (j : Nat) (gen : Option Nat) (wait : Bool)
  /-- KEY_LINK_SLOT (R369). `key link N slot S k0 K k1 K k2 K k3 K`, the lowest first. -/
  | keyLinkSlot (r : BRef) (j : Nat) (k : Nat) (k0 : Nat) (k1 : Nat) (k2 : Nat) (k3 : Nat)
  /-- KEY_LINK_CLEAR (R369). `key link N clear S`. -/
  | keyLinkClear (r : BRef) (j : Nat) (k : Nat)
  /-- KEY_LINK_USE (R369). `key link N use S`. -/
  | keyLinkUse (r : BRef) (j : Nat) (k : Nat)
  /-- SHOW_FERRY (R370). `show ferry`. -/
  | showFerry (r : BRef)
  /-- SET_FERRY (R370). `set ferry [ring R] [index I] [stops N] [slots S] [next X] [revb T] [hold T]`, times in gu. -/
  | setFerry (r : BRef) (ring : Option Nat) (index : Option Nat) (stops : Option Nat) (slots : Option Nat) (next : Option Nat) (revb : Option Nat) (hold : Option Nat)
  /-- SET_FERRY_OWN (R370). `set ferry own K slot S hbm A len L`. -/
  | setFerryOwn (r : BRef) (k : Nat) (n : Nat) (a : Nat) (l : Nat)
  /-- START_FERRY (R370). `start ferry`. -/
  | startFerry (r : BRef)
  /-- STOP_FERRY (R370). `stop ferry`. -/
  | stopFerry (r : BRef)
  /-- SENSOR_SAMPLE (R372). Sensor n gives a sample in units of 0.25 C, or misses it (R371, R372). -/
  | sensorSample (n : Nat) (x : Option Int)
  /-- LAYER_BOUNDARY (R377). The layer ends with em uJ drawn and the rung of the next is set; ack: the regulator acknowledges a VDD_CORE write (R371 to R378, 20 R466). -/
  | layerBoundary (em : Nat) (ack : Bool)
  /-- STEP_RAISE_SWITCH (R378). VDD_CORE has settled for a higher step (R378); nothing before that. -/
  | stepRaiseSwitch
  /-- ENTER_ICE (R389). `enter ice [wait]`. -/
  | enterIce (r : BRef) (wait : Bool)
  /-- THERM_ICE_ENTER (R389). THERM_ICE ENTER is written 1 (R389). -/
  | thermIceEnter
  /-- ICE_AUTO_IDLE (R389). With AUTO the part has been idle for THERM_ICEIDLE (R389); nothing before that. -/
  | iceAutoIdle
  /-- ICE_QUIESCED (R389). The part is quiet and the Thermocline asks the next unit to go to ICE (R389). -/
  | iceQuiesced
  /-- ICE_UNITS_IN_ICE (R389). Every requested unit is in ICE and VDD_CORE is lowered (R389). -/
  | iceUnitsInIce
  /-- ICE_PLL_BYPASS (R389). 460,800 gu later the PLL is bypassed at the next aligned tick end (R389); nothing before that. -/
  | icePllBypass
  /-- ICE_WAIT_EXPIRY (R393). THERM_ICEWAIT expires before the part is quiet (R393); nothing before that. -/
  | iceWaitExpiry
  /-- LEAVE_ICE (R391). `leave ice [wait]`. -/
  | leaveIce (r : BRef) (wait : Bool)
  /-- THERM_ICE_LEAVE (R391). THERM_ICE LEAVE is written 1 (R391, R393). -/
  | thermIceLeave
  /-- ICE_WAKE_TIMER (R391). THERM_ICEWAKE has elapsed in Ice (R391); nothing before that. -/
  | iceWakeTimer
  /-- ICE_EXIT (R392). The exit begins: the PLL is powered and VDD_CORE raised (R392). -/
  | iceExit
  /-- ICE_EXIT_CLOCK_SWITCH (R392). The PLL has locked and CCLK is to switch; then the units are called back, one in a tick (R392). -/
  | iceExitClockSwitch
  /-- SHOW_THERMO (R395). `show thermo`. -/
  | showThermo (r : BRef)
  /-- SET_THERMO (R395). `set thermo` with the values it names, times in gu. -/
  | setThermo (r : BRef) (plimit : Option Nat) (rungmax : Option Nat) (deferprio : Option Nat) (eweight : Option Nat) (urgent : Option Nat) (efirst : Option Nat) (ecost : Option (Nat × Nat)) (iceauto : Option Nat) (iceidle : Option Nat) (icewait : Option Nat) (icewake : Option Nat)
  /-- SHOW_ICE (R395). `show ice`. -/
  | showIce (r : BRef)
  /-- REPLAY_DISPATCH (R404). A stage marked for replay is dispatched again once its unit is READY; or, with a payload, the payload of a REFETCH has been read again. -/
  | replayDispatch (l : Nat) (i : Nat) (payload : Option (List Byte))
  /-- ORPHAN_EXPIRY (R407). The orphaned entry of record l is older than LEDG_ORPHTTL and is dropped (R407); nothing before that. -/
  | orphanExpiry (l : Nat)
  /-- MIRROR_PACKET_RECEIVE (R410). The Ledger serves the mirror write or retirement (OP 0, 3) at the front of Sluice 167 (R410). -/
  | mirrorPacketReceive
  /-- MIRROR_ACK (R410). The Ledger takes the acknowledgement or refusal (OP 1, 2) at the front of Sluice 167 (R410). -/
  | mirrorAck
  /-- MIRROR_TIMEOUT (R410). The mirror write of sequence number q is unacknowledged after LEDG_MIRTO (R410); nothing before that. -/
  | mirrorTimeout (q : Nat)
  /-- MIRROR_FETCH_REQUEST (R411). The Ledger serves the fetch request (OP 5) at the front of Sluice 167 (R411). -/
  | mirrorFetchRequest
  /-- MIRROR_FETCH_DATA (R411). The Ledger takes the fetch data or its end (OP 4, 6) at the front of Sluice 167 (R411, R412). -/
  | mirrorFetchData
  /-- MIRROR_FETCH_TIMEOUT (R411). A fetch stays unanswered for 92,160,000 gu (R411); nothing before that. -/
  | mirrorFetchTimeout
  /-- LEDGER_CFG_WRITE (R408). A write of LEDG_CFG (R408, R414). -/
  | ledgerCfgWrite (v : Nat)
  /-- LEDGER_PEER_WRITE (R408). A write of LEDG_PEER (R408, R414). -/
  | ledgerPeerWrite (v : Nat)
  /-- SHOW_LEDGER (R415). `show ledger`. -/
  | showLedger (r : BRef)
  /-- SHOW_LEDGER_LIDX (R415). `show ledger lidx N`. -/
  | showLedgerLidx (r : BRef) (l : Nat)
  /-- SET_LEDGER (R415). `set ledger [maxreplay N] [mirror on/off] [peer N/none] [serve 0/1] [ttl T] [mirto T]`, times in gu. -/
  | setLedger (r : BRef) (maxreplay : Option Nat) (mirror : Option Bool) (peer : Option (Option Nat)) (serve : Option Nat) (ttl : Option Nat) (mirto : Option Nat)
  /-- FETCH_LEDGER_MIRROR (R411). `fetch ledger mirror [wait]` (R411). -/
  | fetchLedgerMirror (r : BRef) (wait : Bool)
  /-- NV_RECORD_WRITE (R419). Shore firmware writes a record of a kind as it now stands. -/
  | nvRecordWrite (kind : Nat)
  /-- NV_PAGE_COMPLETE (R419). The flash operation under way completes, or the flash reports it failed. -/
  | nvPageComplete (good : Bool)
  /-- EVENT_RECORD_FLUSH (R423). Shore firmware writes the collected EVENT entries, if a second has passed. -/
  | eventRecordFlush
  /-- RECOVERY_GO (R432). A write of BOOT_RECOVER GO; no effect outside recovery. `hbmBad`: stacks that fail training. -/
  | recoveryGo (hbmBad : Nat)
  /-- SHOW_NV (R445). `show nv`. -/
  | showNv (r : BRef)
  /-- READ_NV (R445). `read nv A [length N]`. -/
  | readNv (r : BRef) (a : Nat) (len : Option Nat)
  /-- SHOW_FIRMWARE (R445). `show firmware`. -/
  | showFirmware (r : BRef)
  /-- SHOW_FIRMWARE_IMAGES (R445). `show firmware images`. -/
  | showFirmwareImages (r : BRef)
  /-- LOAD_FIRMWARE_SLOT (R434). `load firmware shore|kernel mere A [wait]`. -/
  | loadFirmwareSlot (r : BRef) (kernel : Bool) (a : Nat) (wait : Bool)
  /-- LOAD_FIRMWARE_IMAGE (R433). `load firmware image N mere|hbm A [wait]`. -/
  | loadFirmwareImage (r : BRef) (n : Nat) (hbm : Bool) (a : Nat) (wait : Bool)
  /-- LOAD_FIRMWARE_CONFIG (R435). `load firmware config mere A length L [wait]`. -/
  | loadFirmwareConfig (r : BRef) (a : Nat) (len : Nat) (wait : Bool)
  /-- SELECT_FIRMWARE_SLOT (R431). `select firmware shore|kernel a|b`. -/
  | selectFirmwareSlot (r : BRef) (kernel : Bool) (toB : Bool)
  /-- SELECT_FIRMWARE_IMAGE (R445). `select firmware image N a|b`. -/
  | selectFirmwareImage (r : BRef) (n : Nat) (toB : Bool)
  /-- ACCEPT_FIRMWARE (R430). `accept firmware`. -/
  | acceptFirmware (r : BRef)
  /-- SHOW_SEAL (R445). `show seal`. -/
  | showSeal (r : BRef)
  /-- EXTEST (R469). EXTEST is selected and a scan leaves `cells` in the boundary register; `levels` are what it captured. -/
  | extest (levels : Nat) (cells : Nat)
  /-- SAMPLE_PRELOAD (R469). SAMPLE/PRELOAD is selected and a scan leaves `cells` in the boundary register; `levels` are what it captured. -/
  | samplePreload (levels : Nat) (cells : Nat)
  /-- IDCODE (R469). IDCODE is selected and the identification register leaves. -/
  | idcode
  /-- BYPASS (R443). The code of BYPASS, or one that the port does not offer, is selected and `n` bits pass through. -/
  | bypass (code : Nat) (n : Nat) (bits : Nat)
  /-- TRST_RESET (R469). TRST_n is low for 100 ns. -/
  | trstReset
  /-- POWER_REMOVAL (R387). The board removes the supplies. -/
  | powerRemoval
  /-- FUNCTION_RESET_COMPLETE (R108). A reset of the host function completes, its link trained at a rate and width; no effect where none is under way or PERST_n is low. -/
  | functionResetComplete (rate : Nat) (width : Nat)
  /-- ICE_ABANDON_VOLTAGE_SETTLED (R393). VDD_CORE has settled for an abandoned entry and the first EXIT is issued (R393); nothing before that. -/
  | iceAbandonVoltageSettled
  /-- FUNCTION_MASK_WRITE (R104). A configuration write of the doubleword at `off` with byte enables `be`: at 0x0B0, MSI-X Message Control with the function mask; with no byte enabled, a read. -/
  | functionMaskWrite (off : Nat) (be : Nat) (v : Nat)
  /-- SLOT_LOAD_COMPLETE (R179). A load into slot `k` of engine `u` (16: the cores) that is not in use has been read and checked, and the slot holds the new pack (R179, R199, R220; 12 R272). -/
  | slotLoadComplete (u : Nat) (k : Nat)
  deriving DecidableEq, Repr

end Sys2Proof
end

