-- ==== Sys2Proof/Config.lean ====
section
/-!
DEFINITION. Config.lean: what the spec leaves open, as constants without a body. Nothing in Lean can evaluate one or prove a value of it,
so a statement about the model holds whatever they are.
-/
namespace Sys2Proof

/-- The k-th value the part produces where the spec fixes none (notes/assumptions: free values). -/
opaque Config.freeNat : Nat → Nat

/-- The part's trimmed VDD_CORE targets by step code, 4 for Ice, as offsets the part was given at manufacture (20 R464). [log entry 6 DESIGN CHOICE] -/
opaque Config.trim : Nat → Nat

/-- SHA-384 of the boot ROM of a ROMVER, as a number (19 R438): the spec gives no ROM contents. [log entry 6 DESIGN CHOICE] -/
opaque Config.romDigest : Nat → Nat

/-- The device serial number in the fuses of a part of a ROMVER (05 R88): the spec gives none. [log entry 6 DESIGN CHOICE] -/
opaque Config.serial : Nat → BitVec 64

/-- The device identity certificate chain of slot 0, provisioned at manufacture (05 R106), of a part of a ROMVER: the spec gives none. [log entry 6 DESIGN CHOICE] -/
opaque Config.certChain : Nat → List (BitVec 8)

end Sys2Proof
end

