-- ==== Sys2Proof/Machine/TypesMem.lean ====
section
/-!
DEFINITION. Machine/TypesMem.lean: plain data of Mere, the Siphon and the HBM stacks (14), and the Siphon's copy plan.
-/
namespace Sys2Proof.Machine

/-- Mere (R296 to R298): bytes, poisoned 64-byte words, the word of the latest uncorrectable error, and for each bank the next row to refresh and the
next word its patrol reads, with the 1,024-tick window it last read in, plus one. -/
structure Mere where
  mem    : Mem := []
  pois   : Tab Bool := []
  ueaddr : Nat := 0
  row    : Tab Nat := []
  refAt  : Tab Nat := []       -- Gauge of the tick in which each bank has last been refreshed, plus one
  patrol : Tab Nat := []
  patAt  : Tab Nat := []
  deriving DecidableEq, Repr

/-- Who submitted a Siphon job (R299): a core's program or kernel, or Shore firmware, for a `copy siphon` line of a session or of its
own. -/
inductive SSub where
  | core (c : Nat) (program : Bool)
  | shore (sid : Nat) (tag : String) (wait : Bool)
  deriving DecidableEq, Repr

/-- The fields of a job descriptor (Table 14-3). -/
structure SDesc where
  jobid   : Nat
  ssp     : Nat
  sb      : Nat
  dsp     : Nat
  db      : Nat
  rsvd    : Bool        -- a reserved bit is set
  src     : Nat
  dst     : Nat
  rowlen  : Nat
  nrows   : Nat
  sstride : Int
  dstride : Int
  deriving DecidableEq, Repr

/-- A job taken and without a completion (R299 to R305): its bytes written so far in visit order, and what its completion will carry. -/
structure SJob where
  sub     : SSub
  d       : SDesc
  status  : Nat := 0      -- 0 DONE, 1 RANGE, 2 DENIED, 3 ABORTED
  bounced : Bool := false
  rowdesc : Bool := false
  bytedesc : Bool := false
  done    : Nat := 0
  npoison : Nat := 0
  accAt   : Nat := 0      -- Gauge of its acceptance (R305)
  data    : List (Option Byte) := []   -- source bytes in visit order, none: of a poisoned word
  deriving DecidableEq, Repr

/-- The Siphon: jobs in progress, Shore jobs waiting, jobs the reset instant stopped (R305), SIPH_JOBS, and the submission source whose turn it is
(R299): 0 to 7 the cores' Sluices, 8 the siphon noun, 9 + s service Sluice 240 + s. -/
structure Siphon where
  active  : List SJob := []
  queue   : List SJob := []
  stopped : List SJob := []
  jobs    : W32 := 0
  turn    : Nat := 0
  deriving DecidableEq, Repr

/-- One stack's own registers (R310). -/
structure HbmStack where
  temp   : Nat := 0
  spares : Nat := 64
  rate   : Nat := 92
  ueaddr : Nat := 0
  deriving DecidableEq, Repr

/-- The HBM stacks (R306 to R309): the linear space, its poisoned 64-byte words, the region sizes in force (those recorded for the next warm
reset stand in CONFIG), and the addresses whose rows have been repaired. -/
structure Hbm where
  mem      : Mem := []
  pois     : Tab Bool := []
  stack    : Tab HbmStack := []
  ledger   : Nat := 1
  sessions : Nat := 32
  repaired : List Nat := []
  pages    : Tab Nat := []       -- allocated session pages: 4 KiB units taken from a page index (11 R239, R240)
  deriving DecidableEq, Repr

/-- The descriptor a job's word 1 spells (Table 14-3). -/
def sDesc (w : List Byte) : SDesc :=
  let b4 := fieldLe w 4 1
  let b5 := fieldLe w 5 1
  { jobid := fieldLe w 0 4, ssp := bitsOf b4 1 0, sb := bitsOf b4 4 2, dsp := bitsOf b5 1 0, db := bitsOf b5 4 2,
    rsvd := !(bitsOf b4 7 5 == 0 && bitsOf b5 7 5 == 0 && fieldLe w 6 2 == 0 && (slice w 48 16).all (· == 0)),
    src := fieldLe w 8 8, dst := fieldLe w 16 8, rowlen := fieldLe w 24 4, nrows := fieldLe w 28 4,
    sstride := sgn 64 (fieldLe w 32 8), dstride := sgn 64 (fieldLe w 40 8) }

/-- Lowest byte and one past the highest byte of the rows from `base` with this stride (R302). -/
def sSpan (base : Nat) (stride : Int) (n len : Nat) : Int × Int :=
  let last := (base : Int) + ((n : Int) - 1) * stride
  (min (base : Int) last, max (base : Int) last + len)

/-- Whether the two spans meet in one space (R302). -/
def sOverlap (d : SDesc) : Bool :=
  let (a, b) := sSpan d.src d.sstride d.nrows d.rowlen
  let (p, q) := sSpan d.dst d.dstride d.nrows d.rowlen
  d.ssp == d.dsp && (d.ssp != 2 || d.sb == d.db) && decide (a < q) && decide (p < b)

/-- A translation: spans overlap and the strides are equal (R302). -/
def sTranslation (d : SDesc) : Bool := sOverlap d && decide (d.sstride = d.dstride)

/-- Whether the job is bounced (R302). -/
def sBounced (d : SDesc) : Bool := sOverlap d && !sTranslation d

/-- Endangered bytes of a bounced job: source bytes, once per row occurrence, whose addresses lie in the destination span (R302). -/
def sEndangered (d : SDesc) : Nat :=
  let (p, q) := sSpan d.dst d.dstride d.nrows d.rowlen
  (List.range d.nrows).foldl (fun (n i : Nat) =>
    let a := (d.src : Int) + (i : Int) * d.sstride
    n + (min (a + d.rowlen) q - max a p).toNat) 0

/-- Bytes of a row are visited in descending order (R302). -/
def sByteDesc (d : SDesc) : Bool := sTranslation d && d.src < d.dst

/-- Rows are visited in descending index order (R302): for a move upwards when the stride is positive, for a move downwards when it is
negative. -/
def sRowDesc (d : SDesc) : Bool :=
  sTranslation d && (if d.src < d.dst then decide (0 < d.dstride) else d.dst < d.src && decide (d.dstride < 0))

/-- The (source, destination) byte addresses in the order of visit (R302). -/
def sVisit (d : SDesc) : List (Nat × Nat) :=
  let rows := if sRowDesc d then (List.range d.nrows).reverse else List.range d.nrows
  let cols := if sByteDesc d then (List.range d.rowlen).reverse else List.range d.rowlen
  rows.flatMap fun (i : Nat) => cols.map fun (j : Nat) =>
    (((d.src : Int) + (i : Int) * d.sstride + (j : Int)).toNat, ((d.dst : Int) + (i : Int) * d.dstride + (j : Int)).toNat)

end Sys2Proof.Machine
end

