-- ==== Sys2Proof/Machine/Crc.lean ====
section
/-!
DEFINITION. Machine/Crc.lean: the CRC-8 of Bipol lines (04 R64) and the CRC-32 of IEEE 802.3 that packs, images, records and
frames carry.
-/
namespace Sys2Proof.Machine

/-- One bit of the CRC-8 (R64). -/
def crc8Bit (c : BitVec 8) : BitVec 8 := if c.msb then (c <<< 1) ^^^ 0x07 else c <<< 1

/-- One byte of the CRC-8. -/
def crc8Byte (c : BitVec 8) (b : Byte) : BitVec 8 :=
  crc8Bit (crc8Bit (crc8Bit (crc8Bit (crc8Bit (crc8Bit (crc8Bit (crc8Bit (c ^^^ b))))))))

/-- The check code over the covered bytes of a line (R64). -/
def crc8 (l : List Byte) : BitVec 8 := l.foldl crc8Byte 0

/-- One bit of the reflected CRC-32. -/
def crc32Bit (c : BitVec 32) : BitVec 32 := if c.getLsbD 0 then (c >>> 1) ^^^ 0xEDB88320 else c >>> 1

/-- One byte of the CRC-32. -/
def crc32Byte (c : BitVec 32) (b : Byte) : BitVec 32 :=
  crc32Bit (crc32Bit (crc32Bit (crc32Bit (crc32Bit (crc32Bit (crc32Bit (crc32Bit (c ^^^ b.setWidth 32))))))))

/-- CRC-32 of IEEE 802.3 over bytes. -/
def crc32 (l : List Byte) : Nat := ((l.foldl crc32Byte 0xFFFFFFFF) ^^^ 0xFFFFFFFF).toNat

/-- The bytes with the 4 at `off` taken as zero (a CRC field is computed as zero). -/
def zeroAt (l : List Byte) (off n : Nat) : List Byte := l.take off ++ List.replicate n 0 ++ l.drop (off + n)

end Sys2Proof.Machine
end

