-- ==== Sys2Proof/Machine/PackCheck.lean ====
section
/-!
DEFINITION. Machine/PackCheck.lean: the checks of a table pack load after the image rules, in order and each by its name: Reedbed (08
R179), Shoal (09 R198), Tarn (10 R219). Each answers the name of the first check that fails. `room` is checked where the store
is known.
-/
namespace Sys2Proof.Machine

/-- The first named check that does not hold. -/
def firstFail : List (String × Bool) → Option String
  | [] => none
  | (n, ok) :: t => if ok then firstFail t else some n

/-- Every number below `n` meets `p`. -/
def allN (n : Nat) (p : Nat → Bool) : Bool := (List.range n).all p

/-- All bytes zero. -/
def allZero (l : List Byte) : Bool := l.all (· == 0)

/-- `lo ≤ v ≤ hi`. -/
def within (v lo hi : Nat) : Bool := decide (lo ≤ v) && decide (v ≤ hi)

/-- A code point: at most 0x10FFFF and no surrogate. -/
def goodCp (c : Nat) : Bool := decide (c ≤ 0x10FFFF) && !(within c 0xD800 0xDFFF)

/-! ### Reedbed (R177 to R179) -/

/-- The length Table 8-5 gives section `i`, where it gives one; else the entry size. -/
def rpFixLen (p : List Byte) (i : Nat) : Option Nat :=
  if i = 7 then some (2 ^ rpLog2B p * 16) else if i = 8 then some (rpNPiece p * 4) else if i = 9 then some (rpNPiece p * 2)
  else if i = 11 then some (rpNStop p * 4360) else if i = 12 then some (rpNProf p * 16) else none

/-- Entry size of the sections whose length is a whole number of entries. -/
def rpUnit (i : Nat) : Nat := if i = 1 ∨ i = 6 then 4 else if i = 10 then 1 else 8

/-- Sections in order, inside the pack. -/
def rpLayout (p : List Byte) : Bool :=
  let size := fieldLe p 8 4
  let ends := (List.range 13).foldl (fun (ok, at0) i =>
    let (o, n) := rpSec p i
    (ok && decide (o % 8 = 0) && decide (at0 ≤ o) && (match rpFixLen p i with | some k => n == k | none => n % rpUnit i == 0), o + n)) (true, 192)
  ends.1 && decide (ends.2 ≤ size) && allZero (slice p (64 + 8 * 13) 24)

/-- Keys strictly rising. -/
def rising : List Nat → Bool
  | a :: b :: t => decide (a < b) && rising (b :: t)
  | _ => true

/-- Entries of a mapping section in range. -/
def rpMapOk (p : List Byte) (sec lo : Nat) : Bool :=
  let s := rpSecBytes p sec
  let n := s.length / 8
  let pool := (rpSecBytes p 6).length / 4
  allN n (fun i => let e := fieldLe s (8 * i) 4
    within (bitsOf e 23 21) lo 4 && bitsOf e 31 24 == 0 && decide (fieldLe s (8 * i + 4) 4 + bitsOf e 23 21 ≤ pool)) &&
  rising ((List.range n).map fun i => fieldLe s (8 * i) 4 % 2 ^ 21)

/-- The `entry` check of R179. -/
def rpEntry (p : List Byte) : Bool :=
  let ccc := rpSecBytes p 1
  let cmp := rpSecBytes p 2
  let pool := rpSecBytes p 6
  let bk := rpSecBytes p 7
  let pc := rpSecBytes p 8
  let by' := (rpSecBytes p 10).length
  let ss := rpSecBytes p 11
  let pf := rpSecBytes p 12
  rpMapOk p 0 1 && rpMapOk p 3 0 && rpMapOk p 4 0 && rpMapOk p 5 0 &&
  allN (ccc.length / 4) (fun i => let e := fieldLe ccc (4 * i) 4; bitsOf e 23 21 == 0 && within (bitsOf e 31 24) 1 254) &&
  rising ((List.range (ccc.length / 4)).map fun i => fieldLe ccc (4 * i) 4 % 2 ^ 21) &&
  allN (cmp.length / 8) (fun i => !bitOf (fieldLe cmp (8 * i) 8) 63) &&
  rising ((List.range (cmp.length / 8)).map fun i => let e := fieldLe cmp (8 * i) 8; bitsOf e 20 0 * 2 ^ 21 + bitsOf e 41 21) &&
  allN (pool.length / 4) (fun i => bitsOf (fieldLe pool (4 * i) 4) 31 21 == 0) &&
  allN (bk.length / 4) (fun i => let v := fieldLe bk (4 * i) 4; v == 0 || decide (v % 2 ^ 18 < rpNPiece p)) &&
  allN (pc.length / 4) (fun i => let e := fieldLe pc (4 * i) 4
    if i < 256 then e == 0 else bitsOf e 31 28 == 0 && decide (bitsOf e 21 0 + bitsOf e 26 22 + 1 ≤ by')) &&
  allN (rpNStop p) (fun k => let c := fieldLe ss (4360 * k) 1
    within c 1 64 && allZero (slice ss (4360 * k + 1) 7) &&
    allN 64 (fun j => let o := 4360 * k + 8 + 68 * j
      let n := fieldLe ss o 1
      (if j < c then within n 1 64 else n == 0) && allZero (slice ss (o + 1) 3) && allZero (slice ss (o + 4 + n) (64 - n)))) &&
  allN (rpNProf p) (fun k => let o := 16 * k
    let a := fieldLe pf (o + 9) 1
    within (fieldLe pf o 4) 64 65536 && within (fieldLe pf (o + 4) 2) 1 16384 && decide (fieldLe pf (o + 6) 1 ≤ 1) &&
    decide (fieldLe pf (o + 8) 1 < 32) && decide (bitsOf a 1 0 < 3) && decide (bitsOf a 3 2 < 3) && decide (bitsOf a 5 4 < 3) &&
    bitsOf a 7 6 == 0 && allZero (slice pf (o + 10) 6))

/-- The `codepoint` check of R179. -/
def rpCodepoints (p : List Byte) : Bool :=
  [0, 3, 4, 5].all (fun s => let b := rpSecBytes p s; allN (b.length / 8) fun i => goodCp (fieldLe b (8 * i) 4 % 2 ^ 21)) &&
  (let c := rpSecBytes p 1; allN (c.length / 4) fun i => goodCp (fieldLe c (4 * i) 4 % 2 ^ 21)) &&
  (let m := rpSecBytes p 2; allN (m.length / 8) fun i => let e := fieldLe m (8 * i) 8
    goodCp (bitsOf e 20 0) && goodCp (bitsOf e 41 21) && goodCp (bitsOf e 62 42)) &&
  (let q := rpSecBytes p 6; allN (q.length / 4) fun i => goodCp (fieldLe q (4 * i) 4))

/-- The `piece` check of R179. -/
def rpPieces (p : List Byte) : Bool :=
  let ids := (List.range (rpNPiece p)).filter fun i => decide (256 ≤ i)
  ids.all (fun i => let b := rpPieceBytes p i; utf8Valid b && within b.length 1 (rpMaxLen p)) &&
  (let plain := (ids.filter fun i => !(rpPiece p i).2.2).map (rpPieceBytes p)
   plain.eraseDups.length == plain.length)

/-- The `lookup` check of R179. -/
def rpLookups (p : List Byte) : Bool :=
  allN (rpNPiece p) fun i => decide (i < 256) || (rpPiece p i).2.2 || rpLookup p (rpPieceBytes p i) == some i

/-- The Reedbed checks 2 to 9 (R179). -/
def reedCheck (p : List Byte) (plen : Nat) : Option String :=
  let size := fieldLe p 8 4
  firstFail [
    ("size", within size 192 3538944 && size % 64 == 0 && size == plen && p.length == size),
    ("crc", crc32 (zeroAt p 28 4) == fieldLe p 28 4),
    ("header", fieldLe p 0 4 == 0x4B504252 && fieldLe p 4 2 == 1 && decide (fieldLe p 6 2 < 2) && within (rpNPiece p) 256 262144 &&
      within (rpLog2B p) 8 16 && within (rpMaxLen p) 1 32 && decide (rpNStop p ≤ 15) && within (rpNProf p) 1 16 && allZero (slice p 32 32)),
    ("layout", rpLayout p), ("entry", rpEntry p), ("codepoint", rpCodepoints p), ("piece", rpPieces p), ("lookup", rpLookups p)]

/-! ### Shoal (R198) -/

/-- The entry of STATES at index `k`. -/
def spState (p : List Byte) (k : Nat) : Nat := fieldLe p (spOff p 5 + 4 * k) 4

/-- The accepting states in ACCMAP order. -/
def spAccStates (p : List Byte) : List Nat := (List.range (spNAcc p)).map fun i => fieldLe p (spOff p 3 + 8 * i) 4 % 2 ^ 21

/-- The Shoal checks 2 to 9 (R198). -/
def shoalCheck (p : List Byte) (plen : Nat) : Option String :=
  let size := fieldLe p 8 4
  firstFail [
    ("size", decide (size ≤ 8257536) && size == plen && p.length == size && size == spOff p 6),
    ("crc", crc32 (zeroAt p 32 4) == fieldLe p 32 4),
    ("header", fieldLe p 0 4 == 0x4B504853 && fieldLe p 4 2 == 1 && fieldLe p 6 2 == 0 && within (spNState p) 1 2064384 &&
      within (spNPat p) 1 65536 && within (spNClass p) 1 256 && within (spNProf p) 1 16 && fieldLe p 23 1 == 0 &&
      decide (spNAcc p ≤ spNState p - 1) && allZero (slice p 36 28)),
    ("entry", allN 256 (fun b => decide (fieldLe p (64 + b) 1 < spNClass p)) &&
      allN (spNProf p) (fun i => let o := spOff p 1 + 16 * i
        within (fieldLe p (o + 2) 2) 1 1024 && decide (fieldLe p (o + 4) 1 ≤ 1) && decide (fieldLe p (o + 5) 1 ≤ 2) && allZero (slice p (o + 6) 10)) &&
      allN (spNPat p) (fun i => let e := spPat p i
        let w := bitsOf e 31 16
        decide (bitsOf e 3 0 ≤ 4) && bitsOf e 7 4 == 0 && decide (1 ≤ bitsOf e 15 8) && fFinite f16 w && (!bitOf w 15 || w == 0x8000) &&
        bitsOf e 63 36 == 0) &&
      allN (spNAcc p) (fun i => let e := fieldLe p (spOff p 3 + 8 * i) 8; bitsOf e 31 21 == 0 && decide (1 ≤ bitsOf e 63 48) &&
        decide (bitsOf e 20 0 < spNState p)) &&
      allN (spNAccList p) (fun i => decide (fieldLe p (spOff p 4 + 2 * i) 2 < spNPat p)) &&
      allN (spNState p * spNClass p) (fun k => bitsOf (spState p k) 31 22 == 0)),
    ("next", allN (spNState p * spNClass p) fun k => decide (spState p k % 2 ^ 21 < spNState p)),
    ("accmap", rising (spAccStates p) && !(spAccStates p).contains 0),
    ("acc", allN (spNState p * spNClass p) fun k => bitOf (spState p k) 21 == (spAccStates p).contains (spState p k % 2 ^ 21)),
    ("acclist", allN (spNAcc p) fun i => let e := fieldLe p (spOff p 3 + 8 * i) 8
      decide (bitsOf e 47 32 + bitsOf e 63 48 ≤ spNAccList p) &&
      rising ((List.range (bitsOf e 63 48)).map fun k => fieldLe p (spOff p 4 + 2 * (bitsOf e 47 32 + k)) 2))]

/-! ### Tarn (R219) -/

/-- The kind each operation gives its output slots: true F. -/
def opOutF (o : TOp) : Bool := o.op == 1 || o.op == 4

/-- The output slots of an operation. -/
def opOuts (o : TOp) : List Nat := if o.op = 4 then (List.range o.arg).map (o.dst + ·) else [o.dst]

/-- The working slots an operation reads. -/
def opIns (o : TOp) : List Nat := (if o.srcSlot then [o.src] else []) ++ (if o.op = 5 then [o.arg] else [])

/-- The operations of a profile. -/
def profOps (p : List Byte) (pr : TProfile) : List TOp := (List.range pr.opCount).map fun i => tpOp p (pr.opFirst + i)

/-- Run the writes of a profile's program over the slots written so far: `none` where a slot is read early or written twice. -/
def progWalk : List TOp → List (Nat × Bool) → Option (List (Nat × Bool))
  | [], w => some w
  | o :: t, w =>
    if (opIns o).all (fun s => w.any fun x => x.1 == s) && (opOuts o).all (fun s => !(w.any fun x => x.1 == s)) && (opOuts o).eraseDups.length == (opOuts o).length
    then progWalk t (w ++ (opOuts o).map fun s => (s, opOutF o)) else none

/-- The slots of a profile with their kinds (true F), where its program is right. -/
def profKinds (p : List Byte) (pr : TProfile) : Option (List (Nat × Bool)) :=
  progWalk (profOps p pr) (if pr.inFmt = 0 then [] else (List.range pr.nFeat).map fun i => (i, false))

/-- Every slot that a profile presets or an operation writes, in order, with the kind it is given. [log entry 39 DEDUCED] -/
def slotKinds (p : List Byte) (pr : TProfile) : List (Nat × Bool) :=
  (if pr.inFmt = 0 then [] else (List.range pr.nFeat).map fun i => (i, false)) ++
    (profOps p pr).flatMap fun o => (opOuts o).map fun s => (s, opOutF o)

/-- Whether the first write of a slot makes it an F slot (`f`), or a B slot. -/
def slotIs (ks : List (Nat × Bool)) (f : Bool) (s : Nat) : Bool := (ks.find? fun x => x.1 == s).map (·.2) == some f

/-- Every path from a node reaches a leaf within so many splits. -/
def depthOk (p : List Byte) : Nat → Nat → Bool
  | 0, n => bitOf (tpNode p n 0 4) 13
  | f + 1, n => bitOf (tpNode p n 0 4) 13 || (depthOk p f (tpNode p n 8 4 % 2 ^ 20) && depthOk p f (tpNode p n 12 4 % 2 ^ 20))

/-- A node's own fields in range (Table 10-2); `ks`: the kinds of the slots. [log entry 39 DEDUCED] -/
def nodeOk (p : List Byte) (ks : List (Nat × Bool)) (n : Nat) : Bool :=
  let d := tpNode p n 0 4
  let v := tpNode p n 4 4
  bitsOf d 31 17 == 0 &&
  (if bitOf d 13 then bitsOf d 12 0 == 0 && bitsOf d 16 14 == 0 && fFinite f32 v && tpNode p n 8 4 == 0 && tpNode p n 12 4 == 0
   else decide (tpNode p n 8 4 < 2 ^ 20) && decide (tpNode p n 12 4 < 2 ^ 20) &&
     (if bitOf d 15 then within (bitsOf v 30 20) 1 1024 && !bitOf v 31
      else if slotIs ks false (bitsOf d 12 0) then decide (v < 65536) else !fIsNaN f32 v))

/-- An operation's own fields in range (Table 10-7, R206). [log entry 39 DEDUCED] -/
def opOk (p : List Byte) (o : TOp) (i : Nat) : Bool :=
  let f1 := fieldLe p (tpOff p 1 + 32 * i + 1) 1
  within o.op 1 5 && decide (f1 < 4) && decide (o.src < 2 ^ 13) && decide (o.dst < 2 ^ 13) &&
  (if o.op = 5 then within o.a 1 65535 && within o.b 1 65535 else if o.op = 4 then within o.arg 1 256
   else if o.op = 2 then within o.arg 1 256 else o.arg == 0)

/-- The Tarn checks 2 to 12 (R219). [log entry 39 DEDUCED] -/
def tarnCheck (p : List Byte) (plen : Nat) : Option String :=
  let size := fieldLe p 8 4
  let profs := (List.range (tpNProf p)).map (tpProfile p)
  let kinds := profs.map (profKinds p)
  let k0 := (kinds.headD none).getD []
  let ks := profs.flatMap (slotKinds p)
  firstFail [
    ("size", size % 16 == 0 && decide (size ≤ 16777216) && size == plen && p.length == size && size == tpOff p 8),
    ("crc", crc32 (zeroAt p 36 4) == fieldLe p 36 4),
    ("header", fieldLe p 0 4 == 0x4B504E54 && fieldLe p 4 2 == 1 && within (tpNClass p) 1 16 && decide (tpLink p ≤ 4) &&
      within (tpNNode p) 1 1048576 && within (tpNTree p) 1 65536 && within (tpNSlot p) 1 8192 && within (tpNProf p) 1 16 &&
      (if tpLink p = 4 then within (tpNCal p) 2 64 else tpNCal p == 0) && decide (tpNOp p ≤ 131072) && decide (tpNEdge p ≤ 65536) &&
      decide (tpNCatRec p ≤ 1048575) && allZero (slice p 40 24) &&
      (match tpLink p with | 0 => true | 2 => decide (2 ≤ tpNClass p) | _ => tpNClass p == 1)),
    ("entry", allN (tpNProf p) (fun i => let o := tpOff p 0 + 64 * i
        let pr := tpProfile p i
        within pr.nFeat 1 4096 && decide (pr.inFmt ≤ 2) && decide (pr.opCount ≤ 8192) && decide (pr.opFirst + pr.opCount ≤ tpNOp p) &&
        decide (pr.dClass < tpNClass p) && within pr.nanAct 1 2 && within pr.badRow 1 2 && bitsOf (fieldLe p (o + 11) 1) 7 4 == 0 &&
        !fIsNaN f32 pr.holdAt && !fIsNaN f32 pr.blockAt && allZero (slice p (o + 20) 44)) &&
      allN (tpNOp p) (fun i => opOk p (tpOp p i) i) &&
      allN (tpNEdge p) (fun i => !fIsNaN f32 (fieldLe p (tpOff p 2 + 4 * i) 4)) &&
      allN (tpNClass p) (fun i => fFinite f32 (fieldLe p (tpOff p 3 + 4 * i) 4)) &&
      allN (2 * tpNCal p) (fun i => fFinite f32 (fieldLe p (tpOff p 4 + 4 * i) 4)) &&
      allN (tpNCal p - 1) (fun i => fLt f32 (fieldLe p (tpOff p 4 + 8 * i) 4) (fieldLe p (tpOff p 4 + 8 * i + 8) 4)) &&
      allN (tpNTree p) (fun t => decide (treeClass p t < tpNClass p) && bitsOf (fieldLe p (tpOff p 5 + 4 * t) 4) 31 24 == 0) &&
      allN (tpNNode p) (nodeOk p ks)),
    ("child", allN (tpNTree p) (fun t => decide (fieldLe p (tpOff p 5 + 4 * t) 4 % 2 ^ 20 < tpNNode p)) &&
      allN (tpNNode p) (fun n => decide (tpNode p n 8 4 < tpNNode p) && decide (tpNode p n 12 4 < tpNNode p))),
    ("catset", allN (tpNNode p) fun n => let d := tpNode p n 0 4
      let v := tpNode p n 4 4
      bitOf d 13 || !bitOf d 15 || decide (bitsOf v 19 0 + (bitsOf v 30 20 + 127) / 128 ≤ tpNCatRec p)),
    ("depth", allN (tpNTree p) fun t => depthOk p 24 (fieldLe p (tpOff p 5 + 4 * t) 4 % 2 ^ 20)),
    ("slot", allN (tpNNode p) fun n => let d := tpNode p n 0 4
      bitOf d 13 || (decide (bitsOf d 12 0 < tpNSlot p) && (!bitOf d 15 || slotIs ks false (bitsOf d 12 0)))),
    ("program", kinds.all (fun k => match k with
      | none => false
      | some w => w.length == tpNSlot p && w.all (fun x => decide (x.1 < tpNSlot p)) && w.all (fun x => k0.contains x))),
    ("source", (profs.zip kinds).all fun (pr, k) => (profOps p pr).all fun o =>
      let isB (s : Nat) := (k.getD []).any fun x => x.1 == s && !x.2
      (if o.op = 4 then o.srcSlot && isB o.src else if o.op = 5 then o.srcSlot && isB o.src && isB o.arg
       else !o.srcSlot && decide (o.src < pr.nFeat) && pr.inFmt == 0)),
    ("edges", allN (tpNOp p) fun i => let o := tpOp p i
      o.op != 2 || (decide (o.edge0 + o.arg ≤ tpNEdge p) &&
        allN (o.arg - 1) fun j => fLt f32 (fieldLe p (tpOff p 2 + 4 * (o.edge0 + j)) 4) (fieldLe p (tpOff p 2 + 4 * (o.edge0 + j + 1)) 4)))]

end Sys2Proof.Machine
end

