-- ==== Sys2Proof/Machine/WellAlgo.lean ====
section
/-!
DEFINITION. Machine/WellAlgo.lean: what the Wellhead computes (15): frames, band features, the Seep judgement, the Ripple model and
the checks of its pack.
-/
namespace Sys2Proof.Machine

/-- Samples per 10 ms at a RATE (Table 15-1). -/
def wellS1 : Nat → Nat
  | 0 => 160 | 1 => 240 | 2 => 320 | _ => 480

/-- The fields of a kind 0x4 payload's header (Table 15-3). -/
structure WFrame where
  rate : Nat
  flen : Nat
  nch  : Nat
  dev  : Bool
  pre  : Bool
  lastPre : Bool
  settling : Bool
  chsrc : Nat
  gauge : Nat
  zeros : Bool      -- the fields that must be zero are
  deriving DecidableEq, Repr

/-- Read the header. -/
def wellFrame (p : List Byte) : WFrame :=
  let b0 := fieldLe p 0 1
  let b1 := fieldLe p 1 1
  let b2 := fieldLe p 2 1
  let src := fieldLe p 4 4
  { rate := bitsOf b0 1 0, flen := bitsOf b0 2 2, nch := bitsOf b1 3 0, dev := bitOf b2 0, pre := bitOf b2 1,
    lastPre := bitOf b2 2, settling := bitOf b2 3, chsrc := src, gauge := fieldLe p 8 8,
    zeros := bitsOf b0 7 3 == 0 && bitsOf b1 7 4 == 0 && bitsOf b2 7 4 == 0 && fieldLe p 3 1 == 0
      && (List.range 8).all (fun k => !bitOf src (4 * k + 3)) }

/-- A bad frame (R321). `host`: it came from the Inlet. -/
def wellBadFrame (host : Bool) (p : List Byte) : Bool :=
  let f := wellFrame p
  !f.zeros || f.nch == 0 || 8 < f.nch || p.length != 16 + 2 * f.nch * (wellS1 f.rate * (f.flen + 1))
    || (host && (f.dev || f.pre || f.lastPre || f.settling || f.chsrc != 0))

/-- The bytes of a device frame (R320): positions of `srcs` in ascending channel number, samples by position. -/
def wellFrameBytes (rate flen : Nat) (pre lastPre settling : Bool) (srcs : List Nat) (gauge : Nat) (x : List (List Int)) : List Byte :=
  let n := wellS1 rate * (flen + 1)
  let chsrc := (List.range srcs.length).foldl (fun a k => a + (srcs.getD k 0) * 2 ^ (4 * k)) 0
  toLe 1 (rate + 4 * flen) ++ toLe 1 srcs.length ++ toLe 1 (1 + 2 * b2n pre + 4 * b2n lastPre + 8 * b2n settling) ++ [0]
    ++ toLe 4 chsrc ++ toLe 8 gauge
    ++ (List.range n).flatMap (fun i => (List.range srcs.length).flatMap fun k => toLe 2 (low 16 ((x.getD k []).getD i 0)))

/-- Samples of position `k` of a frame payload. -/
def wellSamples (p : List Byte) (k : Nat) : List Int :=
  let f := wellFrame p
  (List.range (wellS1 f.rate * (f.flen + 1))).map fun i => sgn 16 (fieldLe p (16 + 2 * (i * f.nch + k)) 2)

/-- lg of R323. -/
def wellLg (e : Nat) : Nat :=
  if e = 0 then 0 else
    let n := Nat.log2 e
    16 * (n + 1) + (if 4 ≤ n then (e >>> (n - 4)) % 16 else (e <<< (4 - n)) % 16)

/-- One filter output: 64 taps over the samples ending at i, with samples before the frame zero (R323). `win`: the samples up to i,
newest first. -/
def wellTap : List Int → List Int → Int
  | t :: ts, x :: xs => t * x + wellTap ts xs
  | _, _ => 0

/-- Energy of a hop of `n` samples under one band (R323): `past` holds the samples before it, newest first. -/
def wellEnergy (taps : List Int) : List Int → List Int → Nat → Nat
  | [], _, e => e
  | x :: xs, past, e =>
    let past' := (x :: past).take 64
    let y := clampS 16 (wellTap taps past' >>> 15)
    wellEnergy taps xs past' (e + (y * y).toNat)

/-- Features of one hop: for each band lg of its energy (R323). -/
def wellHop (bands : List (List Int)) (past hop : List Int) : List Nat :=
  bands.map fun t => wellLg (wellEnergy t hop past 0)

/-! ### The pack (R334, R335) -/

def wpNfset (p : List Byte) : Nat := fieldLe p 6 1
def wpRipple (p : List Byte) : Bool := fieldLe p 7 1 == 1
def wpNband (p : List Byte) (f : Nat) : Nat := fieldLe p (32 + 4 * f) 1
def wpFoff (p : List Byte) (f : Nat) : Nat := fieldLe p (48 + 4 * f) 4
def wpRfset (p : List Byte) : Nat := fieldLe p 64 1
def wpNwin (p : List Byte) : Nat := fieldLe p 65 1
def wpNlayer (p : List Byte) : Nat := fieldLe p 66 1
def wpSin (p : List Byte) : Nat := fieldLe p 67 1
def wpMacs (p : List Byte) : Nat := fieldLe p 68 4
def wpZin (p : List Byte) (b : Nat) : Int := sgn 16 (fieldLe p (72 + 2 * b) 2)

/-- The taps of a feature set, one list a band. -/
def wpBands (p : List Byte) (f : Nat) : List (List Int) :=
  (List.range (wpNband p f)).map fun b => (List.range 64).map fun j => sgn 16 (fieldLe p (wpFoff p f + 128 * b + 2 * j) 2)

/-- A layer's fields. -/
structure WLayer where
  nin : Nat
  nout : Nat
  relu : Nat
  shift : Nat
  zero : Int
  mult : Int
  woff : Nat
  boff : Nat
  deriving DecidableEq, Repr

def wpLayer (p : List Byte) (l : Nat) : WLayer :=
  let o := 128 + 32 * l
  { nin := fieldLe p o 2, nout := fieldLe p (o + 2) 2, relu := fieldLe p (o + 4) 1, shift := fieldLe p (o + 5) 1,
    zero := sgn 8 (fieldLe p (o + 6) 1), mult := sgn 32 (fieldLe p (o + 8) 4), woff := fieldLe p (o + 12) 4,
    boff := fieldLe p (o + 16) 4 }

def wpHeaderOk (p : List Byte) : Bool :=
  let nf := wpNfset p
  let nl := wpNlayer p
  slice p 0 4 == [0x57, 0x48, 0x50, 0x4B] && fieldLe p 4 2 == 1 && 1 ≤ nf && nf ≤ 4 && fieldLe p 7 1 ≤ 1
    && (slice p 16 16).all (· == 0)
    && (List.range 4).all (fun f => fieldLe p (33 + 4 * f) 3 == 0 && (nf ≤ f || (1 ≤ wpNband p f && wpNband p f ≤ 40)))
    && (!wpRipple p ||
        (1 ≤ wpNwin p && wpNwin p ≤ 100 && 1 ≤ nl && nl ≤ 8 && wpSin p ≤ 15
          && (List.range nl).all fun l =>
               let o := 128 + 32 * l
               fieldLe p (o + 4) 1 ≤ 1 && fieldLe p (o + 5) 1 ≤ 62 && fieldLe p (o + 7) 1 == 0 && (slice p (o + 20) 12).all (· == 0)))

def wpLayoutOk (p : List Byte) : Bool :=
  let size := p.length
  let inside := fun off n => off % 64 == 0 && decide (off + n ≤ size)
  384 ≤ size && (List.range (wpNfset p)).all (fun f => inside (wpFoff p f) (128 * wpNband p f))
    && (!wpRipple p || (List.range (wpNlayer p)).all fun l =>
          let w := wpLayer p l
          inside w.woff (w.nin * w.nout) && inside w.boff (4 * w.nout))

def wpRippleOk (p : List Byte) : Bool :=
  !wpRipple p ||
    (let nl := wpNlayer p
     let ls := (List.range nl).map (wpLayer p)
     let macs := ls.foldl (fun n l => n + l.nin * l.nout) 0
     decide (wpRfset p < wpNfset p)
       && (wpLayer p 0).nin == wpNwin p * wpNband p (wpRfset p)
       && (List.range nl).all (fun l => l == 0 || (wpLayer p l).nin == (wpLayer p (l - 1)).nout)
       && (wpLayer p (nl - 1)).nout == 1 && wpMacs p == macs && macs ≤ 15000000)

/-- The first check of R335 that a Wellhead pack fails, after the image rules. -/
def wellCheck (p : List Byte) : Option String :=
  firstFail [("size", fieldLe p 8 4 == p.length && p.length ≤ 262144), ("crc", fieldLe p 12 4 == crc32 (zeroAt p 12 4)),
    ("header", wpHeaderOk p), ("layout", wpLayoutOk p), ("ripple", wpRippleOk p)]

/-! ### Listening (R326, R327) -/

/-- Zero crossings: pairs of neighbours on different sides of zero, 0 counting as positive (R326). -/
def seepZc : List Int → Nat
  | a :: b :: t => b2n (decide (a < 0) != decide (b < 0)) + seepZc (b :: t)
  | _ => 0

/-- Whether a hop is active (R326). -/
def seepActive (ethr zmin zmax : Nat) (x : List Int) : Bool :=
  let e := x.foldl (fun n s => n + (s * s).toNat) 0
  let zc := seepZc x
  decide (ethr ≤ e >>> 8) && decide (zmin ≤ zc) && decide (zc ≤ zmax)

/-- a × m / 2^s rounded to nearest, ties to even. -/
def rneShift (x : Int) (s : Nat) : Int :=
  let q := x >>> s
  let r := x - q * (2 : Int) ^ s
  let h := (2 : Int) ^ s
  if 2 * r > h then q + 1 else if 2 * r = h && s ≠ 0 then (if q % 2 = 0 then q else q + 1) else q

/-- One layer's accumulators (R327). -/
def rippleAcc (p : List Byte) (l : WLayer) (x : List Int) (j : Nat) : Int :=
  let row := (slice p (l.woff + j * l.nin) l.nin).map fun b => sgn 8 b.toNat
  clampS 32 (sgn 32 (fieldLe p (l.boff + 4 * j) 4) + (List.zip row x).foldl (fun a wx => a + wx.1 * wx.2) 0)

/-- The layers from `l` on; the last one's accumulator is the score (R327). -/
def rippleFrom (p : List Byte) (nl : Nat) : Nat → Nat → List Int → Int
  | 0, _, x => x.headD 0
  | f + 1, l, x =>
    let w := wpLayer p l
    let acc := (List.range w.nout).map (rippleAcc p w x)
    if l + 1 = nl then acc.headD 0
    else
      let lo := if w.relu == 1 then w.zero else -128
      let out := acc.map fun a =>
        let q := rneShift (a * w.mult) w.shift + w.zero
        if q < lo then lo else if 127 < q then 127 else q
      rippleFrom p nl f (l + 1) out

/-- Ripple's score over the feature history, oldest hop first (R327); hops that it has not yet kept stand at zero, as zeroisation leaves
them. [log entry 47 DEDUCED] -/
def rippleScore (p : List Byte) (hist : List (List Nat)) : Int :=
  let nb := wpNband p (wpRfset p)
  let x := (List.replicate (wpNwin p - hist.length) ([] : List Nat) ++ hist).flatMap fun (f : List Nat) => (List.range nb).map fun b =>
    let v := (((f.getD b 0 : Nat) : Int) - wpZin p b) >>> wpSin p
    if v < -128 then -128 else if 127 < v then 127 else v
  rippleFrom p (wpNlayer p) 8 0 x

/-- The product of a frame stage (R322): word 1 and the features, padded. Empty: a bad frame or TABLE. -/
def wellProduct (p : List Byte) (set : Nat) (pay : List Byte) : List Byte :=
  let f := wellFrame pay
  let bands := wpBands p set
  let s1 := wellS1 f.rate
  let hop := fun (h k : Nat) =>
    let x := wellSamples pay k
    wellHop bands (((x.take (h * s1)).reverse).take 64) (slice x (h * s1) s1)
  let feats := (List.range (f.flen + 1)).flatMap fun h => (List.range f.nch).flatMap fun k => hop h k
  let body := feats.flatMap fun v => toLe 2 v
  padTo 64 (toLe 1 f.nch ++ toLe 1 (wpNband p set) ++ toLe 1 (f.flen + 1) ++ toLe 1 set) ++ padTo ((body.length + 63) / 64 * 64) body

end Sys2Proof.Machine
end

