-- ==== Sys2Proof/Machine/TypesWell.lean ====
section
/-!
DEFINITION. Machine/TypesWell.lean: plain data of the Wellhead (15).
-/
namespace Sys2Proof.Machine

/-- The listen states (Table 15-4). -/
inductive LState where
  | off | seep | ripple | opened | awake | capture
  deriving DecidableEq, Repr

/-- LSTATE code (Table 15-4). -/
def LState.code : LState → Nat
  | .off => 0 | .seep => 1 | .ripple => 2 | .opened => 3 | .awake => 4 | .capture => 5

/-- One channel of the map (R319): enable and input. -/
structure WChan where
  en  : Bool := false
  inp : Nat := 0
  deriving DecidableEq, Repr

/-- One input's registers (R313) and its power-up: powered, and the Gauge at which its ramp ends (0: ended) (R315). -/
structure WInput where
  gain    : Nat := 0
  bias    : Nat := 0
  powered : Bool := false
  ramp    : Nat := 0
  deriving DecidableEq, Repr

/-- One bias supply (R313, R314). -/
structure WSupply where
  v   : Nat := 0
  on  : Bool := false
  flt : Bool := false
  deriving DecidableEq, Repr

/-- The Wellhead (15). -/
structure Well where
  pack    : List Byte := []
  rate    : Nat := 0
  flen    : Nat := 0
  listen  : Nat := 0
  lmic    : Nat := 0
  stream  : Nat := 0
  map     : Tab WChan := []      -- as written
  live    : Tab WChan := []      -- in force on frames
  inp     : Tab WInput := []
  supA    : WSupply := {}
  supB    : WSupply := {}
  ethr    : Nat := 0x10000
  zmin    : Nat := 4
  zmax    : Nat := 120
  ntrig   : Nat := 3
  hang    : Nat := 100
  rthr    : W32 := 0x7FFFFFFF
  rtime   : Nat := 100
  whang   : Nat := 0
  openttl : Nat := 500000
  abaseLo : W32 := 0
  abaseHi : W32 := 0
  aEn     : Bool := false
  aL      : Nat := 4
  aCq     : Nat := 0
  lstate  : LState := .off
  gate    : Bool := false
  ring    : List (List Int) := []     -- complete hops, oldest first, at most 200
  hist    : List (List Nat) := []     -- feature history, oldest first, at most NWIN hops
  active  : Nat := 0                  -- consecutive active hops
  inactive : Nat := 0                 -- consecutive inactive hops
  hops    : Nat := 0                  -- hops spent in RIPPLE
  fresh   : Bool := false             -- a hop has ended and Ripple has not evaluated it
  evalBy  : Nat := 0                  -- number of the tick by which it has (R327)
  wakeAt  : Nat := 0                  -- Gauge of the wake
  drained : Bool := false             -- the drain of this wake has started, and live frames follow it
  draining : Bool := false            -- it runs
  drain   : List (List Int) := []     -- frames of samples still to drain, oldest first
  emitAt   : Nat := 0                 -- number of the tick from which the drain may commit its next frame
  lastLidx : Nat := 0                 -- LIDX of the LASTPRE item, plus one
  lastVerdict : Option Nat := none    -- the verdict its original record was released with, until the decision is taken (R330)
  nowRate : Nat := 0                  -- RATE and FLEN in force (R318)
  nowFlen : Nat := 0
  flush   : Bool := false             -- the next frame follows a flush: it carries SETTLING (R156)
  frameAt : Nat := 0                  -- Gauge of the start of the frame in progress
  hopAt   : Nat := 0                  -- Gauge of the start of the hop in progress (R326)
  cur     : Option (Nat × Nat × List Nat) := none   -- the frame in progress: RATE, FLEN and the inputs of its positions; none: none is produced
  drainAt : Nat := 0                  -- Gauge of the end of the last frame to drain
  late    : List (List Byte) := []    -- live frames that wait for the drain's end
  lastOut : Option Nat := none        -- LASTPRE is being committed: the rewinds of Sluice 165 at its start
  wakeIce : Bool := false             -- a wake raised in ICE or on the way there: a wake source (R328, R330)
  deriving DecidableEq, Repr

end Sys2Proof.Machine
end

