-- ==== Sys2Proof/Machine/TypesJetty.lean ====
section
/-!
DEFINITION. Machine/TypesJetty.lean: plain data of the Jetty links, the routing of packets and the Ferry (16).
-/
namespace Sys2Proof.Machine

/-- The link states (Table 16-2). -/
inductive JState where
  | down | train | align | hello | key | up
  deriving DecidableEq, Repr

/-- LSTATE code (Table 16-2). -/
def JState.code : JState → Nat
  | .down => 0 | .train => 1 | .align => 2 | .hello => 3 | .key => 4 | .up => 5

/-- A frame (Table 16-3) with its payload words. -/
structure JFrame where
  dest   : Nat := 0
  src    : Nat := 0
  type   : Nat := 0
  cls    : Nat := 0
  vl     : Nat := 0
  kslot  : Nat := 0
  first  : Bool := false
  last   : Bool := false
  nw     : Nat := 0
  zero5  : Nat := 0         -- bits [7:5] of byte 5
  valid  : Nat := 0
  hops   : Nat := 64
  fseq   : Nat := 0
  ackseq : Nat := 0
  ackv   : Bool := false
  nak    : Bool := false
  cr0    : Nat := 0
  cr1    : Nat := 0
  ctr    : Nat := 0
  zeros  : Bool := true     -- every other field that must be zero is
  data   : List Byte := []
  deriving DecidableEq, Repr

/-- A Jetty packet: TYPE 1 data, 2 a drain marker, 3 its acknowledgement; words with the valid bytes of the last one. -/
structure JPkt where
  dest  : Nat
  src   : Nat
  type  : Nat := 1
  cls   : Nat
  vl    : Nat := 0
  hops  : Nat := 64
  data  : List Byte
  valid : Nat := 64
  via   : Option Nat := none    -- a marker's link, chosen when its fence opened
  deriving DecidableEq, Repr

/-- A sent sequenced frame kept until it is acknowledged (R344), and how often it has been replayed. -/
structure JSent where
  frame  : JFrame
  replays : Nat := 0
  deriving DecidableEq, Repr

/-- A Jetty link (16): a part-to-part link of four lanes with a FEC of its own (R338), at a rate that no clock step changes (R339). -/
structure JLink where
  st      : JState := .down
  encNow  : Bool := false
  encCfg  : Bool := false
  auto    : Bool := false
  txSlot  : Nat := 0
  keys    : Tab W32 := []        -- 8 × slot + word
  kv0     : Bool := false
  kv1     : Bool := false
  peerV   : Bool := false
  peerVar : Nat := 0
  peerLink : Nat := 0
  peerNode : Nat := 0
  helloAt : Nat := 0             -- Gauge at which the next HELLO is due
  helloRx : Bool := false
  keyRx   : Bool := false        -- the peer's KEY frame has verified
  keyAcked : Bool := false       -- the first sequenced frame after our KEY frame has been acknowledged
  keySeq  : Nat := 0             -- its number (R356)
  keyAt   : Nat := 0             -- Gauge at which the KEY frame is due again
  keyHold : Bool := false        -- a KEY frame is being repeated
  salt    : Nat := 0             -- transmit salt and counter
  ctr     : Nat := 0
  rxSalt  : Tab Nat := []        -- by slot: the peer's salt, plus one
  rxCtr   : Tab Nat := []
  nextSeq : Nat := 0
  sent    : List JSent := []
  advAt   : Nat := 0             -- Gauge of the last acknowledgement advance
  rxLast  : Nat := 4095          -- FSEQ of the last frame accepted
  rxAny   : Bool := false
  gap     : Bool := false        -- frames are discarded until the replay arrives
  unret   : Nat := 0             -- accepted frames not yet acknowledged
  ackAt   : Nat := 0             -- Gauge of the last ACKSEQ sent
  used0   : Nat := 0             -- frames sent on VL0 and VL1 since UP
  used1   : Nat := 0
  free0   : Nat := 0             -- the peer's running CR counts
  free1   : Nat := 0
  my0     : Nat := 0             -- frames freed here, modulo 256
  my1     : Nat := 0
  part0   : Option JPkt := none  -- a packet being received on VL0 and VL1
  part1   : Option JPkt := none
  rx0     : List JPkt := []      -- whole packets in the receive buffers
  rx1     : List JPkt := []
  slotNo  : Nat := 0             -- slot of the 16-slot schedule
  rr      : Tab Nat := []        -- by class: the input served last, plus one
  faultAt : Option Nat := none   -- Gauge of a move to FAULTED that AUTO answers (R345)
  helloTx : Bool := false        -- a HELLO frame has been sent since ON
  inj     : Nat := 0             -- packets this node has put into Sluice 76 + j
  openAt  : Nat := 0             -- Gauge of ON
  deriving DecidableEq, Repr

/-- A drain fence (R351). -/
structure Fence where
  dest  : Nat
  old   : Nat           -- the old link
  mark  : Nat
  due   : Nat
  deriving DecidableEq, Repr

/-- A MEM request sent to the lending peer and not answered (R358, R359): its tag, the link of the page, the bytes asked for. -/
structure MemReq where
  tag   : Nat
  node  : Nat
  write : Bool
  due   : Nat
  basin : Nat             -- core whose append or Basin whose stream waits
  page  : Nat
  off   : Nat
  len   : Nat
  deriving DecidableEq, Repr

/-- Bytes a MEM read has brought for the session stream of a Basin (R358, R359). -/
structure MemData where
  basin : Nat
  node  : Nat
  page  : Nat
  off   : Nat
  data  : List Byte
  bad   : Bool
  deriving DecidableEq, Repr

/-- The Jetty switch (16). -/
structure Jetty where
  link   : Tab JLink := []
  node   : Nat := 0
  lend   : Bool := false
  memto  : Nat := 921600
  trunk  : Tab Nat := []
  route  : Tab W32 := []
  fences : List Fence := []
  path   : Tab Nat := []             -- by destination: the link its packets last took, plus one
  rot    : Tab Nat := []             -- by trunk: where the rotation of FERRY packets stands (R350)
  waitF  : List (Nat × Nat) := []    -- fences that wait for one of 16 (R353): destination, old link
  nextMark : Nat := 0
  got    : List (Nat × Nat × Nat) := []   -- markers seen here as destination: origin, mark, VL bits
  mgmtIn : List (List Byte) := []         -- Bipol messages delivered to the Shore agent
  memIn  : List JPkt := []                -- MEM requests delivered to the memory server
  memreq : List MemReq := []
  memdata : List MemData := []
  nextTag : Nat := 0               -- TAG of the next MEM request
  outbox : List JPkt := []         -- packets of this node's other units, waiting to be routed to a link
  deriving DecidableEq, Repr

/-- FERRY_OWNk (R368). -/
structure FOwn where
  valid : Bool := false
  slot  : Nat := 0
  addr  : Nat := 0
  len   : Nat := 0
  deriving DecidableEq, Repr

/-- A block in hand at this stop (R360 to R363). -/
structure FBlock where
  slot   : Nat
  block  : Nat
  nblock : Nat
  rev    : Nat
  len    : Nat
  data   : List Byte
  at'    : Nat          -- Gauge of its arrival
  mine   : Bool         -- this stop owns it
  deriving DecidableEq, Repr

/-- A FERRY packet out of order, waiting for the gap before it (R363). -/
structure FWait where
  src : Nat
  seq : Nat
  tok : Bool
  rev : Nat
  blk : FBlock
  deriving DecidableEq, Repr

/-- The Ferry (16). -/
structure Ferry where
  index  : Nat := 0
  next   : Nat := 0
  ring   : Nat := 0
  nslot  : Nat := 1
  nstop  : Nat := 1
  run    : Bool := false
  token  : Bool := false
  revb   : W32 := 92160000
  hold   : W32 := 18432
  revlast : W32 := 0
  own    : Tab FOwn := []
  rev    : Nat := 0            -- the revolution of the latest token seen
  revAt  : Nat := 0            -- Gauge at which it began here
  seen   : Bool := false       -- a revolution has begun here
  seqOut : Nat := 0
  exp    : Tab Nat := []       -- by sending stop: next SEQ expected
  waits  : List FWait := []
  inHand : List FBlock := []
  heard  : Nat := 0            -- Gauge of the last block or token
  toSend : List (Nat × Nat) := []   -- while the token is held: entry and next block of the owned slots still to inject
  deriving DecidableEq, Repr

end Sys2Proof.Machine
end

