-- ==== Sys2Proof/Machine/TypesBoot.lean ====
section
/-!
DEFINITION. Machine/TypesBoot.lean: plain data of the Thermocline and Ice (17), of fuses, flash, boot and firmware (19), and of supplies,
resets and the test port (20).
-/
namespace Sys2Proof.Machine

/-! ### Thermocline (17) -/

/-- One junction sensor (R371, R372): validity, latest sample in 0.25 °C, samples missed in a row, good samples in a row, and samples of
110 °C or more in a row (R386). -/
structure Sensor where
  valid  : Bool := false
  temp   : Int := 0
  missed : Nat := 0
  good   : Nat := 0
  hot    : Nat := 0
  deriving DecidableEq, Repr

/-- A dispatch request that waits for its grant (R380). -/
structure DReq where
  core    : Nat
  arrived : Nat
  eclass  : Nat
  deadline : Nat
  prio    : Nat
  ticks   : Nat
  deriving DecidableEq, Repr

/-- The Thermocline (17). -/
structure Therm where
  sens    : Tab Sensor := []
  tmaxNow : Option Int := none     -- greatest valid sample of the layer running
  tmax    : Int := 0               -- of the last layer
  plimit  : Nat := 620
  plimNow : Nat := 620             -- the limit in force in the layer running
  elast   : Nat := 0
  drawn   : Nat := 0               -- energy drawn so far in the layer, µJ
  debt    : Nat := 0
  rung    : Nat := 0
  floor   : Nat := 0
  rungmax : Nat := 7
  calm    : Nat := 0
  shlevel : Nat := 0
  eweight : Nat := 100
  deferprio : Nat := 2
  urgent  : Nat := 4608000
  efirst  : Nat := 1000000
  ecost   : Tab Nat := []
  auto    : Bool := false
  istate  : Nat := 0
  wakesrc : Nat := 0
  iceidle : Nat := 1000
  icewait : Nat := 20
  icewake : Nat := 0
  exitlast : Nat := 0
  layer   : Nat := 0               -- number of the layer last begun
  reqs    : List DReq := []
  evalNow : Bool := false          -- a request has arrived, a batch has returned or a layer has begun (R381)
  lastEval : Nat := 0
  raise   : Option (ClkStep × Nat) := none   -- a higher step waits for VDD_CORE until this Gauge (R378)
  volt    : Option ClkStep := some .full     -- the step whose target VDD_CORE stands at; none: the Ice level
  tfloor  : Nat := 0               -- the floor that temperature alone sets (R376)
  want    : Option Nat := none     -- the rung a failed raise of VDD_CORE keeps from being reached (R466)
  pend    : Option ClkStep := none -- the step that takes effect at the next aligned tick end (R21)
  bootHold : Bool := false         -- the boot's regulator check holds the rung at 2 or above (R466)
  iceAt   : Nat := 0               -- Gauge of ICE entry's start, or of ISTATE becoming 2
  lowered : Option Nat := none     -- VDD_CORE lowered for Ice at this Gauge
  iceReq  : List Nat := []         -- units the entry has asked to go to ICE
  iceTodo : List Nat := []         -- units it has yet to ask, in R389's order
  abandon : Bool := false          -- the entry is abandoned (R393)
  enterReq : Bool := false         -- an entry is asked for and waits for a pending step change (R389)
  iceGo   : Bool := false          -- step 3 of the entry has begun
  exitTodo : List Nat := []        -- units an exit or abandonment has yet to call back
  exitAt  : Nat := 0               -- W
  exitRest : List Nat := []        -- units it has yet to see READY
  exitGo  : Option Nat := none     -- the EXIT requests wait for VDD_CORE until this Gauge (R393)
  lastAdm : Nat := 0               -- Gauge of the last admission (R389)
  waitIn  : List (Nat × String) := []   -- `enter ice wait` lines
  waitOut : List (Nat × String) := []   -- `leave ice wait` lines
  deriving DecidableEq, Repr

/-! ### Fuses, flash and boot (19) -/

/-- The fuse record (R416). -/
structure Fuse where
  variant : Variant
  letter  : Nat := 1           -- A = 1
  digit   : Nat := 1
  sealc   : Nat := 1
  year    : Nat := 31          -- SINCE year − 2000
  month   : Nat := 3
  romver  : Nat := 1
  keys    : List (List Byte) := []   -- four SHA-384 digests
  revoked : Nat := 0                 -- bit k: key k
  shoreMin : Nat := 0
  kernMin  : Nat := 0
  debugLock : Bool := true
  deriving DecidableEq, Repr

/-- What BOOTSTATE holds of one image (R427). -/
structure BSlot where
  activeB : Bool := false
  trial   : Bool := false
  rolled  : Bool := false
  deriving DecidableEq, Repr

/-- BOOTSTATE (R427): accepted tuples are ROMVER, stepping code, Shore VERSION, kernel VERSION, oldest first. -/
structure BState where
  shore : BSlot := {}
  kern  : BSlot := {}
  accepted : List (Nat × Nat × Nat × Nat) := []
  deriving DecidableEq, Repr

/-- One copy of a numbered image (R433): where it lies (flash offset, or HBM address), its bytes in all, and whether it is active. -/
structure DirEnt where
  n      : Nat
  copyB  : Bool
  hbm    : Bool
  addr   : Nat
  len    : Nat
  active : Bool
  deriving DecidableEq, Repr

/-- A flash operation: a page program of up to 256 bytes, or an erase of a range. -/
inductive NvOp where
  | page (addr : Nat) (data : List Byte)
  | erase (addr len : Nat)
  deriving DecidableEq, Repr

/-- What a finished write brings into use. -/
inductive NvDone where
  | none
  | seqOf (kind seq : Nat) (body : List Byte)
  | imageEnt (e : DirEnt)
  deriving DecidableEq, Repr

/-- A write under way (R419, R434): record kind 0 to 3, 4 Shore image, 5 kernel image, 6 image store, 7 marker area. -/
structure NvJob where
  kind : Nat
  slot : Nat
  ops  : List NvOp
  fin  : NvDone := .none
  wait : Option (Nat × String) := none
  deriving DecidableEq, Repr

/-- Why CCLK is gated (R421, R422, R458, R461). -/
inductive Trip where
  | none | firmware | hardware | refLoss | powerDown
  deriving DecidableEq, Repr

/-- Boot, flash and firmware (19), supplies and resets (20). -/
structure Boot where
  flash   : Mem := []            -- an unlisted byte is erased: 0xFF
  jobs    : List NvJob := []     -- the first runs
  mode8   : Bool := false
  mhz     : Nat := 25
  seqs    : Tab Nat := []
  bst     : BState := {}
  dir     : List DirEnt := []
  config  : List Byte := []      -- body of the CONFIG record in use
  events  : List (List Byte) := []   -- EVENT entries of the record in use, oldest first
  newEv   : List (List Byte) := []   -- collected since the last EVENT record
  evAt    : Option Nat := none       -- Gauge of the last EVENT record
  phase   : Nat := 0
  cause   : Nat := 0
  guarded : Bool := false
  unsealTick : Bool := false     -- Guarded has ended in this tick: its records still carry UNSEALED (R430)
  reason  : Nat := 0
  rolled  : Bool := false
  ktrial  : Bool := false
  strial  : Bool := false
  kslot   : Nat := 0
  sslot   : Nat := 0
  kernok  : Bool := false
  shorever : Nat := 0
  kernver : Nat := 0
  shoreImg : List Byte := []     -- the running images, header and payload
  kernImg : List Byte := []
  recaddr : Nat := 0x6000000
  trip    : Trip := .none
  tripped : Bool := false        -- a trip has not yet been followed by a boot
  ssvid   : Nat := 0             -- subsystem vendor and device ID (R435 tag 1)
  ssid    : Nat := 0
  thermtrip : Bool := true       -- level of THERMTRIP_n
  outZ    : Bool := false        -- outputs are high-impedance (R458)
  deriving DecidableEq, Repr

/-! ### The test port (20 R469) -/

/-- The IEEE 1149.1 port: the selected instruction, the boundary-scan register, and whether EXTEST is in force. -/
structure TapPort where
  ir     : Nat := 2              -- Test-Logic-Reset selects IDCODE
  bsr    : Nat := 0
  deriving DecidableEq, Repr

end Sys2Proof.Machine
end

