-- ==== Sys2Proof/Machine/Dev.lean ====
section
/-!
DEFINITION. Machine/Dev.lean: the block's state but for its command queue: every register, buffer, queue, counter, mode and pin the
spec gives the part, and the model's own counter of free values.
-/
namespace Sys2Proof.Machine

/-- The block. -/
structure Dev where
  fuse    : Fuse                    -- 19 R416
  gauge   : W64 := 0                -- 02 R22
  tickN   : Nat := 0                -- ticks of CCLK that have passed: 07 counts its delays in ticks, whatever their lengths
  clk     : ClkStep := .full        -- 02 R20
  hold    : Tab W32 := []           -- GLB_GAUGE_HI holding register of each requester (02 R24)
  imask   : Tab Bool := []          -- GLB_IMASK (02 R35), by source
  note    : Tab Note := []          -- notice registers, by summary source (02 R31 to R35); 200 the mailbox, 1000 + n Sluice n
  ctr     : Tab Ctr := []           -- event counters (02 R32), 16 × source + bit; special ones from 100,000 up
  udir    : Udir := {}
  bip     : Bipol := {}
  host    : HostLink := {}
  slu     : Sluices := {}
  slubuf  : Tab (Option Byte) := [] -- Sluice buffer bytes a Siphon job has written (14 R300)
  slupois : Tab Bool := []          -- 64-byte words of the Sluice buffers written poisoned (14 R304)
  weir    : Weir := {}
  reed    : Reed := {}
  shoal   : Shoal := {}
  tarn    : Tarn := {}
  basin   : Tab Basin := []
  gstr    : Tab GStream := []       -- open broadcast group streams, by group (11 R236)
  longs   : Longs := {}
  mere    : Mere := {}
  siph    : Siphon := {}
  hbm     : Hbm := {}
  well    : Well := {}
  jetty   : Jetty := {}
  ferry   : Ferry := {}
  therm   : Therm := {}
  ledger  : Ledger := {}
  boot    : Boot := {}
  tap     : TapPort := {}
  loads   : List LoadJob := []
  out     : List Out := []          -- what the block has sent out, oldest first
  freeCtr : Nat := 0                -- the model's own: how many free values have been drawn
  deriving DecidableEq, Repr

end Sys2Proof.Machine
end

