-- ==== Sys2Proof/Machine/Ops.lean ====
section
/-!
DEFINITION. Machine/Ops.lean: the named operations every command of the block is written over: what leaves the block, MSI-X messages
(05 R104), notice bits and their messages (02 R31 to R35), event counters (02 R32), the unit table (03) and time (02 R23).
-/
namespace Sys2Proof.Machine

/-- Whether it leaves through a ball that the boundary-scan register covers (20 R469). [log entry 17 PRESUMED] -/
def scanBall : Out → Bool
  | .uart _ => true
  | .vout _ => true
  | .pin _ _ => true
  | .flash _ _ => true
  | _ => false

/-- Send something out of the block. While EXTEST is in force the scanned balls follow the boundary-scan register (20 R469). -/
def emit (o : Out) (d : Dev) : Dev := if d.tap.ir == 0 && scanBall o then d else { d with out := d.out ++ [o] }

/-- Records posted now carry UNSEALED (19 R429, R430). -/
def unsealed (d : Dev) : Bool := d.boot.guarded || d.boot.unsealTick

/-- The device logic sees the balls that the boundary-scan register covers (20 R469). [log entry 17 PRESUMED] -/
def ballsSeen (d : Dev) : Bool := d.tap.ir != 0

/-- A value the spec leaves open: the next free value, counted. [log entry 5 DESIGN CHOICE] -/
def draw (d : Dev) : Nat × Dev := (Sys2Proof.Config.freeNat d.freeCtr, { d with freeCtr := d.freeCtr + 1 })

/-- The Gauge as a number. -/
def now (d : Dev) : Nat := d.gauge.toNat

/-- One past the last Gauge value of the present tick's span (02 R22). -/
def spanEnd (d : Dev) : Nat := now d + d.clk.gu

/-- An event scheduled at Gauge `t` takes place in the present tick or took place before it (02 R23). [log entry 8 DEDUCED] -/
def due (t : Nat) (d : Dev) : Bool := decide (t < spanEnd d)

/-! ### Order of host accesses (R30; 05 R90) -/

/-- A host access waits behind those received before it. [log entry 58 DEDUCED] -/
def hostWait (x : HostAcc) (d : Dev) : Dev := { d with host := { d.host with acc := d.host.acc ++ [x] } }

/-- A host access `x`, whose effect is `f`, takes effect once every access received before it has. [log entry 58 DEDUCED] -/
def hostDo (x : HostAcc) (f : Dev → Dev) (d : Dev) : Dev := if d.host.acc.isEmpty then f d else hostWait x d

/-- The same of a host write of the register at BAR0 offset `a`. [log entry 58 DEDUCED] -/
def hostReg (a v : Nat) (f : Dev → Dev) (d : Dev) : Dev := hostDo (.write a 4 15 v) f d

/-! ### MSI-X (05 R104) -/

/-- The value a register of the MSI-X table has at reset: Vector Control with its mask bit 1, the rest 0 (PRESUMED: the PCI Express
standard). [log entry 15 PRESUMED] -/
def vecDef (k : Nat) : W32 := if k % 4 = 3 then 1 else 0

/-- Whether a message on vector `v` can be sent now. [log entry 15 PRESUMED] -/
def vecOpen (v : Nat) (h : HostLink) : Bool :=
  !h.fnMask && !(tabGet vecDef h.vecTab (4 * v + 3)).getLsbD 0 && h.bme && !h.d3

/-- One MSI-X message: sent, or left pending while it cannot be sent. [log entry 15 PRESUMED] -/
def sendMsix (v : Nat) (d : Dev) : Dev :=
  if 2048 ≤ v ∨ d.host.msixEn = false then d
  else if vecOpen v d.host then emit (.msix v) d
  else { d with host := { d.host with pba := tabSet (fun _ => false) d.host.pba v true } }

/-- Send every pending message that can now be sent. [log entry 15 PRESUMED] -/
def flushPba (d : Dev) : Dev :=
  if d.host.msixEn = false then d
  else
    foldSt (d.host.pba.map (·.1)) (fun v d =>
      if vecOpen v d.host then
        emit (.msix v) { d with host := { d.host with pba := tabSet (fun _ => false) d.host.pba v false } }
      else d) d

/-! ### Event counters (02 R32) -/

def ctrGet (k : Nat) (d : Dev) : Ctr := tabGet (fun _ => {}) d.ctr k

def ctrSet (k : Nat) (c : Ctr) (d : Dev) : Dev := { d with ctr := tabSet (fun _ => {}) d.ctr k c }

/-- Count `n` events. -/
def bumpBy (k n : Nat) (d : Dev) : Dev := let c := ctrGet k d; ctrSet k { c with fresh := c.fresh + n } d

def bump (k : Nat) (d : Dev) : Dev := bumpBy k 1 d

/-- A counter's value at the end of the tick, saturating at `mx`. -/
def ctrVal (mx k : Nat) (d : Dev) : Nat := let c := ctrGet k d; min mx (c.old + c.fresh)

/-- An RC read: the count before the present tick's events, which are left counted (02 R31, R32). -/
def ctrRc (mx k : Nat) (d : Dev) : Nat × Dev :=
  let c := ctrGet k d
  (min mx c.old, ctrSet k { c with old := 0 } d)

/-- GLB_BADACC. -/
def kBadacc : Nat := 100000
/-- GLB_BIP_UARTERR. -/
def kUartErr : Nat := 100001

/-- Count a discarded access. -/
def badacc (d : Dev) : Dev := bump kBadacc d

/-- The counters of Sluice n: 0 SLU_RWNDCNT, 1 SLU_DROPCNT, 2 SLU_ABRTCNT, 3 CROSS. -/
def kSlu (n i : Nat) : Nat := 200000 + 4 * n + i

/-! ### Notices (02 R31 to R35) -/

def noteGet (b : Nat) (d : Dev) : Note := tabGet (fun _ => {}) d.note b

def noteSet (b : Nat) (n : Note) (d : Dev) : Dev := { d with note := tabSet (fun _ => {}) d.note b n }

/-- The summary source of a notice block: the mailbox belongs to source 0, each Sluice's notices to source 7 (02 R34). -/
def noteSrc (b : Nat) : Nat := if b = 200 then 0 else if 1000 ≤ b then 7 else b

/-- Send the message of a block's source, unless the source is masked (02 R33, R35). -/
def noteMsg (b : Nat) (d : Dev) : Dev :=
  if tabGet (fun _ => false) d.imask (noteSrc b) then d else sendMsix (512 + noteSrc b) d

/-- Hardware sets status bits of a block (02 R31, R33): a message where an enabled bit was clear. -/
def setBits (b : Nat) (m : BitVec 8) (d : Dev) : Dev :=
  let n := noteGet b d
  let fire := m &&& ~~~ n.bits &&& n.en &&& ~~~ n.msgd
  let d := noteSet b { n with bits := n.bits ||| m, sets := n.sets ||| m, msgd := n.msgd ||| fire } d
  forN (popcount 8 fire.toNat) (fun _ d => noteMsg b d) d

/-- An event of status bit `i` of block `b`: the bit is set and its paired counter counts (02 R32). -/
def raise (b i : Nat) (d : Dev) : Dev := setBits b (BitVec.ofNat 8 (2 ^ i)) (bump (16 * b + i) d)

/-- Software writes 1s to status bits (02 R31, R33): a bit set in this tick stays set, and raises its message if it has not yet. -/
def clearBits (b : Nat) (m : BitVec 8) (d : Dev) : Dev :=
  let n := noteGet b d
  let lost := m &&& n.sets
  let fire := lost &&& n.en &&& ~~~ n.msgd
  let d := noteSet b { n with bits := n.bits &&& ~~~ (m &&& ~~~ n.sets), msgd := n.msgd ||| fire } d
  forN (popcount 8 fire.toNat) (fun _ d => noteMsg b d) d

/-- Software writes the enables (02 R33): a bit newly enabled that is already set raises its message. -/
def setEn (b : Nat) (e : BitVec 8) (d : Dev) : Dev :=
  let n := noteGet b d
  let fire := e &&& ~~~ n.en &&& n.bits &&& ~~~ n.msgd
  let d := noteSet b { n with en := e, msgd := n.msgd ||| fire } d
  forN (popcount 8 fire.toNat) (fun _ d => noteMsg b d) d

/-- Whether a block has a status bit set with its enable set. -/
def notePend (b : Nat) (d : Dev) : Bool := let n := noteGet b d; n.bits &&& n.en != 0

/-- Summary bit of source `s` (02 R34, R35). -/
def isumBit (s : Nat) (d : Dev) : Bool :=
  if s = 0 then notePend 0 d || notePend 200 d
  else if s = 7 then notePend 7 d || d.note.any (fun kn => decide (1000 ≤ kn.1) && (kn.2.bits &&& kn.2.en != 0))
  else decide (s < 100) && notePend s d

/-! ### The unit table (03 R37, Table 3-1, Table 0-2) -/

/-- Basins, Jetty links and HBM stacks of a variant (Table 0-1). -/
def nBasin : Variant → Nat | .hg8 => 8 | .hg4 => 4 | .hg2w => 2
def nJetty : Variant → Nat | .hg8 => 64 | .hg4 => 32 | .hg2w => 8
def nHbm : Variant → Nat | .hg8 => 4 | .hg4 => 2 | .hg2w => 2
def tdp : Variant → Nat | .hg8 => 620 | .hg4 => 340 | .hg2w => 190
def varCode : Variant → Nat | .hg8 => 8 | .hg4 => 4 | .hg2w => 2
def varName : Variant → String | .hg8 => "HG8" | .hg4 => "HG4" | .hg2w => "HG2W"
def hasWell : Variant → Bool | .hg4 => false | _ => true

/-- Unit numbers that are assigned (R37). -/
def uAssigned (n : Nat) : Bool := decide (n < 100) && n != 7 && n != 31

/-- Units present in a variant (Table 0-2). -/
def uPresent (v : Variant) (n : Nat) : Bool :=
  uAssigned n &&
    (if 8 ≤ n ∧ n < 16 then decide (n - 8 < nBasin v)
     else if 16 ≤ n ∧ n < 24 then decide (n - 16 < nBasin v)
     else if 26 ≤ n ∧ n < 30 then decide (n - 26 < nHbm v)
     else if n = 30 then hasWell v
     else if 32 ≤ n ∧ n < 96 then decide (n - 32 < nJetty v)
     else true)

/-- Unit names (R58). A number that no unit has carries no name. [log entry 62 DESIGN CHOICE] -/
def uName (n : Nat) : String :=
  if 8 ≤ n ∧ n < 16 then "basin" ++ dec (n - 8)
  else if 16 ≤ n ∧ n < 24 then "long" ++ dec (n - 16)
  else if 26 ≤ n ∧ n < 30 then "hbm" ++ dec (n - 26)
  else if 32 ≤ n ∧ n < 96 then "jetty" ++ dec (n - 32)
  else match n with
    | 0 => "shore" | 1 => "inlet" | 2 => "outlet" | 3 => "weir" | 4 => "reed" | 5 => "shoal" | 6 => "tarn" | 24 => "mere"
    | 25 => "siphon" | 30 => "well" | 96 => "ferry" | 97 => "ledger" | 98 => "thermo" | 99 => "nv" | _ => ""

/-- State names (Table 3-2). -/
def uStateName : UState → String
  | .absent => "ABSENT" | .off => "OFF" | .ice => "ICE" | .waking => "WAKING" | .ready => "READY" | .draining => "DRAINING"
  | .faulted => "FAULTED" | .updating => "UPDATING"

/-- Drain and wake bounds of Table 3-1 (0: the unit has none). -/
def drainDef (n : Nat) : Nat :=
  if n = 1 ∨ n = 2 then 921600
  else if n = 3 then 92160000
  else if 4 ≤ n ∧ n < 7 then 921600
  else if 8 ≤ n ∧ n < 24 then 9216000
  else if 24 ≤ n ∧ n < 30 then 921600
  else if n = 30 then 9216000
  else if 32 ≤ n ∧ n < 96 then 92160
  else if n = 96 then 9216000
  else if n = 97 then 921600
  else if n = 99 then 18432000
  else 0

def wakeDef (n : Nat) : Nat :=
  if 1 ≤ n ∧ n < 4 then 921600
  else if 4 ≤ n ∧ n < 24 ∧ n ≠ 7 then 92160
  else if n = 24 then 1843200
  else if n = 25 then 92160
  else if 26 ≤ n ∧ n < 30 then 9216000
  else if n = 30 then 9216000
  else if 32 ≤ n ∧ n < 96 then 9216000
  else if 96 ≤ n ∧ n < 98 then 921600
  else if n = 99 then 921600
  else 0

/-- The Directory's entry of unit `n`. -/
def uent (n : Nat) (d : Dev) : UEntry := tabGet (fun _ => {}) d.udir.ent n

def uentSet (n : Nat) (e : UEntry) (d : Dev) : Dev := { d with udir := { d.udir with ent := tabSet (fun _ => {}) d.udir.ent n e } }

def ustate (n : Nat) (d : Dev) : UState := (uent n d).state

def uready (n : Nat) (d : Dev) : Bool := ustate n d == .ready

def ugen (n : Nat) (d : Dev) : Nat := (uent n d).gen.toNat

/-- READY or DRAINING: the unit still serves what it has accepted (R48). [log entry 8 DEDUCED] -/
def userves (n : Nat) (d : Dev) : Bool := match ustate n d with | .ready => true | .draining => true | _ => false

/-- The part is in Ice and the unit with it (17 R390). -/
def asleep (n : Nat) (d : Dev) : Bool := d.therm.istate == 2 && ustate n d == .ice

/-! ### Whether the part runs -/

/-- The part runs: CCLK is not gated by a trip, a lost reference or a power-down (19 R421, R422, 20 R458, R461). -/
def running (d : Dev) : Bool := d.boot.trip == .none

/-- An effect that takes a running part. [log entries 2 DESIGN CHOICE, 8 DEDUCED] -/
def whenRunning (f : Dev → Dev) (d : Dev) : Dev := if running d then f d else d

end Sys2Proof.Machine
end

