-- ==== Sys2Proof/Machine/PcieOps.lean ====
section
/-!
DEFINITION. Machine/PcieOps.lean: the configuration space of the host function (05 R87 to R89) and what its error reporting holds (R107).
-/
namespace Sys2Proof.Machine

def pcieMod (f : Pcie → Pcie) (d : Dev) : Dev := { d with host := { d.host with cfg := f d.host.cfg } }

/-! ### Error reporting (R107) -/

/-- An error message of a severity (0 correctable, 1 non-fatal, 2 fatal) leaves where Device Control enables it. [log entry 15 PRESUMED] -/
def errMessage (sev : Nat) (d : Dev) : Dev :=
  let d := pcieMod (fun c => { c with devSts := c.devSts ||| 2 ^ sev }) d
  if bitOf d.host.cfg.devCtl sev then emit (.errMsg sev) d else d

/-- AER records a correctable error: its status bit, and a message where it is not masked. [log entry 15 PRESUMED] -/
def aerCor (bit : Nat) (d : Dev) : Dev :=
  let d := pcieMod (fun c => { c with aerCor := c.aerCor ||| 2 ^ bit }) d
  if bitOf d.host.cfg.aerCorMask bit then d else errMessage 0 d

/-- AER records an uncorrectable error with the header of the TLP it concerns, if any: its status bit; where it is not masked, the first such error and
its header, and a message of its severity. [log entry 15 PRESUMED] -/
def aerUnc (bit : Nat) (hdr : List W32) (d : Dev) : Dev :=
  let c := d.host.cfg
  let d := pcieMod (fun c => { c with aerUnc := c.aerUnc ||| 2 ^ bit }) d
  if bitOf c.aerUncMask bit then d
  else
    let d := if c.aerUnc &&& (0xFFFFFFFF - c.aerUncMask) = 0 then pcieMod (fun c => { c with aerFirst := bit, hdrLog := hdr }) d else d
    errMessage (if bitOf c.aerUncSev bit then 2 else 1) d

/-- A Sluice pointer mismatch in the Inlet or the Outlet: Corrected Internal Error (bit 14). -/
def aerCorrected (d : Dev) : Dev := aerCor 14 (emit .aerCorrected d)

/-- The Inlet or the Outlet enters FAULTED: Uncorrectable Internal Error (bit 22), non-fatal. -/
def aerFaulted (d : Dev) : Dev := aerUnc 22 [] (emit .aerUncorrectable d)

/-- The header of a poisoned TLP, which no command carries: four words the spec leaves open. [log entry 5 DESIGN CHOICE] -/
def tlpHeader (d : Dev) : List W32 × Dev := let (v, d) := draw d; ((List.range 4).map fun i => BitVec.ofNat 32 (v / 2 ^ (32 * i)), d)

/-- A poisoned TLP is received (bit 12). -/
def aerPoisoned (d : Dev) : Dev := let (h, d) := tlpHeader d; aerUnc 12 h d

/-- A read of the function ended with Unsupported Request (0), Completer Abort (1), poisoned data (2), or no completion (3): what the standard has it
report. [log entry 15 PRESUMED] -/
def aerReadFail (kind : Nat) (d : Dev) : Dev :=
  let d := emit .aerRead d
  match kind with
  | 0 => pcieMod (fun c => { c with sts := c.sts ||| 2 ^ 13 }) d
  | 1 => pcieMod (fun c => { c with sts := c.sts ||| 2 ^ 12 }) d
  | 2 => aerPoisoned (pcieMod (fun c => { c with sts := c.sts ||| 2 ^ 15 }) d)
  | _ => aerUnc 14 [] d

/-! ### Table 5-1 -/

/-- Max payload size and max read request size in bytes, of Device Control. -/
def maxPayload (d : Dev) : Nat := 128 * 2 ^ min 2 (bitsOf d.host.cfg.devCtl 7 5)
def maxReadReq (d : Dev) : Nat := 128 * 2 ^ min 5 (bitsOf d.host.cfg.devCtl 14 12)

/-- Device Control enables Relaxed Ordering (R100). -/
def relaxedOn (d : Dev) : Bool := bitOf d.host.cfg.devCtl 4

/-- The bytes that the first `k` TLPs of a write of `n` bytes at `a` carry: none is longer than the max payload size or crosses 4 KiB (R108). -/
def tlpBytes (mps : Nat) : Nat → Nat → Nat → Nat
  | 0, _, _ => 0
  | k + 1, a, n => let m := min n (min mps (4096 - a % 4096)); m + tlpBytes mps k (a + m) (n - m)

/-! ### The configuration space (R88) -/

def devIdOf : Variant → Nat | .hg8 => 0x4808 | .hg4 => 0x4804 | .hg2w => 0x4802

/-- A capability header: identity, next. -/
def capHead (id next extra : Nat) : Nat := extra * 65536 + next * 256 + id
/-- An extended capability header: identity, version 1, next. -/
def extHead (id next : Nat) : Nat := next * 1048576 + 65536 + id

/-- The doubleword of the configuration space at an offset (Table 5-2; the layouts and the values of the standard's own fields are the standard's).
 [log entry 15 PRESUMED] -/
def cfgRead (off : Nat) (d : Dev) : Nat :=
  let h := d.host
  let c := h.cfg
  match off with
  | 0x000 => devIdOf d.fuse.variant * 65536 + 0x1FD7
  | 0x004 => (c.sts ||| 0x10) * 65536 + c.cmd + 4 * b2n h.bme
  | 0x008 => 0x120000 * 256 + d.fuse.letter * 16 + d.fuse.digit
  | 0x010 => c.bar0Base % 4294967296 + 0x4 | 0x014 => c.bar0Base / 4294967296
  | 0x018 => c.bar2Base % 4294967296 + 0xC | 0x01C => c.bar2Base / 4294967296
  | 0x020 => h.bar4Base % 4294967296 + 0xC | 0x024 => h.bar4Base / 4294967296
  | 0x02C => d.boot.ssid * 65536 + d.boot.ssvid
  | 0x034 => 0x40
  | 0x040 => capHead 1 0x50 3
  | 0x044 => if h.d3 then 3 else 0
  | 0x050 => capHead 0x10 0xB0 2
  | 0x054 => 0x10008002
  | 0x058 => c.devSts * 65536 + c.devCtl
  | 0x05C => 0x900 + 6 + 16 * 16
  | 0x060 => (c.rate + 16 * c.width) * 65536 + c.lnkCtl
  | 0x074 => 0x13 + 0x30000
  | 0x078 => c.devCtl2
  | 0x07C => 0x7E
  | 0x080 => c.lnkCtl2
  | 0x0B0 => capHead 0x11 0 (2047 + 0x4000 * b2n h.fnMask + 0x8000 * b2n h.msixEn)
  | 0x0B4 => 0x1400000
  | 0x0B8 => 0x1410000
  | 0x100 => extHead 1 0x148
  | 0x104 => c.aerUnc | 0x108 => c.aerUncMask | 0x10C => c.aerUncSev | 0x110 => c.aerCor | 0x114 => c.aerCorMask
  | 0x118 => c.aerFirst % 32
  | 0x11C => (c.hdrLog.getD 0 0).toNat | 0x120 => (c.hdrLog.getD 1 0).toNat | 0x124 => (c.hdrLog.getD 2 0).toNat | 0x128 => (c.hdrLog.getD 3 0).toNat
  | 0x148 => extHead 3 0x158
  | 0x14C => (Sys2Proof.Config.serial d.fuse.romver).toNat % 4294967296
  | 0x150 => (Sys2Proof.Config.serial d.fuse.romver).toNat / 4294967296
  | 0x158 => extHead 0x15 0x168
  | 0x15C => 0x7FC000
  | 0x160 => (h.bar4 - 20) * 256 + 0x24
  | 0x168 => extHead 0x19 0x188
  | 0x188 => extHead 0x25 0x198
  | 0x198 => extHead 0x26 0x1C0
  | 0x1C0 => extHead 0x2A 0x1E8
  | 0x1E8 => extHead 0x27 0x230
  | 0x230 => extHead 0x31 0x280
  | 0x280 => extHead 0x2E 0
  | _ => 0

/-- Write of a field under a byte mask. -/
def cfgMask (be : Nat) : Nat := (List.range 4).foldl (fun a i => if bitOf be i then a + 255 * 256 ^ i else a) 0
def cfgMix (be old v : Nat) : Nat := let m := cfgMask be; (old &&& (0xFFFFFFFF - m)) + (v % 4294967296 &&& m)

/-- A base address register of `k` address bits below its base. -/
def cfgBase (k : Nat) (hi : Bool) (be v base : Nat) : Nat :=
  let w := if hi then cfgMix be (base / 4294967296) v * 4294967296 + base % 4294967296 else cfgMix be (base % 4294967296) v + base / 4294967296 * 4294967296
  w / 2 ^ k * 2 ^ k

/-- Writes of the configuration space that change registers alone. The standard's writable bits. [log entry 15 PRESUMED] -/
def cfgStore (off be v : Nat) (d : Dev) : Dev :=
  let old := cfgRead off d
  let w := cfgMix be old v
  let ones := v % 4294967296 &&& cfgMask be
  let c := d.host.cfg
  let clear := fun (x : Nat) (m : Nat) => x - (x &&& m)
  match off with
  | 0x004 => pcieMod (fun c => { c with cmd := w &&& 0x542, sts := clear c.sts (ones / 65536) }) d
  | 0x010 => pcieMod (fun c => { c with bar0Base := cfgBase 26 false be v c.bar0Base }) d
  | 0x014 => pcieMod (fun c => { c with bar0Base := cfgBase 26 true be v c.bar0Base }) d
  | 0x018 => pcieMod (fun c => { c with bar2Base := cfgBase 27 false be v c.bar2Base }) d
  | 0x01C => pcieMod (fun c => { c with bar2Base := cfgBase 27 true be v c.bar2Base }) d
  | 0x020 => { d with host := { d.host with bar4Base := cfgBase d.host.bar4 false be v d.host.bar4Base } }
  | 0x024 => { d with host := { d.host with bar4Base := cfgBase d.host.bar4 true be v d.host.bar4Base } }
  | 0x058 => pcieMod (fun c => { c with devCtl := w % 32768, devSts := clear c.devSts (ones / 65536) }) d
  | 0x060 => pcieMod (fun c => { c with lnkCtl := w &&& 0x1FB }) d
  | 0x078 => pcieMod (fun c => { c with devCtl2 := w &&& 0x101F }) d
  | 0x080 => pcieMod (fun c => { c with lnkCtl2 := w % 65536 }) d
  | 0x104 => pcieMod (fun x => { x with aerUnc := clear c.aerUnc ones }) d
  | 0x108 => pcieMod (fun c => { c with aerUncMask := w }) d
  | 0x10C => pcieMod (fun c => { c with aerUncSev := w }) d
  | 0x110 => pcieMod (fun x => { x with aerCor := clear c.aerCor ones }) d
  | 0x114 => pcieMod (fun c => { c with aerCorMask := w }) d
  | _ => d

/-- The function answers configuration requests: no reset of it runs (Request Retry Status, R108), and the link is up. -/
def cfgOpen (d : Dev) : Bool := !d.host.fnReset && !d.host.perst && d.host.linkUp

end Sys2Proof.Machine
end

