-- ==== Sys2Proof/Machine/BipolOut.lean ====
section
/-!
DEFINITION. Machine/BipolOut.lean: what the Bipol sessions send (04 R64 to R79, R85): lines, responses, waits, event lines and the log.
-/
namespace Sys2Proof.Machine

def sess (i : Nat) (d : Dev) : Session := tabGet (fun _ => {}) d.bip.sess i

def sessSet (i : Nat) (s : Session) (d : Dev) : Dev :=
  { d with bip := { d.bip with sess := tabSet (fun _ => {}) d.bip.sess i s } }

/-- Bipol is served: the Shore image runs, and not in recovery (19 R432). -/
def bipServed (d : Dev) : Bool := running d && uready 0 d && d.boot.phase != 5

/-- The terminator the device sends (Table 4-1). -/
def sessTerm (i : Nat) : String := if i = 0 then "\r\n" else if i = 1 then "\n" else ""

/-- A line as it is sent: with the session's check code where it requires one (R65), and its terminator. -/
def sessLine (i : Nat) (s : Session) (t : String) : String :=
  (if s.crc then t ++ " *" ++ hexN 2 (crc8 (textBytes t)).toNat else t) ++ sessTerm i

/-- Bytes in use of the response ring (R79). -/
def rspUsed (b : Bipol) : Nat := (b.rhead + 131072 - b.rtail) % 131072

/-- Write bytes into the response ring from an offset. -/
def rspWrite : Mem → Nat → List Byte → Mem
  | m, _, [] => m
  | m, o, b :: bs => rspWrite (tabSet (fun _ => 0) m (o % 65536) b) (o + 1) bs

/-- Send one piece of output if its transport has room (R77, R79, R82). An inbound session counts from its last end line (R83). [log entry 28 DESIGN CHOICE] -/
def sendOut (i : Nat) (l : OutLine) (d : Dev) : Option Dev :=
  let bs := textBytes l.text
  if i = 0 then
    if d.bip.uartOut.length + bs.length ≤ 65536 then
      let o := d.bip.uartOut ++ bs
      some { d with bip := { d.bip with uartOut := o, newBaud := (match l.baud with | some b => d.bip.newBaud ++ [(o.length, b)] | none => d.bip.newBaud) } }
    else none
  else if i = 1 then
    if rspUsed d.bip + bs.length ≤ 65536 then
      some (raise 200 0 { d with bip := { d.bip with
        rspRing := rspWrite d.bip.rspRing d.bip.rhead bs, rhead := (d.bip.rhead + bs.length) % 131072 } })
    else none
  else
    let s := sess i d
    let m : BipolMsg := { dest := s.node, src := d.jetty.node, type := if l.event then 3 else 2, hops := 32, session := s.origin,
                          line := l.line, text := bs }
    some (sessSet i (if textBytes l.text |>.take 4 |> (· == textBytes "end ") then { s with lastEnd := now d } else s) { d with bip := { d.bip with mgmt := d.bip.mgmt ++ [m] } })

/-- A sent line ends its command (R70). -/
def endTag (i : Nat) (l : OutLine) (d : Dev) : Dev :=
  match l.ends with
  | none => d
  | some t => let s := sess i d
    sessSet i { s with outst := s.outst.filter (fun o => o.tag != t) } d

/-- Send what the session's output holds, as far as there is room. -/
def pumpN : Nat → Nat → Dev → Dev
  | 0, _, d => d
  | n + 1, i, d =>
    let s := sess i d
    match s.outq with
    | [] => d
    | l :: ls =>
      match sendOut i l d with
      | none => d
      | some d' => pumpN n i (endTag i l (sessSet i { sess i d' with outq := ls } d'))

/-- Send the buffered event lines, which fall only between responses; `! lost n` is a line of its own before the next (R85). -/
def pumpEv : Nat → Nat → Dev → Dev
  | 0, _, d => d
  | n + 1, i, d =>
    let s := sess i d
    match s.events with
    | [] => d
    | e :: es =>
      let d0 := if s.lost = 0 then some d
        else (sendOut i { text := sessLine i s ("! lost " ++ dec s.lost), event := true } d).map fun d' => sessSet i { sess i d' with lost := 0 } d'
      match d0 with
      | none => d
      | some d => match sendOut i { text := sessLine i s e, event := true } d with
        | none => d
        | some d' => pumpEv n i (sessSet i { sess i d' with events := es } d')

/-- Responses first, then event lines. [log entry 28 DESIGN CHOICE] -/
def pump (i : Nat) (d : Dev) : Dev :=
  let d := pumpN (sess i d).outq.length i d
  if (sess i d).outq.isEmpty then pumpEv (sess i d).events.length i d else d

/-- Queue output of a live session and send what has room. -/
def say (i : Nat) (ls : List OutLine) (d : Dev) : Dev :=
  let s := sess i d
  if s.live then pump i (sessSet i { s with outq := s.outq ++ ls } d) else d

/-- The prompt of typed mode (R66). -/
def prompt : String := "hg> "

/-- The lines of a response (R67, R68, R71). `ends`: the tag of the command it ends. -/
def respLines (r : BRef) (ends : Option String) (err : Option String) (body : List String) (d : Dev) : List OutLine :=
  let s := sess r.sid d
  let line := match s.outst.find? (fun o => ends == some o.tag) with | some o => o.line | none => s.oline
  let tg := if r.tag = "" then [] else ["#" ++ r.tag]
  let first := match err with
    | none => spaced (["ok"] ++ tg)
    | some w => spaced (["err"] ++ tg ++ [w])
  let mk := fun t => { text := sessLine r.sid s t, line := line : OutLine }
  let head := (first :: body).map mk
  if s.machine then head ++ [{ mk (spaced ("end" :: tg)) with ends := ends }]
  else head ++ [{ text := prompt, ends := ends, line := line }]

/-- The responses at the front of a session's order that are complete, and the rest. -/
def owedReady : List Owed → List OutLine × List Owed
  | ⟨_, some ls⟩ :: os => let x := owedReady os; (ls ++ x.1, x.2)
  | os => ([], os)

/-- The order of a session's responses, with what is complete at its front sent. -/
def oweSet (i : Nat) (os : List Owed) (d : Dev) : Dev :=
  let x := owedReady os
  say i x.1 (sessSet i { sess i d with order := x.2 } d)

/-- A response whose turn comes after those the session still owes (R74). -/
def sayNext (i : Nat) (ls : List OutLine) (d : Dev) : Dev :=
  if (sess i d).order.isEmpty then say i ls d else oweSet i ((sess i d).order ++ [⟨"", some ls⟩]) d

/-- A command without `wait` that is taken in a later tick keeps its place among the session's responses (R74). -/
def owe (r : BRef) (d : Dev) : Dev := sessSet r.sid { sess r.sid d with order := (sess r.sid d).order ++ [⟨r.tag, none⟩] } d

/-- Give the first owed response of a tag its lines. -/
def owedFill (t : String) (ls : List OutLine) : List Owed → List Owed
  | [] => [⟨"", some ls⟩]
  | o :: os => if o.tag == t && o.lines.isNone then { o with lines := some ls } :: os else o :: owedFill t ls os

/-- A response that ends its command. Commands that wait answer when they may; the others in the order of their lines (R74). -/
def respond (r : BRef) (err : Option String) (body : List String) (d : Dev) : Dev :=
  let ls := respLines r (some r.tag) err body d
  let s := sess r.sid d
  if s.order.isEmpty || s.outst.any (fun o => o.tag == r.tag && o.obj != .output) then say r.sid ls d
  else oweSet r.sid (owedFill r.tag ls s.order) d

/-- `ok` with body lines. -/
def ok (r : BRef) (body : List String) (d : Dev) : Dev := respond r none body d

/-- `err word` with body lines. -/
def err (r : BRef) (w : String) (body : List String) (d : Dev) : Dev := respond r (some w) body d

/-- The answer of a command whose unit cannot serve: denied while it is in Ice (17 R390), else absent. -/
def errAway (r : BRef) (u : Nat) (body : List String) (d : Dev) : Dev := err r (if asleep u d then "denied" else "absent") body d

/-- A tag: 1 to 8 letters and digits (Table 4-2). -/
def tagForm (t : String) : Bool := within t.length 1 8 && t.toList.all fun c => c.isAlphanum

/-- The line counter takes one more line (R69). -/
def countLine (i : Nat) (d : Dev) : Dev := let s := sess i d; sessSet i { s with lines := (s.lines + 1) % 65536 } d

/-- A line that is not executed and has no tag of its own: `err #? word` with its number (R65, R68). -/
def lineRefused (i : Nat) (w : String) (d : Dev) : Dev :=
  let r : BRef := { sid := i, tag := "?" }
  sayNext i (respLines r none (some w) ["line " ++ dec (sess i d).lines] d) d

/-- Start a command of a session (R70): its line counts (R69), the tag must not be outstanding and at most 32 commands are; then it is
outstanding and runs. In typed mode one command runs at a time (R66). [log entry 24 DEDUCED] -/
def bcmd (r : BRef) (f : Dev → Dev) (d : Dev) : Dev :=
  let s := sess r.sid d
  if bipServed d && s.live && (s.machine || s.outst.isEmpty) then
    let d := countLine r.sid d
    if s.machine && !tagForm r.tag then lineRefused r.sid "syntax" d
    else if s.machine && s.outst.any (fun o => o.tag == r.tag) then sayNext r.sid (respLines r none (some "dup") [] d) d
    else if s.machine && decide (32 ≤ s.outst.length) then sayNext r.sid (respLines r none (some "full") [] d) d
    else
      let s := sess r.sid d
      f (sessSet r.sid { s with outst := s.outst ++ [{ tag := r.tag, obj := .output, line := s.oline }] } d)
  else d

/-- The command waits for an object: its response comes later (R72). -/
def bwait (r : BRef) (o : WaitObj) (d : Dev) : Dev :=
  let s := sess r.sid d
  sessSet r.sid { s with outst := s.outst.map fun x => if x.tag == r.tag then { x with obj := o } else x } d

/-- Whether a command of this session and tag still waits for an object. [log entry 32 DEDUCED] -/
def waitsFor (r : BRef) (o : WaitObj) (d : Dev) : Bool :=
  (sess r.sid d).live && (sess r.sid d).outst.any fun x => x.tag == r.tag && x.obj == o

/-- Answer a waiting command, if it still waits (a session that has ended discards its response, R78, R80). -/
def answer (r : BRef) (o : WaitObj) (err : Option String) (body : List String) (d : Dev) : Dev :=
  if waitsFor r o d then respond r err body d else d

/-- Answer every command of every session that waits for an object. -/
def answerAll (o : WaitObj) (err : Option String) (body : List String) (d : Dev) : Dev :=
  foldSt (d.bip.sess.flatMap fun (i, s) => (s.outst.filter (fun x => x.obj == o)).map fun x => (⟨i, x.tag⟩ : BRef))
    (fun r d => answer r o err body d) d

/-- Level names and order (R85). -/
def levelName : LogLevel → String | .info => "info" | .warn => "warn" | .fault => "fault"
def levelRank : LogLevel → Nat | .info => 0 | .warn => 1 | .fault => 2

/-- An entry as an event line (R85). -/
def logLine (e : LogEntry) : String :=
  "! " ++ hexGrouped 16 e.gauge ++ " " ++ dec e.unit ++ " " ++ levelName e.level ++ " " ++ e.text

/-- Append to the log, which keeps its latest 4,096 entries, and to the following sessions (R85). -/
def logAdd (unit : Nat) (l : LogLevel) (t : String) (d : Dev) : Dev :=
  let e : LogEntry := { gauge := now d, unit := unit, level := l, text := t }
  let es := d.bip.log ++ [e]
  let d := { d with bip := { d.bip with log := es.drop (es.length - 4096) } }
  foldSt (d.bip.sess.map (·.1)) (fun i d =>
    let s := sess i d
    match s.follow with
    | none => d
    | some m =>
      if s.live && levelRank m ≤ levelRank l then
        pump i (sessSet i (if s.events.length < 256 then { s with events := s.events ++ [logLine e] } else { s with lost := s.lost + 1 }) d)
      else d) d

/-! ### Sessions (R59) -/

/-- A fresh session of transport `i`: typed on the UART, machine elsewhere. -/
def freshSess (i : Nat) : Session := { live := true, machine := i != 0 }

/-- A session that ends no longer waits for what it sent to other nodes. [log entry 27 DEDUCED] -/
def dropRemote (i : Nat) (d : Dev) : Dev := { d with bip := { d.bip with remote := d.bip.remote.filter fun c => c.sid != i } }

/-- Start a session, ending the one that ran (R59). The prompt is sent on a typed session (R66). -/
def startSess (i : Nat) (d : Dev) : Dev :=
  let d := sessSet i (freshSess i) (dropRemote i d)
  if i = 0 then say 0 [{ text := prompt }] d else d

/-- End the mailbox session (R80): its outstanding commands run on as requests, their responses are discarded, and the four pointers
return to 0. -/
def endMailbox (d : Dev) : Dev :=
  if bipServed d then
    startSess 1 { d with bip := { d.bip with chead := 0, ctail := 0, rhead := 0, rtail := 0 } }
  else { d with bip := { d.bip with chead := 0, ctail := 0, rhead := 0, rtail := 0, sess := tabSet (fun _ => {}) d.bip.sess 1 {} } }

end Sys2Proof.Machine
end

