-- ==== Sys2Proof/Machine/LedgerOps.lean ====
section
/-!
DEFINITION. Machine/LedgerOps.lean: the Ledger's records (18): their bytes, allocation, mirroring, marks and retirement.
-/
namespace Sys2Proof.Machine

/-- LIDX of a packet that carries no item (06 R114). -/
def noLidx : Nat := 0xFFFFFFFF

def lrec (l : Nat) (d : Dev) : LRec := tabGet (fun _ => {}) d.ledger.recs l

def lrecSet (l : Nat) (r : LRec) (d : Dev) : Dev :=
  { d with ledger := { d.ledger with recs := tabSet (fun _ => {}) d.ledger.recs l r } }

def lrecMod (l : Nat) (f : LRec → LRec) (d : Dev) : Dev := lrecSet l (f (lrec l d)) d

/-! ### The region (R396) -/

/-- Local records. -/
def ledgSize (d : Dev) : Nat := d.hbm.ledger * 8388608 / (if d.ledger.serveNow then 2 else 1)

/-- Free local records. -/
def ledgFree (d : Dev) : Nat := ledgSize d - d.ledger.recs.countP fun (_, r) => r.phase != 0

/-- First number at or after `k` that no entry of a rising list occupies. -/
def firstFree : Tab LRec → Nat → Nat
  | [], k => k
  | (i, r) :: t, k => if i = k ∧ r.phase ≠ 0 then firstFree t (k + 1) else if i < k then firstFree t k else if i = k then k else k

/-- The record an admission takes (R397): the lowest free one at or after the last, wrapping. -/
def ledgPick (d : Dev) : Option Nat :=
  let n := ledgSize d
  let a := firstFree d.ledger.recs d.ledger.last
  if a < n then some a
  else
    let b := firstFree d.ledger.recs 0
    if b < n then some b else none

/-! ### Record bytes (Table 18-1) -/

def spanBytes (l : List (Nat × Nat)) : List Byte := l.flatMap fun (o, n) => toLe 4 o ++ toLe 4 n

/-- CFLAGS (Table 5-6). -/
def cflags (r : LRec) : Nat := b2n r.clipped + 2 * b2n r.backlog + 2 ^ 31 * b2n r.phaseBit

/-- The verdict record (Table 1-5). -/
def verdictBytes (r : LRec) : List Byte :=
  toLe 2 (r.stream + 4096 * r.kind) ++ toLe 1 r.route ++ toLe 1 (r.verdict + 16 * r.dir) ++ toLe 4 r.seq ++ toLe 2 r.flags ++ toLe 2 r.epoch
    ++ r.scores.flatMap (fun s => toLe 2 s.toNat) ++ toLe 4 r.cut ++ toLe 8 r.relAt

/-- The 128 bytes of a record. -/
def recBytes (l : Nat) (r : LRec) : List Byte :=
  verdictBytes r
    ++ padTo 64 (if r.type = 0 then toLe 8 r.admitAt ++ toLe 8 r.deadline ++ toLe 4 r.plen else spanBytes r.spans)
    ++ toLe 8 r.cookie ++ toLe 4 r.rlen ++ toLe 2 r.subidx ++ toLe 1 r.subring ++ toLe 1 r.done
    ++ toLe 1 r.type ++ toLe 1 r.error ++ toLe 1 (if r.type = 0 then 0 else r.spans.length) ++ toLe 1 r.mark
    ++ toLe 1 (r.replays + 16 * b2n r.dlv + 32 * b2n r.amend + 64 * b2n r.early + 128 * r.dir)
    ++ toLe 1 (r.phase + 16 * r.deliv) ++ toLe 1 (b2n r.mirrored + 2 * b2n r.host + 4 * b2n r.refetch) ++ [0]
    ++ toLe 4 l ++ toLe 4 (cflags r)

/-- The record its bytes spell (R409 to R411: a record comes back from the peer). -/
def recOf (b : List Byte) : LRec :=
  let w0 := fieldLe b 0 2
  let b3 := fieldLe b 3 1
  let ty := fieldLe b 112 1
  let b116 := fieldLe b 116 1
  let b117 := fieldLe b 117 1
  let b118 := fieldLe b 118 1
  let cf := fieldLe b 124 4
  { phase := bitsOf b117 2 0, deliv := bitsOf b117 5 4, stream := w0 % 4096, kind := w0 / 4096, dir := bitsOf b3 4 4,
    route := fieldLe b 2 1, epoch := fieldLe b 10 2, seq := fieldLe b 4 4, flags := fieldLe b 8 2, verdict := bitsOf b3 3 0,
    scores := (List.range 4).map fun i => BitVec.ofNat 16 (fieldLe b (12 + 2 * i) 2), cut := fieldLe b 20 4, relAt := fieldLe b 24 8,
    admitAt := if ty = 0 then fieldLe b 32 8 else 0, deadline := if ty = 0 then fieldLe b 40 8 else 0,
    plen := if ty = 0 then fieldLe b 48 4 else 0,
    spans := if ty = 0 then [] else (List.range (fieldLe b 114 1)).map fun i => (fieldLe b (32 + 8 * i) 4, fieldLe b (36 + 8 * i) 4),
    cookie := fieldLe b 96 8, rlen := fieldLe b 104 4, subidx := fieldLe b 108 2, subring := fieldLe b 110 1, done := fieldLe b 111 1,
    type := ty, error := fieldLe b 113 1, mark := fieldLe b 115 1, replays := bitsOf b116 3 0, dlv := bitOf b116 4,
    amend := bitOf b116 5, early := bitOf b116 6, mirrored := bitOf b118 0, host := bitOf b118 1, refetch := bitOf b118 2,
    clipped := bitOf cf 0, backlog := bitOf cf 1, phaseBit := bitOf cf 31, cq := 0 }

/-- The entry the Outlet delivers from a record (R398): bytes 111 and 115 to 123 zero. -/
def entryBytes (l : Nat) (r : LRec) : List Byte :=
  let b := recBytes l r
  b.take 111 ++ [0] ++ slice b 112 3 ++ List.replicate 9 0 ++ b.drop 124

/-! ### Mirroring (R408 to R410) -/

/-- Mirror writes are being sent. -/
def mirroring (d : Dev) : Bool := d.ledger.mirrorOn && d.ledger.peerV

/-- Send a mirror write (OP 0), retirement (OP 3) or fetch data (OP 4) for record `l`, as it now stands. -/
def mirrorSend (op l : Nat) (d : Dev) : Dev :=
  if mirroring d then
    let g := d.ledger
    let q := (g.mseq + 1) % 2 ^ 32
    let p : MirrorPkt := { op := op, origin := d.jetty.node, mseq := q, lidx := l, rcd := if op = 3 then none else some (lrec l d) }
    let w : MirrorWait := { lidx := l, mseq := q, due := now d + g.mirTo, again := false }
    let d := { d with ledger := { g with mseq := q, mout := g.mout ++ [p], unacked := g.unacked ++ [w] } }
    if op = 3 then d else lrecMod l (fun r => { r with mirrored := false }) d
  else if op = 3 then d else lrecMod l (fun r => { r with mirrored := false }) d

/-! ### Items of the Weir -/

def item? (l : Nat) (d : Dev) : Option Item := (d.weir.items.find? (fun p => p.1 == l)).map (·.2)

def itemMod (l : Nat) (f : Item → Item) (d : Dev) : Dev :=
  { d with weir := { d.weir with items := d.weir.items.map fun p => if p.1 == l then (p.1, f p.2) else p } }

def itemDel (l : Nat) (d : Dev) : Dev := { d with weir := { d.weir with items := d.weir.items.filter fun p => p.1 != l } }

def setStage (l i : Nat) (st : StageSt) (d : Dev) : Dev := itemMod l (fun it => { it with stages := listSet it.stages i st }) d

/-! ### Marks (R402, R405) -/

/-- The outcome BLOCK of a stage fixed under R138 or R405. [log entry 35 DEDUCED] -/
def blockOut : Outcome' := { prop := .block }

/-- A fault marks stage `i` of the item of record `l` (R402): the stage is to be run again, or is fixed as BLOCK past MAXREPLAY (R405).
A fault of a replay that is under way ends that replay, which counts as run, and marks anew. [log entries 35 DEDUCED, 52 DEDUCED] -/
def ledgMark (l i : Nat) (d : Dev) : Dev :=
  match item? l d with
  | none => d
  | some it =>
    let r := lrec l d
    if i ≥ it.stages.length ∨ bitOf r.done i ∨ it.gone ∨ it.failed ∨ it.stages.getD i .idle = .dropped then d
    else
      let again := bitOf r.mark i
      let sent := match it.stages.getD i .idle with | .sent .. => true | _ => false
      if again && !sent then d
      else
        let r := if again then { r with mark := r.mark - 2 ^ i, replays := min 15 (r.replays + 1), flags := r.flags ||| 0x20 } else r
        let sum := r.replays + popcount 8 r.mark + b2n r.refetch + 1
        if sum > d.ledger.maxReplay then
          raise 97 1 (setStage l i (.done blockOut) (lrecSet l { r with flags := r.flags ||| 0x20 } d))
        else
          raise 97 0 (setStage l i .idle (lrecSet l { r with mark := r.mark + 2 ^ i } d))

/-- The item runs no further stage and is released with BLOCK, ERROR 14 and RLEN 0 at the instant its release mode gives (R97, R402,
R403). [log entry 35 DEDUCED] -/
def itemFail (l : Nat) (d : Dev) : Dev :=
  itemMod l (fun it => { it with failed := true, result := some blockOut, endAt := 0, readyAt := now d, readyTick := d.tickN, stages := it.stages.map fun s =>
    match s with | .done o => .done o | .skipped => .skipped | _ => .dropped }) d

/-- The intake packet of the item is lost while the Inlet head has not passed its descriptor (R402): the payload is read again, or past
MAXREPLAY the item fails as a failed payload read. -/
def ledgRefetch (l : Nat) (d : Dev) : Dev :=
  match item? l d with
  | none => d
  | some _ =>
    let r := lrec l d
    if r.refetch then d
    else
      let sum := r.replays + popcount 8 r.mark + 1
      if sum > d.ledger.maxReplay then raise 97 1 (itemFail l d)
      else raise 97 0 (itemMod l (fun it => { it with whole := false, inn := false, kept := false, payload := [] }) (lrecSet l { r with refetch := true } d))

/-- Records with a MARK bit or REFETCH set (LEDG_MARKED). [log entry 52 DEDUCED] -/
def ledgMarked (d : Dev) : Nat := d.ledger.recs.countP fun (_, r) => r.mark != 0 || r.refetch

/-! ### Lifetime (R399) -/

/-- Retire record `l` if its PHASE is DONE and no delivery waits: it becomes FREE, and the peer frees its copy. -/
def ledgRetire (l : Nat) (d : Dev) : Dev :=
  let r := lrec l d
  if r.phase = 3 ∧ r.deliv = 0 then mirrorSend 3 l (lrecSet l {} d) else d

/-- PHASE becomes DONE: the Weir gives up the item, and the record retires unless a delivery waits. -/
def ledgDone (l : Nat) (d : Dev) : Dev := ledgRetire l (itemDel l (lrecMod l (fun r => { r with phase := 3, mark := 0, refetch := false }) d))

end Sys2Proof.Machine
end

