-- ==== Sys2Proof/Machine/SluiceOps.lean ====
section
/-!
DEFINITION. Machine/SluiceOps.lean: the Sluices (06): Table 6-1, words and packets, rewind, cut-through, DROP, frames and the pool, resets
of a Sluice and of a unit, and whole packets of the engine Sluices.
-/
namespace Sys2Proof.Machine

/-! ### Table 6-1 (R111) -/

/-- Sluice numbers Table 6-1 assigns. -/
def sluListed (n : Nat) : Bool := decide (n < 256) && !(decide (171 ≤ n) && decide (n < 176))

/-- Producer and consumer unit numbers as SLU_MAP gives them (R133; 12 Table 12-7 for the program Sluices). -/
def sluEnds (n : Nat) : Nat × Nat :=
  if n < 2 then (if n = 0 then (1, 1) else (2, 2))
  else if n < 4 then (99, 99)
  else if n < 12 then (26 + (n - 4) / 2, 26 + (n - 4) / 2)
  else if n < 76 then (32 + (n - 12), 32 + (n - 12))
  else if n < 140 then (32 + (n - 76), 32 + (n - 76))
  else if n < 149 then
    match n with
    | 140 => (1, 3) | 141 => (3, 2) | 142 => (3, 3) | 143 => (3, 4) | 144 => (4, 3) | 145 => (3, 5) | 146 => (5, 3) | 147 => (3, 6)
    | _ => (6, 3)
  else if n < 157 then (3, 16 + (n - 149))
  else if n < 165 then (16 + (n - 157), 3)
  else if n < 176 then
    match n with
    | 165 => (30, 3) | 166 => (3, 97) | 167 => (96, 97) | 168 => (97, 96) | _ => (25, 25)
  else if n < 240 then
    let c := (n - 176) / 8
    let p := if c % 2 = 0 then c + 1 else c - 1
    match (n - 176) % 8 with
    | 0 => (25, 16 + c) | 1 => (16 + c, 25) | 2 => (0, 16 + c) | 3 => (16 + c, 0) | 4 => (16 + c, 16 + p) | 5 => (98, 16 + c)
    | _ => (16 + c, 16 + c)
  else (0, 0)

def sluProducer (n : Nat) : Nat := (sluEnds n).1
def sluConsumer (n : Nat) : Nat := (sluEnds n).2

/-- A Sluice is assigned in a variant when it is listed and both its units are present (R111). -/
def sluOk (v : Variant) (n : Nat) : Bool := sluListed n && uPresent v (sluProducer n) && uPresent v (sluConsumer n)

/-- Pool class (Table 6-1). -/
def sluClass (n : Nat) : Nat :=
  if n = 0 ∨ n = 2 then 2
  else if n < 4 then 3
  else if n < 12 then (if n % 2 = 0 then 2 else 3)
  else if n < 76 then 1
  else if n = 140 then 2
  else if n = 165 then 0
  else 3

/-- Boundary Sluices (Table 6-1). -/
def sluBoundary (n : Nat) : Bool := decide (n < 76)

/-- CAP, RES and CT of Table 6-1. -/
def sluCap (n : Nat) : Nat × Nat × Nat :=
  if n < 2 then (64, 8, 2)
  else if n < 4 then (4, 1, 16)
  else if n < 12 then (32, 32, 4)
  else if n < 140 then (32, 2, 4)
  else match n with
    | 140 => (128, 8, 2) | 141 => (64, 4, 2) | 142 => (16384, 16, 0) | 165 => (17, 4, 2)
    | _ => if n < 165 then (32, 2, 2) else if n < 171 then (32, 2, 0) else if n < 176 then (0, 0, 0) else (17, 1, 0)

/-- A Sluice as the boot firmware leaves it. -/
def sluDef (n : Nat) : Sluice :=
  let (cap, res, ct) := sluCap n
  { cap := cap, res := res, ct := ct, ovf := n == 142 }

def slu (n : Nat) (d : Dev) : Sluice := tabGet sluDef d.slu.s n

def sluSet (n : Nat) (s : Sluice) (d : Dev) : Dev := { d with slu := { d.slu with s := tabSet sluDef d.slu.s n s } }

def sluMod (n : Nat) (f : Sluice → Sluice) (d : Dev) : Dev := sluSet n (f (slu n d)) d

/-- Words held (R127). -/
def sluOcc (n : Nat) (d : Dev) : Nat := (slu n d).words.length

/-- Assigned Sluices of the part. -/
def sluAll (v : Variant) : List Nat := (List.range 256).filter (sluOk v)

/-! ### Frames and the pool (R128 to R131) -/

/-- Frames a Sluice holds. -/
def sluHeld (s : Sluice) : Nat := s.res + s.borrowed + s.ovr

/-- Frames needed for `k` further words. -/
def sluNeed (s : Sluice) (k : Nat) : Nat := (s.headOff + s.words.length + k + 63) / 64

/-- On-die frames neither reserved nor lent (SLU_POOL FREE). -/
def poolFree (d : Dev) : Nat :=
  1024 - (sluAll d.fuse.variant).foldl (fun (a n : Nat) => a + (slu n d).res + (slu n d).borrowed) 0

/-- Overflow frames lent (SLU_OVFUSE). -/
def ovfUse (d : Dev) : Nat := (slu 142 d).ovr

/-- Overflow frames there are: the overflow region is 64 MiB, a frame is 4 KiB (14 R308). [log entry 32 DEDUCED] -/
def ovfMax : Nat := 16384

/-- Take one frame for Sluice `n` from the pool, or from the overflow region while the pool is empty; SLU_NOTE DRY in the tick the pool
becomes empty. -/
def poolTake (n : Nat) (d : Dev) : Option Dev :=
  let s := slu n d
  let f := poolFree d
  if s.cap ≤ sluHeld s then none
  else if 0 < f then
    let d := sluSet n { s with borrowed := s.borrowed + 1 } d
    some (if f = 1 then raise 7 2 d else d)
  else if s.ovf ∧ s.ovr < ovfMax then some (sluSet n { s with ovr := s.ovr + 1 } d)
  else none

/-- A Sluice requests a grant (R128). -/
def poolWants (s : Sluice) : Bool := decide (64 * sluHeld s < s.headOff + s.words.length + 16) && decide (sluHeld s < s.cap)

/-- Grants are paced for classes 0 to 2 (R130). -/
def paceOf (n : Nat) : Nat := match sluClass n with | 0 => 1024 | 1 => 128 | 2 => 32 | _ => 0

/-- The Sluices that request a grant, in ascending order. A Sluice at its reset settings that holds nothing requests none. -/
def poolAsks (d : Dev) : List Nat :=
  (d.slu.s.map (·.1)).filter fun n => sluOk d.fuse.variant n && poolWants (slu n d) && (slu n d).paceT == 0

/-- The Sluice the arbitration names (R129): the lowest class, round-robin by number after that class's last winner. -/
def poolWinner (d : Dev) : Option Nat :=
  match poolAsks d with
  | [] => none
  | asks =>
    let dry := poolFree d = 0
    let want := asks.filter fun n => !dry || ((slu n d).ovf && decide ((slu n d).ovr < ovfMax))
    match (List.range 4).find? (fun c => want.any fun n => sluClass n == c) with
    | none => none
    | some c =>
      let ns := want.filter fun n => sluClass n == c
      let w := tabGet (fun _ => 0) d.slu.wins c     -- last winner + 1
      match ns.find? (fun n => decide (w ≤ n)) with
      | some n => some n
      | none => ns.head?

/-- One grant (R129), at most one a tick. [log entry 32 DEDUCED] -/
def poolGrant (d : Dev) : Dev :=
  if d.slu.granted then d
  else match poolWinner d with
    | none => d
    | some n => match poolTake n d with
      | none => d
      | some d =>
        let d := sluMod n (fun s => { s with paceT := paceOf n }) d
        { d with slu := { d.slu with granted := true, wins := tabSet (fun _ => 0) d.slu.wins (sluClass n) (n + 1) } }

/-- Frames of kind `k` that hold words. -/
def frN (k : Nat) (s : Sluice) : Nat := s.fr.countP (· == k)

/-- The Sluice holds no word: its borrowed and overflow frames have returned (R128, R131). -/
def sluNone (s : Sluice) : Sluice := { s with headOff := 0, borrowed := 0, ovr := 0, fr := [] }

/-- A word goes into the next frame: a reserved one first, then a borrowed one, then one of the overflow region. -/
def frPush (s : Sluice) : Sluice :=
  if s.fr.length < sluNeed s 0 then
    { s with fr := s.fr ++ [if frN 0 s < s.res then 0 else if frN 1 s < s.borrowed then 1 else 2] }
  else s

/-- Frames a Sluice keeps once `k` words have left at its front: a borrowed frame returns when its own last word leaves, and an overflow frame when
it empties (R128, R131). -/
def sluFree (k : Nat) (s : Sluice) : Sluice :=
  if s.words.isEmpty then sluNone s
  else
    let h := s.headOff + k
    let gone := s.fr.take (h / 64)
    { s with headOff := h % 64, fr := s.fr.drop (h / 64), borrowed := s.borrowed - gone.countP (· == 1), ovr := s.ovr - gone.countP (· == 2) }

/-- Frames after a rewind: those beyond the reserve that hold no word return (R118). -/
def sluTrim (s : Sluice) : Sluice :=
  if s.words.isEmpty then sluNone s
  else
    let s := { s with fr := s.fr.take (sluNeed s 0) }
    { s with borrowed := frN 1 s, ovr := frN 2 s }

/-- Frames after packets have left from between others: what the words that stay need. -/
def frFit (s : Sluice) : Sluice :=
  let n := (s.words.length + 63) / 64
  let b := min (n - s.res) s.borrowed
  let o := min (n - s.res - b) s.ovr
  { s with headOff := 0, fr := List.replicate (min n s.res) 0 ++ List.replicate b 1 ++ List.replicate o 2, borrowed := b, ovr := o }

/-! ### Marks (R127) -/

/-- Message of a Sluice's sticky bit, under its enables in SLU_CFGn (R127, R133): block 1000 + n, bit 1 up, bit 2 down. -/
def sluLevel (n : Nat) (d : Dev) : Dev :=
  let s := slu n d
  let o := s.words.length
  if !s.level && decide (s.hi ≤ o) then
    setBits (1000 + n) 2 (bump (kSlu n 3) (sluSet n { s with level := true } d))
  else if s.level && decide (o ≤ s.lo) then
    setBits (1000 + n) 4 (bump (kSlu n 3) (sluSet n { s with level := false } d))
  else d

/-! ### What a lost packet marks (R118, R126, R132; 18 R402) -/

/-- The Inlet head has not passed the descriptor of record `l` (18 R402). -/
def inFlight (l : Nat) (d : Dev) : Bool := d.host.sub.any fun (_, r) => r.flight.any fun (_, _, x) => x == l + 1

/-- A packet of record `l` and stage `g` is lost on Sluice `n`. -/
def sluLost (n l g : Nat) (d : Dev) : Dev :=
  if l = noLidx then d
  else if n = 140 ∨ n = 142 then (if inFlight l d then ledgRefetch l d else itemFail l d)
  else if 143 ≤ n ∧ n < 166 then ledgMark l g d
  else d

/-! ### Writing (R112, R113, R115, R117, R118, R122) -/

/-- Words of the open packet: those after the last LAST or bad word. -/
def openSuffix (ws : List SWord) : Nat := (ws.reverse.takeWhile fun w => !w.last && !w.bad).length

/-- The packet its unit is writing has begun: its first word is in the Sluice. -/
def waitOpen (s : Sluice) : Bool := match s.wait with | (w :: _) :: _ => !w.first | _ => false

/-- The rest of the packet its unit is writing is not written. -/
def waitEnd (s : Sluice) : Sluice := if s.opened && waitOpen s then { s with wait := s.wait.drop 1 } else s

/-- The open packet turns bad: its words leave at the end of the tick, and its record is marked (R117, R118). Of an absorbed packet no word is in
the Sluice. -/
def sluBad (n : Nat) (d : Dev) : Dev :=
  let s := slu n d
  if !s.opened then d
  else
    let k := s.words.length - openSuffix s.words
    let ws := if s.absorb then s.words else s.words.take k ++ (s.words.drop k).map fun w => { w with bad := true }
    let s' := { waitEnd s with words := ws, opened := false, absorb := false, answer := false, openN := 0, abortE := s.abortE || !s.absorb }
    sluLost n s.openL s.openG (bump (kSlu n 0) (sluSet n s' d))

/-- The reply Sluice of a request Sluice. -/
def replyOf (n : Nat) : Option Nat :=
  match n with
  | 143 => some 144 | 145 => some 146 | 147 => some 148
  | _ => if 149 ≤ n ∧ n < 157 then some (n + 8) else none

/-- Sluices that carry answers: a unit in DRAINING still takes them (R39, R48: it serves what it accepted). [log entry 32 DEDUCED] -/
def sluReply (n : Nat) : Bool :=
  n == 144 || n == 146 || n == 148 || (decide (157 ≤ n) && decide (n < 165)) || (decide (176 ≤ n) && decide (n < 240) && (n % 8 == 0 || n % 8 == 5))

/-- The consumer completes no write handshake for a packet's first word (R39, R48). -/
def sluShut (n : Nat) (d : Dev) : Bool := ustate (sluConsumer n) d == .draining && sluConsumer n != sluProducer n && !sluReply n

/-- The Sluice is in a pointer-mismatch reset (R126). -/
def inReset (s : Sluice) : Bool := decide (0 < s.resetT) && decide (s.resetT < 9)

/-- One 64-byte word with the common header (Table 6-3). -/
def headWord (stream kind : Nat) (absent aborted : Bool) (gen lidx : Nat) : List Byte :=
  padTo 64 (toLe 2 (stream % 4096 + 4096 * kind) ++ toLe 1 (b2n absent + 2 * b2n aborted) ++ [0] ++ toLe 2 gen ++ [0, 0] ++ toLe 4 lidx)

/-- Words of a whole packet (R124: contiguous, the last padded with 0x00). -/
def chunk64 : Nat → List Byte → List (List Byte)
  | 0, _ => []
  | n + 1, l => if l.length ≤ 64 then [l] else l.take 64 :: chunk64 n (l.drop 64)

def wordsOf (bytes : List Byte) (fresh : Bool) : List SWord :=
  let cs := chunk64 (bytes.length / 64 + 1) bytes
  let n := cs.length
  (List.range n).map fun i =>
    let b := cs.getD i []
    { data := padTo 64 b, first := i == 0, last := i + 1 == n, valid := if i + 1 == n then max 1 b.length else 64, fresh := fresh }

/-- A packet's bytes: the common header, then its body, at least a whole word 0. -/
def pktBytes (p : Pkt) : List Byte :=
  let h := (headWord p.stream p.kind p.absent p.aborted p.gen p.lidx).take 12
  h ++ padTo (max 52 p.body.length) p.body

/-- The words of a packet. -/
def pktWordsOf (p : Pkt) : List SWord :=
  match wordsOf (pktBytes p) true with
  | w :: ws => { w with jm := p.stage, abort := p.aborted } :: ws
  | [] => []

/-- A word is written: into a frame, committed at the end of the tick (R115). -/
def sluStore (n : Nat) (w : SWord) (d : Dev) : Dev :=
  sluMod n (fun s =>
    let s := frPush { s with words := s.words ++ [{ w with on := now d }], opened := !w.last, openN := if w.last then 0 else if w.first then 1 else s.openN + 1, lastAt := now d }
    if w.first then { s with openL := fieldLe w.data 8 4, openS := fieldLe w.data 0 2 % 4096, openG := fieldLe w.data 12 1 % 8 } else s) d

/-- The key of a request's first word: STREAM, LIDX, stage. -/
def wordKey (w : SWord) : Nat × Nat × Nat := (fieldLe w.data 0 2 % 4096, fieldLe w.data 8 4, fieldLe w.data 12 1 % 8)

/-- The absent reply to a request, as its unit's port gives it (R39). -/
def absentPkt (r : Nat) (k : Nat × Nat × Nat) (d : Dev) : Pkt :=
  { stream := k.1, absent := true, gen := ugen (sluProducer r) d, lidx := k.2.1, stage := k.2.2 + 1 }

/-- One packet more for the port of Sluice `n` to write, behind those that wait. -/
def sluQueue (n : Nat) (p : Pkt) (d : Dev) : Dev := sluMod n (fun s => { s with wait := s.wait ++ [pktWordsOf p] }) d

/-- The unit's port of Sluice `n` writes what its packets allow: a word needs a frame, a first word an open handshake; a request to a unit that cannot
serve is taken, discarded and answered absent; the 1,041st word of a packet is a framing error, and the rest is not written (R39, R113, R122). `f`: fuel.
 [log entries 14 DESIGN CHOICE, 32 DEDUCED] -/
def sluFeed : Nat → Nat → Dev → Dev
  | 0, _, d => d
  | f + 1, n, d =>
    let s := slu n d
    match s.wait with
    | [] => d
    | [] :: ps => sluFeed f n (sluSet n { s with wait := ps } d)
    | (w :: ws) :: ps =>
      if inReset s || (w.first && (s.opened || sluShut n d)) then d
      else if !w.first && s.absorb then sluFeed f n (sluSet n { s with wait := ps, absorb := false, answer := false, opened := false, openN := 0 } d)
      else if w.first && !userves (sluConsumer n) d && (replyOf n).isSome then
        let r := (replyOf n).getD n
        sluFeed f n (sluQueue r (absentPkt r (wordKey w) d) (sluSet n { s with wait := ps } d))
      else if 1040 ≤ s.openN then sluFeed f n (raise 7 1 (sluBad n d))
      else if sluHeld s < sluNeed s 1 then d
      else sluFeed f n (sluStore n w (sluSet n { s with wait := if ws.isEmpty then ps else ws :: ps } d))

/-- Words that wait in Sluice `n`, with one step for each packet beside. -/
def waitFuel (n : Nat) (d : Dev) : Nat := (slu n d).wait.foldl (fun a p => a + p.length + 1) 0

/-- The port of Sluice `n` goes on writing. -/
def sluPump (n : Nat) (d : Dev) : Dev := sluFeed (waitFuel n d + 2) n d

/-- An absent reply or an abort marker of a unit's port: never lost, it waits for its turn (R39, R49, R122). -/
def putMarker (n : Nat) (p : Pkt) (d : Dev) : Dev := sluPump n (sluQueue n p d)

/-- The absent reply a unit's port returns (03 R39). -/
def putAbsent (n : Nat) (k : Nat × Nat × Nat) (d : Dev) : Dev :=
  match replyOf n with
  | none => d
  | some r => putMarker r (absentPkt r k d) d

/-- The port of Sluice `n` can begin a packet: none is open in it, none waits, and it is not in reset. -/
def portFree (n : Nat) (d : Dev) : Bool := let s := slu n d; !s.opened && s.wait.isEmpty && !inReset s

/-- Its unit writes a packet into Sluice `n` (R115, R122): the words that frames hold now, the rest as the pool grants frames. None where its port is
still writing an earlier one, a packet is open, or the Sluice is in reset. [log entries 32 DEDUCED, 43 DEDUCED] -/
def putPkt (n : Nat) (p : Pkt) (d : Dev) : Option Dev :=
  if portFree n d then
    let d := putMarker n p d
    some (match replyOf n with | some r => sluPump r d | none => d)
  else none

/-- Words of the packet at the front, through its LAST. -/
def frontPkt : List SWord → Option (List SWord)
  | [] => none
  | w :: ws => if w.last then some [w] else (frontPkt ws).map (w :: ·)

/-- The packet its words spell. -/
def pktOf (ws : List SWord) : Pkt :=
  let b := ws.flatMap fun w => w.data.take (if w.last && !w.first then w.valid else 64)
  let w0 := fieldLe b 0 2
  let b2 := fieldLe b 2 1
  { stream := w0 % 4096, kind := w0 / 4096, absent := bitOf b2 0, aborted := bitOf b2 1, gen := fieldLe b 4 2, lidx := fieldLe b 8 4,
    stage := match ws with | w :: _ => w.jm | [] => 0, body := b.drop 12 }

/-- The whole packet at the front that a consuming unit sees (R115), without taking it. An abort marker due comes first (R120). -/
def peekPkt (n : Nat) (d : Dev) : Option Pkt :=
  let s := slu n d
  if inReset s then none
  else if s.abortP then some { stream := s.abortS, aborted := true, gen := ugen (sluProducer n) d, lidx := s.abortL, stage := s.rdG + 1 }
  else if s.started && s.rx.isEmpty then none
  else match frontPkt s.words with
    | none => none
    | some ws => if ws.any (·.fresh) then none else some (pktOf (s.rx ++ ws))

/-- Take the whole packet at the front. -/
def takePkt (n : Nat) (d : Dev) : Option (Pkt × Dev) :=
  match peekPkt n d with
  | none => none
  | some p =>
    let s := slu n d
    if s.abortP then some (p, sluSet n { s with abortP := false, started := false, rx := [], stillN := 0 } d)
    else
      let k := ((frontPkt s.words).getD []).length
      some (p, sluSet n (sluFree k { s with words := s.words.drop k, started := false, rx := [], stillN := 0 }) d)

/-- What the consumer keeps of the packet it starts. -/
def rdOf (w : SWord) (s : Sluice) : Sluice :=
  if w.first then { s with rdS := (wordKey w).1, rdL := (wordKey w).2.1, rdG := (wordKey w).2.2 } else s

/-- A consuming unit reads ahead under cut-through where the packet at the front cannot come whole into the frames its Sluice may hold (R120, R122).
 [log entry 14 DESIGN CHOICE] -/
def sluPull (n : Nat) (d : Dev) : Dev :=
  let s := slu n d
  let ws := s.words
  if s.opened && !s.absorb && !s.abortP && !inReset s && decide (140 ≤ n) && decide (n < 169) && userves (sluConsumer n) d && (frontPkt ws).isNone && !ws.isEmpty
      && ws.all (fun w => !w.fresh && !w.bad) && decide (s.cap ≤ sluHeld s) && decide (sluHeld s < sluNeed s 1) && decide (0 < s.ct) && (s.started == !s.rx.isEmpty)
  then sluSet n (sluNone { (match ws.head? with | some w => rdOf w s | none => s) with words := [], rx := s.rx ++ ws, started := true }) d
  else d

/-- A request that waits at the port of Sluice `n`, once. -/
def holdReq (n : Nat) (w : SWord) (d : Dev) : Dev :=
  if w.first && (replyOf n).isSome then sluMod n (fun s => { s with held := s.held.filter (· != wordKey w) ++ [wordKey w] }) d else d

/-- A producer writes one word to Sluice `n` (R112, R113, R115, R117, R122). A word whose write does not complete is offered again; while the unit's own
packets wait, the port is not free for it. [log entry 32 DEDUCED] -/
def sluWrite (n : Nat) (data : List Byte) (first last : Bool) (valid : Nat) (bad : Bool) (d : Dev) : Dev :=
  let s := slu n d
  let v := max 1 (min 64 valid)
  let w : SWord := { data := padTo 64 (if last then data.take v else data), first := first, last := last, valid := if last then v else 64, fresh := true }
  if inReset s || !s.wait.isEmpty then d
  else if first && !s.opened && sluShut n d then holdReq n w d
  else
    -- a FIRST inside an open packet, a word without FIRST outside one, and a 1,041st word
    let d := if first == s.opened || decide (1040 ≤ s.openN) then raise 7 1 (sluBad n d) else d
    let s := slu n d
    if !first && !s.opened then d
    else if bad then
      (if s.opened then sluBad n d else sluLost n (wordKey w).2.1 (wordKey w).2.2 (bump (kSlu n 0) d))
    else if s.absorb then
      (if last then
        let d' := sluSet n { s with absorb := false, answer := false, opened := false, openN := 0 } d
        if s.answer then putAbsent n (s.openS, s.openL, s.openG) d' else d'
      else sluSet n { s with openN := s.openN + 1 } d)
    else if first && sluShut n d then holdReq n w d
    else if first && !userves (sluConsumer n) d && (replyOf n).isSome then
      -- the unit cannot serve: the packet is taken, discarded, and answered absent
      (if last then putAbsent n (wordKey w) d
      else sluSet n { s with opened := true, absorb := true, answer := true, openS := (wordKey w).1, openL := (wordKey w).2.1, openG := (wordKey w).2.2,
                             openN := 1, lastAt := now d } d)
    else if sluHeld s < sluNeed s 1 then holdReq n w d
    else sluStore n w (if first then sluMod n (fun s => { s with held := s.held.filter (· != wordKey w) }) d else d)

/-! ### Reading (R116, R120, R121) -/

/-- What a completed read returns. -/
structure SRead where
  data  : List Byte
  first : Bool
  last  : Bool
  still : Bool
  abort : Bool
  valid : Nat
  deriving DecidableEq, Repr

/-- Committed words at the front up to LAST, and whether LAST is among them. -/
def frontCommitted : List SWord → Nat × Bool
  | [] => (0, false)
  | w :: ws => if w.fresh then (0, false) else if w.last then (1, true) else let (k, b) := frontCommitted ws; (k + 1, b)

/-- The consumer may start the packet at the front (R115, R120). -/
def canStart (s : Sluice) : Bool :=
  let (k, whole) := frontCommitted s.words
  whole || (decide (0 < s.ct) && decide (s.ct ≤ k))

/-- A consumer read of Sluice `n`; none: it does not complete (R116). -/
def sluRead (n : Nat) (d : Dev) : Option SRead × Dev :=
  let s := slu n d
  let still :=
    let k := min 0xFFFF (s.stillN + 1)
    (some { data := headWord 0 0 false false k 0, first := true, last := true, still := true, abort := false, valid := 64 },
     sluSet n { s with stillN := k } d)
  if inReset s then (if s.started || s.abortP then (none, d) else still)
  else if s.abortP then
    (some { data := headWord s.abortS 0 false true (ugen (sluProducer n) d) s.abortL, first := true, last := true, still := false,
            abort := true, valid := 64 },
     sluSet n { s with abortP := false, started := false, rx := [], stillN := 0 } d)
  else if s.started ∨ canStart s then
    match s.words with
    | w :: ws =>
      if w.fresh then (none, d)
      else
        (some { data := w.data, first := w.first, last := w.last, still := false, abort := w.abort, valid := w.valid },
         sluSet n (sluFree 1 { rdOf w s with words := ws, started := !w.last, stillN := 0 }) d)
    | [] => (none, d)
  else still

/-- DROP (R121). -/
def sluDrop (n : Nat) (d : Dev) : Dev :=
  let s := slu n d
  if !s.started then d
  else if s.abortP then sluSet n { s with abortP := false, started := false, rx := [] } d
  else
    let (k, openP) := match frontPkt s.words with
      | some ws => (ws.length, false)
      | none => (s.words.length, true)
    let s' := sluFree k { s with words := s.words.drop k, started := false, rx := [], absorb := s.absorb || (openP && s.opened), turned := false, abortE := false }
    let d := sluSet n s' d
    if 0 < k then bump (kSlu n 1) d else d

/-! ### The end of a tick, resets (R118, R126, R132) -/

/-- Whose rules a word committed to a core's Siphon Sluice 177 + 8c follows (14 R301): the running program's slot plus one while MODE of the core is 1,
17 where it runs no batch, and 0 for the kernel. -/
def progTag (n : Nat) (d : Dev) : Nat :=
  if 176 ≤ n ∧ n < 240 ∧ n % 8 = 1 then
    let k : Core := tabGet (fun _ => {}) d.longs.core ((n - 177) / 8)
    if k.prog then (match k.running with | some b => b.slot + 1 | none => 17) else 0
  else 0

/-- The words of Sluice `n` at the end of a tick: what was written commits, what turned bad is rewound, marks are evaluated. [log entry 32 DEDUCED] -/
def sluEnd (n : Nat) (d : Dev) : Dev :=
  let s := slu n d
  let inside := s.started && s.abortE && (match s.words.head? with | none => true | some w => w.bad || w.first)
  let hadBad := s.words.any (·.bad)
  let ws := (s.words.filter fun w => !w.bad).map fun w => if w.fresh then { w with fresh := false, prog := progTag n d } else w
  let s := { s with words := ws, abortE := false, paceT := s.paceT - 1 }
  let s := if hadBad then sluTrim s else s
  let s := if inside then { s with abortP := true, abortL := s.rdL, abortS := s.rdS } else s
  let d := sluSet n s d
  let d := if inside then bump (kSlu n 2) d else d
  sluLevel n d

/-- The packet the consumer has started, its first word already read. -/
def startedKey (s : Sluice) : List (Nat × Nat × Nat) := if s.started && !s.abortP then [(s.rdS, s.rdL, s.rdG)] else []

/-- First step of a pointer-mismatch reset (R126): every word is discarded and marks its item; a consumer inside a packet gets an abort marker
after the reset. -/
def sluClear (n : Nat) (d : Dev) : Dev :=
  let s := slu n d
  let ls := startedKey s ++ (s.words.filter (·.first)).map wordKey
  let s' := { waitEnd (sluNone s) with words := [], absorb := s.absorb || s.opened, abortE := false, rx := [],
                                       turned := s.opened, abortP := s.abortP || s.started, abortL := if s.started then s.rdL else s.abortL,
                                       abortS := if s.started then s.rdS else s.abortS }
  -- the rest of a packet its unit was writing is not written
  let s' := if s.opened && waitOpen s then { s' with opened := false, absorb := false, answer := false, openN := 0 } else s'
  foldSt ls (fun (_, l, g) d => sluLost n l g d) (sluSet n s' d)

/-- One tick of a pointer-mismatch reset: discarded in the tick after the mismatch, over 8 ticks later. -/
def sluResetTick (n : Nat) (d : Dev) : Dev :=
  let s := slu n d
  if s.resetT = 0 then d
  else
    let d := sluSet n { s with resetT := s.resetT - 1 } d
    if s.resetT = 9 then sluClear n d else d

/-- Reset of a Sluice with its units, at warm reset and power-on: empty, settings kept as given. -/
def sluEmpty (s : Sluice) : Sluice :=
  { s with words := [], opened := false, openN := 0, absorb := false, answer := false, turned := false, started := false, abortE := false, abortP := false, stillN := 0,
           borrowed := 0, ovr := 0, headOff := 0, fr := [], wait := [], held := [], rx := [], resetT := 0, paceT := 0 }

/-- A control packet: an absent reply or an abort marker. -/
def isMarker (p : List SWord) : Bool := match p with | w :: _ => w.first && fieldLe w.data 2 1 % 4 != 0 | [] => false

/-- A unit's reset instant as producer: its open packets turn bad (R132), and what it has not begun to write of them is not written; its port's markers
stay. -/
def sluProdReset (u : Nat) (d : Dev) : Dev :=
  foldSt (d.slu.s.map (·.1)) (fun n d =>
    if sluProducer n = u then sluMod n (fun s => { s with wait := if n < 140 then [] else s.wait.filter isMarker }) (sluBad n d) else d) d

/-- The requests of Sluice `n` that wait under back-pressure, at its port or with its producing unit (R39). -/
def sluWaiting (s : Sluice) : List (Nat × Nat × Nat) :=
  s.wait.filterMap (fun p => match p with | w :: _ => if w.first then some (wordKey w) else none | [] => none) ++ s.held

/-- A unit's reset instant as consumer of Sluice `n` (R132): the packet it had started goes as by DROP, the packets it accepted and has not served are
discarded, and every request that waits under back-pressure gets its absent reply. Answers the discarded packets' streams, Ledger indices and stages. -/
def sluConsReset (n : Nat) (d : Dev) : List (Nat × Nat × Nat) × Dev :=
  let s := slu n d
  let ls := startedKey s ++ (s.words.filter (·.first)).map wordKey
  let ws := if (replyOf n).isSome then sluWaiting s else []
  let d := sluDrop n d
  let s := slu n d
  let s' := { sluEmpty s with opened := s.opened && !waitOpen s, openN := s.openN, absorb := s.opened && !waitOpen s, answer := s.absorb && s.answer,
                              resetT := s.resetT,
                              wait := if (replyOf n).isSome then [] else (waitEnd s).wait }
  (ls, foldSt ws (putAbsent n) (sluSet n s' d))

/-- A unit's reset instant as consumer of each of its Sluices but those named: what it accepted and has not served goes, and marks its records (R132).
 [log entry 32 DEDUCED] -/
def sluConsAll (u : Nat) (but : List Nat) (d : Dev) : Dev :=
  foldSt ((d.slu.s.map (·.1)).filter fun n => sluConsumer n == u && !but.contains n) (fun n d =>
    let (ls, d) := sluConsReset n d
    foldSt ls (fun (_, l, g) d => sluLost n l g d) d) d

end Sys2Proof.Machine
end

