-- ==== Sys2Proof/Machine/OutletOps.lean ====
section
/-!
DEFINITION. Machine/OutletOps.lean: completion rings, posting of completions and the backlog (05 R92, R98 to R105; 18 R399, R400, R407).
-/
namespace Sys2Proof.Machine

/-! ### Rings (R92, R109) -/

def subDef (n : Nat) : SubRing := { cq := n, vector := 256 + n }
def cplDef (n : Nat) : CplRing := { vector := n }

def subRing (n : Nat) (d : Dev) : SubRing := tabGet subDef d.host.sub n
def cplRing (n : Nat) (d : Dev) : CplRing := tabGet cplDef d.host.cpl n

def subSet (n : Nat) (r : SubRing) (d : Dev) : Dev := { d with host := { d.host with sub := tabSet subDef d.host.sub n r } }
def cplSet (n : Nat) (r : CplRing) (d : Dev) : Dev := { d with host := { d.host with cpl := tabSet cplDef d.host.cpl n r } }

/-- Entries of a ring of log size L. -/
def ringSize (l : Nat) : Nat := 2 ^ l

/-- A pointer's INDEX and WRAP. -/
def ptrIndex (p : Nat) : Nat := p % 65536
def ptrWrap (p : Nat) : Nat := p / 65536 % 2

/-- A pointer as a number modulo 2^(L+1): WRAP on top of the index. -/
def ptrNat (l p : Nat) : Nat := ptrIndex p % 2 ^ l + 2 ^ l * ptrWrap p

/-- The pointer to the next entry: WRAP toggles each time the index passes the last entry (R92). -/
def ptrNext (l p : Nat) : Nat := if ptrIndex p + 1 < 2 ^ l then p % 131072 + 1 else 65536 * (1 - ptrWrap p)

/-- Distance from head to tail. -/
def ringUsed (l head tail : Nat) : Nat := (ptrNat l tail + 2 ^ (l + 1) - ptrNat l head) % 2 ^ (l + 1)

/-- A pointer that a register write gives, if its index is in range. -/
def ptrOf (l v : Nat) : Option Nat := if bitsOf v 15 0 < 2 ^ l then some (bitsOf v 16 0) else none

def cplBase (r : CplRing) : Nat := r.baseLo.toNat + 2 ^ 32 * r.baseHi.toNat

def cplFull (r : CplRing) : Bool := decide (ringUsed r.log2 r.head r.tail ≥ ringSize r.log2)

/-- Mastering is off: Bus Master Enable 0, D3hot, the link down, or the Outlet not serving. -/
def outPaused (d : Dev) : Bool := !d.host.bme || d.host.d3 || !d.host.linkUp || !userves 2 d

/-! ### Writing entries (R98, R100, R105) -/

/-- The message of a completion ring (R105). -/
def cplMessage (c : Nat) (d : Dev) : Dev :=
  let r := cplRing c d
  sendMsix r.vector (cplSet c { r with since := 0, firstAt := 0 } d)

/-- Write one entry of 128 bytes at the ring's tail: bytes 0 to 123, then 124 to 127, then the message if COUNT is reached. -/
def cplWrite (c : Nat) (e : List Byte) (cf : Nat) (d : Dev) : Dev :=
  let r := cplRing c d
  let a := cplBase r + 128 * ptrIndex r.tail
  let phase := 1 - ptrWrap r.tail
  let d := emit (.hostWrite (a + 124) (toLe 4 (cf % 2 ^ 31 + 2 ^ 31 * phase)) false) (emit (.hostWrite a (e.take 124) false) d)
  let r := { r with tail := ptrNext r.log2 r.tail, since := r.since + 1, firstAt := if r.since = 0 then now d else r.firstAt }
  let d := cplSet c r d
  if r.count ≤ r.since then cplMessage c d else d

/-- Deliver the entry of record `l` into ring `c`: DELIVERY returns to none and the record retires if it may (R102, 18 R399). A poisoned
record is retired undelivered (18 R413). -/
def cplDeliver (c l : Nat) (backlog : Bool) (d : Dev) : Dev :=
  let r := lrec l d
  if r.poison then
    ledgRetire l (raise 97 5 (raise 97 4 (lrecSet l { r with deliv := 0 } d)))
  else
    let ph := ptrWrap (cplRing c d).tail == 0
    let r := { r with backlog := backlog, phaseBit := ph, deliv := 0 }
    ledgRetire l (cplWrite c (entryBytes l r) (cflags r) (lrecSet l r d))

/-! ### Held entries (R102) -/

/-- Deliver held entries of ring `c` while it has room. -/
def heldRunN : Nat → Nat → Dev → Dev
  | 0, _, d => d
  | n + 1, c, d =>
    let r := cplRing c d
    match r.held with
    | [] => d
    | h :: hs =>
      if !r.enable || cplFull r || outPaused d then d
      else heldRunN n c (cplDeliver c h.lidx h.backlog (cplSet c { r with held := hs } d))

def heldRun (c : Nat) (d : Dev) : Dev := heldRunN (cplRing c d).held.length c d

/-! ### Orphans and the fetch (R102, R103) -/

/-- Orphaned records, oldest release first. In which order records of equal RELEASE_GAUGE come the spec does not say where it has them differ: here
by record number. [log entry 66 DESIGN CHOICE] -/
def orphans (d : Dev) : List Nat :=
  let os := (d.ledger.recs.filter fun (_, r) => r.deliv == 2).map fun (l, r) => (r.relAt, l)
  (os.mergeSort fun a b => decide (a.1 < b.1) || (decide (a.1 = b.1) && decide (a.2 ≤ b.2))).map (·.2)

/-- The `show outlet backlog` line (R110). -/
def backlogLine (d : Dev) : String :=
  "backlog orphans " ++ dec (orphans d).length ++ (match d.host.fetchRing with | none => " fetch idle" | some c => " fetch ring " ++ dec c)

/-- Run the fetch: deliver orphans into its ring while it has room; it ends when none remains. What becomes of it when its ring is disabled the spec does
not say: here it stays active and waits for the ring. [log entry 66 DESIGN CHOICE] -/
def fetchRunN : Nat → Dev → Dev
  | 0, d => d
  | n + 1, d =>
    match d.host.fetchRing with
    | none => d
    | some c =>
      match orphans d with
      | [] =>
        let d := raise 2 3 { d with host := { d.host with fetchRing := none } }
        answerAll (.other 2) none [backlogLine d] d
      | l :: _ =>
        let r := cplRing c d
        if !r.enable || cplFull r || outPaused d || !r.held.isEmpty then d
        else fetchRunN n (cplDeliver c l true d)

def fetchRun (d : Dev) : Dev := fetchRunN ((orphans d).length + 1) d

/-- The entry of record `l` is orphaned. -/
def orphan (l : Nat) (d : Dev) : Dev := raise 2 0 (lrecMod l (fun r => { r with deliv := 2, backlog := true }) d)

/-- Held entries of a ring become orphaned when the ring is disabled or the function is reset (R102, Table 18-4). -/
def heldOrphan (c : Nat) (d : Dev) : Dev :=
  let hs := (cplRing c d).held
  foldSt hs (fun h d => orphan h.lidx d) (cplSet c { cplRing c d with held := [] } d)

/-! ### Posting (R99, R100, R102) -/

/-- Post the entry that stands in record `l`, with the payload to write and the release buffer it goes to; `era`: the completion ring's
and the function's eras at admission. A payload write that a reset stops ends at a TLP boundary, and its entry is orphaned (R108). -/
def outPost (l : Nat) (payload : List Byte) (rbuf rblen : Nat) (era : Nat × Nat) (d : Dev) : Dev :=
  let r0 := lrec l d
  let c := r0.cq
  let r := { r0 with clipped := decide (rblen < r0.rlen), backlog := false }
  let d := lrecSet l r d
  let ring := cplRing c d
  let pay := payload.take rblen
  let put := fun (b : List Byte) (d : Dev) => if b.isEmpty then d else emit (.hostWrite rbuf b (relaxedOn d)) d
  let write := put pay
  let d :=
    if !ring.enable ∨ ring.era ≠ era.1 ∨ d.host.fnEra ≠ era.2 then orphan l d
    else if outPaused d then
      cplSet c { ring with held := ring.held ++ [{ lidx := l, backlog := true }] } (lrecSet l { r with deliv := 1, backlog := true } d)
    else if cplFull ring ∨ !ring.held.isEmpty then
      raise 2 1 (write (cplSet c { ring with held := ring.held ++ [{ lidx := l, backlog := false }] } (lrecSet l { r with deliv := 1 } d)))
    else match d.host.stopTlp with
      | some k => orphan l (put (pay.take (tlpBytes (maxPayload d) k rbuf pay.length)) d)
      | none => cplDeliver c l false (write d)
  fetchRun d

/-- A refusal completion (R96, R98): TYPE 3. It never enters the backlog. -/
def outRefuse (c ring idx : Nat) (desc : List Byte) (word : Nat) (d : Dev) : Dev :=
  let w0 := fieldLe desc 0 2
  let e := toLe 2 w0 ++ [0, BitVec.ofNat 8 (16 * b2n (bitOf (fieldLe desc 2 1) 0))] ++ List.replicate 92 0 ++ slice desc 8 8 ++ toLe 4 0
    ++ toLe 2 idx ++ toLe 1 ring ++ [0] ++ toLe 1 3 ++ toLe 1 word ++ [0] ++ List.replicate 9 0
  let r := cplRing c d
  let d := raise 1 0 d
  if !r.enable || cplFull r || outPaused d || !r.held.isEmpty then d
  else cplWrite c (padTo 124 e) 0 d

/-- Everything the Outlet can now deliver: held entries of every ring in ring order, then the fetch. -/
def outRun (d : Dev) : Dev := fetchRun (foldSt (d.host.cpl.map (·.1)) heldRun d)

/-- A completion head write (R101): space returns, held entries and a fetch go on; or the write is discarded. -/
def cplHead (c v : Nat) (d : Dev) : Dev :=
  let r := cplRing c d
  match ptrOf r.log2 v with
  | none => raise 2 2 d
  | some p =>
    if !r.enable || decide (ringUsed r.log2 r.head r.tail < ringUsed r.log2 r.head p) then raise 2 2 d
    else fetchRun (heldRun c (cplSet c { r with head := p } d))

/-- A write of OUT_BKL_FETCH (R103). -/
def cplFetch (go : Bool) (c : Nat) (d : Dev) : Dev :=
  if !go then d
  else if !(cplRing c d).enable || d.host.fetchRing.isSome then raise 2 2 d
  else fetchRun { d with host := { d.host with fetchRing := some c, lastFetch := c } }

/-- Disable a completion ring. -/
def cplDisable (c : Nat) (d : Dev) : Dev :=
  let r := cplRing c d
  if r.enable then fetchRun (heldOrphan c (cplSet c { r with enable := false } d)) else d

/-- Disable a submission ring: fetched descriptors that are not admitted are dropped with it, and no descriptor read of it is repeated. -/
def subDisable (n : Nat) (d : Dev) : Dev :=
  let d := subSet n { subRing n d with enable := false, stopped := false } d
  { d with host := { d.host with retries := d.host.retries.filter fun q => !(q.ring == n && q.lidx == 0) } }

/-- A write of the control register of a ring: LOG2SIZE, CQ, VECTOR and ENABLE (R92, R104). A vector of 512 to 639 is discarded. [log entry 29 DEDUCED] -/
def subCtl (n : Nat) (v : Nat) (d : Dev) : Dev :=
  let r := subRing n d
  let en := bitOf v 31
  let l := bitsOf v 27 24
  let cq := bitsOf v 23 16
  let vec := bitsOf v 10 0
  if 512 ≤ vec ∧ vec ≤ 639 then badacc d
  else if r.enable then
    if l ≠ r.log2 ∨ cq ≠ r.cq then badacc d
    else if en then subSet n { r with vector := vec } d
    else subDisable n (subSet n { r with vector := vec } d)
  else
    let r := { r with log2 := l, cq := cq, vector := vec }
    if !en then subSet n r d
    else if l < 4 ∨ 16 < l ∨ !(cplRing cq d).enable then badacc (subSet n r d)
    else subSet n { r with enable := true, head := 0, tail := 0, next := 0, stopped := false, flight := [] } d

/-- A write of OUT_CCTLn (R92, R109). [log entry 29 DEDUCED] -/
def cplCtl (n : Nat) (v : Nat) (d : Dev) : Dev :=
  let r := cplRing n d
  let en := bitOf v 31
  let l := bitsOf v 27 24
  let vec := bitsOf v 10 0
  if 512 ≤ vec ∧ vec ≤ 639 then badacc d
  else if r.enable then
    if l ≠ r.log2 then badacc d
    else if en then cplSet n { r with vector := vec } d
    else cplDisable n (cplSet n { r with vector := vec } d)
  else
    let r := { r with log2 := l, vector := vec }
    if !en then cplSet n r d
    else if l < 4 ∨ 16 < l then badacc (cplSet n r d)
    else cplSet n { r with enable := true, head := 0, tail := 0, since := 0, firstAt := 0, held := [], era := r.era + 1 } d

end Sys2Proof.Machine
end

