-- ==== Sys2Proof/Machine/WeirOps.lean ====
section
/-!
DEFINITION. Machine/WeirOps.lean: routes, admission stamps, stages, Combine, release and amendment (01 R11 to R19, 07 R135 to R154, 18 R399 to
R407).
-/
namespace Sys2Proof.Machine

/-! ### Route images (R135, Tables 7-1 and 7-2) -/

/-- A staging copy at power-on reset: all zeros but ROUTE and MASKBYTE. -/
def imgDef (r : Nat) : List Byte := [BitVec.ofNat 8 r, 0, 0, 0x2A] ++ List.replicate 124 0

/-- The live copies at power-on reset: epoch 0, VALID 0. -/
def liveDef (r : Nat) : List LiveCopy := [{ epoch := 0, img := imgDef r }]

def routeStage (r : Nat) (d : Dev) : List Byte := tabGet imgDef d.weir.stage r
def routeStageSet (r : Nat) (img : List Byte) (d : Dev) : Dev := { d with weir := { d.weir with stage := tabSet imgDef d.weir.stage r img } }
def routeLive (r : Nat) (d : Dev) : List LiveCopy := tabGet liveDef d.weir.live r
def routeLiveSet (r : Nat) (l : List LiveCopy) (d : Dev) : Dev := { d with weir := { d.weir with live := tabSet liveDef d.weir.live r l } }

/-- The newest live copy. -/
def routeNew (r : Nat) (d : Dev) : LiveCopy := (routeLive r d).headD { epoch := 0, img := imgDef r }

/-- The copy an item admitted in this tick takes: the older one where a commit fell in this tick (R146). -/
def routeAdmit (r : Nat) (d : Dev) : LiveCopy :=
  if tabGet (fun _ => 0) d.weir.fresh r = 0 then routeNew r d
  else (routeLive r d).getD 1 (routeNew r d)

/-- The live copy of an epoch. -/
def routeAt (r e : Nat) (d : Dev) : List Byte :=
  (((routeLive r d).find? fun c => c.epoch == e).getD (routeNew r d)).img

def rValid (m : List Byte) : Bool := bitOf (fieldLe m 1 1) 0
def rEarly (m : List Byte) : Bool := bitOf (fieldLe m 1 1) 1
def rDlv (m : List Byte) : Bool := bitOf (fieldLe m 1 1) 2
def rAmend (m : List Byte) : Bool := bitOf (fieldLe m 1 1) 3
def rHold (m : List Byte) : Bool := bitOf (fieldLe m 1 1) 4
def rMaskWrite (m : List Byte) : Bool := bitOf (fieldLe m 1 1) 5
def rPrio (m : List Byte) : Nat := bitsOf (fieldLe m 1 1) 7 6
def rNStage (m : List Byte) : Nat := bitsOf (fieldLe m 2 1) 3 0
def rEmptyV (m : List Byte) : Nat := bitsOf (fieldLe m 2 1) 5 4
def rReq (m : List Byte) : Bool := bitOf (fieldLe m 2 1) 6
def rAns (m : List Byte) : Bool := bitOf (fieldLe m 2 1) 7
def rMaskByte (m : List Byte) : Byte := m.getD 3 0
def rDeadline (m : List Byte) : Nat := fieldLe m 8 8
def rWindow (m : List Byte) : Nat := fieldLe m 16 8

/-- Stage descriptor i (Table 7-2). -/
def rStage (m : List Byte) (i : Nat) : List Byte := slice m (64 + 8 * i) 8
def stKind (s : List Byte) : Nat := bitsOf (fieldLe s 0 1) 3 0
def stCores (s : List Byte) : Nat := fieldLe s 1 1
def stTable (s : List Byte) : Nat := fieldLe s 2 2
def stInputs (s : List Byte) : Nat := fieldLe s 2 1
def stK (s : List Byte) : Nat := bitsOf (fieldLe s 2 2) 11 8
def stStop (s : List Byte) : Bool := bitOf (fieldLe s 2 2) 12
def stSlot (s : List Byte) (j : Nat) : Nat := bitsOf (fieldLe s 4 4) (6 * j + 5) (6 * j)
def stInputList (s : List Byte) : List Nat := (List.range 8).filter (bitOf (stInputs s))

/-! ### Commit (R145 to R147) -/

/-- The least and the greatest DEADLINE, in gauge units; the greatest WINDOW is the same (Table 7-1). -/
def deadlineMin : Nat := 9216
def deadlineMax : Nat := 92160000000

/-- No bit marked reserved in Tables 7-1 and 7-2 is set. -/
def rReservedOk (m : List Byte) : Bool :=
  (slice m 6 2).all (· == 0) && (slice m 24 40).all (· == 0) &&
  (List.range 8).all fun i =>
    let s := rStage m i
    bitsOf (fieldLe s 0 1) 7 4 == 0 && fieldLe s 7 1 == 0 && (stKind s != 6 || bitsOf (fieldLe s 2 2) 15 13 == 0)

/-- One stage descriptor below NSTAGE. -/
def rStageOk (ans : Bool) (i : Nat) (s : List Byte) : Bool :=
  match stKind s with
  | 6 =>
    stInputs s != 0 && decide (stInputs s < 2 ^ i) && decide (stCores s ≤ 3) &&
      (stCores s != 1 || (decide (1 ≤ stK s) && decide (stK s ≤ popcount 8 (stInputs s)))) &&
      (List.range 4).all fun j => bitsOf (stSlot s j) 5 5 == 0 || decide (bitsOf (stSlot s j) 4 2 < i)
  | 4 => stCores s != 0 && fieldLe s 4 4 == 0
  | 5 => !ans && stCores s == 0 && fieldLe s 4 4 == 0
  | 1 => stCores s == 0 && fieldLe s 4 4 == 0
  | 2 => stCores s == 0 && fieldLe s 4 4 == 0
  | 3 => stCores s == 0 && fieldLe s 4 4 == 0
  | _ => false

/-- The first row of Table 7-6. -/
def routeOk (m : List Byte) : Bool :=
  rReservedOk m &&
  (!rValid m ||
    (decide (1 ≤ rNStage m) && decide (rNStage m ≤ 8) &&
      ((List.range 8).all fun i =>
        let s := rStage m i
        if i < rNStage m then rStageOk (rAns m) i s else s.all (· == 0)) &&
      stKind (rStage m (rNStage m - 1)) == 6 &&
      (rReq m || rAns m) && decide (deadlineMin ≤ rDeadline m) && decide (rDeadline m ≤ deadlineMax) &&
      (!rAmend m || rWindow m != 0) && decide (rWindow m ≤ deadlineMax) && rEmptyV m != 3))

/-- The result of a commit (Table 7-6, RESULT codes of WEIR_CRESP). -/
inductive Commit where
  | committed | busy | stale | range
  deriving DecidableEq, Repr

def Commit.code : Commit → Nat | .committed => 1 | .busy => 2 | .stale => 4 | .range => 6

/-- Live epochs of a route. -/
def routeLiveN (r : Nat) (d : Dev) : Nat := (routeLive r d).length

/-- Commit route `r` against the epoch named (R145, R146); refused or not, it is the tick's one commit (R147). [log entry 36 DEDUCED] -/
def routeCommit (r e : Nat) (d : Dev) : Commit × Dev :=
  let m := routeStage r d
  let c := routeNew r d
  let d := { d with weir := { d.weir with committed := true } }
  if !routeOk m then (.range, d)
  else if c.epoch ≠ e then (.stale, d)
  else if 2 ≤ routeLiveN r d then (.busy, raise 3 3 d)
  else
    let e' := (e + 1) % 65536
    let img := m.take 4 ++ toLe 2 e' ++ m.drop 6
    let d := routeLiveSet r [{ epoch := e', img := img }, c] d
    (.committed, { d with weir := { d.weir with fresh := tabSet (fun _ => 0) d.weir.fresh r 1 } })

/-- A write of WEIR_COMMIT and its answer in WEIR_CRESP. Behind another commit of its tick, or a Shore agent's, it reaches the Weir in a later one
(R147). [log entry 36 DEDUCED] -/
def weirCommit (v : W32) (d : Dev) : Dev :=
  let n := v.toNat
  if d.weir.committed || d.weir.shore then hostWait (.write 0x50001C 4 15 n) d
  else
    let r := bitsOf n 7 0
    let (c, d) := routeCommit r (bitsOf n 31 16) d
    let resp := (routeNew r d).epoch * 65536 + bitsOf n 15 12 * 4096 + routeLiveN r d * 1024 + c.code * 16
    { d with weir := { d.weir with cresp := BitVec.ofNat 32 resp } }

/-- At the end of a tick: an older epoch whose last item is done is no longer live (R147); the tick's commits take effect (R146). [log entry 36 DEDUCED] -/
def weirRetire (d : Dev) : Dev :=
  let d := foldSt (d.weir.live.map (·.1)) (fun r d =>
    match routeLive r d with
    | [c, o] => if d.weir.items.any fun p => p.2.route == r && p.2.epoch == o.epoch then d else routeLiveSet r [c] d
    | _ => d) d
  { d with weir := { d.weir with fresh := [], committed := false, bindOld := [], earlyOld := d.weir.earlyOff } }

/-! ### Binding (R148) -/

def bindReg (s : Nat) (d : Dev) : W32 := tabGet (fun _ => 0) d.weir.bind s

/-- A write of WEIR_BINDs: reserved bits stay 0. -/
def bindWrite (s : Nat) (v : W32) (d : Dev) : Dev :=
  let old := bindReg s d
  let seen := d.weir.bindOld.any fun (p : Nat × W32) => p.1 == s
  let w := { d.weir with bind := tabSet (fun _ => 0) d.weir.bind s (v &&& 0x01FF01FF) }
  { d with weir := if seen then w else { w with bindOld := d.weir.bindOld ++ [(s, old)] } }

/-- The route bound to a stream and direction with its copy, if the direction is bound (R148). -/
def boundRoute (s dir : Nat) (d : Dev) : Option (Nat × LiveCopy) :=
  let b := (match d.weir.bindOld.find? (fun (p : Nat × W32) => p.1 == s) with | some p => p.2 | none => bindReg s d).toNat
  let v := if dir = 0 then bitOf b 8 else bitOf b 24
  let r := if dir = 0 then bitsOf b 7 0 else bitsOf b 23 16
  let c := routeAdmit r d
  if v && rValid c.img && (if dir = 0 then rReq c.img else rAns c.img) then some (r, c) else none

/-! ### Streams (R12) -/

def streamSt (k : Nat) (d : Dev) : StreamSt := tabGet (fun _ => {}) d.weir.streams k
def streamSet (k : Nat) (s : StreamSt) (d : Dev) : Dev := { d with weir := { d.weir with streams := tabSet (fun _ => {}) d.weir.streams k s } }

/-! ### Stages (R136) -/

/-- Table 7-3: the item kinds a stage kind applies to. -/
def kindApplies (sk k : Nat) : Bool :=
  match sk with
  | 1 => k == 1 || k == 2 || k == 6
  | 2 => k == 1 || k == 2 || k == 5 || k == 6
  | 3 => k == 3
  | 4 => k == 1 || k == 2 || k == 4 || k == 5
  | 5 => k == 4
  | 6 => true
  | _ => false

/-- An earlier stage of kind `e` yields the input a stage of kind `sk` reads first, for items of kind `k` (Table 7-3). -/
def yieldsFor (sk e k : Nat) : Bool :=
  match sk with
  | 2 => e == 1 && (k == 1 || k == 2 || k == 6)
  | 4 => (e == 1 && k == 1) || (e == 5 && k == 4)
  | _ => false

/-- Where a stage's input comes from. -/
inductive InSrc where
  | payload
  | product (j : Nat)
  | wait (j : Nat)
  deriving DecidableEq, Repr

/-- The nearest earlier stage below `n` that yields the input, else the payload (R136). -/
def inputOf (img : List Byte) (it : Item) (sk : Nat) : Nat → InSrc
  | 0 => .payload
  | j + 1 =>
    if yieldsFor sk (stKind (rStage img j)) it.kind then
      match it.stages.getD j .idle with
      | .done _ => if (it.products.getD j []).isEmpty then inputOf img it sk j else .product j
      | .skipped => inputOf img it sk j
      | .dropped => inputOf img it sk j
      | _ => .wait j
    else inputOf img it sk j

/-- The outcome ABSTAIN of a stage that is not dispatched. -/
def abstain : Outcome' := { prop := .abstain }

/-- A stage's outcome is known: accepted, fixed or skipped. -/
def stageIn : StageSt → Bool
  | .done _ => true | .skipped => true | .dropped => true | _ => false

/-- Stage `i` may start now as far as order goes: every earlier engine stage has been dispatched, fixed or skipped (R137). -/
def inOrder (img : List Byte) (it : Item) (i : Nat) : Bool :=
  (List.range i).all fun j =>
    stKind (rStage img j) == 6 || (match it.stages.getD j .idle with | .idle => false | .waiting => false | _ => true)

/-! ### Combine (R139 to R142) -/

def propRk : Prop' → Nat
  | .block => 5 | .cut => 4 | .mask => 3 | .hold => 2 | .pass => 1 | .absentStage => 1 | .abstain => 0

/-- A span widened to the whole UTF-8 code points of the text it touches (R140). A maximal subpart of an ill-formed subsequence counts as one
(R162, DEDUCED, log entry 25); an end outside the text stays. [log entry 33 DEDUCED] -/
def cpWiden (cs : List SrcCp) (x : Nat × Nat) : Nat × Nat :=
  (match cs.find? fun c => decide (c.src ≤ x.1) && decide (x.1 < c.stop) with | some c => c.src | none => x.1,
   match cs.find? fun c => decide (c.src < x.2) && decide (x.2 ≤ c.stop) with | some c => c.stop | none => x.2)

/-- The payload as it is released: the submitted bytes, or for kinds 0x2 and 0x6 the decoded text of the Reedbed stage (R138, R99), whose reply has
been accepted at `upTo` or before where that is given (R154). [log entry 34 DEDUCED] -/
def releasedText (img : List Byte) (it : Item) (upTo : Option Nat) : List Byte :=
  if it.kind = 2 ∨ it.kind = 6 then
    match (List.range it.stages.length).find? fun i => stKind (rStage img i) == 1 && !(it.products.getD i []).isEmpty
        && (match upTo with | none => true | some t => decide (it.accAt.getD i 0 ≤ t + 1)) with
    | some i => let p := it.products.getD i []; slice p 64 (fieldLe p 0 4)
    | none => []
  else it.payload

/-- Sort, merge, limit to 8, clip and widen spans (R140). [log entry 33 DEDUCED] -/
def combineSpans (text : Option (List Byte)) (clip : Option Nat) (l : List (Nat × Nat)) : List (Nat × Nat) :=
  let cl := fun (x : Nat × Nat) => match clip with | some c => (x.1, min x.2 c) | none => x
  let l := spanSet 8 ((l.map fun (o, n) => cl (o, o + n)).filter fun x => decide (x.1 < x.2))
  let l := match text with
    | none => l
    | some t => spanSet 8 (l.map fun x => cl (cpWiden (utf8Decode t.length 0 t) x))
  l.map fun (a, b) => (a, b - a)

/-- The Combine at stage `i` of an item (R139 to R141). [log entry 34 DEDUCED] -/
def combine (img : List Byte) (it : Item) (i : Nat) : Outcome' :=
  let s := rStage img i
  let out := fun (j : Nat) => match it.stages.getD j .idle with | .done o => some o | _ => none
  let votes := (stInputList s).filterMap fun j => match out j with
    | some o => if o.prop = .abstain then none else some (j, o)
    | none => none
  let objs := votes.filter fun v => v.2.prop != .pass
  let worst := fun (l : List (Nat × Outcome')) => l.foldl (fun (a : Option Prop') v =>
    match a with | none => some v.2.prop | some p => if propRk p < propRk v.2.prop then some v.2.prop else some p) none
  let mild := fun (l : List (Nat × Outcome')) => l.foldl (fun (a : Option Prop') v =>
    match a with | none => some v.2.prop | some p => if propRk v.2.prop < propRk p then some v.2.prop else some p) none
  let engine := (List.range (rNStage img)).filter fun j => stKind (rStage img j) != 6
  let allSkipped := !engine.isEmpty && engine.all fun j => match it.stages.getD j .idle with | .skipped => true | _ => false
  let prop : Prop' :=
    if votes.isEmpty then
      (if allSkipped then .absentStage else match rEmptyV img with | 0 => .pass | 1 => .block | _ => .hold)
    else match stCores s with
      | 0 => (worst votes).getD .pass
      | 1 => if stK s ≤ objs.length then (worst objs).getD .pass else .pass
      | 2 => if objs.length = votes.length then (mild objs).getD .pass else .pass
      | _ => ((votes.head?).map (·.2.prop)).getD .pass
  let cuts := (objs.filter fun v => v.2.prop == .cut).map (·.2.cut)
  let cut := cuts.foldl min (cuts.headD 0)
  let inner := fun (j : Nat) => stKind (rStage img j) == 6
  let sp := (objs.filter fun v => v.2.prop == .mask || (v.2.prop == .cut && inner v.1)).flatMap (·.2.spans)
  let text := if it.kind = 1 ∨ it.kind = 2 ∨ it.kind = 6 then some (releasedText img it none) else none
  let scores := (List.range 4).map fun j =>
    let m := stSlot s j
    if bitsOf m 5 5 = 0 then (0x7E00 : BitVec 16)
    else match out (bitsOf m 4 2) with
      | some o => if o.prop = .abstain then 0x7E00 else o.scores.getD (bitsOf m 1 0) 0x7E00
      | none => 0x7E00
  { prop := prop, cut := if prop = .cut then cut else 0, scores := scores,
    spans := match prop with
      | .mask => combineSpans text none sp
      | .cut => combineSpans text (some cut) sp
      | _ => [] }

/-- Fix the stages that do not run as ABSTAIN and start the Combines whose inputs are in (R136, R137). -/
def weirAdvanceN : Nat → Nat → Dev → Dev
  | 0, _, d => d
  | n + 1, l, d =>
    match item? l d with
    | none => d
    | some it =>
      let img := routeAt it.route it.epoch d
      let one := (List.range it.stages.length).find? fun i =>
        let s := rStage img i
        match it.stages.getD i .idle with
        | .idle =>
          if stKind s = 6 then (stInputList s).all fun j => stageIn (it.stages.getD j .idle)
          else inOrder img it i && !kindApplies (stKind s) it.kind
        | _ => false
      match one with
      | none => d
      | some i =>
        weirAdvanceN n l (setStage l i (if stKind (rStage img i) = 6 then .combining d.tickN else .done abstain) d)

def weirAdvance (l : Nat) (d : Dev) : Dev := weirAdvanceN 16 l d

/-- The route's result is there, the outcome of stage `e`: the verdict is ready (R137, R142). Later stages that have not been dispatched are not, and
what later ones answer is discarded; earlier ones go on. [log entry 34 DEDUCED] -/
def weirReady (l e : Nat) (o : Outcome') (d : Dev) : Dev :=
  itemMod l (fun it => { it with
    result := some o, endAt := e, readyAt := now d, readyTick := d.tickN
    stages := it.stages.take (e + 1) ++ (it.stages.drop (e + 1)).map fun s =>
      match s with | .done o => .done o | .skipped => .skipped | _ => .dropped }) d

/-- The Combine at stage `i` of record `l` finishes, 10 ticks after its inputs are in (R137, R142). [log entry 34 DEDUCED] -/
def combineFinish (l i : Nat) (d : Dev) : Dev :=
  match item? l d with
  | none => d
  | some it =>
    match it.stages.getD i .idle with
    | .combining t =>
      if d.tickN < t + 10 then d
      else
        let img := routeAt it.route it.epoch d
        let o := combine img it i
        let d := setStage l i (.done o) d
        let d := lrecMod l (fun r => { r with done := r.done ||| 2 ^ i }) d
        if it.result.isNone && (i + 1 == rNStage img || (stStop (rStage img i) && o.prop == .block)) then weirReady l i o d
        else weirAdvance l d
    | _ => d

/-! ### Admission (R11 to R13, R397, R407) -/

/-- The release lead (R150). -/
def lead (d : Dev) : Nat := if d.clk = .ice then 3750 else 240

/-- The Ledger admits: it serves and more than 1,024 records are free (18 R407, R412). -/
def ledgOpen (d : Dev) : Bool := uready 97 d && decide (1024 < ledgFree d)

/-- Admission stops, or may go on, with the free records (18 R407). -/
def ledgWatch (d : Dev) : Dev :=
  if ledgFree d ≤ 1024 then (if d.ledger.full then d else raise 97 2 { d with ledger := { d.ledger with full := true } })
  else { d with ledger := { d.ledger with full := false } }

/-- What an item brings with it. -/
structure AdmitIn where
  stream  : Nat
  kind    : Nat
  dir     : Nat
  payload : List Byte
  whole   : Bool
  host    : Bool
  src     : Nat
  rbuf    : Nat
  rlen    : Nat
  cookie  : Nat
  subidx  : Nat
  subring : Nat
  cq      : Nat
  settle  : Bool

/-- Admit an item on a bound route: stamps, sequence number and Ledger record (R12, R13, R397). No event the spec names opens a stream: a stream's
numbering goes on across binds, and starts at 0 only at reset. [log entry 57 DESIGN CHOICE] -/
def admitItem (a : AdmitIn) (r : Nat) (c : LiveCopy) (l : Nat) (d : Dev) : Dev :=
  let k := 2 * a.stream + a.dir
  let st := streamSt k d
  let img := c.img
  let dl := now d + rDeadline img
  let tabs := fun (sk : Nat) => ((List.range (rNStage img)).filter fun i => stKind (rStage img i) == sk).map fun i => stTable (rStage img i)
  let answer := a.dir == 1 && (a.kind == 2 || a.kind == 6)
  let changed := answer && st.prevRoute != 0 && (st.prevRoute != r + 1 || st.prevReed != tabs 1 || st.prevShoal != tabs 2)
  let n := rNStage img
  let it : Item :=
    { stream := a.stream, kind := a.kind, dir := a.dir, seq := st.next, route := r, epoch := c.epoch, admitAt := now d, deadline := dl,
      early := rEarly img && !d.weir.earlyOld, payload := a.payload, whole := a.whole, host := a.host, src := a.src, rbuf := a.rbuf,
      rlen := a.rlen, cq := a.cq, cqEra := (cplRing a.cq d).era, fnEra := d.host.fnEra, stages := List.replicate n .idle,
      products := List.replicate n [], accAt := List.replicate n 0, flush := changed, ans := st.ansN,
      prev := (st.prevRoute, st.prevReed, st.prevShoal) }
  let rec' : LRec :=
    { phase := 1, stream := a.stream, kind := a.kind, dir := a.dir, route := r, epoch := c.epoch, seq := st.next, flags := 64 * b2n a.settle,
      admitAt := now d, deadline := dl, plen := a.payload.length, cookie := a.cookie, subidx := a.subidx, subring := a.subring,
      dlv := rDlv img, amend := rAmend img, early := rEarly img, host := a.host, cq := a.cq }
  let st := { st with next := (st.next + 1) % 2 ^ 32, ansN := if a.kind = 6 then st.ansN + 1 else st.ansN }
  let st := if answer then { st with prevRoute := r + 1, prevReed := tabs 1, prevShoal := tabs 2 } else st
  let d := streamSet k st (lrecSet l rec' d)
  let d := { d with ledger := { d.ledger with last := (l + 1) % max 1 (ledgSize d) },
                    weir := { d.weir with items := d.weir.items ++ [(l, it)] } }
  weirAdvance l (ledgWatch (mirrorSend 0 l { d with therm := { d.therm with lastAdm := now d } }))

/-! ### Verdicts and release (R143, R144, R150 to R154) -/

/-- A posted verdict. -/
structure Verdict where
  code   : Nat
  cut    : Nat := 0xFFFFFFFF
  spans  : List (Nat × Nat) := []
  scores : List (BitVec 16) := [0x7E00, 0x7E00, 0x7E00, 0x7E00]
  late   : Bool := false
  error  : Nat := 0
  deriving DecidableEq, Repr

/-- The verdict of a route's result (R143; 03 R52). -/
def verdictOf (it : Item) (o : Outcome') : Verdict :=
  let v : Verdict := { code := 0, scores := o.scores }
  if it.failed then { code := 1, error := 14 }
  else match o.prop with
    | .pass => if it.skips = 0 then v else { v with code := 7 }
    | .block => { v with code := 1 }
    | .cut => { v with code := 2, cut := o.cut, spans := o.spans }
    | .mask => { v with code := 3, spans := o.spans }
    | .hold => { v with code := 4 }
    | .absentStage => { v with code := 7 }
    | .abstain => v

/-- The verdict is in time (R150). -/
def inTime (it : Item) (d : Dev) : Bool := it.result.isSome && (it.failed || decide (it.readyAt + lead d ≤ it.deadline))

/-- Write MASKBYTE over spans. -/
def maskBytes (b : Byte) (spans : List (Nat × Nat)) (l : List Byte) : List Byte :=
  ((List.range l.length).zip l).map fun (i, x) => if spans.any fun (o, n) => decide (o ≤ i) && decide (i < o + n) then b else x

/-- The payload a verdict releases (R99, R143, R154). -/
def releaseBytes (img : List Byte) (it : Item) (v : Verdict) (d : Dev) : List Byte :=
  let text := releasedText img it (if it.kind = 2 && v.late then some (it.deadline - lead d) else none)
  let p := match v.code with
    | 1 => [] | 6 => []
    | 2 => text.take v.cut
    | _ => text
  if rMaskWrite img then maskBytes (rMaskByte img) v.spans p else p

/-- FLAGS of a posted record: what has accumulated, with LATE, AMENDED and UNSEALED (01 R16). -/
def postFlags (r : LRec) (late amended : Bool) (d : Dev) : Nat :=
  (r.flags &&& 0x74) + b2n late + 2 * b2n amended + 8 * b2n (unsealed d)

/-- Post a verdict into record `l` (R98, R398). -/
def postRec (l type : Nat) (v : Verdict) (rlen at' : Nat) (amended : Bool) (d : Dev) : Dev :=
  lrecMod l (fun r => { r with
    flags := postFlags r v.late amended d, verdict := v.code, scores := v.scores, cut := v.cut, relAt := at', rlen := rlen,
    spans := v.spans, poison := false, type := type, error := v.error, admitAt := 0, deadline := 0, plen := 0 }) d

/-- Sequence number `q` comes later than `p` in a stream (R12: 0xFFFF_FFFF is followed by 0). -/
def seqAfter (q p : Nat) : Bool := let x := (q + 2 ^ 32 - p) % 2 ^ 32; decide (0 < x) && decide (x < 2 ^ 31)

/-- A chunk whose answer was cut off at an earlier chunk (R144). -/
def cutForced (it : Item) (st : StreamSt) : Bool :=
  it.kind == 2 && it.dir == 1 && !it.failed && st.cuts.any fun c => c.1 == it.ans && seqAfter it.seq c.2

/-- The items of a stream and direction that wait for release. -/
def unreleased (stream dir : Nat) (d : Dev) : List Item :=
  (d.weir.items.map (·.2)).filter fun it => it.stream == stream && it.dir == dir && !it.released

/-- What the Weir keeps of a stream when `it` is released: the tick, while its successor is not released (R151); and the answer it cuts off, while
items of that answer may wait (R144). `left`: the stream's items that wait still. -/
def streamRelease (it : Item) (cuts : Bool) (tick : Nat) (left : List Item) (st : StreamSt) : StreamSt :=
  let succ := fun (q : Nat) => (q + 1) % 2 ^ 32
  let cs := if !cuts then st.cuts
    else if st.cuts.any fun c => c.1 == it.ans && !seqAfter c.2 it.seq then st.cuts
    else st.cuts.filter (fun c => c.1 != it.ans) ++ [(it.ans, it.seq)]
  { st with
    rels := (st.rels ++ [(it.seq, tick)]).filter fun p => succ p.1 == st.next || left.any fun x => x.seq == succ p.1
    cuts := cs.filter fun c => c.1 == st.ansN || left.any fun x => x.ans == c.1 }

/-- Release the item of record `l` at Gauge `at'` (R144, R151, R153, R154). [log entry 36 DEDUCED] -/
def weirRelease (l at' : Nat) (d : Dev) : Dev :=
  match item? l d with
  | none => d
  | some it =>
    if it.released then d
    else
      let img := routeAt it.route it.epoch d
      let k := 2 * it.stream + it.dir
      let st := streamSt k d
      let ok := inTime it d
      let v : Verdict :=
        if cutForced it st then { code := 2, cut := 0, scores := if ok then ((it.result.map (·.scores)).getD []) else [0x7E00, 0x7E00, 0x7E00, 0x7E00] }
        else if ok then verdictOf it ((it.result).getD abstain)
        else { code := if rDlv img then 6 else 5, late := true }
      let bytes := releaseBytes img it v d
      let rlen := if v.code = 2 then v.cut else bytes.length
      let runOn := !ok && rAmend img && !it.failed
      let d := postRec l 1 v rlen at' false d
      let d := if v.late then raise 3 0 d else d
      let left := (unreleased it.stream it.dir d).filter fun x => x.seq != it.seq
      let d := streamSet k (streamRelease it (it.kind == 2 && (v.code == 2 || v.code == 1 || v.code == 6)) d.tickN left st) d
      let d := if d.well.lastLidx = l + 1 ∧ !it.host then { d with well := { d.well with lastVerdict := some v.code, lastLidx := 0 } } else d
      let d := itemMod l (fun it => { it with released := true, late := !ok, relTick := d.tickN }) d
      let d := mirrorSend 0 l (lrecMod l (fun r => { r with phase := if runOn then 2 else 3 }) d)
      let d := outPost l bytes it.rbuf it.rlen (it.cqEra, it.fnEra) d
      if runOn then d else ledgRetire l (itemDel l (lrecMod l (fun r => if r.phase = 0 then r else { r with mark := 0, refetch := false }) d))

/-- The tick in which the previous item of the item's stream and direction was released; none: it waits for its release (R151). An item without one
counts from tick 0. -/
def predTick (it : Item) (d : Dev) : Option Nat :=
  if (unreleased it.stream it.dir d).any fun x => (x.seq + 1) % 2 ^ 32 == it.seq then none
  else some ((((streamSt (2 * it.stream + it.dir) d).rels.find? fun p => (p.1 + 1) % 2 ^ 32 == it.seq).map (·.2)).getD 0)

/-- The tick in which an in-time Early item releases: 10 ticks after it is ready and after the release of the previous item of its stream and
direction; none: its predecessor has not been released (R151, 01 R19). -/
def earlyTick (it : Item) (d : Dev) : Option Nat := (predTick it d).map fun b => max it.readyTick b + 10

/-- The Early release of the item falls in this tick, or was due in one before it. -/
def earlyDue (it : Item) (d : Dev) : Bool :=
  it.early && !it.released && inTime it d && match earlyTick it d with | some t => decide (t ≤ d.tickN) | none => false

/-- The Gauge at which the item releases in this tick, if it does: an in-time Early item at the tick's own, never past D; any other at D when the
tick holds it (R19, R23, R151). -/
def releaseGauge (it : Item) (d : Dev) : Option Nat :=
  if it.released then none
  else if earlyDue it d then some (min (now d) it.deadline)
  else if due it.deadline d then some it.deadline
  else none

/-- The item of record `l` is released if this tick releases it. -/
def releaseOne (l : Nat) (d : Dev) : Dev :=
  match item? l d with
  | none => d
  | some it => match releaseGauge it d with
    | some g => weirRelease l g d
    | none => d

/-- Release of record `l`, and before it of every item admitted before it that the tick releases (R101: admission order within a tick). -/
def releaseUpTo (l : Nat) (d : Dev) : Dev :=
  releaseOne l (foldSt ((d.weir.items.map (·.1)).takeWhile (· != l)) releaseOne d)

/-- Release at D (R151): a Stillwater item, a late Early item, or an Early item that reaches D first. -/
def deadlineRelease (l : Nat) (d : Dev) : Dev :=
  match item? l d with
  | none => d
  | some it => if due it.deadline d then releaseUpTo l d else d

/-- Release of an in-time Early item (R151). -/
def earlyRelease (l : Nat) (d : Dev) : Dev :=
  match item? l d with
  | none => d
  | some it => if earlyDue it d then releaseUpTo l d else d

/-- A late item's result is posted as its amendment, 10 ticks after it is ready, and in a later tick than the original (R153, R18, R400). [log entry 36 DEDUCED] -/
def amendPost (l : Nat) (d : Dev) : Dev :=
  match item? l d with
  | none => d
  | some it =>
    let img := routeAt it.route it.epoch d
    match it.result with
    | none => d
    | some o =>
      if !it.released || !it.late || !rAmend img || decide (it.deadline + rWindow img ≤ it.readyAt) || decide (d.tickN < it.readyTick + 10)
          || decide (d.tickN ≤ it.relTick) then d
      else
        let v := verdictOf it o
        let era := (it.cqEra, it.fnEra)
        let r := lrec l d
        if r.deliv = 0 then
          let d := raise 3 1 (postRec l 2 v 0 (now d) true d)
          let d := mirrorSend 0 l (lrecMod l (fun r => { r with phase := 3 }) d)
          ledgRetire l (itemDel l (outPost l [] it.rbuf it.rlen era d))
        else
          match ledgPick d with
          | none => ledgDone l (raise 97 5 d)
          | some m =>
            let d := { d with ledger := { d.ledger with last := (m + 1) % max 1 (ledgSize d) } }
            let d := lrecSet m { r with deliv := 0, phase := 3, mark := 0, refetch := false, host := r.host } d
            let d := raise 3 1 (postRec m 2 v 0 (now d) true d)
            ledgDone l (ledgRetire m (outPost m [] it.rbuf it.rlen era (mirrorSend 0 m d)))

/-- Whether a result of the item stands that is still to be posted as its amendment. [log entry 36 DEDUCED] -/
def amendDue (it : Item) (img : List Byte) : Bool :=
  it.result.isSome && decide (it.readyAt < it.deadline + rWindow img)

/-- The amendment window closes: unfinished work is withdrawn and the record retires with no amendment (R153). -/
def amendClose (l : Nat) (d : Dev) : Dev :=
  match item? l d with
  | none => d
  | some it =>
    let img := routeAt it.route it.epoch d
    if it.released && it.late && due (it.deadline + rWindow img) d && !amendDue it img then ledgDone l d else d

/-! ### What a unit that is not READY does to a stage (03 R52) -/

/-- Stage `i` of record `l` meets an absent unit: SKIP or HOLD_TO_DEADLINE. -/
def stageAbsent (l i : Nat) (d : Dev) : Dev :=
  match item? l d with
  | none => d
  | some it =>
    let img := routeAt it.route it.epoch d
    let d := raise 3 2 d
    if rHold img then setStage l i .waiting d
    else
      let d := lrecMod l (fun r => if bitOf r.mark i then { r with mark := r.mark - 2 ^ i } else r) d
      weirAdvance l (setStage l i .skipped (itemMod l (fun it => { it with skips := it.skips ||| 2 ^ i }) d))

end Sys2Proof.Machine
end

