-- ==== Sys2Proof/Machine/StageOps.lean ====
section
/-!
DEFINITION. Machine/StageOps.lean: stage requests and replies (07 R136 to R138, 03 R39, R50, R52, 12 R264, 18 R404), and the reply packets every
engine commits.
-/
namespace Sys2Proof.Machine

/-! ### Requests -/

/-- Unit, request Sluice and reply Sluice of an engine stage kind; `c` the core of a Basin program. -/
def engineOf (sk c : Nat) : Nat × Nat × Nat :=
  match sk with
  | 1 => (4, 143, 144) | 2 => (5, 145, 146) | 3 => (6, 147, 148) | 4 => (16 + c, 149 + c, 157 + c) | _ => (30, 165, 165)

/-- The same of a stage that has been dispatched. -/
def stageUnit (img : List Byte) (it : Item) (j : Nat) : Nat × Nat × Nat :=
  engineOf (stKind (rStage img j)) (match it.stages.getD j .idle with | .sent c _ => c | _ => 0)

/-- Requests queued for a core in Sluice 149 + c (R264). -/
def coreQueued (c : Nat) (d : Dev) : Nat := ((slu (149 + c) d).words.filter (·.first)).length

/-- Basins active at a Shallows level (17 Table 17-1). [log entry 40 DEDUCED] -/
def basinsActive (v : Variant) (level : Nat) : Nat :=
  if level ≤ 1 then nBasin v else if level = 2 then max 1 (nBasin v / 2) else max 1 (nBasin v / 4)

/-- Basin `c` is parked (17 R384): beyond the active count, highest-numbered first. -/
def parked (c : Nat) (d : Dev) : Bool := decide (basinsActive d.fuse.variant d.therm.shlevel ≤ c)

/-- The cores the Weir chooses among (17 R384): the present ones named and not parked, or the lowest named one where all are parked. -/
def coreSet (mask : Nat) (d : Dev) : List Nat :=
  let cs := (List.range 8).filter fun c => bitOf mask c && uPresent d.fuse.variant (16 + c)
  let us := cs.filter fun c => !parked c d
  if us.isEmpty then cs.take 1 else us

/-- The core a Basin program stage goes to: of those it may choose, the one with the fewest requests queued, the lowest number on
ties (R264). [log entry 40 DEDUCED] -/
def coreFor (mask : Nat) (d : Dev) : Option Nat :=
  (coreSet mask d).foldl (fun (a : Option Nat) c =>
    match a with
    | none => some c
    | some b => if coreQueued c d < coreQueued b d then some c else some b) none

/-- The token IDs a Reedbed product holds: NTOK words after the text and map sections (08 R170). -/
def productTokens (p : List Byte) : List Byte :=
  let t := p.drop (p.length - 64)
  let nTok := fieldLe t 8 4
  let w := (4 * nTok + 63) / 64 * 64
  slice p (p.length - 64 - w) (4 * nTok)

/-- The features of a Wellhead product (15 R322). -/
def productFeatures (p : List Byte) : List Byte :=
  slice p 64 (2 * fieldLe p 0 1 * fieldLe p 1 1 * fieldLe p 2 1)

/-- The input of a Basin program stage: INKIND and bytes (R264). [log entry 37 DESIGN CHOICE] -/
def basinInput (it : Item) (src : InSrc) : Nat × List Byte :=
  match src with
  | .product j =>
    let p := it.products.getD j []
    if it.kind = 4 then (2, productFeatures p) else (1, productTokens p)
  | _ => (if it.kind = 2 then 1 else 0, it.payload)

/-- Bytes 12 to 63 of a Basin program request and its input (Table 12-9). [log entry 37 DESIGN CHOICE] -/
def basinBody (it : Item) (i table : Nat) (inp : Nat × List Byte) : List Byte :=
  padTo 52 (toLe 1 i ++ toLe 1 inp.1 ++ toLe 2 table ++ toLe 4 inp.2.length ++ toLe 2 it.epoch ++ toLe 1 it.dir ++ toLe 1 it.route ++
    toLe 4 it.seq ++ toLe 8 it.deadline) ++ inp.2

/-- Bytes 12 to 63 of any other stage request, and its input: stage, flags (bit 0 flush the stream's state first, bit 1 the input is a
Reedbed product, bit 2 a host item), TABLE, EPOCH, SEQ, input length, payload length. [log entry 37 DESIGN CHOICE] -/
def engineBody (it : Item) (i table : Nat) (flush : Bool) (src : InSrc) : List Byte :=
  let (pr, inp) := match src with
    | .product j => (true, it.products.getD j [])
    | _ => (false, it.payload)
  padTo 52 (toLe 1 i ++ toLe 1 (b2n flush + 2 * b2n pr + 4 * b2n it.host) ++ toLe 2 table ++ toLe 2 it.epoch ++ toLe 4 it.seq ++
    toLe 4 inp.length ++ toLe 4 it.payload.length) ++ inp

/-- A request as an engine reads it. -/
structure Req where
  lidx   : Nat
  stream : Nat
  kind   : Nat
  stage  : Nat
  flush  : Bool
  prod   : Bool
  host   : Bool
  table  : Nat
  epoch  : Nat
  seq    : Nat
  input  : List Byte
  plen   : Nat
  deriving DecidableEq, Repr

/-- A request as its packet spells it. [log entry 37 DESIGN CHOICE] -/
def reqOf (p : Pkt) : Req :=
  let b := p.body
  let f := fieldLe b 1 1
  { lidx := p.lidx, stream := p.stream, kind := p.kind, stage := fieldLe b 0 1 % 8, flush := bitOf f 0, prod := bitOf f 1, host := bitOf f 2,
    table := fieldLe b 2 2, epoch := fieldLe b 4 2, seq := fieldLe b 6 4, input := slice b 52 (fieldLe b 10 4),
    plen := fieldLe b 14 4 }

def cutDel (c : CutStage) (d : Dev) : Dev := { d with weir := { d.weir with cut := d.weir.cut.erase c } }

/-- Stage `j` has started its reply, and the cut-through threshold of its Sluice is met (R137; 06 R120): the Weir is reading the reply, or may start it.
A marker starts nothing. -/
def cutSeen (l j : Nat) (img : List Byte) (it : Item) (d : Dev) : Bool :=
  let n := (stageUnit img it j).2.2
  let s := slu n d
  if s.abortP || inReset s then false
  else if s.started then s.rdL == l && s.rdG == j
  else match s.words with
    | [] => false
    | w :: _ => canStart s && !w.abort && fieldLe w.data 2 1 % 4 == 0 && (wordKey w).2 == (l, j) && fieldLe w.data 4 2 == ugen (sluProducer n) d

/-- The Weir reads ahead the committed words of the reply at the front that is not whole yet (06 R120). -/
def cutStart (n : Nat) (d : Dev) : Dev :=
  let s := slu n d
  let (k, whole) := frontCommitted s.words
  if whole || k = 0 then d
  else sluSet n (sluFree k { (match s.words.head? with | some w => rdOf w s | none => s) with
                             words := s.words.drop k, rx := s.rx ++ s.words.take k, started := true }) d

/-- Whether stage `i` can be dispatched now, by order and input (R136, R137). A stage dispatched from a Reedbed or Wellhead product may start while that
product's reply is coming in. -/
def stageReady (l : Nat) (it : Item) (img : List Byte) (i : Nat) (d : Dev) : Bool :=
  let sk := stKind (rStage img i)
  decide (i < it.stages.length) && it.stages.getD i .idle == .idle && !it.failed && !it.gone && it.whole
    && (it.result.isNone || decide (i < it.endAt)) && sk != 6 && kindApplies sk it.kind && inOrder img it i
    && (match inputOf img it sk i with | .wait j => cutSeen l j img it d | _ => true)

/-- The request packet of stage `i`, with the input it reads (R136). -/
def stagePkt (l i : Nat) (img : List Byte) (it : Item) (d : Dev) : Pkt :=
  let sk := stKind (rStage img i)
  let src := inputOf img it sk i
  let t := stTable (rStage img i)
  { stream := it.stream, kind := it.kind, gen := ugen 3 d, lidx := l,
    body := if sk = 4 then basinBody it i t (basinInput it src) else engineBody it i t it.flush src }

/-- The core of a Basin program stage, or 0; none: no core of its set is present. -/
def stageCore (img : List Byte) (i : Nat) (d : Dev) : Option Nat :=
  let s := rStage img i
  if stKind s = 4 then coreFor (stCores s) d else some 0

/-- Stage `i`, dispatched to core `c` (or 0), is committed to its engine; where the reply it reads is still coming in, its request goes on when that
reply is whole. A unit in DRAINING takes no request: it waits under back-pressure (03 R39). Nothing happens while the Weir's port is still writing
another request. -/
def stageSend (l i c : Nat) (img : List Byte) (it : Item) (d : Dev) : Dev :=
  let sk := stKind (rStage img i)
  let (u, q, _) := engineOf sk c
  let d' := setStage l i (.sent c (ugen u d)) d
  if sk = 5 then d'
  else match inputOf img it sk i with
    | .wait j => cutStart (stageUnit img it j).2.2 { d' with weir := { d'.weir with cut := d'.weir.cut ++ [⟨l, i, j⟩] } }
    | _ =>
      let p := stagePkt l i img it d
      if ustate u d = .draining then putMarker q p d' else (putPkt q p d').getD d

/-- Dispatch stage `i` of record `l` (R137): its request is committed to the engine, or waits at a DRAINING one, which answers it absent at its reset
instant (03 R39); a unit in any other state sends the route to its absent-stage policy at once (03 R52). A stage to be run again waits for its unit
(18 R404). [log entries 9 DESIGN CHOICE, 14 DESIGN CHOICE, 23 DEDUCED] -/
def stageDispatch (l i : Nat) (d : Dev) : Dev :=
  match item? l d with
  | none => d
  | some it =>
    let img := routeAt it.route it.epoch d
    if !stageReady l it img i d then d
    else match stageCore img i d with
      | none => stageAbsent l i d
      | some c =>
        let s := ustate (engineOf (stKind (rStage img i)) c).1 d
        if s = .ready then stageSend l i c img it d
        else if bitOf (lrec l d).mark i then d
        else if s = .draining ∧ stKind (rStage img i) ≠ 5 then stageSend l i c img it d
        else stageAbsent l i d

/-- A stage held under HOLD_TO_DEADLINE runs once its unit is READY (03 R52). -/
def stageResume (l i : Nat) (d : Dev) : Dev :=
  match item? l d with
  | none => d
  | some it =>
    let img := routeAt it.route it.epoch d
    match stageCore img i d with
    | none => d
    | some c =>
      if it.stages.getD i .idle == .waiting && uready (engineOf (stKind (rStage img i)) c).1 d then stageDispatch l i (setStage l i .idle d) else d

/-! ### Replies (R138) -/

/-- Bytes 12 to 63 of a reply, its spans and its product (Table 7-4). -/
def replyBody (stage prop : Nat) (trunc shallows : Bool) (scores : List (BitVec 16)) (cut epoch seq : Nat) (spans : List (Nat × Nat))
    (product : List Byte) : List Byte :=
  let n := spans.length
  padTo 52 (toLe 1 stage ++ toLe 1 (prop + 16 * b2n trunc + 32 * b2n shallows) ++ toLe 2 n ++ scores.flatMap (fun s => toLe 2 s.toNat) ++
    toLe 4 cut ++ toLe 2 epoch ++ [0, 0] ++ toLe 4 seq) ++ padTo ((n + 7) / 8 * 64) (spanBytes spans) ++ product

/-- Four quiet NaNs (R17). -/
def noScores : List (BitVec 16) := [0x7E00, 0x7E00, 0x7E00, 0x7E00]

/-- The packet of a reply, stamped with the unit's generation (03 R43). -/
def replyPkt (u : Nat) (q : Req) (body : List Byte) (d : Dev) : Pkt :=
  { stream := q.stream, kind := q.kind, gen := ugen u d, lidx := q.lidx, body := body }

def propOf (c : Nat) : Option Prop' :=
  match c with | 0 => some .pass | 1 => some .block | 2 => some .cut | 3 => some .mask | 4 => some .hold | 15 => some .abstain | _ => none

/-- What the Weir takes from a reply. -/
structure ReplyIn where
  out   : Outcome'
  trunc : Bool
  shal  : Bool
  prod  : List Byte

/-- Read a reply of stage kind `sk` for the item; none: a bad reply (R138, 08 R170). -/
def replyRead (sk : Nat) (it : Item) (b : List Byte) : Option ReplyIn :=
  let f := fieldLe b 1 1
  let n := fieldLe b 2 2
  let sw := (n + 7) / 8 * 64
  let prod := b.drop (52 + sw)
  let text := sk == 1 && it.kind == 1
  let tr := prod.drop (prod.length - 64)
  let f := if text then fieldLe tr 20 1 else f
  match propOf (bitsOf f 3 0) with
  | none => none
  | some p =>
    if 64 < n ∨ fieldLe b 16 2 ≠ it.epoch ∨ fieldLe b 20 4 ≠ it.seq ∨ b.length < 52 + sw ∨ (text ∧ prod.length < 128) then none
    else some
      { out := { prop := p, cut := fieldLe b 12 4,
                 spans := (List.range n).map fun i => (fieldLe b (52 + 8 * i) 4, fieldLe b (56 + 8 * i) 4),
                 scores := (List.range 4).map fun i => BitVec.ofNat 16 (fieldLe b (4 + 2 * i) 2) },
        trunc := bitOf f 4, shal := bitOf (fieldLe b 1 1) 5,
        -- a bad TABLE yields no product (08 R161): BLOCK with neither a replacement nor a truncation (08 R171)
        prod := if text && p == .block && fieldLe tr 0 4 == 0 && fieldLe tr 16 4 == 0 && !bitOf f 4 then [] else prod }

/-- The generation fence (03 R50). [log entry 23 DEDUCED] -/
def fenceOk (u gen : Nat) (d : Dev) : Bool :=
  gen == ugen u d || (ustate u d == .draining && (gen + 1) % 65536 == ugen u d)

/-- The lowest stage of the item dispatched to this unit and not answered. -/
def sentTo (it : Item) (img : List Byte) (u : Nat) : Option Nat :=
  (List.range it.stages.length).find? fun i =>
    match it.stages.getD i .idle with
    | .sent c _ => (engineOf (stKind (rStage img i)) (if stKind (rStage img i) = 4 then c else 0)).1 == u
    | _ => false

/-- What a stage dispatched under cut-through comes to once the reply it reads has ended: its request goes on with the product; a reply that ended
without one leaves the request bad (06 R117, R118), and its stage is marked. -/
def cutTidy (c : CutStage) (d : Dev) : Dev :=
  match item? c.lidx d with
  | none => cutDel c d
  | some it =>
    let img := routeAt it.route it.epoch d
    match it.stages.getD c.stage .idle with
    | .sent .. =>
      (match it.stages.getD c.src .idle with
      | .sent .. => d
      | _ =>
        let q := (stageUnit img it c.stage).2.1
        if inputOf img it (stKind (rStage img c.stage)) c.stage = .product c.src then putMarker q (stagePkt c.lidx c.stage img it d) (cutDel c d)
        else ledgMark c.lidx c.stage (bump (kSlu q 0) (cutDel c d)))
    | _ => cutDel c d

/-- The Weir goes on with every item. -/
def weirSettle (d : Dev) : Dev :=
  let d := foldSt d.weir.cut cutTidy d
  foldSt (d.weir.items.map (·.1)) weirAdvance d

/-! ### The hold store, Sluice 142 (18 R401; 21 R472, R474) -/

/-- A packet that carries bytes of the item of record `l` from the Weir or to it: word 0 holds the common header, the bytes follow from word 1 on
(06 R114, R124). It waits behind those that wait. [log entry 67 DEDUCED] -/
def itemPut (n l : Nat) (bytes : List Byte) (d : Dev) : Dev :=
  match item? l d with
  | none => d
  | some it => putMarker n { stream := it.stream, kind := it.kind, gen := ugen (sluProducer n) d, lidx := l, body := List.replicate 52 0 ++ bytes } d

/-- The Weir keeps an accepted stage product (18 R401). [log entry 67 DEDUCED] -/
def holdProduct (l : Nat) (prod : List Byte) (d : Dev) : Dev := if prod.isEmpty then d else itemPut 142 l prod d

/-- The hold store has all that the Weir has for it: nothing waits for a frame. [log entry 67 DEDUCED] -/
def holdOpen (d : Dev) : Bool := (slu 142 d).wait.isEmpty

/-- Words of the item of record `l` still wait for frames of the hold store. [log entry 67 DEDUCED] -/
def holdWaits (l : Nat) (d : Dev) : Bool :=
  let s := slu 142 d
  s.wait.any fun p => match p with | w :: _ => (if w.first then (wordKey w).2.1 else s.openL) == l | [] => false

/-- The PHASE of the item of record `l` is ADMITTED or RUNNING LATE no more. A packet of no item goes by no PHASE. [log entry 67 DEDUCED] -/
def holdOver (d : Dev) (l : Nat) : Bool := l != noLidx && (item? l d).isNone

/-- Words of the packets that stay; `k`: whether those before the next FIRST do. -/
def holdKeep (d : Dev) : Bool → List SWord → List SWord
  | _, [] => []
  | k, w :: ws =>
    let k := if w.first then !holdOver d (wordKey w).2.1 else k
    if k then w :: holdKeep d k ws else holdKeep d k ws

/-- The end of a tick: what the hold store keeps of an item leaves it, and its frames return, once the item's PHASE is DONE (18 R401; 21 R474). [log entry 67 DEDUCED] -/
def holdSweep (d : Dev) : Dev :=
  let s := slu 142 d
  let rd := s.started && holdOver d s.rdL
  let ws := holdKeep d (!rd) s.words
  let wait := s.wait.filter fun p => match p with | w :: _ => !(if w.first then holdOver d (wordKey w).2.1 else holdOver d s.openL) | [] => false
  if ws.length = s.words.length ∧ wait.length = s.wait.length ∧ !rd then d
  else
    let own := s.opened && waitOpen s && holdOver d s.openL
    let other := s.opened && !waitOpen s && holdOver d s.openL
    let s := { s with words := ws, wait := wait, started := s.started && !rd, opened := s.opened && !own, absorb := (s.absorb || other) && !own,
                      openN := if own then 0 else s.openN }
    sluSet 142 (if ws.isEmpty then sluNone s else frFit s) d

/-- Payloads whose last word has gone into the hold store: the Weir has them whole. [log entry 67 DEDUCED] -/
def holdMark (d : Dev) : Dev :=
  foldSt ((d.weir.items.filter fun p => p.2.kept && !p.2.whole && !holdWaits p.1 d).map (·.1))
    (fun l d => weirAdvance l (itemMod l (fun it => { it with whole := true }) d)) d

/-- Accept the reply of stage `i` (R138, 18 R401, R404). [log entry 35 DEDUCED] -/
def stageAccept (l i : Nat) (r : ReplyIn) (d : Dev) : Dev :=
  let d := lrecMod l (fun x =>
    let again := bitOf x.mark i
    { x with done := x.done ||| 2 ^ i, poison := false, mark := if again then x.mark - 2 ^ i else x.mark,
             replays := if again then min 15 (x.replays + 1) else x.replays,
             flags := x.flags ||| (4 * b2n r.trunc + 16 * b2n r.shal + (if again then 0x20 else 0)) }) d
  let d := itemMod l (fun it => { it with stages := listSet it.stages i (.done r.out), products := listSet it.products i r.prod,
                                          accAt := listSet it.accAt i (now d + 1) }) d
  weirSettle (holdProduct l r.prod d)

/-- A bad reply of stage `i`: the stage is marked for replay, and until a replay's reply is accepted its outcome is BLOCK (R138). [log entry 35 DEDUCED] -/
def stageBad (l i : Nat) (d : Dev) : Dev := weirSettle (setStage l i (.done blockOut) (ledgMark l i d))

/-- The packet at the front of Sluice `n` and the block without it; not a device frame, which names no record and is admitted (15 R329). -/
def stageFront (n : Nat) (d : Dev) : Option (Pkt × Dev) :=
  match takePkt n d with
  | some (p, d') => if n = 165 && p.lidx = noLidx && !p.aborted then none else some (p, d')
  | none => none

/-- The Weir consumes the packet at the front of reply Sluice `n` (R138, 03 R50, R52). An absent reply or abort marker names the stage whose request it
answers. [log entry 35 DEDUCED] -/
def stageReply (n : Nat) (d : Dev) : Dev :=
  match stageFront n d with
  | none => d
  | some (p, d) =>
    let u := sluProducer n
    match item? p.lidx d with
    | none => weirSettle d
    | some it =>
      let img := routeAt it.route it.epoch d
      let i? := if p.absent || p.aborted then (if p.stage ≠ 0 then some (p.stage - 1) else sentTo it img u) else some (fieldLe p.body 0 1 % 8)
      match i? with
      | none => weirSettle d
      | some i =>
        let sk := stKind (rStage img i)
        let sent := match it.stages.getD i .idle with | .sent _ g => decide ((p.gen + 65536 - g) % 65536 < 32768) | _ => false
        if !sent || it.stream != p.stream then weirSettle d
        else if !fenceOk u p.gen d || p.aborted then weirSettle (ledgMark p.lidx i d)
        else if p.absent then weirSettle (stageAbsent p.lidx i d)
        else match replyRead sk it p.body with
          | none => stageBad p.lidx i d
          | some r => stageAccept p.lidx i r d

/-- A stage fixed as BLOCK that is marked for replay is to be run again (R138, 18 R404). -/
def replayReady (l i : Nat) (d : Dev) : Dev :=
  match item? l d with
  | none => d
  | some it => match it.stages.getD i .idle with | .done _ => setStage l i .idle d | _ => d

/-- A stage marked for replay is dispatched again (18 R404); while its unit is not READY it stays as it is. -/
def replayDispatch (l i : Nat) (d : Dev) : Dev :=
  if bitOf (lrec l d).mark i then
    let d' := stageDispatch l i (replayReady l i (stageResume l i d))
    match item? l d' with
    | some it => if it.stages.getD i .idle = .idle then d else d'
    | none => d'
  else d

/-- The Inlet writes the payload of record `l` into the intake Sluice, behind those that wait (05 R95). [log entry 29 DEDUCED] -/
def intakePut (l : Nat) (payload : List Byte) (d : Dev) : Dev := itemPut 140 l payload d

/-- The payload of a REFETCH has been read again (18 R404). -/
def refetched (l : Nat) (payload : List Byte) (d : Dev) : Dev :=
  if (lrec l d).refetch && (match item? l d with | some it => !it.inn | none => false) then intakePut l payload d else d

/-- The Weir takes the packet at the front of the intake Sluice, the payload of its item, into the hold store; while that has no room for what the Weir
has, it takes none (21 R472, R474). REFETCH ends with it (18 R404). [log entry 67 DEDUCED] -/
def intakeTake (d : Dev) : Dev :=
  if !userves 3 d || !holdOpen d then d
  else match takePkt 140 d with
    | none => d
    | some (p, d) =>
      match item? p.lidx d with
      | none => d
      | some it =>
        if p.aborted || it.whole || it.failed then d
        else
          let r := lrec p.lidx d
          let d := if r.refetch then lrecSet p.lidx { r with refetch := false, replays := min 15 (r.replays + 1), flags := r.flags ||| 0x20 } d else d
          let d := itemPut 142 p.lidx (p.body.drop 52) d
          let d := itemMod p.lidx (fun it => { it with payload := p.body.drop 52, whole := !holdWaits p.lidx d, inn := true, kept := true }) d
          weirAdvance p.lidx d

/-- Ledger indices of the packets whose LAST word has committed; `k`: that of the packet under way. -/
def lastKeys (k : Option Nat) : List SWord → List Nat
  | [] => []
  | w :: ws =>
    let k := if w.first then some (wordKey w).2.1 else k
    if w.last && !w.fresh then k.toList ++ lastKeys none ws else lastKeys k ws

/-- The end of a tick: payloads that have committed whole to the intake Sluice (05 R95). -/
def intakeMark (d : Dev) : Dev :=
  let s := slu 140 d
  foldSt (lastKeys (if s.started then some s.rdL else none) s.words) (fun l d => itemMod l (fun it => { it with inn := true }) d) d

end Sys2Proof.Machine
end

