-- ==== Sys2Proof/Machine/EngineOps.lean ====
section
/-!
DEFINITION. Machine/EngineOps.lean: what Reedbed, Shoal and Sieve/Tarn share: pack slots in their stores, slots in use, and the reset instant of
an engine (08 R178, R179, 09 R197, R199, 10 R218, R220, 06 R132, 03 R49).
-/
namespace Sys2Proof.Machine

/-- Raise a notice for `n` events (02 R32). -/
def raiseN (b i n : Nat) (d : Dev) : Dev := if n = 0 then d else bumpBy (16 * b + i) (n - 1) (raise b i d)

/-- Free ranges of an area of `size` bytes outside the given (offset, length) ranges, in ascending order. -/
def freeRanges (size : Nat) (used : List (Nat × Nat)) : List (Nat × Nat) :=
  let us := (used.filter fun u => decide (0 < u.2)).mergeSort fun a b => decide (a.1 ≤ b.1)
  let (o, l) := us.foldl (fun (st : Nat × List (Nat × Nat)) u =>
    (max st.1 (u.1 + u.2), if st.1 < u.1 then st.2 ++ [(st.1, u.1 - st.1)] else st.2)) (0, [])
  if o < size then l ++ [(o, size - o)] else l

/-- Bytes a pack takes in a store. -/
def slotRange (unit : Nat) (s : PackSlot) : Nat × Nat := (s.base, (s.bytes.length + unit - 1) / unit * unit)

/-- The lowest free offset that fits `n` bytes in an area, a slot's own range counting as free. -/
def slotPlace (size unit n : Nat) (slots : Tab PackSlot) (k : Nat) : Option Nat :=
  ((freeRanges size ((slots.filter fun p => p.1 != k).map fun p => slotRange unit p.2)).find? fun r => decide ((n + unit - 1) / unit * unit ≤ r.2)).map (·.1)

/-- Largest free range. -/
def slotLargest (size unit : Nat) (slots : Tab PackSlot) : Nat :=
  (freeRanges size (slots.map fun p => slotRange unit p.2)).foldl (fun a r => max a r.2) 0

/-- A slot is in use while a stage of this kind of any live epoch of a route with VALID 1 names it. -/
def slotInUse (sk : Nat) (slotOf : Nat → Nat) (k : Nat) (d : Dev) : Bool :=
  d.weir.live.any fun (_, cs) => cs.any fun c => rValid c.img &&
    (List.range (rNStage c.img)).any fun i => stKind (rStage c.img i) == sk && slotOf (stTable (rStage c.img i)) == k

/-- The abort marker of an abandoned request (03 R49), and the mark on its item. -/
def abandon (rep u : Nat) (x : Nat × Nat × Nat) (d : Dev) : Dev :=
  let (st, l, g) := x
  ledgMark l g (putMarker rep { stream := st, aborted := true, gen := ugen u d, lidx := l, stage := g + 1 } d)

/-- Replies a unit's port of Sluice `n` has not begun to write: what they answer is abandoned at its reset instant. -/
def unwritten (n : Nat) (d : Dev) : List (Nat × Nat × Nat) :=
  (slu n d).wait.filterMap fun p => match p with | w :: _ => if w.first && !isMarker p then some (wordKey w) else none | [] => none

/-- Requests for unit `u` whose first words its port has taken, their input still coming in (07 R137). -/
def cutInside (u : Nat) (d : Dev) : List CutStage :=
  d.weir.cut.filter fun c => match item? c.lidx d with
    | none => false
    | some it => (stageUnit (routeAt it.route it.epoch d) it c.stage).1 == u

def cutKey (d : Dev) (c : CutStage) : Nat × Nat × Nat := (match item? c.lidx d with | some it => it.stream | none => 0, c.lidx, c.stage)

/-- The reset instant of an engine with request Sluice `req` and reply Sluice `rep`; `inside`: requests it has taken and not answered. -/
def engineReset (u req rep : Nat) (inside : List (Nat × Nat × Nat)) (d : Dev) : Dev :=
  let cs := cutInside u d
  let inside := unwritten rep d ++ inside ++ cs.map (cutKey d)
  let d := sluProdReset u (foldSt cs cutDel d)
  let (ls, d) := sluConsReset req d
  weirSettle (foldSt (inside ++ ls) (abandon rep u) d)

/-- Stream, record and stage of a request packet. -/
def pktKey (p : Pkt) : Nat × Nat × Nat := (p.stream, p.lidx, fieldLe p.body 0 1 % 8)

/-- Commit a reply of an engine, if Sluice `n` can take it. -/
def replyPut (n u : Nat) (q : Req) (body : List Byte) (d : Dev) : Option Dev := putPkt n (replyPkt u q body d) d

end Sys2Proof.Machine
end

