-- ==== Sys2Proof/Machine/MemOps.lean ====
section
/-!
DEFINITION. Machine/MemOps.lean: Mere, the HBM linear space and the Siphon (14): bytes and poison of the four spaces, errors, refresh and
patrol, and what a Siphon job does.
-/
namespace Sys2Proof.Machine

/-! ### Regions of the linear HBM space (R307, R308) -/

def gib : Nat := 1073741824

/-- Bytes of the linear space (R307). -/
def hbmBytes (v : Variant) : Nat := nHbm v * 36 * gib

def ledgBase (d : Dev) : Nat := hbmBytes d.fuse.variant - d.hbm.ledger * gib
def ovfBase (d : Dev) : Nat := ledgBase d - 67108864
def sessBase (d : Dev) : Nat := ovfBase d - d.hbm.sessions * gib

/-- The stack that holds a linear address (R307). -/
def hbmStackOf (a : Nat) (d : Dev) : Nat := a / 4096 % nHbm d.fuse.variant

/-- A unit's memory answers: in any state but READY and DRAINING it returns absent replies (R306, 03 R39). -/
def memServes (u : Nat) (d : Dev) : Bool := userves u d

/-! ### Mere (R294 to R298) -/

def mereSize : Nat := 134217728

/-- A byte of Mere; none: its word is poisoned, or Mere does not serve. [log entry 11 DESIGN CHOICE] -/
def mereByte (a : Nat) (d : Dev) : Option Byte :=
  if !memServes 24 d || tabGet (fun _ => false) d.mere.pois (a / 64) then none else some (memByte 0 d.mere.mem a)

def mereSet (m : Mere) (d : Dev) : Dev := { d with mere := m }

/-- Write bytes into Mere: good data ends the poison of each word it reaches (R298). [log entry 31 DEDUCED] -/
def mereWrite (a : Nat) (bs : List Byte) (d : Dev) : Dev :=
  if !memServes 24 d ∨ bs.isEmpty then d
  else
    let w0 := a / 64
    let n := (a + bs.length - 1) / 64 + 1 - w0
    mereSet { d.mere with mem := memWrite 0 d.mere.mem a bs,
                          pois := forN n (fun i p => tabSet (fun _ => false) p (w0 + i) false) d.mere.pois } d

/-- Write poison into the words of a range. -/
def merePoison (a n : Nat) (d : Dev) : Dev :=
  if !memServes 24 d ∨ n = 0 then d
  else
    let w0 := a / 64
    mereSet { d.mere with pois := forN ((a + n - 1) / 64 + 1 - w0) (fun i p => tabSet (fun _ => false) p (w0 + i) true) d.mere.pois } d

/-- A SEC-DED event on the word at address `a` (R298): 1 corrected, 2 uncorrectable. -/
def mereErr (kind a : Nat) (d : Dev) : Dev :=
  match kind with
  | 1 => raise 24 0 d
  | 2 =>
    let d := raise 24 1 d
    mereSet { d.mere with pois := tabSet (fun _ => false) d.mere.pois (a / 64) true, ueaddr := a / 64 * 64 } d
  | _ => d

/-- One row of bank `b` is refreshed at its Gauge value, once (R297). -/
def mereRefresh (b : Nat) (d : Dev) : Dev :=
  let k := (now d + 24000 - 1500 * b % 24000) % 24000    -- gu since the bank's last instant
  if b < 16 ∧ (k = 0 ∨ 24000 < k + d.clk.gu) ∧ tabGet (fun _ => 0) d.mere.refAt b ≠ now d + 1 then
    mereSet { d.mere with refAt := tabSet (fun _ => 0) d.mere.refAt b (now d + 1), row := tabSet (fun _ => 0) d.mere.row b ((tabGet (fun _ => 0) d.mere.row b + 1) % 8192) } d
  else d

/-- The patrol of bank `b` reads its next word (R298). -/
def merePatRead (b kind : Nat) (d : Dev) : Dev :=
  let w := tabGet (fun _ => 0) d.mere.patrol b
  mereErr kind (64 * (16 * w + b))
    (mereSet { d.mere with patrol := tabSet (fun _ => 0) d.mere.patrol b ((w + 1) % 131072), patAt := tabSet (fun _ => 0) d.mere.patAt b (d.tickN / 1024 + 1) } d)

/-- The patrol of bank `b` has read no word in the present 1,024 ticks; it runs at Full to Step-3. -/
def merePatDue (b : Nat) (d : Dev) : Bool :=
  decide (b < 16) && d.clk != .ice && memServes 24 d && tabGet (fun _ => 0) d.mere.patAt b != d.tickN / 1024 + 1

/-- The patrol reads one word of a bank in every 1,024 ticks, in order (R298): `w` names the word of bank `b` it has come to. -/
def merePatrol (b w kind : Nat) (d : Dev) : Dev :=
  if merePatDue b d && w == tabGet (fun _ => 0) d.mere.patrol b then merePatRead b kind d else d

/-- Where no command has brought it, the patrol's read falls in the last of the 1,024 ticks; whether it meets an error is open: a free value.
 [log entry 14 DESIGN CHOICE] -/
def merePatTick (b : Nat) (d : Dev) : Dev :=
  if merePatDue b d && d.tickN % 1024 == 1023 then (let (v, d) := draw d; merePatRead b (v % 3) d) else d

/-! ### HBM (R306 to R309) -/

def stackGet (h : Nat) (d : Dev) : HbmStack := tabGet (fun _ => {}) d.hbm.stack h
def stackSet (h : Nat) (s : HbmStack) (d : Dev) : Dev := { d with hbm := { d.hbm with stack := tabSet (fun _ => {}) d.hbm.stack h s } }

/-- A stack reports its temperature (HBM_STATh TEMP): what it measures is a fact outside, a free value. [log entry 5 DESIGN CHOICE] -/
def hbmTemp (h : Nat) (d : Dev) : Dev := let (v, d) := draw d; stackSet h { stackGet h d with temp := v % 256 } d

/-- The record at offset `o` of the Ledger region: a local one, or one of the mirror area (18 R396). -/
def ledgRec (o : Nat) (d : Dev) : LRec :=
  let l := o / 128
  if l < ledgSize d then lrec l d else tabGet (fun _ => {}) d.ledger.mirror (l - ledgSize d)

/-- A byte of the Ledger region, as the records stand (18 R396, R398). -/
def ledgByte (o : Nat) (d : Dev) : Byte :=
  let l := o / 128
  (recBytes (if l < ledgSize d then l else l - ledgSize d) (ledgRec o d)).getD (o % 128) 0

/-- The word that holds linear address `a` is poisoned. -/
def hbmPois (a : Nat) (d : Dev) : Bool :=
  if ledgBase d ≤ a then (ledgRec (a - ledgBase d) d).poison else tabGet (fun _ => false) d.hbm.pois (a / 64)

/-- An uncorrectable error in a record (18 R413). -/
def ledgPoison (o : Nat) (d : Dev) : Dev :=
  let l := o / 128
  let n := ledgSize d
  let d := raise 97 4 d
  if l < n then lrecMod l (fun r => { r with poison := true }) d
  else { d with ledger := { d.ledger with mirror := tabSet (fun _ => {}) d.ledger.mirror (l - n) { ledgRec o d with poison := true } } }

/-- A byte of the linear space; none: its word is poisoned, or its stack does not serve (R306). [log entry 11 DESIGN CHOICE] -/
def hbmByte (a : Nat) (d : Dev) : Option Byte :=
  if !memServes (26 + hbmStackOf a d) d || hbmPois a d then none
  else if ledgBase d ≤ a then some (ledgByte (a - ledgBase d) d)
  else some (memByte 0 d.hbm.mem a)

/-- Write one byte of the linear space; good data ends the poison of its word. -/
def hbmWrite1 (a : Nat) (b : Byte) (d : Dev) : Dev :=
  if !memServes (26 + hbmStackOf a d) d then d
  else { d with hbm := { d.hbm with mem := tabSet (fun _ => 0) d.hbm.mem a b, pois := tabSet (fun _ => false) d.hbm.pois (a / 64) false } }

/-- Write bytes to HBM from `a` upwards. [log entry 31 DEDUCED] -/
def hbmWrite : Nat → List Byte → Dev → Dev
  | _, [], d => d
  | a, b :: bs, d => hbmWrite (a + 1) bs (hbmWrite1 a b d)

def hbmPoison1 (a : Nat) (d : Dev) : Dev :=
  if !memServes (26 + hbmStackOf a d) d then d
  else { d with hbm := { d.hbm with pois := tabSet (fun _ => false) d.hbm.pois (a / 64) true } }

/-- An error of a burst at linear address `a` (R309): 1 corrected; 2 a double-bit error, an uncorrectable report of the stack, or a second
parity failure. -/
def hbmErr (kind a : Nat) (d : Dev) : Dev :=
  let h := hbmStackOf a d
  match kind with
  | 1 => raise (26 + h) 0 d
  | 2 =>
    let d := stackSet h { stackGet h d with ueaddr := a } (raise (26 + h) 1 d)
    if ledgBase d ≤ a then ledgPoison (a - ledgBase d) d
    else { d with hbm := { d.hbm with pois := tabSet (fun _ => false) d.hbm.pois (a / 64) true } }
  | _ => d

/-! ### Basin stores (11 R224, R243, R244) -/

def basin (b : Nat) (d : Dev) : Basin := tabGet (fun _ => {}) d.basin b
def basinSet (b : Nat) (x : Basin) (d : Dev) : Dev := { d with basin := tabSet (fun _ => {}) d.basin b x }
def basinMod (b : Nat) (f : Basin → Basin) (d : Dev) : Dev := basinSet b (f (basin b d)) d

def basinStoreSize : Nat := 8388608

/-- A byte of a Basin store; none: poisoned. [log entry 11 DESIGN CHOICE] -/
def bstByte (x : Basin) (a : Nat) : Option Byte :=
  if tabGet (fun _ => false) x.pois (a / 64) then none else some (memByte 0 x.store a)

/-- Write bytes of a store; good data ends the poison of each word it reaches (R244). -/
def bstWrite (a : Nat) (bs : List Byte) (x : Basin) : Basin :=
  if bs.isEmpty then x
  else
    let w0 := a / 64
    { x with store := memWrite 0 x.store a bs,
             pois := forN ((a + bs.length - 1) / 64 + 1 - w0) (fun i p => tabSet (fun _ => false) p (w0 + i) false) x.pois }

def bstPoison (a n : Nat) (x : Basin) : Basin :=
  if n = 0 then x
  else
    let w0 := a / 64
    { x with pois := forN ((a + n - 1) / 64 + 1 - w0) (fun i p => tabSet (fun _ => false) p (w0 + i) true) x.pois }

/-- An error a read of word `w` of a store meets (R243, R244): 1 corrected, 2 uncorrectable. -/
def bstErr (b kind w : Nat) (d : Dev) : Dev :=
  match kind with
  | 1 => raise (8 + b) 0 d
  | 2 => raise (8 + b) 1 (basinMod b (fun x => { x with pois := tabSet (fun _ => false) x.pois w true }) d)
  | _ => d

/-! ### The four spaces of a Siphon job (R300) -/

/-- Bytes of a space; Basin numbers in `b`. -/
def spaceSize (sp : Nat) (d : Dev) : Nat :=
  match sp with | 0 => mereSize | 1 => hbmBytes d.fuse.variant | 2 => basinStoreSize | _ => 4194304

/-- Read one byte of a space. A Sluice buffer byte no job has written is a value the spec leaves open (R300 places no Sluice's words). [log entry 5 DESIGN CHOICE] -/
def spaceRead (sp b a : Nat) (d : Dev) : Option Byte × Dev :=
  match sp with
  | 0 => (mereByte a d, d)
  | 1 => (hbmByte a d, d)
  | 2 => (bstByte (basin b d) a, d)
  | _ =>
    if tabGet (fun _ => false) d.slupois (a / 64) then (none, d)
    else match tabGet (fun _ => none) d.slubuf a with
    | some v => (some v, d)
    | none => let (n, d) := draw d; (some (BitVec.ofNat 8 n), d)

/-- A memory error that the read at address `x.1` of a space meets: kind `x.2`, 1 corrected, 2 uncorrectable (R298, R309; 11 R243). -/
def spaceErr (sp b : Nat) (x : Nat × Nat) (d : Dev) : Dev :=
  match sp with
  | 0 => if memServes 24 d then mereErr x.2 x.1 d else d
  | 1 => if memServes (26 + hbmStackOf x.1 d) d then hbmErr x.2 x.1 d else d
  | 2 => bstErr b x.2 (x.1 / 64) d
  | _ => d

/-- Write one byte of a space, or poison its word. -/
def spaceWrite (sp b a : Nat) (v : Option Byte) (d : Dev) : Dev :=
  match sp, v with
  | 0, some v => mereWrite a [v] d
  | 0, none => merePoison a 1 d
  | 1, some v => hbmWrite1 a v d
  | 1, none => hbmPoison1 a d
  | 2, some v => basinMod b (bstWrite a [v]) d
  | 2, none => basinMod b (bstPoison a 1) d
  | _, some v => { d with slubuf := tabSet (fun _ => none) d.slubuf a (some v), slupois := tabSet (fun _ => false) d.slupois (a / 64) false }
  | _, none => { d with slupois := tabSet (fun _ => false) d.slupois (a / 64) true }

/-! ### The Siphon (R299 to R305) -/

def siphSet (s : Siphon) (d : Dev) : Dev := { d with siph := s }

/-- Lowest and one past the highest byte of the source and destination rows. -/
def jobSrc (x : SDesc) : Int × Int := sSpan x.src x.sstride x.nrows x.rowlen
def jobDst (x : SDesc) : Int × Int := sSpan x.dst x.dstride x.nrows x.rowlen

/-- The first RANGE check of Table 14-4. -/
def jobRangeOk (x : SDesc) (d : Dev) : Bool :=
  let inSpace := fun (sp b : Nat) (s : Int × Int) =>
    decide (0 ≤ s.1) && decide (s.2 ≤ (spaceSize sp d : Int)) && (sp != 2 || decide (b < nBasin d.fuse.variant))
  !x.rsvd && within x.rowlen 1 16777216 && within x.nrows 1 65536 && decide (x.rowlen * x.nrows ≤ 4294967296) &&
    inSpace x.ssp x.sb (jobSrc x) && inSpace x.dsp x.db (jobDst x) && (x.nrows == 1 || decide ((x.rowlen : Int) ≤ x.dstride.natAbs))

/-- A span of bytes lies in [lo, hi). -/
def spanIn (s : Int × Int) (lo hi : Nat) : Bool := decide ((lo : Int) ≤ s.1) && decide (s.2 ≤ (hi : Int))

/-- The data region of a program slot on a core (12 R272). -/
def progData (p : ProgSlot) : Nat × Nat := (p.dataAt, p.dataAt + fieldLe p.hdr 12 4 + fieldLe p.hdr 16 4)

/-- Whether the submitter may read and write what the job names (R301). `slot`: 0 kernel rules, else the program slot plus one. -/
def jobAllowed (sub : SSub) (slot : Nat) (x : SDesc) (d : Dev) : Bool :=
  let s := jobSrc x
  let t := jobDst x
  match sub with
  | .shore .. => x.dsp != 1 || spanIn t 0 (ledgBase d)
  | .core c _ =>
    let hbmRd := x.ssp == 1 && spanIn s 0 (ovfBase d)
    if slot = 0 then
      (x.ssp == 0 || (x.ssp == 2 && x.sb == c) || hbmRd) &&
      ((x.dsp == 0 && spanIn t 0x400000 mereSize) || (x.dsp == 2 && x.db == c) || (x.dsp == 1 && spanIn t (sessBase d) (ovfBase d)))
    else
      let p := tabGet (fun _ => {}) (tabGet (fun _ => {}) d.longs.core c).slots (slot - 1)
      let (lo, hi) := progData p
      ((x.ssp == 0 && spanIn s lo hi) || (x.ssp == 2 && x.sb == c) || hbmRd) &&
      ((x.dsp == 0 && spanIn t lo hi) || (x.dsp == 2 && x.db == c))

/-- Status of the checks of Table 14-4, in its order: 0 passed. [log entry 45 DEDUCED] -/
def jobCheck (sub : SSub) (slot : Nat) (x : SDesc) (d : Dev) : Nat :=
  if !jobRangeOk x d then 1
  else if !jobAllowed sub slot x d then 2
  else if sBounced x && decide (262144 < sEndangered x) then 1
  else 0

/-- Read the source bytes of a job in visit order. [log entry 45 DEDUCED] -/
def jobRead (x : SDesc) : List (Nat × Nat) → Dev → List (Option Byte) × Dev
  | [], d => ([], d)
  | (s, _) :: t, d =>
    let (v, d) := spaceRead x.ssp x.sb s d
    let (vs, d) := jobRead x t d
    (v :: vs, d)

/-- Words of the destination that receive a byte of a poisoned source word among the first `n` visited. -/
def jobPoisWords (j : SJob) (n : Nat) : List Nat :=
  (((sVisit j.d).zip j.data).take n).foldl (fun (ws : List Nat) (p : (Nat × Nat) × Option Byte) =>
    if p.2.isNone && !ws.contains (p.1.2 / 64) then (p.1.2 / 64) :: ws else ws) []

/-- Of the first `n` bytes in visit order, those whose word has been committed whole: a word is written at once (R295, R303). [log entry 45 DEDUCED] -/
def visitCut (n : Nat) (x : SDesc) : Nat :=
  let ws := (sVisit x).map fun p => p.2 / 64
  match ws[n]? with
  | none => min n ws.length
  | some w => n - ((ws.take n).reverse.takeWhile (· == w)).length

/-- Write the visited bytes from number `j.done` up to `n`, in whole words (R302 to R304): good bytes first, then the words that take poison. [log entry 45 DEDUCED] -/
def jobWrite (n : Nat) (j : SJob) (d : Dev) : SJob × Dev :=
  let n := max j.done (visitCut n j.d)
  let todo := (((sVisit j.d).zip j.data).take n).drop j.done
  let d := foldSt todo (fun (p : (Nat × Nat) × Option Byte) d =>
    match p.2 with | some v => spaceWrite j.d.dsp j.d.db p.1.2 (some v) d | none => d) d
  let d := foldSt todo (fun (p : (Nat × Nat) × Option Byte) d =>
    match p.2 with | none => spaceWrite j.d.dsp j.d.db p.1.2 none d | some _ => d) d
  let np := (jobPoisWords j n).length
  ({ j with done := n, npoison := np }, raiseN 25 3 (np - j.npoison) d)

/-- δ = 0: nothing is written and every byte is reported done (R302). -/
def jobStill (x : SDesc) : Bool := sTranslation x && x.src == x.dst

/-- Has the submitter a job in progress (R299: one at a time). -/
def subBusy (s : SSub) (d : Dev) : Bool :=
  d.siph.active.any fun j =>
    match j.sub, s with
    | .core a _, .core b _ => a == b
    | .shore .., .shore .. => true
    | _, _ => false

/-- Start a job: the checks, then its first `written` bytes. `errs`: memory errors its reads meet. -/
def jobStart (sub : SSub) (slot : Nat) (x : SDesc) (acc written : Nat) (errs : List (Nat × Nat)) (d : Dev) : Dev :=
  let st := jobCheck sub slot x d
  if st ≠ 0 then siphSet { d.siph with active := d.siph.active ++ [{ sub := sub, d := x, status := st, accAt := acc }] } d
  else
    let b := sBounced x
    let d := if b then raise 25 1 d else d
    let j : SJob := { sub := sub, d := x, bounced := b, rowdesc := sRowDesc x, bytedesc := sByteDesc x, accAt := acc }
    let total := x.rowlen * x.nrows
    if jobStill x then siphSet { d.siph with active := d.siph.active ++ [{ j with done := total }] } d
    else
      let (lo, hi) := jobSrc x
      let d := foldSt (errs.filter fun y => decide (lo ≤ (y.1 : Int)) && decide ((y.1 : Int) < hi)) (spaceErr x.ssp x.sb) d
      let (data, d) := jobRead x (sVisit x) d
      let (j, d) := jobWrite (min written total) { j with data := data } d
      siphSet { d.siph with active := d.siph.active ++ [j] } d

/-- The Sluice of submission source `k` (R299): a core's, or a Shore service Sluice. [log entry 45 DEDUCED] -/
def srcSluice (k : Nat) : Nat := if k < 8 then 177 + 8 * k else 240 + (k - 9)

/-- The submitter of source `k`: a core, or Shore firmware. -/
def srcSub (k : Nat) : SSub := if k < 8 then .core k false else .shore 0 "" false

/-- Source `k` has a job to take, and its submitter none in progress (R299). -/
def srcReady (k : Nat) (d : Dev) : Bool :=
  !subBusy (srcSub k) d && (if k = 8 then !d.siph.queue.isEmpty else (peekPkt (srcSluice k) d).isSome)

/-- The source whose turn it is: round-robin over the cores' Sluices, the siphon noun and the service Sluices (R299). [log entry 45 DEDUCED] -/
def srcTurn (d : Dev) : Option Nat :=
  (((List.range 25).map fun k => (d.siph.turn + k) % 25).find? fun k => srcReady k d)

/-- The Siphon takes the next job of the source whose turn it is, if that is `c` (R299, R301): core `c`, 8 the siphon noun, 9 + s service Sluice
240 + s. [log entry 45 DEDUCED] -/
def siphonJob (c written : Nat) (errs : List (Nat × Nat)) (d : Dev) : Dev :=
  if !userves 25 d ∨ 8 ≤ d.siph.active.length ∨ ¬ d.siph.stopped.isEmpty ∨ srcTurn d ≠ some c then d
  else
    let d := siphSet { d.siph with turn := (c + 1) % 25 } d
    if c = 8 then
      match d.siph.queue with
      | [] => d
      | j :: js => jobStart j.sub 0 j.d j.accAt written errs (siphSet { d.siph with queue := js } d)
    else
      let n := srcSluice c
      let ws := (frontPkt (slu n d).words).getD []
      let slot := (ws.getLast?.map (·.prog)).getD 0
      match takePkt n d with
      | none => d
      | some (p, d) =>
        if p.aborted then d
        else
          let sub := if c < 8 then SSub.core c (slot != 0) else srcSub c
          jobStart sub slot (sDesc (slice p.body 52 64)) ((ws.head?.map (·.on)).getD 0) written errs d

/-- Word 1 of a completion (Table 14-5), after bytes 12 to 63 of word 0. -/
def jobDoneBody (j : SJob) (d : Dev) : List Byte :=
  List.replicate 52 0 ++ padTo 64 (toLe 4 j.d.jobid ++ toLe 1 j.status ++
    toLe 1 (b2n j.bounced + 2 * b2n j.rowdesc + 4 * b2n j.bytedesc + 8 * b2n (decide (0 < j.npoison))) ++ [0, 0] ++ toLe 8 j.done ++
    toLe 8 (now d) ++ toLe 4 j.npoison)

/-- The body line of `copy siphon … wait` (R311). -/
def jobLine (j : SJob) : String :=
  spaced ["job", dec j.d.jobid, "status", (["DONE", "RANGE", "DENIED", "ABORTED"].getD j.status ""), "done", dec j.done, "bounced",
    dec (b2n j.bounced), "rowdesc", dec (b2n j.rowdesc), "bytedesc", dec (b2n j.bytedesc), "poison", dec j.npoison]

/-- Commit a job's completion; none where the core's completion Sluice has no room for it. A RANGE or DENIED completion sets REFUSE (R310). -/
def jobReport (j : SJob) (d : Dev) : Option Dev :=
  let cnt := fun (d : Dev) =>
    let d := siphSet { d.siph with jobs := d.siph.jobs + 1 } d
    if j.status = 1 ∨ j.status = 2 then raise 25 0 d else d
  match j.sub with
  | .core c _ =>
    match putPkt (176 + 8 * c) { gen := ugen 25 d, lidx := noLidx, body := jobDoneBody j d } d with
    | some d => if (slu (176 + 8 * c) d).wait.isEmpty then some (cnt d) else none
    | none => none
  | .shore sid tag w => some (if w then answer ⟨sid, tag⟩ (.siphon j.d.jobid) none [jobLine j] (cnt d) else cnt d)

/-- Job `i` in progress writes the rest and its completion commits (R303). [log entry 14 DESIGN CHOICE] -/
def siphonComplete (i : Nat) (d : Dev) : Dev :=
  match d.siph.active[i]? with
  | none => d
  | some j =>
    if !userves 25 d then d
    else
      let total := j.d.rowlen * j.d.nrows
      let (j, d) := if j.status = 0 && !jobStill j.d then jobWrite total j d else (j, d)
      match jobReport j (siphSet { d.siph with active := d.siph.active.eraseIdx i } d) with
      | some d => d
      | none => siphSet { d.siph with active := d.siph.active.set i j } d

/-- The Siphon's reset instant (R305): jobs stop with what they have written, and every accepted job gets its abort marker; at OFF no DONE
is reported. -/
def siphonReset (toOff : Bool) (d : Dev) : Dev :=
  let js := d.siph.active
  let waiting := (List.range 8).map fun c => 177 + 8 * c
  let d := sluProdReset 25 d
  -- jobs accepted and not taken: packets in the submission Sluices
  let (q, d) := waiting.foldl (fun (st : List SJob × Dev) n =>
    let ws := (slu n st.2).words
    let rec pkts : Nat → List SWord → List SJob
      | 0, _ => []
      | f + 1, ws => match frontPkt ws with
        | none => []
        | some p => { sub := .core ((n - 177) / 8) false, d := sDesc (slice (pktOf p).body 52 64), accAt := (p.head?.map (·.on)).getD 0 }
                      :: pkts f (ws.drop p.length)
    let l := pkts ws.length ws
    let (_, d) := sluConsReset n st.2
    (st.1 ++ l, d)) (([] : List SJob), d)
  let all := (js ++ q ++ d.siph.queue).mergeSort fun a b => decide (a.accAt ≤ b.accAt)
  let d := foldSt all (fun j d =>
    match j.sub with
    | .core c _ => putMarker (176 + 8 * c) { aborted := true, gen := ugen 25 d, lidx := noLidx } d
    | .shore sid tag w => if toOff && w then answer ⟨sid, tag⟩ (.siphon j.d.jobid) (some "failed") [] d else d) d
  let keep := if toOff then [] else (d.siph.stopped ++ all).map fun j => { j with status := if j.status = 0 then 3 else j.status }
  siphSet { d.siph with active := [], queue := [], stopped := keep } d

/-- Once READY, the ABORTED completions of a reset are committed before any new job is taken (R305). -/
def siphonAbortReport (d : Dev) : Dev :=
  match d.siph.stopped with
  | [] => d
  | j :: js =>
    if !uready 25 d then d
    else match jobReport { j with status := 3 } (siphSet { d.siph with stopped := js } d) with
      | some d => raise 25 2 d
      | none => d

end Sys2Proof.Machine
end

