-- ==== Sys2Proof/Machine/BasinOps.lean ====
section
/-!
DEFINITION. Machine/BasinOps.lean: the Basins (11): tile checks, the operation queue, passes, drains, broadcast group streams, session rows
and the reset instant.
-/
namespace Sys2Proof.Machine

/-! ### Tiles (R225, R226, R229, R232) -/

/-- The tile a descriptor's 16 bytes spell (Table 11-1). -/
def tileOf (b : List Byte) : Tile :=
  let w0 := fieldLe b 0 2
  let w1 := fieldLe b 2 2
  let w2 := fieldLe b 4 2
  let w3 := fieldLe b 6 2
  let b8 := fieldLe b 8 1
  { off := w0 % 16384, row0 := w1 % 512, nrows := w2 % 1024, len := w3 % 32768, fmt := b8 % 16,
    bad := !(w0 < 16384 && w1 < 512 && w2 < 1024 && w3 < 32768 && b8 < 16 && (slice b 9 7).all (· == 0)) }

/-- Bytes of `n` elements of a format code, int4 packed two to a byte. -/
def fmtBytes (c n : Nat) : Nat := (n * fmtBits c + 7) / 8

/-- A tile is well formed for an operation that accepts format `c` (R225). -/
def tileOk (acceptsFmt : Nat → Bool) (t : Tile) : Bool :=
  !t.bad && t.off % 64 == 0 && decide (1 ≤ t.nrows) && decide (t.row0 + t.nrows ≤ 512) && within t.len 1 16384 &&
    decide (t.off + fmtBytes t.fmt t.len ≤ 16384) && acceptsFmt t.fmt

/-- Any code of Table 11-4. -/
def fmtListed (c : Nat) : Bool := decide (c < 8)

/-- Type of a bank once every queued operation has run: binary32 or not. -/
def bankF32 (b : Nat) (bank : Nat) (d : Dev) : Bool :=
  let x := basin b d
  x.queue.foldl (fun t q => match q.op with | .acc k _ _ f _ => if k = bank then f else t | _ => t) (if bank = 0 then x.type0 else x.type1)

/-- ACC is refused unless this holds (R226). -/
def accOk (t : Tile) (ncol : Nat) (f : Bool) (src : Option Tile) : Bool :=
  tileOk fmtListed t && within ncol 1 512 &&
  (match src with
   | none => true
   | some s => tileOk (fun c => c == (if f then 6 else 7)) s && s.len == ncol && s.row0 == t.row0 && s.nrows == t.nrows)

/-- MAC is refused unless this holds (R226, R229, R233, 13 R286). -/
def macOk (b bank : Nat) (a : Tile) (s : Stream) (d : Dev) : Bool :=
  let m := macMode a.fmt s.wfmt
  tileOk (fun c => c == 0 || within c 2 5) a && m != 0 && a.len == s.k && within s.ncol 1 512 &&
    decide (a.len ≤ (if 4 ≤ m then 8192 else 16384)) && (s.lay == 0 || decide (s.ncol * lineBytes s.wfmt s.k ≤ 65536)) &&
    (bankF32 b bank d == !modeInt m)

/-- DRAIN is refused unless this holds (R226, R232). -/
def drainRefuse (b bank : Nat) (t : Tile) (dfmt shift : Nat) (d : Dev) : Bool :=
  !(tileOk (fun c => c == dfmt) t && within t.len 1 512 && drainOk (!bankF32 b bank d) dfmt && decide (shift ≤ 62))

/-! ### What operations read and write (R227) -/

/-- Store bytes of one lane of a tile. -/
def tileBytes (t : Tile) : Nat := fmtBytes t.fmt t.len

/-- Two tiles share a store byte. -/
def tileMeet (a b : Tile) : Bool :=
  decide (a.row0 < b.row0 + b.nrows) && decide (b.row0 < a.row0 + a.nrows) &&
    decide (a.off < b.off + tileBytes b) && decide (b.off < a.off + tileBytes a)

def bopBank : BOp → Nat | .acc k .. => k | .mac k .. => k | .drain k .. => k
def bopReads : BOp → List Tile
  | .acc _ _ _ _ (some s) => [s]
  | .mac _ a _ _ => [a]
  | _ => []
def bopWrites : BOp → List Tile | .drain _ t .. => [t] | _ => []
def bopIsMac : BOp → Bool | .mac .. => true | _ => false

/-- Operation `y` waits for the earlier, unfinished `x`: same bank, the array, or bytes the one writes (R227). -/
def bopWaits (x y : BOp) : Bool :=
  bopBank x == bopBank y || (bopIsMac x && bopIsMac y) ||
  (bopWrites x).any (fun t => (bopReads y ++ bopWrites y).any (tileMeet t)) ||
  (bopReads x).any (fun t => (bopWrites y).any (tileMeet t))

/-- Operation `i` of a queue waits for no earlier one. -/
def bopFree (q : List BQ) (i : Nat) : Bool :=
  match q[i]? with
  | none => false
  | some y => (q.take i).all fun x => !bopWaits x.op y.op

/-- Ticks in which the array runs a slice (R238). -/
def macTicks (m k ncol : Nat) : Nat := if m = 2 then (k + 1) / 2 else if 4 ≤ m then k * ((ncol + 127) / 128) else k

/-- Ticks an operation's slices run. -/
def bopTicks : BOp → Nat | .mac _ a s _ => macTicks (macMode a.fmt s.wfmt) s.k s.ncol | _ => 0

/-- The earlier `x` keeps `y` from starting: as `bopWaits`, but a MAC waits only for the last slice of the MAC before it (R227, R238). -/
def bqHolds (x y : BQ) : Bool := if bopIsMac x.op && bopIsMac y.op then decide (x.run < bopTicks x.op) else bopWaits x.op y.op

/-- Issued operations that have not started (13 R287). -/
def bopNotStarted (q : List BQ) : Nat :=
  ((List.range q.length).filter fun i =>
    match q[i]? with
    | none => false
    | some y => if bopIsMac y.op then !y.started else !bopFree q i).length

/-- Issue an operation to Basin b. -/
def bopIssue (b : Nat) (o : BOp) (d : Dev) : Dev := basinMod b (fun x => { x with queue := x.queue ++ [{ op := o, started := false }] }) d

/-! ### Elements of the store -/

/-- Byte address of lane r, byte o (R255). -/
def laneAt (r o : Nat) : Nat := 16384 * r + o

/-- Bytes of a tile's lane. -/
def laneRead (x : Basin) (r : Nat) (t : Tile) : List Byte := memRead 0 x.store (laneAt r t.off) (tileBytes t)

/-- A lane of a tile holds a poisoned word. -/
def lanePois (x : Basin) (r : Nat) (t : Tile) : Bool :=
  (List.range ((tileBytes t + 63) / 64)).any fun i => tabGet (fun _ => false) x.pois (laneAt r t.off / 64 + i)

def accKey (bank r n : Nat) : Nat := 262144 * bank + 512 * r + n
def accGet (x : Basin) (bank r n : Nat) : Nat := tabGet (fun _ => 0) x.acc (accKey bank r n)
def accPut (bank r n v : Nat) (x : Basin) : Basin := { x with acc := tabSet (fun _ => 0) x.acc (accKey bank r n) v }
def rowPois (x : Basin) (bank r : Nat) : Bool := tabGet (fun _ => false) x.accPois (512 * bank + r)
def rowPoisPut (bank r : Nat) (v : Bool) (x : Basin) : Basin := { x with accPois := tabSet (fun _ => false) x.accPois (512 * bank + r) v }

/-- Lanes of a tile. -/
def tileLanes (t : Tile) : List Nat := (List.range t.nrows).map (t.row0 + ·)

/-! ### The three operations (R226, R230, R232, R244) -/

/-- ACC. -/
def doAcc (bank : Nat) (t : Tile) (ncol : Nat) (f : Bool) (src : Option Tile) (x : Basin) : Basin :=
  let x := if bank = 0 then { x with type0 := f } else { x with type1 := f }
  let x := { x with acc := x.acc.filter fun p => p.1 / 262144 != bank }
  match src with
  | none => { x with accPois := x.accPois.filter fun p => p.1 / 512 != bank }
  | some s => (tileLanes t).foldl (fun x r =>
      let bs := laneRead x r s
      let x := rowPoisPut bank r (lanePois x r s) x
      (List.range ncol).foldl (fun x n => accPut bank r n (fieldLe bs (4 * n) 4) x) x) x

/-- One pass over weight bytes `w` (R230): the Basin and how many clamps. -/
def doMac (bank : Nat) (a : Tile) (s : Stream) (w : List Byte) (wBad : Bool) (x : Basin) : Basin × Nat :=
  let m := macMode a.fmt s.wfmt
  (tileLanes a).foldl (fun (st : Basin × Nat) r =>
    let row := laneRead st.1 r a
    let x := if wBad || lanePois st.1 r a then rowPoisPut bank r true st.1 else st.1
    (List.range s.ncol).foldl (fun (st : Basin × Nat) n =>
      let cell := (List.range s.k).map fun k => (eltAt a.fmt row k, wgtAt s.wfmt s.lay s.k s.ncol w k n)
      let (v, c) := macCell m a.fmt s.wfmt cell (accGet st.1 bank r n)
      (accPut bank r n v st.1, st.2 + c)) (x, st.2)) (x, 0)

/-- DRAIN: the Basin and how many clamps. -/
def doDrain (bank : Nat) (t : Tile) (dfmt mult shift zpt : Nat) (satfp : Bool) (fscale : Nat) (x : Basin) : Basin × Nat :=
  let int := if bank = 0 then !x.type0 else !x.type1
  (tileLanes t).foldl (fun (st : Basin × Nat) r =>
    let outs := (List.range t.len).map fun n => drainElt int dfmt (accGet st.1 bank r n) mult shift zpt fscale satfp
    let bs := outs.flatMap fun o => toLe (fmtBits dfmt / 8) o.1
    let y := bstWrite (laneAt r t.off) bs st.1
    let y := if rowPois st.1 bank r then bstPoison (laneAt r t.off) bs.length y else y
    (y, st.2 + (outs.filter (·.2)).length)) (x, 0)

/-! ### Sessions (R239 to R241) -/

/-- A directory entry (Table 11-6). -/
structure SDirEnt where
  rows  : Nat
  rowb  : Nat
  fmt   : Nat
  opened : Bool
  first : Nat
  last  : Nat
  deriving DecidableEq, Repr

/-- Number spelled by 8 bytes of the linear space; poisoned bytes read 0. -/
def hbmLe (a n : Nat) (d : Dev) : Nat := ofLe ((List.range n).map fun i => (hbmByte (a + i) d).getD 0)

def sessDirAt (s : Nat) (d : Dev) : Nat := sessBase d + 32 * s

def sessDir (s : Nat) (d : Dev) : SDirEnt :=
  let a := sessDirAt s d
  { rows := hbmLe a 8 d, rowb := hbmLe (a + 8) 2 d, fmt := hbmLe (a + 10) 1 d % 16, opened := hbmLe (a + 11) 1 d % 2 == 1,
    first := hbmLe (a + 16) 8 d, last := hbmLe (a + 24) 8 d }

def sessDirPut (s : Nat) (e : SDirEnt) (d : Dev) : Dev :=
  hbmWrite (sessDirAt s d) (toLe 8 e.rows ++ toLe 2 e.rowb ++ toLe 1 e.fmt ++ toLe 1 (b2n e.opened) ++ [0, 0, 0, 0] ++ toLe 8 e.first ++
    toLe 8 e.last) d

/-- A page entry: node, page index, VALID. -/
def pageEnt (node page : Nat) : Nat := node % 65536 + 65536 * (page % 4294967296) + 2 ^ 63
def peNode (e : Nat) : Nat := e % 65536
def pePage (e : Nat) : Nat := bitsOf e 47 16
def peValid (e : Nat) : Bool := bitOf e 63

/-- Linear address of a local session page (R308: 4 KiB units from the region's start). -/
def pageAt (p : Nat) (d : Dev) : Nat := sessBase d + 4096 * p

/-- `n` bytes of the linear space with their poison. -/
def hbmRun (a n : Nat) (d : Dev) : List (Option Byte) := (List.range n).map fun i => hbmByte (a + i) d

/-- Bytes and poison of a list of read bytes. -/
def bytesOf (l : List (Option Byte)) : List Byte × Bool := (l.map (·.getD 0), l.any (·.isNone))

/-- The remote bytes a MEM read has brought for Basin `b` (16 R358). -/
def memGot (b node page off : Nat) (d : Dev) : Option (List Byte × Bool) :=
  (d.jetty.memdata.find? fun m => m.basin == b && m.node == node && m.page == page && m.off == off).map fun m => (m.data, m.bad)

/-- Entry `i` of the table page that entry `e` names: here, or on the node of its NODE field (R239). None: the page is a peer's, and core `b` has not
read it yet. A poisoned entry names no page. -/
def tabEnt (b e i : Nat) (d : Dev) : Option Nat :=
  if peNode e = d.jetty.node then
    let (bs, bad) := bytesOf (hbmRun (pageAt (pePage e) d + 8 * i) 8 d)
    some (if bad then 0 else ofLe bs)
  else (memGot b (peNode e) (pePage e) 0 d).map fun (x, bad) => if bad then 0 else fieldLe x (8 * i) 8

/-- Entry `i` of the chain's table pages, following entry 511; `fuel` bounds the walk. None: a table page on the way is not here yet. -/
def chainEnt : Nat → Nat → Nat → Nat → Dev → Option Nat
  | 0, _, _, _, _ => some 0
  | f + 1, b, e, i, d =>
    if !peValid e then some 0
    else if i < 511 then tabEnt b e i d
    else (tabEnt b e 511 d).bind fun n => chainEnt f b n (i - 511) d

/-- Node and page of the first table page on the way to entry `i` that is not here yet. -/
def chainMiss : Nat → Nat → Nat → Nat → Dev → Option (Nat × Nat)
  | 0, _, _, _, _ => none
  | f + 1, b, e, i, d =>
    if !peValid e then none
    else match tabEnt b e 511 d with
      | none => some (peNode e, pePage e)
      | some n => if i < 511 then none else chainMiss f b n (i - 511) d

/-- Rows in a data page. -/
def rowsPerPage (rowb : Nat) : Nat := 65536 / rowb

/-- The page entry of the data page row `i` of a session lies in; none: a table page on the way is not here yet. -/
def rowEnt (b : Nat) (e : SDirEnt) (i : Nat) (d : Dev) : Option Nat :=
  let p := i / rowsPerPage e.rowb
  chainEnt (p / 511 + 1) b e.first p d

/-- The table page that core `b` still has to read before it can reach rows up to `i` of a session. -/
def rowMiss (b : Nat) (e : SDirEnt) (i : Nat) (d : Dev) : Option (Nat × Nat) :=
  let p := i / rowsPerPage e.rowb
  chainMiss (p / 511 + 1) b e.first p d

/-- Session page units there are, and the first past the directory. -/
def sessUnits (d : Dev) : Nat := d.hbm.sessions * 262144
def sessFirst : Nat := 131072

/-- A run of `n` units from `p` is free. -/
def pagesFree (p n : Nat) (d : Dev) : Bool := d.hbm.pages.all fun (q, k) => decide (q + k ≤ p) || decide (p + n ≤ q)

/-- Lowest free run of `n` units (a choice the spec leaves to firmware). Candidates are the region's start and the ends of allocated runs. -/
def pageFind (n : Nat) (d : Dev) : Option Nat :=
  let cs := sessFirst :: d.hbm.pages.map fun (q, k) => (q + k + n - 1) / n * n
  (cs.filter fun p => pagesFree p n d && decide (p + n ≤ sessUnits d)).foldl (fun (a : Option Nat) p =>
    match a with | none => some p | some q => some (min p q)) none

def pageTake (p n : Nat) (d : Dev) : Dev := { d with hbm := { d.hbm with pages := tabSet (fun _ => 0) d.hbm.pages p n } }
def pageGive (p : Nat) (d : Dev) : Dev := pageTake p 0 d

/-- The peers' pages a table page names, and the page itself if it is a peer's, go back to their nodes by the firmwares' own messages, which the spec
does not give (16 R358); local ones are free from now on. -/
def entGive (x : Nat) (d : Dev) : Dev := if peValid x && peNode x == d.jetty.node then pageGive (pePage x) d else d

/-- Free every page of a session: its data pages and its table pages (R292). -/
def sessFreeN : Nat → Nat → Nat → Dev → Dev
  | 0, _, _, d => d
  | f + 1, b, e, d =>
    if !peValid e then d
    else
      let next := (tabEnt b e 511 d).getD 0
      let d := foldSt (List.range 511) (fun i d => entGive ((tabEnt b e i d).getD 0) d) d
      sessFreeN f b next (entGive e d)

/-- The table page core `b` still has to read before it can free session `s`. -/
def freeMiss (b s : Nat) (d : Dev) : Option (Nat × Nat) :=
  let e := sessDir s d
  if e.opened && decide (0 < e.rows) then rowMiss b e (e.rows - 1) d else none

/-- Free a session's pages (R292). -/
def sessFree (b s : Nat) (d : Dev) : Dev :=
  let e := sessDir s d
  if !e.opened then d
  else
    let d := sessFreeN (e.rows / rowsPerPage e.rowb / 511 + 2) b e.first d
    sessDirPut s { e with rows := 0, opened := false, first := 0, last := 0 } d

/-- Send a MEM request to the peer that holds a page (16 R358): a read, or a write with its data. -/
def memSend (c : Nat) (write : Bool) (node page off len : Nat) (data : List Byte) (d : Dev) : Dev :=
  let tag := d.jetty.nextTag
  let q : MemReq := { tag := tag, node := node, write := write, due := now d + d.jetty.memto, basin := c, page := page, off := off, len := len }
  let body := padTo 52 (toLe 1 (b2n write) ++ [0, 0, 0] ++ toLe 4 page ++ toLe 2 off ++ toLe 2 len ++ toLe 4 tag) ++ data
  let p : JPkt := { dest := node, src := d.jetty.node, cls := 2, data := (headWord 0 0 false false 0 noLidx).take 12 ++ body }
  { d with jetty := { d.jetty with nextTag := (tag + 1) % 4294967296, memreq := d.jetty.memreq ++ [q], outbox := d.jetty.outbox ++ [p] } }

/-- Core `b` holds these bytes of a peer's page. -/
def memPut (b node page off : Nat) (data : List Byte) (d : Dev) : Dev :=
  let keep := d.jetty.memdata.filter fun m => !(m.basin == b && m.node == node && m.page == page && m.off == off)
  { d with jetty := { d.jetty with memdata := keep ++ [{ basin := b, node := node, page := page, off := off, data := data, bad := false }] } }

/-- Write entry `i` of the table page that `e` names: here, or by a MEM write of its word to the page's node (R239; 16 R358). -/
def tabPut (b e i x : Nat) (d : Dev) : Dev :=
  if peNode e = d.jetty.node then hbmWrite (pageAt (pePage e) d + 8 * i) (toLe 8 x) d
  else
    let old := ((memGot b (peNode e) (pePage e) 0 d).map (·.1)).getD (List.replicate 4096 0)
    let new := old.take (8 * i) ++ toLe 8 x ++ old.drop (8 * i + 8)
    let o := 8 * i / 64 * 64
    memSend b true (peNode e) (pePage e) o 64 (slice new o 64) (memPut b (peNode e) (pePage e) 0 new d)

/-- Make the table page that `e` names, with entry 0 and zeros. -/
def tabNew (b e x : Nat) (d : Dev) : Dev :=
  let new := toLe 8 x ++ List.replicate 4088 0
  if peNode e = d.jetty.node then hbmWrite (pageAt (pePage e) d) new d
  else memSend b true (peNode e) (pePage e) 0 4096 new (memPut b (peNode e) (pePage e) 0 new d)

/-- A page of `n` units: a local one, or the next that a peer has granted (R240). -/
def pageGet (n : Nat) (remote : List (Nat × Nat)) (d : Dev) : Option (Nat × List (Nat × Nat) × Dev) :=
  match pageFind n d, remote with
  | some p, _ => some (pageEnt d.jetty.node p, remote, pageTake p n d)
  | none, (nd, p) :: rs => if nd = d.jetty.node then none else some (pageEnt nd p, rs, d)
  | none, [] => none

/-- Append an entry to a session's chain: a new table page where the last is full. None: no page for it anywhere. -/
def chainAdd (b : Nat) (remote : List (Nat × Nat)) (e : SDirEnt) (k x : Nat) (d : Dev) : Option (SDirEnt × List (Nat × Nat) × Dev) :=
  if k % 511 = 0 then
    (pageGet 1 remote d).map fun (t, rs, d) =>
      let d := tabNew b t x d
      if k = 0 then ({ e with first := t, last := t }, rs, d) else ({ e with last := t }, rs, tabPut b e.last 511 t d)
  else some (e, remote, tabPut b e.last (k % 511) x d)

/-- Place `n` more rows: the pages they need, local ones first and then those a peer has granted (`remote`: node and page of each). None: a
page is missing, and nothing is to change (R240). -/
def sessGrow : Nat → Nat → List (Nat × Nat) → SDirEnt → Dev → Option (SDirEnt × Dev)
  | 0, _, _, e, d => some (e, d)
  | f + 1, b, remote, e, d =>
    let n := rowsPerPage e.rowb
    if e.rows % n = 0 then
      ((pageGet 16 remote d).bind fun (x, rs, d) => chainAdd b rs e (e.rows / n) x d).bind fun (e, rs, d) =>
        sessGrow f b rs { e with rows := e.rows + 1 } d
    else sessGrow f b remote { e with rows := e.rows + 1 } d

/-- A part of a session row: its linear address here, or the peer's node, page (4 KiB unit) and offset. Of one whose page a table page not here yet
names, nothing is known. -/
inductive RowPart where
  | here (addr len : Nat)
  | there (node page off len : Nat)
  | lost (len : Nat)
  | unknown
  deriving DecidableEq, Repr

/-- Cut a run of a peer's data page at its 4 KiB units. -/
def therePart : Nat → Nat → Nat → Nat → Nat → List RowPart
  | 0, _, _, _, _ => []
  | f + 1, node, page, off, len =>
    if len = 0 then []
    else
      let k := min len (4096 - off % 4096)
      .there node (page + off / 4096) (off % 4096) k :: therePart f node page (off + k) (len - k)

/-- Where the bytes of row `i` lie, as core `b` knows it. -/
def rowParts (b : Nat) (e : SDirEnt) (i : Nat) (d : Dev) : List RowPart :=
  let o := i % rowsPerPage e.rowb * e.rowb
  match rowEnt b e i d with
  | none => [.unknown]
  | some p =>
    if !peValid p then [.lost e.rowb]
    else if peNode p = d.jetty.node then [.here (pageAt (pePage p) d + o) e.rowb]
    else therePart (e.rowb / 64 + 2) (peNode p) (pePage p) o e.rowb

/-! ### The bytes of a stream and the weight buffer (R233, R234) -/

/-- The bytes of row parts that can be read now, in order: those before the first that a peer has not sent. -/
def partsRun (b : Nat) (d : Dev) : List RowPart → List (Option Byte)
  | [] => []
  | p :: ps =>
    match p with
    | .here a n => hbmRun a n d ++ partsRun b d ps
    | .lost n => List.replicate n none ++ partsRun b d ps
    | .there nd pg off n =>
      (match memGot b nd pg off d with
       | none => []
       | some (x, bad) => (if bad then List.replicate n none else (padTo n x).map some) ++ partsRun b d ps)
    | .unknown => []

/-- Rows a session stream reads (R241): NCOL columns, or K slices. -/
def sessRows (s : Stream) : Nat := if s.lay = 0 then s.k else s.ncol

/-- Up to `n` bytes of Basin b's own stream from byte `o` on, as far as they can be read now. -/
def ownRun (b : Nat) (s : Stream) (o n : Nat) (d : Dev) : List (Option Byte) :=
  match s.src with
  | .hbm a => hbmRun (a + o) n d
  | .session id row =>
    let e := sessDir id d
    ((partsRun b d ((List.range (sessRows s)).flatMap fun i => rowParts b e (row + i) d)).drop o).take n
  | .ferry _ => []

/-- The weight bytes of a MAC; none: they have not all arrived. -/
def macBytes (q : BQ) (s : Stream) : Option (List Byte × Bool) :=
  if s.len ≤ q.got.length then some (q.got.take s.len, q.gotBad) else none

/-- Slices a pass has run, or is running, in its first `t` ticks (R238). -/
def macSlices (m k ncol t : Nat) : Nat := min k (if m = 2 then 2 * t else if 4 ≤ m then (t + (ncol + 127) / 128 - 1) / ((ncol + 127) / 128) else t)

/-- Bytes of the stream the slices of the first `t` ticks of a pass use: a record of every column, in NMAJOR. -/
def macUses (a : Tile) (s : Stream) (t : Nat) : Nat :=
  if s.lay = 1 then (if t = 0 then 0 else s.len) else min s.len (macSlices (macMode a.fmt s.wfmt) s.k s.ncol t * lineBytes s.wfmt s.ncol)

/-- Bytes of the weight buffer that an operation takes: what has come and is still to be used. -/
def bufUsed (q : BQ) : Nat :=
  match q.op with
  | .mac _ a s _ =>
    q.got.length - (if s.lay = 1 then (if q.run < bopTicks q.op then 0 else s.len)
                    else min s.len ((if 4 ≤ macMode a.fmt s.wfmt then q.run / ((s.ncol + 127) / 128) else macSlices (macMode a.fmt s.wfmt) s.k s.ncol q.run) * lineBytes s.wfmt s.ncol))
  | _ => 0

/-- Room in Basin b's 64 KiB weight buffer (R234). -/
def bufRoom (x : Basin) : Nat := 65536 - (x.queue.map bufUsed).foldl (· + ·) 0

/-- The first queued MAC whose stream has not brought all its bytes: the next words of the buffer are its own. -/
def fillAt (x : Basin) : Option Nat :=
  findIdx x.queue.length fun i =>
    match x.queue[i]? with
    | some q => (match q.op with | .mac _ _ s _ => decide (q.got.length < s.len) | _ => false)
    | none => false

/-- Words of Basin b's own stream reach the weight buffer in a tick: how many is what the stream's source can give, which the spec leaves open (R234:
Table 11-5's figures); never more than the buffer takes. [log entry 14 DESIGN CHOICE] -/
def basinFill (b : Nat) (d : Dev) : Dev :=
  let x := basin b d
  match fillAt x with
  | none => d
  | some i =>
    match x.queue[i]? with
    | none => d
    | some q =>
      match q.op with
      | .mac _ _ s _ =>
        let room := min (bufRoom x) (s.len - q.got.length)
        if s.group.isSome || room < 64 then d
        else
          let (v, d) := draw d
          let (bs, bad) := bytesOf (ownRun b s q.got.length (64 * (v % (room / 64 + 1))) d)
          basinMod b (fun x => { x with queue := x.queue.set i { q with got := q.got ++ bs, gotBad := q.gotBad || bad } }) d
      | _ => d

/-! ### Broadcast groups (R235, R236) -/

def gstrGet (g : Nat) (d : Dev) : Option GStream := (d.gstr.find? (fun p => p.1 == g)).map (·.2)

def gstrPut (g : Nat) (x : Option GStream) (d : Dev) : Dev :=
  let l := d.gstr.filter fun p => p.1 != g
  match x with
  | none => { d with gstr := l }
  | some v => { d with gstr := (l.filter fun p => decide (p.1 < g)) ++ [(g, v)] ++ l.filter fun p => decide (g < p.1) }

/-- Identity of a group stream (R235): source, length, WFMT and LAYOUT. -/
def sameStream (a b : Stream) : Bool := a.src == b.src && a.len == b.len && a.wfmt == b.wfmt && a.lay == b.lay

/-- Basins that name group `g` with EN set and are READY (R235). -/
def groupMembers (g : Nat) (d : Dev) : Nat :=
  (List.range 8).foldl (fun a b =>
    if decide (b < nBasin d.fuse.variant) && (basin b d).groupEn && (basin b d).gid == g && uready (8 + b) d then a + 2 ^ b else a) 0

/-- An issued MAC of Basin b on the open stream of a group has not got all its bytes. [log entry 63 DEDUCED] -/
def groupNeeds (b : Nat) (st : Stream) (d : Dev) : Bool :=
  (basin b d).queue.any fun q => match q.op with
    | .mac _ _ s _ => s.group.isSome && sameStream s st && decide (q.got.length < s.len)
    | _ => false

/-- Basin b's queued MAC on the open stream of its group whose bytes its weight buffer takes next: its place. -/
def groupMac (b : Nat) (st : Stream) (d : Dev) : Option Nat :=
  let x := basin b d
  (fillAt x).filter fun i =>
    match x.queue[i]? with
    | some q => (match q.op with | .mac _ _ s _ => s.group.isSome && sameStream s st | _ => false)
    | none => false

/-- Member b consumes the held blocks its pass needs, in order, as its weight buffer has room (R234, R236). -/
def groupTake (g b : Nat) (d : Dev) : Dev :=
  match gstrGet g d with
  | none => d
  | some gs =>
    match groupMac b gs.st d with
    | none => d
    | some i =>
      gs.held.foldl (fun d blk =>
        match (basin b d).queue[i]?, gstrGet g d with
        | some q, some gs =>
          if bitOf gs.members b && blk.idx * 4096 == q.got.length && !bitOf blk.took b && decide (blk.data.length ≤ bufRoom (basin b d)) then
            let d := basinMod b (fun x => { x with queue := x.queue.set i { q with got := q.got ++ blk.data, gotBad := q.gotBad || blk.bad } }) d
            gstrPut g (some { gs with held := gs.held.map fun h => if h.idx = blk.idx then { h with took := h.took ||| 2 ^ b } else h }) d
          else d
        | _, _ => d) d

/-- Release the blocks every remaining member has consumed; the stream ends once its last block is released, or no member remains. -/
def groupSettle (g : Nat) (d : Dev) : Dev :=
  match gstrGet g d with
  | none => d
  | some gs =>
    let held := gs.held.filter fun h => gs.members &&& h.took != gs.members
    if gs.members = 0 ∨ (held.isEmpty ∧ gs.st.len ≤ 4096 * gs.next) then gstrPut g none d else gstrPut g (some { gs with held := held }) d

/-- A member consumes what it can, and blocks are released. -/
def groupRun (g : Nat) (d : Dev) : Dev := groupSettle g (forN 8 (groupTake g) d)

/-- Basin b is no longer in group g's open stream (R236). -/
def groupQuit (b g : Nat) (d : Dev) : Dev :=
  match gstrGet g d with
  | none => d
  | some gs => if bitOf gs.members b then groupRun g (gstrPut g (some { gs with members := gs.members - 2 ^ b }) d) else d

/-- Basin b leaves every open group stream (R236). -/
def groupLeave (b : Nat) (d : Dev) : Dev := foldSt (List.range 16) (groupQuit b) d

/-- A stream of Basin b ends unused: it declines its group's stream. -/
def streamQuit (b : Nat) (s : Stream) (d : Dev) : Dev := match s.group with | some g => groupQuit b g d | none => d

/-- A group stream from HBM fetches its next block (R236), when fewer than 32 are held. `ue`: the words that fail in this read. -/
def groupFetch (g : Nat) (ue : List Nat) (d : Dev) : Dev :=
  match gstrGet g d with
  | none => d
  | some gs =>
    match gs.st.src with
    | .hbm a =>
      if 32 ≤ gs.held.length ∨ gs.st.len ≤ 4096 * gs.next then d
      else
        let lo := a + 4096 * gs.next
        let n := min 4096 (gs.st.len - 4096 * gs.next)
        let d := foldSt (ue.filter fun w => decide (lo / 64 ≤ w) && decide (64 * w < lo + n)) (fun w d => hbmErr 2 (64 * w) d) d
        let (bs, bad) := bytesOf (hbmRun lo n d)
        groupRun g (gstrPut g (some { gs with next := gs.next + 1, held := gs.held ++ [{ idx := gs.next, data := bs, bad := bad, took := 0 }] }) d)
    | _ => d

/-! ### Running the queue -/

/-- Unit 8 + b serves. -/
def basinServes (b : Nat) (d : Dev) : Bool := decide (b < nBasin d.fuse.variant) && userves (8 + b) d

/-- The MAC at place `i` starts its first slice (R227, R234): no earlier operation holds it, and an NMAJOR block must be whole in the buffer, whatever
brings it. -/
def macStart (b i : Nat) (d : Dev) : Dev :=
  if !basinServes b d then d
  else
    let x := basin b d
    match x.queue[i]? with
    | none => d
    | some q =>
      match q.op with
      | .mac _ _ s _ =>
        if q.started || (x.queue.take i).any (bqHolds · q) || (s.lay == 1 && (macBytes q s).isNone) then d
        else basinSet b { x with queue := x.queue.set i { q with started := true } } d
      | _ => d

/-- The stream of a handle on core b ends, when the last slice of the TMAC that named it is done (13 R290). -/
def handleEnd (b h : Nat) (s : Stream) (d : Dev) : Dev :=
  let l := d.longs
  let c := tabGet (fun _ => {}) l.core b
  if tabGet (fun _ => none) c.handles h = some s then
    { d with longs := { l with core := tabSet (fun _ => {}) l.core b { c with handles := tabSet (fun _ => none) c.handles h none } } }
  else d

/-- Place of the MAC the array runs: the first that has started and has slices to run (R227). -/
def arrayAt (x : Basin) : Option Nat :=
  findIdx x.queue.length fun i => match x.queue[i]? with | some q => q.started && decide (q.run < bopTicks q.op) | none => false

/-- One tick of Basin b's array (R234, R238): it runs the next slice or slices where the words for them are in the buffer, and else the tick is a stall. -/
def basinSlice (b : Nat) (d : Dev) : Dev :=
  let x := basin b d
  match arrayAt x with
  | none => d
  | some i =>
    match x.queue[i]? with
    | none => d
    | some q =>
      match q.op with
      | .mac _ a s h =>
        if q.got.length < macUses a s (q.run + 1) then basinSet b { x with stall := (x.stall + 1) % 4294967296 } d
        else
          let d := basinSet b { x with busy := (x.busy + 1) % 4294967296, queue := x.queue.set i { q with run := q.run + 1 } } d
          if q.run + 1 = bopTicks q.op then handleEnd b h s d else d
      | _ => d

/-- One tick of a Basin: words reach its buffer, and its array runs. -/
def basinTick (b : Nat) (d : Dev) : Dev := if basinServes b d then basinSlice b (basinFill b d) else d

/-- Store words an operation reads, that fail uncorrectably in this run, are marked (R244). -/
def storeErr (b ce : Nat) (ue : List Nat) (d : Dev) : Dev :=
  let d := raiseN (8 + b) 0 ce d
  foldSt ue (bstErr b 2) d

/-- The store words an operation reads. -/
def opWords (o : BOp) : List Nat :=
  (bopReads o).flatMap fun t => (tileLanes t).flatMap fun r => (List.range ((tileBytes t + 63) / 64)).map (laneAt r t.off / 64 + ·)

/-- HBM words of a MAC's own stream among those whose reads failed uncorrectably. -/
def ownBad (s : Stream) (hue : List Nat) : List Nat :=
  match s.group, s.src with
  | none, .hbm a => hue.filter fun w => decide (a / 64 ≤ w) && decide (64 * w < a + s.len)
  | _, _ => []

/-- Parity errors are found in these rows of a bank: each poisons its row and is counted (R244). -/
def parityErrs (b bank : Nat) (rows : List Nat) (d : Dev) : Dev :=
  foldSt rows (fun r d => raise (8 + b) 2 (basinMod b (rowPoisPut bank r true) d)) d

/-- The operation at place `i` of Basin b's queue finishes (R226, R230, R232, R238, R243, R244). `ce`: corrected store errors; `ue`, `hue`: store and
HBM words whose reads failed uncorrectably; `par`: the rows in which parity errors are found. Every clamp of a DRAIN is counted, those of a pass once
(R230, R232). -/
def basinComplete (b i ce : Nat) (ue hue par : List Nat) (d : Dev) : Dev :=
  if !basinServes b d then d
  else
    match (basin b d).queue[i]? with
    | none => d
    | some q =>
      if !bopFree (basin b d).queue i then d
      else
        let reads := opWords q.op
        let bad := ue.filter (reads.contains ·)
        let drop := fun (d : Dev) => basinMod b (fun x => { x with queue := x.queue.eraseIdx i }) d
        match q.op with
        | .acc bank t ncol f src => drop (basinMod b (doAcc bank t ncol f src) (storeErr b ce bad d))
        | .drain bank t dfmt mult shift zpt satfp fs =>
          let d := parityErrs b bank ((tileLanes t).filter (par.contains ·)) d
          let (x, n) := doDrain bank t dfmt mult shift zpt satfp fs (basin b d)
          drop (raiseN (8 + b) 3 n (basinSet b x d))
        | .mac bank a s _ =>
          if !q.started || q.run < bopTicks q.op then d
          else match macBytes q s with
            | none => d
            | some (w, wBad) =>
              let lost := ownBad s hue
              let d := storeErr b ce bad (foldSt lost (fun w d => hbmErr 2 (64 * w) d) d)
              let (x, n) := doMac bank a s w (wBad || !lost.isEmpty) (basin b d)
              let rows := (tileLanes a).filter (par.contains ·)
              let x := { x with passes := (x.passes + 1) % 4294967296, parRun := if rows.isEmpty then 0 else x.parRun + 1 }
              let d := parityErrs b bank rows (basinSet b x d)
              drop (if 0 < n then raise (8 + b) 3 d else d)

/-- The patrol of Basin b reads the next store word: `kind` 1 corrected, 2 uncorrectable (R243, R244). -/
def patrolRead (b kind : Nat) (d : Dev) : Dev :=
  let w := (basin b d).patrol
  bstErr b kind w (basinMod b (fun x => { x with patrol := (w + 1) % 131072, patAt := d.tickN / 64 + 1 }) d)

/-- The patrol of Basin b has read no word in the present 64 ticks. -/
def patrolDue (b : Nat) (d : Dev) : Bool := basinServes b d && (basin b d).patAt != d.tickN / 64 + 1

/-- The patrol reads and corrects one store word in every 64 ticks, in order (R243); `w` names the word it has come to. -/
def basinPatrol (b w kind : Nat) (d : Dev) : Dev := if patrolDue b d && w == (basin b d).patrol then patrolRead b kind d else d

/-- Where no command has brought it, the patrol's read falls in the last of the 64 ticks; whether it meets an error is open: a free value.
 [log entry 14 DESIGN CHOICE] -/
def patrolTick (b : Nat) (d : Dev) : Dev :=
  if patrolDue b d && d.tickN % 64 == 63 then (let (v, d) := draw d; patrolRead b (v % 3) d) else d

/-- Mode of the running MAC (BASIN_STAT). -/
def basinRunning (x : Basin) : Option (Tile × Stream) :=
  x.queue.findSome? fun q => if q.started then (match q.op with | .mac _ a s _ => some (a, s) | _ => none) else none

/-- Basin b's reset instant (03 R49, R236): unfinished operations are abandoned, the store and the banks empty, and it leaves its group's
stream. -/
def basinReset (b : Nat) (d : Dev) : Dev :=
  let d := groupLeave b d
  basinMod b (fun x => { x with store := [], pois := [], acc := [], type0 := false, type1 := false, accPois := [], queue := [], parRun := 0 }) d

/-- BASIN_GROUP (R245): group b of EN and GID. -/
def groupWrite (b : Nat) (en : Bool) (gid : Nat) (d : Dev) : Dev := basinMod b (fun x => { x with groupEn := en, gid := gid % 8 }) d

/-- MEMBERS of BASIN_GROUPb. -/
def groupShown (b : Nat) (d : Dev) : Nat :=
  (List.range 8).foldl (fun a i =>
    if decide (i < nBasin d.fuse.variant) && (basin i d).groupEn && (basin i d).gid == (basin b d).gid then a + 2 ^ i else a) 0

end Sys2Proof.Machine
end

