-- ==== Sys2Proof/Machine/LongAlgo.lean ====
section
/-!
DEFINITION. Machine/LongAlgo.lean: the results of the Longavel scalar (13 R280, R281) and vector (R284, R285) instructions, as functions
of their operand values.
-/
namespace Sys2Proof.Machine

/-- DIV: truncated; by zero −1 (R281). -/
def lDiv (a b : W64) : W64 := if b = 0 then BitVec.allOnes 64 else a.sdiv b
/-- REM: the dividend's sign; by zero the dividend (R281). -/
def lRem (a b : W64) : W64 := if b = 0 then a else a.srem b
/-- DIVU (R281). -/
def lDivu (a b : W64) : W64 := if b = 0 then BitVec.allOnes 64 else a / b
/-- REMU (R281). -/
def lRemu (a b : W64) : W64 := if b = 0 then a else a % b

/-- MULH: high 64 bits of the signed product (R280). -/
def lMulh (a b : W64) : W64 := ((a.signExtend 128 * b.signExtend 128) >>> 64).setWidth 64
/-- MULHU. -/
def lMulhu (a b : W64) : W64 := ((a.setWidth 128 * b.setWidth 128) >>> 64).setWidth 64

/-- Leading zeros (64 for 0). -/
def lClz (a : W64) : W64 := BitVec.ofNat 64 (64 - bitLen a.toNat)

/-- Result of a format R instruction that writes a g register; `pc` is p[C] of SEL (R280). -/
def srVal (o : SROp) (a b : W64) (pc : Bool) : W64 :=
  let sh := b.toNat % 64
  match o with
  | .add => a + b | .sub => a - b | .and => a &&& b | .or => a ||| b | .xor => a ^^^ b
  | .shl => a <<< sh | .shr => a >>> sh | .sar => a.sshiftRight sh
  | .min => if a.slt b then a else b | .max => if a.slt b then b else a
  | .minu => if a < b then a else b | .maxu => if a < b then b else a
  | .sel => if pc then a else b
  | .popc => BitVec.ofNat 64 (popcount 64 a.toNat) | .clz => lClz a
  | .mul => a * b | .mulh => lMulh a b | .mulhu => lMulhu a b
  | .div => lDiv a b | .divu => lDivu a b | .rem => lRem a b | .remu => lRemu a b
  | .cmpeq | .cmpne | .cmplt | .cmpltu | .cmple | .cmpleu | .pand | .por | .pxor | .pandn => 0

/-- Does a format R instruction write a p register. -/
def srIsP : SROp → Bool
  | .cmpeq | .cmpne | .cmplt | .cmpltu | .cmple | .cmpleu | .pand | .por | .pxor | .pandn => true
  | _ => false

/-- Does a format R instruction read p registers in A and B. -/
def srReadsP : SROp → Bool
  | .pand | .por | .pxor | .pandn => true
  | _ => false

/-- Relation of a compare (R280). -/
def srCmp (o : SROp) (a b : W64) : Bool :=
  match o with
  | .cmpeq => a == b | .cmpne => a != b | .cmplt => a.slt b | .cmpltu => decide (a < b)
  | .cmple => a.sle b | .cmpleu => decide (a ≤ b) | _ => false

/-- Predicate operation (R280). -/
def srPred (o : SROp) (a b : Bool) : Bool :=
  match o with
  | .pand => a && b | .por => a || b | .pxor => a != b | .pandn => a && !b | _ => false

/-- Result of a format I instruction that writes a g register. -/
def siVal (o : SIOp) (a : W64) (imm : Int) : W64 :=
  let i := BitVec.ofInt 64 imm
  match o with
  | .addi => a + i | .andi => a &&& i | .ori => a ||| i | .xori => a ^^^ i
  | .shli => a <<< imm.toNat | .shri => a >>> imm.toNat | .sari => a.sshiftRight imm.toNat
  | .cmpeqi | .cmplti | .cmpltui => 0

/-- Does a format I instruction write a p register. -/
def siIsP : SIOp → Bool
  | .cmpeqi | .cmplti | .cmpltui => true
  | _ => false

/-- Relation of an immediate compare. -/
def siCmp (o : SIOp) (a : W64) (imm : Int) : Bool :=
  let i := BitVec.ofInt 64 imm
  match o with
  | .cmpeqi => a == i | .cmplti => a.slt i | .cmpltui => decide (a < i) | _ => false

/-- Is the immediate one its instruction takes: shifts 0 to 63, others signed 32 bits (R279, R280). -/
def siImmOk (o : SIOp) (imm : Int) : Bool :=
  match o with
  | .shli | .shri | .sari => decide (0 ≤ imm) && decide (imm ≤ 63)
  | _ => decide (-(2 : Int) ^ 31 ≤ imm) && decide (imm < (2 : Int) ^ 31)

/-! ### Vector -/

/-- Bytes of a lane of width code W. -/
def vSize (w : Nat) : Nat := if w = 0 then 1 else if w = 1 then 2 else 4
/-- Number of lanes. -/
def vLanes (w : Nat) : Nat := 512 / vSize w
/-- Lane i. -/
def vLane (w : Nat) (v : List Byte) (i : Nat) : Nat := fieldLe v (i * vSize w) (vSize w)
/-- A register of lane values. -/
def vOf (w : Nat) (f : Nat → Nat) : List Byte := (List.range (vLanes w)).flatMap fun i => toLe (vSize w) (f i)
/-- Float format of W 1 and 2. -/
def vFmt (w : Nat) : FFmt := if w = 1 then f16 else f32

/-- VMINF / VMAXF: NaN if either is NaN; −0 below +0 (R285). -/
def vMinMaxF (f : FFmt) (mx : Bool) (a b : Nat) : Nat :=
  if fIsNaN f a ∨ fIsNaN f b then fNaN f
  else
    let lt := fLt f a b || (fEq f a b && bitOf a (f.eb + f.mb) && !bitOf b (f.eb + f.mb))
    if mx then (if lt then b else a) else (if lt then a else b)

/-- VCVTFI: nearest even, clamped; NaN gives 0. -/
def vToInt (w : Nat) (a : Nat) : Nat :=
  let bits := 8 * vSize w
  match fDec (vFmt w) a with
  | .nan => 0
  | .inf n => low bits (if n then -((2 : Int) ^ (bits - 1)) else (2 : Int) ^ (bits - 1) - 1)
  | v => low bits (clampS bits (vRint v))

/-- The lane of a lane-wise instruction (R284, R285). -/
def vLaneVal (o : VOp) (w a b c g : Nat) : Nat :=
  let bits := 8 * vSize w
  let m := 2 ^ bits
  let f := vFmt w
  let all := m - 1
  match o with
  | .vadd => (a + b) % m
  | .vsub => (a + m - b) % m
  | .vadds => low bits (clampS bits (sgn bits a + sgn bits b))
  | .vsubs => low bits (clampS bits (sgn bits a - sgn bits b))
  | .vmin => if sgn bits a < sgn bits b then a else b
  | .vmax => if sgn bits a < sgn bits b then b else a
  | .vand => a &&& b
  | .vor => a ||| b
  | .vxor => a ^^^ b
  | .vshl => (a <<< (g % bits)) % m
  | .vshr => a >>> (g % bits)
  | .vsar => low bits (sgn bits a >>> (g % bits))
  | .vcmpeq => if a = b then all else 0
  | .vcmplt => if sgn bits a < sgn bits b then all else 0
  | .vcmpltu => if a < b then all else 0
  | .vsel => if c = 0 then b else a
  | .vbcast => g % m
  | .vmul => a * b % m
  | .vaddf => fAdd f a b
  | .vsubf => fSub f a b
  | .vmulf => fMul f a b
  | .vminf => vMinMaxF f false a b
  | .vmaxf => vMinMaxF f true a b
  | .vcmpltf => if fLt f a b then all else 0
  | .vcmpeqf => if fEq f a b then all else 0
  | .vcvtif => fOfInt f (sgn bits a)
  | .vcvtfi => vToInt w a
  | .vrcp => fDiv f32 0x3F800000 a
  | .vsqrt => fSqrt f32 a
  | .vexp => fConv f64 f32 (e64 (fConv f32 f64 a))
  | _ => a

/-- Is the instruction lane-wise over whole registers. -/
def vIsLane : VOp → Bool
  | .vget | .vput | .vpacks | .vpackf | .vpackb | .vunpk | .vunpkf | .vunpkb | .vrsum | .vrmax | .vrsumf | .vrmaxf => false
  | _ => true

/-- The v register an instruction writes (for VGET, VRSUM and VRMAX see `vToG`). -/
def vVal (o : VOp) (w : Nat) (a b c : List Byte) (g imm : Nat) : List Byte :=
  if vIsLane o then vOf w fun i => vLaneVal o w (vLane w a i) (vLane w b i) (vLane w c i) g
  else match o with
  | .vput => vOf w fun i => if i = imm then g % 2 ^ (8 * vSize w) else vLane w a i
  | .vpacks => let n := vLanes w
    vOf (w - 1) fun i => let x := if i < n then vLane w a i else vLane w b (i - n)
      low (4 * vSize w) (clampS (4 * vSize w) (sgn (8 * vSize w) x))
  | .vpackf => vOf 1 fun i => fConv f32 f16 (if i < 128 then vLane 2 a i else vLane 2 b (i - 128))
  | .vpackb => vOf 1 fun i => fConv f32 bf16 (if i < 128 then vLane 2 a i else vLane 2 b (i - 128))
  | .vunpk => vOf w fun i => low (8 * vSize w) (sgn (4 * vSize w) (vLane (w - 1) a (i + imm * vLanes w)))
  | .vunpkf => vOf 2 fun i => fConv f16 f32 (vLane 1 a (i + imm * 128))
  | .vunpkb => vOf 2 fun i => fConv bf16 f32 (vLane 1 a (i + imm % 2 * 128))
  | .vrsumf => let s := (List.range 128).foldl (fun s i => fAdd f32 s (vLane 2 a i)) 0
    vOf 2 fun i => if i = 0 then s else 0
  | .vrmaxf => let s := (List.range 128).foldl (fun s i => if i = 0 then vLane 2 a 0 else vMinMaxF f32 true s (vLane 2 a i)) 0
    vOf 2 fun i => if i = 0 then (if fIsNaN f32 s then fNaN f32 else s) else 0
  | _ => a

/-- Does the instruction write a g register. -/
def vToG : VOp → Bool
  | .vget | .vrsum | .vrmax => true
  | _ => false

/-- The g register VGET, VRSUM and VRMAX write. -/
def vGVal (o : VOp) (w : Nat) (a : List Byte) (imm : Nat) : W64 :=
  let bits := 8 * vSize w
  let lanes := (List.range (vLanes w)).map fun i => sgn bits (vLane w a i)
  match o with
  | .vget => BitVec.ofInt 64 (sgn bits (vLane w a imm))
  | .vrsum => BitVec.ofInt 64 lanes.sum
  | _ => BitVec.ofInt 64 (lanes.foldl max (lanes.headD 0))

/-- Does the instruction read A, B, C, g[G]. -/
def vReads (o : VOp) : Bool × Bool × Bool × Bool :=
  match o with
  | .vbcast => (false, false, false, true)
  | .vshl | .vshr | .vsar | .vput => (true, false, false, true)
  | .vget | .vcvtif | .vcvtfi | .vunpk | .vunpkf | .vunpkb | .vrcp | .vsqrt | .vexp | .vrsum | .vrmax | .vrsumf | .vrmaxf =>
    (true, false, false, false)
  | .vsel => (true, true, true, false)
  | _ => (true, true, false, false)

/-- Are W and IMM ones the instruction takes (R284, R285). -/
def vFieldsOk (o : VOp) (w imm : Nat) : Bool :=
  decide (w < 3) &&
  match o with
  | .vget | .vput => decide (imm < vLanes w)
  | .vaddf | .vsubf | .vmulf | .vminf | .vmaxf | .vcmpltf | .vcmpeqf | .vcvtif | .vcvtfi | .vpacks => decide (1 ≤ w)
  | .vpackf | .vpackb | .vrcp | .vsqrt | .vexp | .vrsumf | .vrmaxf | .vunpkb => w == 2
  | .vunpk => decide (1 ≤ w) && decide (imm ≤ 1)
  | .vunpkf => w == 2 && decide (imm ≤ 1)
  | _ => true

end Sys2Proof.Machine
end

