-- ==== Sys2Proof/Machine/LongOps.lean ====
section
/-!
DEFINITION. Machine/LongOps.lean: a Longavel core (12, 13): registers, what a word checks, what each slot does, waits of the stream slot,
batches and replies, and the reset instant.
-/
namespace Sys2Proof.Machine

def core (c : Nat) (d : Dev) : Core := tabGet (fun _ => {}) d.longs.core c
def coreSetC (c : Nat) (k : Core) (d : Dev) : Dev := { d with longs := { d.longs with core := tabSet (fun _ => {}) d.longs.core c k } }
def coreMod (c : Nat) (f : Core → Core) (d : Dev) : Dev := coreSetC c (f (core c d)) d

/-- Unit 16 + c serves. -/
def coreServes (c : Nat) (d : Dev) : Bool := decide (c < nBasin d.fuse.variant) && userves (16 + c) d

/-! ### Registers (R251 to R253, R257) -/

def gRead (n : Nat) (k : Core) : W64 := if n = 0 then 0 else tabGet (fun _ => 0) k.g n
def gBad (n : Nat) (k : Core) : Bool := n != 0 && tabGet (fun _ => false) k.gP n
/-- Write g[n] with its poison; g0 discards the write. -/
def gPut (n : Nat) (v : W64) (bad : Bool) (k : Core) : Core :=
  if n = 0 then k else { k with g := tabSet (fun _ => 0) k.g n v, gP := tabSet (fun _ => false) k.gP n bad }

def pRead (n : Nat) (k : Core) : Bool := n == 0 || k.p.getLsbD n
def pPut (n : Nat) (v : Bool) (k : Core) : Core :=
  if n = 0 then k else { k with p := (k.p &&& ~~~ (BitVec.ofNat 8 (2 ^ n))) ||| (if v then BitVec.ofNat 8 (2 ^ n) else 0) }

def vDef : List Byte := List.replicate 512 0
def vRead (n : Nat) (k : Core) : List Byte := tabGet (fun _ => vDef) k.v n
def vSegBad (n s : Nat) (k : Core) : Bool := tabGet (fun _ => false) k.vP (8 * n + s)
def vBad (n : Nat) (k : Core) : Bool := (List.range 8).any fun s => vSegBad n s k
def vPut (n : Nat) (v : List Byte) (bad : Nat → Bool) (k : Core) : Core :=
  { k with v := tabSet (fun _ => vDef) k.v n v, vP := forN 8 (fun s t => tabSet (fun _ => false) t (8 * n + s) (bad s)) k.vP }
def vSegPut (n s : Nat) (b : List Byte) (bad : Bool) (k : Core) : Core :=
  let v := vRead n k
  { k with v := tabSet (fun _ => vDef) k.v n (v.take (64 * s) ++ padTo 64 b ++ v.drop (64 * s + 64)),
           vP := tabSet (fun _ => false) k.vP (8 * n + s) bad }

def tDef : List Byte := List.replicate 16 0
def tRead (n : Nat) (k : Core) : List Byte := tabGet (fun _ => tDef) k.t n
def tBad (n : Nat) (k : Core) : Bool := tabGet (fun _ => false) k.tP n
def tPut (n : Nat) (b : List Byte) (bad : Bool) (k : Core) : Core :=
  { k with t := tabSet (fun _ => tDef) k.t n (padTo 16 b), tP := tabSet (fun _ => false) k.tP n bad }

def handleOf (h : Nat) (k : Core) : Option Stream := tabGet (fun _ => none) k.handles h
def handlePut (h : Nat) (s : Option Stream) (k : Core) : Core := { k with handles := tabSet (fun _ => none) k.handles h s }
def handlesOpen (k : Core) : Nat := ((List.range 4).filter fun h => (handleOf h k).isSome).length

/-- Program slot `s` of a core. -/
def progOf (s : Nat) (k : Core) : ProgSlot := tabGet (fun _ => {}) k.slots s

/-- The program slot a core's program runs from. -/
def runSlot (k : Core) : ProgSlot := match k.running with | some b => progOf b.slot k | none => {}

/-- A control register as MFK reads it (Table 12-3). -/
def kRead (c n : Nat) (k : Core) (d : Dev) : W64 :=
  match n with
  | 0 => BitVec.ofNat 64 (b2n k.prog)
  | 1 => BitVec.ofNat 64 k.epc
  | 2 => BitVec.ofNat 64 k.ecause
  | 3 => BitVec.ofNat 64 k.einfo
  | 4 => d.gauge
  | 5 => BitVec.ofNat 64 (c + 256 * varCode d.fuse.variant)
  | 6 => BitVec.ofNat 64 k.batchK
  | 7 => BitVec.ofNat 64 k.dataK
  | 8 => BitVec.ofNat 64 (b2n (decide (1 ≤ d.therm.shlevel)))
  | 9 => BitVec.ofNat 64 k.xstat
  | 10 => BitVec.ofNat 64 k.ticks
  | _ => if 16 ≤ n ∧ n < 32 then tabGet (fun _ => 0) k.scratch n else 0

/-- MTK (R253): only k0 MODE and the scratch registers take a write. -/
def kWrite (n : Nat) (v : W64) (k : Core) : Core :=
  if n = 0 then { k with prog := v.getLsbD 0 }
  else if 16 ≤ n ∧ n < 32 then { k with scratch := tabSet (fun _ => 0) k.scratch n v }
  else k

/-! ### Program Sluices (R261) -/

/-- Sluice of a local index (Table 12-7). -/
def idxSluice (c i : Nat) : Nat :=
  match i with
  | 8 => 180 + 8 * (if c % 2 = 0 then c + 1 else c - 1)
  | 9 => 149 + c
  | 10 => 157 + c
  | _ => 176 + 8 * c + i

def idxKernel (i : Nat) : Bool := i == 2 || i == 3 || i == 5 || i == 9 || i == 10
def idxWriteOnly (i : Nat) : Bool := i == 1 || i == 3 || i == 4 || i == 10
def idxReadOnly (i : Nat) : Bool := i == 0 || i == 2 || i == 5 || i == 8 || i == 9

/-! ### What a word checks: encodings (R248, R252, R276) -/

/-- The slots that carry an instruction's kind (Table 12-1). -/
def lopSlots : LOp → List Nat
  | .ctl .. => [0]
  | .sr .. | .si .. | .movi .. | .movh .. | .mfk .. | .mtk .. => [1, 2]
  | .mem .. => [3]
  | .vec .. => [4, 5]
  | .tacc .. | .tmac .. | .tdrn .. | .twait | .tset .. => [6]
  | _ => [7]

/-- Signed n-bit range. -/
def sRange (n : Nat) (i : Int) : Bool := decide (-((2 : Int) ^ (n - 1)) ≤ i) && decide (i < (2 : Int) ^ (n - 1))

def memIsV : MOp → Bool | .vld64 | .vld | .vst64 | .vst => true | _ => false
def memIsT : MOp → Bool | .tld | .tst => true | _ => false
def memSeg : MOp → Bool | .vld64 | .vst64 => true | _ => false
def memIsStore : MOp → Bool | .stb | .sth | .stw | .std | .vst64 | .vst | .tst => true | _ => false
/-- Bytes a slot 3 instruction moves (R282). -/
def memSize : MOp → Nat
  | .ldb | .ldbu | .stb => 1 | .ldh | .ldhu | .sth => 2 | .ldw | .ldwu | .stw => 4 | .ldd | .std => 8
  | .vld64 | .vst64 => 64 | .vld | .vst => 512 | .tld | .tst => 16
/-- Alignment (R255, R283): v accesses to 64 bytes, t accesses to 16, scalar ones to their size. -/
def memAlign (o : MOp) : Nat := if memIsV o then 64 else memSize o
def memSigned : MOp → Bool | .ldb | .ldh | .ldw | .ldd => true | _ => false

/-- Every field holds a value its instruction takes. -/
def lopFieldsOk : LOp → Bool
  | .ctl _ a off => decide (a < 32) && sRange 32 off
  | .sr o d a b c =>
    if srReadsP o then decide (d < 8) && decide (a < 8) && decide (b < 8) && c == 0
    else decide (d < (if srIsP o then 8 else 32)) && decide (a < 32) && decide (b < 32) && decide (c < 8) &&
      (match o with | .sel => true | .popc | .clz => b == 0 && c == 0 | _ => c == 0)
  | .si o d a imm => decide (d < (if siIsP o then 8 else 32)) && decide (a < 32) && siImmOk o imm
  | .movi d imm => decide (d < 32) && sRange 47 imm
  | .movh d imm => decide (d < 32) && decide (imm < 131072)
  | .mfk g k | .mtk g k => decide (g < 32) && decide (k < 64)
  | .mem o t a seg off =>
    decide (t < (if memIsV o then 16 else if memIsT o then 8 else 32)) && decide (a < 32) && decide (seg < 8) && (memSeg o || seg == 0) && sRange 32 off
  | .vec o d a b c w g imm =>
    decide (d < 16) && decide (a < 16) && decide (b < 16) && decide (c < 16) && decide (g < 32) && decide (imm < 65536) && vFieldsOk o w imm
  | .tacc bank t s _ _ ncol => decide (bank < 2) && decide (t < 8) && decide (s < 8) && within ncol 1 512
  | .tmac bank a h => decide (bank < 2) && decide (a < 8) && decide (h < 4)
  | .tdrn bank t dfmt gm gf => decide (bank < 2) && decide (t < 8) && decide (dfmt < 16) && decide (gm < 32) && decide (gf < 32)
  | .twait => true
  | .tset t f g => decide (t < 8) && decide (f ≤ 4) && decide (g < 32)
  | .sopen h src _ a b lay ncol => decide (h < 4) && decide (src ≤ 2) && decide (a < 32) && decide (b < 32) && decide (lay ≤ 1) && within ncol 1 512
  | .sclose h => decide (h < 4)
  | .slrd v seg g idx => decide (v < 16) && decide (seg < 8) && decide (g < 32) && decide (idx < 16)
  | .slwr v seg idx _ _ valid => decide (v < 16) && decide (seg < 8) && decide (idx < 16) && within valid 1 64
  | .slwait g idx => decide (g < 32) && decide (idx < 16)
  | .sldrop idx => decide (idx < 16)
  | .sinit a b => decide (a < 32) && decide (b < 32)
  | .sapp a b n => decide (a < 32) && decide (b < 32) && within n 1 512
  | .sfree a => decide (a < 32)

/-- Destination registers: (0, g), (1, p), (2, v), (3, t), (4, k); g0 and p0 are none (R252). CALL writes g31 whatever its condition (R277). -/
def lopDests (op : LOp) : List (Nat × Nat) :=
  let l := match op with
    | .ctl .call _ _ => [(0, 31)]
    | .sr o d _ _ _ => [(if srIsP o then 1 else 0, d)]
    | .si o d _ _ => [(if siIsP o then 1 else 0, d)]
    | .movi d _ | .movh d _ => [(0, d)]
    | .mfk g _ => [(0, g)]
    | .mtk _ n => [(4, n)]
    | .mem o t _ _ _ => if memIsStore o then [] else [(if memIsV o then 2 else if memIsT o then 3 else 0, t)]
    | .vec o d _ _ _ _ g _ => if vToG o then [(0, g)] else [(2, d)]
    | .tset t _ _ => [(3, t)]
    | .slrd v _ g _ => [(2, v), (0, g)]
    | _ => []
  l.filter fun x => !(x.2 == 0 && decide (x.1 < 2))

/-- The lowest-numbered slot that makes the word an illegal encoding. [log entry 41 DESIGN CHOICE] -/
def wordIllegal (ss : List Slot) : Option Nat :=
  let bad := ss.filter fun s =>
    s.res || !(lopSlots s.op).contains s.slot || !lopFieldsOk s.op || decide (8 ≤ s.gp) ||
      ss.any (fun t => t.slot != s.slot && (lopDests s.op).any ((lopDests t.op).contains ·))
  (bad.map (·.slot)).foldl (fun (a : Option Nat) n => match a with | none => some n | some m => some (min m n)) none

/-! ### What a word checks: operands (R255, R257, R258, R278, R287, R290 to R292) -/

/-- A slot acts, or slot 0's condition holds (R250, R276). -/
def slotActs (k : Core) (s : Slot) : Bool := pRead s.gp k != s.gs

/-- Size of the running code section (R260; the kernel's part of the cache is 32 KiB). -/
def codeSize (k : Core) : Nat := if k.prog then fieldLe (runSlot k).hdr 8 4 else 32768

/-- Effective address (R282). -/
def effAddr (k : Core) (a : Nat) (off : Int) : Nat := (gRead a k + BitVec.ofInt 64 off).toNat

def bwinBase : Nat := 0x100000000
/-- Is the address in the Basin store window. -/
def inBwin (a : Nat) : Bool := decide (bwinBase ≤ a) && decide (a < bwinBase + basinStoreSize)

/-- Offsets of a batch entry a program writes: PROPOSAL, and NSPAN to SPANADDR (Table 12-10). -/
def outField (o n : Nat) : Bool := (o == 32 && n == 1) || (decide (34 ≤ o) && decide (o + n ≤ 56))

/-- Is a Mere access of `n` bytes at `a` one the program may make (R255). -/
def mereAllowed (k : Core) (a n : Nat) (store : Bool) : Bool :=
  let (lo, hi) := progData (runSlot k)
  let ni := match k.running with | some b => b.items.length | none => 0
  let tEnd := k.batchK + 64 + 64 * ni
  if decide (lo ≤ a) && decide (a + n ≤ hi) then true
  else if decide (k.batchK ≤ a) && decide (a + n ≤ tEnd) then
    !store || (decide (k.batchK + 64 ≤ a) && (let o := (a - k.batchK) % 64; decide (o + n ≤ 64) && outField o n))
  else false

/-- The exception of an access of `n` bytes at `a`: cause and EINFO. [log entry 42 DEDUCED] -/
def accessExc (k : Core) (al a n : Nat) (store : Bool) : Option (Nat × Nat) :=
  if a % al ≠ 0 then some (3, a)
  else if decide (a + n ≤ mereSize) then (if k.prog && !mereAllowed k a n store then some (4, a) else none)
  else if inBwin a && decide (a + n ≤ bwinBase + basinStoreSize) then none
  else some (4, a)

/-- An entry of the running program's stream table (R271). -/
def strmEntry (p : ProgSlot) (e : Nat) : List Byte := slice p.table (32 * e) 32
def strmCount (p : ProgSlot) : Nat := fieldLe p.hdr 28 2

/-- The stream an SOPEN opens, with `tw` its twin entry taken (R242, R289). -/
def strmOf (p : ProgSlot) (e : Nat) (src : StreamSrc) (grp : Option Nat) (tw : Bool) : Stream :=
  let x := strmEntry p e
  { src := src, len := fieldLe x 8 4, k := fieldLe x 14 2, ncol := fieldLe x 16 2, wfmt := fieldLe x 12 1, lay := fieldLe x 13 1, group := grp,
    twin := tw, named := false }

/-- The session stream of SRC 2 (R241, R289): NMAJOR rows are columns, KMAJOR rows are slices. [log entry 64 DEDUCED] -/
def sessStream (e : SDirEnt) (id row lay ncol : Nat) : Stream :=
  let n := if fmtBits e.fmt = 0 then 0 else e.rowb * 8 / fmtBits e.fmt
  { src := .session id row, len := ncol * e.rowb, k := if lay = 0 then ncol else n, ncol := if lay = 0 then n else ncol, wfmt := e.fmt, lay := lay,
    group := none, twin := false, named := false }

/-- STREAM checks of SOPEN (R290). [log entry 42 DEDUCED] -/
def sopenBad (k : Core) (h src : Nat) (grp : Bool) (a b ncol : Nat) (d : Dev) : Bool :=
  let e := (gRead a k).toNat
  (handleOf h k).isSome ||
  (match src with
   | 2 =>
     let x := sessDir e d
     grp || decide (2 ^ 24 ≤ e) || !x.opened || decide (x.rows < (gRead b k).toNat + ncol)
   | 1 => decide (strmCount (runSlot k) ≤ e) || decide (d.ferry.nslot ≤ (gRead b k).toNat)
   | _ => decide (strmCount (runSlot k) ≤ e))

/-- SLUICE and PRIV checks of an index (R261, R291). [log entry 44 DEDUCED] -/
def idxExc (k : Core) (i : Nat) (write : Bool) : Option (Nat × Nat) :=
  if 11 ≤ i then some (8, i)
  else if k.prog && idxKernel i then some (2, i)
  else if (if write then idxReadOnly i else idxWriteOnly i) then some (8, i)
  else none

/-- Framing check of SLWR (R291). A packet the Sluice has turned bad is discarded up to the next FIRST (R262). [log entry 42 DEDUCED] -/
def slwrBad (c : Nat) (k : Core) (i : Nat) (first last : Bool) (valid : Nat) (d : Dev) : Bool :=
  let s := slu (idxSluice c i) d
  let disc := bitOf k.discard i
  (first && s.opened) || (!first && !s.opened && !disc) || (!first && s.opened && decide (1040 ≤ s.openN)) || (!last && decide (valid < 64))

/-- The first exception of an acting slot: cause and EINFO. [log entry 42 DEDUCED] -/
def slotExc (c : Nat) (k : Core) (s : Slot) (d : Dev) : Option (Nat × Nat) :=
  let tgt := fun (x : Int) =>
    if x % 64 ≠ 0 then some (3, low 64 x) else if x < 0 ∨ (codeSize k : Int) ≤ x then some (4, low 64 x) else none
  match s.op with
  | .ctl .br _ off | .ctl .call _ off => tgt ((k.pc : Int) + 64 * off)
  | .ctl .jr a _ => if gBad a k then some (5, 0) else tgt ((gRead a k).toNat : Int)
  | .ctl .ret _ _ => if !k.prog then some (1, 0) else if gRead 1 k ≠ 0 then some (0, 0) else none
  | .ctl .eret _ _ => if k.prog then some (2, 0) else none
  | .sr o _ a b _ => if srIsP o && !srReadsP o && (gBad a k || gBad b k) then some (5, 0) else none
  | .si o _ a _ => if siIsP o && gBad a k then some (5, 0) else none
  | .movi .. | .movh .. => none
  | .mfk _ n => if k.prog && decide (16 ≤ n) then some (2, 0) else none
  | .mtk _ _ => if k.prog then some (2, 0) else none
  | .mem o _ a _ off => if gBad a k then some (5, 0) else accessExc k (memAlign o) (effAddr k a off) (memSize o) (memIsStore o)
  | .vec .. => none
  | .tacc _ t src init type ncol =>
    if tBad t k || (init && tBad src k) then some (5, 0)
    else if accOk (tileOf (tRead t k)) ncol type (if init then some (tileOf (tRead src k)) else none) then none
    else some (6, 0)
  | .tmac bank a h =>
    if tBad a k then some (5, 0)
    else match handleOf h k with
      | none => some (7, h)
      | some st => if st.named then some (7, h) else if macOk c bank (tileOf (tRead a k)) st d then none else some (6, 0)
  | .tdrn bank t dfmt gm gf =>
    if tBad t k || gBad gm k || gBad gf k then some (5, 0)
    else if drainRefuse c bank (tileOf (tRead t k)) dfmt (bitsOf (gRead gm k).toNat 37 32) d then some (6, 0) else none
  | .twait => none
  | .tset _ _ g => if gBad g k then some (5, 0) else none
  | .sopen h src grp a b _ ncol =>
    if gBad a k || (src != 0 && gBad b k) then some (5, 0)
    else if sopenBad k h src grp a b ncol d then some (7, (gRead a k).toNat) else none
  | .sclose h => (match handleOf h k with | some st => if st.named then some (7, h) else none | none => none)
  | .slrd _ _ _ i => idxExc k i false
  | .slwr _ _ i first last valid =>
    (match idxExc k i true with
     | some x => some x
     | none => if slwrBad c k i first last valid d then some (8, i) else none)
  | .slwait g i => if gBad g k then some (5, 0) else idxExc k i false
  | .sldrop i => idxExc k i false
  | .sinit a b =>
    if gBad a k || gBad b k then some (5, 0)
    else
      let v := (gRead b k).toNat
      if 2 ^ 24 ≤ (gRead a k).toNat ∨ ¬ within (v % 65536) 64 16384 ∨ v % 64 ≠ 0 ∨ 8 ≤ bitsOf v 19 16 then some (7, (gRead a k).toNat) else none
  | .sapp a b n =>
    if gBad a k || gBad b k then some (5, 0)
    else
      let id := (gRead a k).toNat
      let e := sessDir id d
      if 2 ^ 24 ≤ id ∨ ¬ e.opened then some (7, id) else accessExc k 64 (gRead b k).toNat (n * e.rowb) false
  | .sfree a => if gBad a k then some (5, 0) else if 2 ^ 24 ≤ (gRead a k).toNat then some (7, (gRead a k).toNat) else none

/-- The exception of the lowest-numbered slot that raises one: slot, cause, EINFO (R258). [log entries 42 DEDUCED, 44 DEDUCED] -/
def wordExc (c : Nat) (k : Core) (ss : List Slot) (d : Dev) : Option (Nat × Nat × Nat) :=
  (List.range 8).findSome? fun n =>
    (ss.find? (fun s => s.slot == n)).bind fun s => if slotActs k s then (slotExc c k s d).map fun (x : Nat × Nat) => (n, x.1, x.2) else none

/-- The word waits to issue: a fifth tile operation (R287), or a window access while tile operations run (R256). -/
def wordWaits (c : Nat) (k : Core) (ss : List Slot) (d : Dev) : Bool :=
  ss.any fun s => slotActs k s &&
    (match s.op with
     | .tacc .. | .tmac .. | .tdrn .. => decide (4 ≤ bopNotStarted (basin c d).queue)
     | .mem _ _ a _ off => inBwin (effAddr k a off) && (basin c d).queue.any fun q => !(bopReads q.op).isEmpty || !(bopWrites q.op).isEmpty
     | .sapp _ b _ => inBwin (gRead b k).toNat && (basin c d).queue.any fun q => !(bopReads q.op).isEmpty || !(bopWrites q.op).isEmpty
     | _ => false)

/-! ### What a slot does -/

/-- Read bytes of the core address space with the poison of the words they lie in. -/
def coreLoad (c a n : Nat) (d : Dev) : List Byte × Bool :=
  if inBwin a then
    let o := a - bwinBase
    let x := basin c d
    (memRead 0 x.store o n, (List.range ((o + n - 1) / 64 + 1 - o / 64)).any fun i => tabGet (fun _ => false) x.pois (o / 64 + i))
  else
    (memRead 0 d.mere.mem a n,
     !memServes 24 d || (List.range ((a + n - 1) / 64 + 1 - a / 64)).any fun i => tabGet (fun _ => false) d.mere.pois (a / 64 + i))

/-- Store bytes, or poison in their words. -/
def coreStore (c a : Nat) (bs : List Byte) (bad : Bool) (d : Dev) : Dev :=
  if inBwin a then basinMod c (fun x => (if bad then bstPoison (a - bwinBase) bs.length else id) (bstWrite (a - bwinBase) bs x)) d
  else (if bad then merePoison a bs.length else id) (mereWrite a bs d)

/-- A memory error met by a load (R243, R298): 1 corrected, 2 uncorrectable. -/
def coreMemErr (c kind a : Nat) (d : Dev) : Dev :=
  if inBwin a then
    (match kind with | 1 => storeErr c 1 [] d | 2 => storeErr c 0 [(a - bwinBase) / 64] d | _ => d)
  else mereErr kind a d

/-- Slots 1 and 2 (R280, R281). `k` is the core before the word, `r` the core being written. [log entry 41 DESIGN CHOICE] -/
def doScalar (c : Nat) (op : LOp) (k : Core) (d : Dev) (r : Core) : Core :=
  match op with
  | .sr o x a b e =>
    if srReadsP o then pPut x (srPred o (pRead a k) (pRead b k)) r
    else if srIsP o then pPut x (srCmp o (gRead a k) (gRead b k)) r
    else
      let bad := match o with
        | .sel => if pRead e k then gBad a k else gBad b k
        | .popc | .clz => gBad a k
        | _ => gBad a k || gBad b k
      gPut x (srVal o (gRead a k) (gRead b k) (pRead e k)) bad r
  | .si o x a imm => if siIsP o then pPut x (siCmp o (gRead a k) imm) r else gPut x (siVal o (gRead a k) imm) (gBad a k) r
  | .movi x imm => gPut x (BitVec.ofInt 64 imm) false r
  | .movh x imm => gPut x ((gRead x k &&& BitVec.ofNat 64 (2 ^ 47 - 1)) ||| BitVec.ofNat 64 (imm <<< 47)) (gBad x k) r
  | .mfk g n => gPut g (kRead c n k d) false r
  | .mtk g n => kWrite n (gRead g k) r
  | _ => r

/-- Slots 4 and 5 (R284, R285), with the poison of R257. [log entry 41 DESIGN CHOICE] -/
def doVector (op : LOp) (k : Core) (r : Core) : Core :=
  match op with
  | .vec o x a b e w g imm =>
    let A := vRead a k
    let (ra, rb, rc, rg) := vReads o
    if vToG o then
      let bad := match o with | .vget => vSegBad a (imm * vSize w / 64) k | _ => vBad a k
      gPut g (vGVal o w A imm) bad r
    else
      let gv := (gRead g k).toNat
      let bad : Nat → Bool :=
        if vIsLane o then fun s => (ra && vSegBad a s k) || (rb && vSegBad b s k) || (rc && vSegBad e s k) || (rg && gBad g k)
        else match o with
          | .vput => fun s => (vSegBad a s k) || (s == imm * vSize w / 64 && gBad g k)
          | _ => fun _ => vBad a k || (rb && vBad b k)
      vPut x (vVal o w A (vRead b k) (vRead e k) gv imm) bad r
  | _ => r

/-- Slot 3 (R282, R283). [log entry 41 DESIGN CHOICE] -/
def doMem (c err : Nat) (op : LOp) (k : Core) (st : Core × Dev) : Core × Dev :=
  let (r, d) := st
  match op with
  | .mem o t a seg off =>
    let ea := effAddr k a off
    let n := memSize o
    if memIsStore o then
      match o with
      | .vst64 => (r, coreStore c ea (slice (vRead t k) (64 * seg) 64) (vSegBad t seg k) d)
      | .vst => (r, forN 8 (fun s d => coreStore c (ea + 64 * s) (slice (vRead t k) (64 * s) 64) (vSegBad t s k) d) d)
      | .tst => (r, coreStore c ea (tRead t k) (tBad t k) d)
      | _ => (r, coreStore c ea (toLe n (gRead t k).toNat) (gBad t k) d)
    else
      let d := coreMemErr c err ea d
      match o with
      | .vld64 => let (b, bad) := coreLoad c ea 64 d; (vSegPut t seg b bad r, d)
      | .vld => let ld := fun (s : Nat) => coreLoad c (ea + 64 * s) 64 d
        (vPut t ((List.range 8).flatMap fun s => (ld s).1) (fun s => (ld s).2) r, d)
      | .tld => let (b, bad) := coreLoad c ea 16 d; (tPut t b bad r, d)
      | _ =>
        let (b, bad) := coreLoad c ea n d
        let v := ofLe b
        (gPut t (if memSigned o then BitVec.ofInt 64 (sgn (8 * n) v) else BitVec.ofNat 64 v) bad r, d)
  | _ => st

/-- TSET's field (R286). -/
def tsetField (f v : Nat) (b : List Byte) : List Byte :=
  match f with
  | 0 => toLe 2 (v % 16384 + fieldLe b 0 2 / 16384 * 16384) ++ b.drop 2
  | 1 => b.take 2 ++ toLe 2 (v % 512 + fieldLe b 2 2 / 512 * 512) ++ b.drop 4
  | 2 => b.take 4 ++ toLe 2 (v % 1024 + fieldLe b 4 2 / 1024 * 1024) ++ b.drop 6
  | 3 => b.take 6 ++ toLe 2 (v % 32768 + fieldLe b 6 2 / 32768 * 32768) ++ b.drop 8
  | _ => b.take 8 ++ toLe 1 (v % 16 + fieldLe b 8 1 / 16 * 16) ++ b.drop 9

/-- Slot 6 (R286, R287). [log entry 41 DESIGN CHOICE] -/
def doTile (c : Nat) (op : LOp) (k : Core) (st : Core × Dev) : Core × Dev :=
  let (r, d) := st
  match op with
  | .tacc bank t s init type ncol =>
    (r, bopIssue c (.acc bank (tileOf (tRead t k)) ncol type (if init then some (tileOf (tRead s k)) else none)) d)
  | .tmac bank a h =>
    (match handleOf h k with
     | none => st
     | some x => (handlePut h (some { x with named := true }) r, bopIssue c (.mac bank (tileOf (tRead a k)) { x with named := true } h) d))
  | .tdrn bank t dfmt gm gf =>
    let m := (gRead gm k).toNat
    (r, bopIssue c (.drain bank (tileOf (tRead t k)) dfmt (bitsOf m 31 0) (bitsOf m 37 32) (bitsOf m 47 40) (bitOf m 48)
          (bitsOf (gRead gf k).toNat 31 0)) d)
  | .tset t f g => (tPut t (tsetField f (gRead g k).toNat (tRead t k)) (tBad t k) r, d)
  | .twait => ({ r with tileWait := !(basin c d).queue.isEmpty }, d)
  | _ => st

/-- Sideband of a Sluice word as SLRD writes it (R289). -/
def sideband (x : SRead) : Nat := b2n x.first + 2 * b2n x.last + 4 * x.valid + 512 * b2n x.still + 1024 * b2n x.abort

/-- Complete SLRD with what the read returned. -/
def slrdDone (v seg g : Nat) (x : SRead) (r : Core) : Core :=
  { gPut g (BitVec.ofNat 64 (sideband x)) false (vSegPut v seg x.data false r) with xstat := if x.abort then 3 else 0 }

/-- Try to write a word to Sluice `n`; none: back-pressure holds it (R122). -/
def slwrTry (n : Nat) (data : List Byte) (first last : Bool) (valid : Nat) (bad : Bool) (d : Dev) : Option Dev :=
  let s := slu n d
  let before := s.words.length
  let d' := sluWrite n data first last valid bad d
  if bad then some d'
  else if (slu n d').words.length = before + 1 then some d'
  else if s.absorb || (slu n d').absorb || (slu n d').opened != s.opened then some d'
  else none

/-- A packet is visible to the consumer, or an abort marker waits (R115, R120). -/
def sluVisible (n : Nat) (d : Dev) : Bool := let s := slu n d; s.abortP || s.started || canStart s

/-- Read a table page that lies with a peer, once (16 R358). -/
def tabFetch (c : Nat) (p : Nat × Nat) (d : Dev) : Dev :=
  if d.jetty.memreq.any (fun q => !q.write && q.basin == c && q.node == p.1 && q.page == p.2 && q.off == 0) then d
  else memSend c false p.1 p.2 0 4096 [] d

/-- Free a session's pages, and open it again (SINIT) or not (R292). -/
def sessEndNow (c id : Nat) (init : Option (Nat × Nat)) (d : Dev) : Dev :=
  let d := sessFree c id d
  match init with
  | some (rowb, fmt) => sessDirPut id { rows := 0, rowb := rowb, fmt := fmt, opened := true, first := 0, last := 0 } d
  | none => d

/-- SINIT and SFREE: at once, or once the session's table pages on peers have been read. -/
def sessEnd (c id : Nat) (init : Option (Nat × Nat)) (st : Core × Dev) : Core × Dev :=
  match freeMiss c id st.2 with
  | none => ({ st.1 with xstat := 0 }, sessEndNow c id init st.2)
  | some p => ({ st.1 with wait := .free id init }, tabFetch c p st.2)

/-- Slot 7 (R289 to R293). [log entry 41 DESIGN CHOICE] -/
def doStream (c : Nat) (op : LOp) (k : Core) (st : Core × Dev) : Core × Dev :=
  let (r, d) := st
  match op with
  | .sopen h src grp a b lay ncol =>
    ({ r with wait := .open' h src grp (gRead a k).toNat (gRead b k).toNat lay ncol (now d) }, d)
  | .sclose h =>
    -- the handle as slot 6 of the word leaves it: a TMAC there has named it (R288)
    (match handleOf h r with
     | some s => if s.named then ({ r with xstat := 0 }, d) else ({ handlePut h none r with xstat := 0 }, streamQuit c s d)
     | none => ({ r with xstat := 0 }, d))
  | .slrd v seg g i =>
    (match sluRead (idxSluice c i) d with
     | (some x, d) => (slrdDone v seg g x r, d)
     | (none, d) => ({ r with wait := .read v seg g i }, d))
  | .slwr v seg i first last valid =>
    let data := slice (vRead v k) (64 * seg) 64
    let bad := vSegBad v seg k
    let disc := bitOf k.discard i
    if disc && !first then ({ r with xstat := 0 }, d)
    else
      let r := if disc then { r with discard := r.discard - 2 ^ i } else r
      (match slwrTry (idxSluice c i) data first last valid bad d with
       | some d => ({ r with xstat := 0 }, d)
       | none => ({ r with wait := .write i data first last valid bad }, d))
  | .slwait g i =>
    if sluVisible (idxSluice c i) d then ({ r with xstat := 0 }, d)
    else if gRead g k = 0 then ({ r with xstat := 1 }, d)
    else ({ r with wait := .wait i (now d + (gRead g k).toNat) }, d)
  | .sldrop i => ({ r with xstat := 0 }, sluDrop (idxSluice c i) d)
  | .sinit a b =>
    let v := (gRead b k).toNat
    sessEnd c (gRead a k).toNat (some (v % 65536, bitsOf v 19 16)) (r, d)
  | .sapp a b n => ({ r with wait := .append (gRead a k).toNat (gRead b k).toNat n }, d)
  | .sfree a => sessEnd c (gRead a k).toNat none (r, d)
  | _ => st

/-! ### Batches: tables, replies, the end of a program (R266 to R269, R259) -/

/-- A core's batch area, its batch table, and where inputs lie after it (Table 14-2; the placing within the area is the model's). -/
def batchArea (c : Nat) : Nat := 0x400000 + 0x100000 * c
def inputBase (c : Nat) : Nat := batchArea c + 0x8080

def batchDeadline (b : Batch) : Nat := b.items.foldl (fun a i => min a i.deadline) (2 ^ 64 - 1)

/-- Every input a core holds: offset in the input area and length. -/
def inputsHeld (c : Nat) (k : Core) : List (Nat × Nat) :=
  let bs := k.openB ++ k.closed ++ (match k.running with | some b => [b] | none => [])
  bs.flatMap fun b => b.items.map fun i => (i.inaddr - inputBase c, (i.inlen + 63) / 64 * 64)

/-- Place of an input of `n` bytes in the batch area. -/
def inputPlace (c n : Nat) (k : Core) : Option Nat :=
  ((freeRanges (0x100000 - 0x8080) (inputsHeld c k)).find? fun r => decide ((n + 63) / 64 * 64 ≤ r.2)).map fun r => inputBase c + r.1

/-- Bytes of a batch table as the kernel presets it (Table 12-10). -/
def batchTable (b : Batch) (d : Dev) : List Byte :=
  padTo 64 (toLe 4 b.items.length ++ toLe 1 b.entry ++ toLe 1 (b2n (decide (1 ≤ d.therm.shlevel))) ++ [0, 0] ++ toLe 8 (now d) ++ toLe 8 (batchDeadline b)) ++
  b.items.flatMap fun i =>
    padTo 64 (toLe 4 i.lidx ++ toLe 2 (i.stream + 4096 * i.dir) ++ toLe 2 i.epoch ++ toLe 4 i.seq ++ toLe 2 i.row0 ++ toLe 2 i.nrows ++
      toLe 8 i.inaddr ++ toLe 4 i.inlen ++ toLe 4 (i.dir * 4096 + i.stream) ++ [0x0F, 0] ++ toLe 2 0 ++
      [0x00, 0x7E, 0x00, 0x7E, 0x00, 0x7E, 0x00, 0x7E] ++ toLe 4 0 ++ toLe 8 0 ++ toLe 8 i.deadline)

def itemReq (i : BItem) (kind : Nat) : Req :=
  { lidx := i.lidx, stream := i.stream, kind := kind, stage := i.stage, flush := false, prod := false, host := false, table := 0, epoch := i.epoch,
    seq := i.seq, input := [], plen := 0 }

/-- Commit the replies that wait, in order, as Sluice 157 + c has room (R269). A reply with BAD is rewound and marks its item (06 R117, R118). -/
def replyFlushN : Nat → Nat → Dev → Dev
  | 0, _, d => d
  | f + 1, c, d =>
    let k := core c d
    match k.replies with
    | [] => d
    | (p, bad) :: ps =>
      let n := 157 + c
      if bad then
        let d := coreSetC c { k with replies := ps } d
        replyFlushN f c (raise (16 + c) 3 (sluLost n p.lidx (fieldLe p.body 0 1 % 8) (bump (kSlu n 0) d)))
      else match putPkt n { p with gen := ugen (16 + c) d } d with
        | some d => replyFlushN f c (coreMod c (fun k => { k with replies := ps }) d)
        | none => d

def replyFlush (c : Nat) (d : Dev) : Dev := weirSettle (replyFlushN ((core c d).replies.length) c d)

/-- Queue a reply of the kernel. -/
def kernelReply (c : Nat) (q : Req) (body : List Byte) (bad : Bool) (d : Dev) : Dev :=
  coreMod c (fun k => { k with replies := k.replies ++ [({ stream := q.stream, kind := q.kind, lidx := q.lidx, body := body }, bad)] }) d

/-- Bytes of Mere with their poison. -/
def mereRun (a n : Nat) (d : Dev) : List Byte × Bool := bytesOf ((List.range n).map fun i => mereByte ((a + i) % mereSize) d)

/-- The reply of entry `j` of a finished batch (R138, R269). -/
def batchReply (k : Core) (j : Nat) (i : BItem) (d : Dev) : List Byte × Bool :=
  let a := k.batchK + 64 + 64 * j
  let (b, bad) := mereRun (a + 32) 24 d
  let n := fieldLe b 2 2
  let sa := fieldLe b 16 8
  let (sp, badS) := mereRun sa (if n ≤ 64 then 8 * n else 0) d
  let spans := (List.range (if n ≤ 64 then n else 0)).map fun x => (fieldLe sp (8 * x) 4, fieldLe sp (8 * x + 4) 4)
  let scores := (List.range 4).map fun x => BitVec.ofNat 16 (fieldLe b (4 + 2 * x) 2)
  let body := replyBody i.stage (fieldLe b 0 1 % 16) false k.twin scores (fieldLe b 12 4) i.epoch i.seq spans []
  (body.take 2 ++ toLe 2 n ++ body.drop 4, bad || badS)

/-- Ask for dispatch of the earliest closed batch (R267; 17 R380). -/
def longAsk (c : Nat) (d : Dev) : Dev :=
  let k := core c d
  if k.asked.isSome || k.running.isSome || k.closed.isEmpty then d
  else
    let best := k.closed.foldl (fun (a : Option Batch) b => match a with | none => some b | some x => if batchDeadline b < batchDeadline x then some b else some x) none
    match best with
    | none => d
    | some b =>
      let rest := k.closed.erase b
      let p := progOf b.slot k
      let q : DReq := { core := c, arrived := now d, eclass := fieldLe p.hdr 52 1 % 8, deadline := batchDeadline b,
                        prio := b.items.foldl (fun a i => min a i.prio) 3, ticks := (tabGet (fun _ => none) (k.lastRun.map fun (x : Nat × Nat) => (x.1, some x.2)) b.slot).getD d.therm.efirst }
      let d := coreSetC c { k with closed := b :: rest, asked := some (now d) } d
      { d with therm := { d.therm with reqs := d.therm.reqs ++ [q], evalNow := true } }

/-- The streams of a core end with its registers: they decline their groups' streams. -/
def handlesDrop (c : Nat) (d : Dev) : Dev :=
  let d := forN 4 (fun h d =>
    match handleOf h (core c d) with
    | some s => if s.named then d else streamQuit c s d
    | none => d) d
  coreMod c (fun k => { k with handles := k.handles.filter fun (x : Nat × Option Stream) => match x.2 with | some s => s.named | none => false }) d

/-- The end of a batch: the core returns to the kernel and takes the next. [log entry 40 DEDUCED] -/
def batchEnd (c : Nat) (d : Dev) : Dev :=
  let d := coreMod c (fun k => { k with prog := false, running := none, wait := .none, tileWait := false, held := [], ret := false, pc := 0, discard := 0, budget := 0, batches := (k.batches + 1) % 4294967296 }) d
  let d := { d with therm := { d.therm with evalNow := true } }
  longAsk c (replyFlush c d)

/-- RET with status 0 (R267, R269): one reply per item, in entry order. [log entry 40 DEDUCED] -/
def batchReturn (c : Nat) (d : Dev) : Dev :=
  let k := core c d
  match k.running with
  | none => d
  | some b =>
    let ks := (List.range b.items.length).zip b.items
    let d := foldSt ks (fun (j, i) d => let (body, bad) := batchReply k j i d; kernelReply c (itemReq i i.kind) body bad d) d
    let d := coreMod c (fun x => { x with lastRun := tabSet (fun _ => 0) x.lastRun b.slot (x.ticks - x.startTick) }) d
    batchEnd c d

/-- Sluices on which a program writes packets: their indices. -/
def progWrites : List Nat := [1, 4, 6, 7]

/-- An exception (R258, R259): cause, slot, EINFO and the word. In kernel mode the unit is to move to FAULTED. [log entries 42 DEDUCED, 44 DEDUCED] -/
def longExc (c cause slot info epc : Nat) (d : Dev) : Dev :=
  let k := core c d
  let pslot := match k.running with | some b => b.slot | none => 0
  let ec := cause + 256 * slot + 65536 * pslot
  let k := { k with epc := epc, ecause := ec, einfo := info, asm := [], held := [] }
  if !k.prog then coreSetC c { k with kfault := true } d
  else
    let d := coreSetC c { k with elog := ec % 4294967296, epcLog := epc % 4294967296 } d
    let d := raise (16 + c) 0 d
    let d := if cause = 9 then raise (16 + c) 1 d else d
    let d := if cause = 9 then foldSt progWrites (fun i d => sluBad (idxSluice c i) d) d else d
    match k.running with
    | none => coreMod c (fun k => { k with prog := false, wait := .none, tileWait := false, ret := false, pc := 0 }) d
    | some b =>
      let fa := fieldLe (progOf b.slot k).hdr 31 1
      let d := foldSt b.items (fun i d =>
        kernelReply c (itemReq i i.kind) (replyBody i.stage (if fa = 1 then 4 else 1) false k.twin noScores 0 i.epoch i.seq [] []) false d) d
      batchEnd c d

/-! ### Issuing a word -/

/-- The word's branch: next code offset, g31 of CALL, and the modes RET and ERET change. [log entry 41 DESIGN CHOICE] -/
def doControl (op : LOp) (k : Core) (r : Core) : Core :=
  let tgtOf := fun (x : Int) => low 64 x
  match op with
  | .ctl .br _ off => { r with pc := tgtOf ((k.pc : Int) + 64 * off) }
  | .ctl .jr a _ => { r with pc := (gRead a k).toNat }
  | .ctl .call _ off => { gPut 31 (BitVec.ofNat 64 (k.pc + 64)) false r with pc := tgtOf ((k.pc : Int) + 64 * off) }
  | .ctl .ret _ _ => { r with ret := true }
  | .ctl .eret _ _ => { r with prog := true, pc := k.entry }
  | _ => r

/-- An operation of an earlier word holds back every later one (R293). -/
def coreWaits (k : Core) : Bool := k.wait != .none || k.tileWait

/-- Issue a whole word on core c (R249, R258, R288). [log entry 41 DESIGN CHOICE] -/
def issueWord (c err : Nat) (ss : List Slot) (d : Dev) : Dev :=
  let k := core c d
  match wordIllegal ss with
  | some n => longExc c 1 n 0 k.pc d
  | none =>
    if codeSize k ≤ k.pc then longExc c 4 0 k.pc k.pc d
    else if wordWaits c k ss d then d
    else match wordExc c k ss d with
      | some (n, cause, info) => longExc c cause n info k.pc d
      | none =>
        let act := ss.filter (slotActs k)
        let r := { k with pc := k.pc + 64, asm := [], waitAt := k.pc, issued := k.ticks + 1 }
        let r := act.foldl (fun r s => doVector s.op k (doScalar c s.op k d r)) r
        let (r, d) := act.foldl (fun st s => doMem c err s.op k st) (r, d)
        let (r, d) := act.foldl (fun st s => doTile c s.op k st) (r, d)
        let (r, d) := act.foldl (fun st s => doStream c s.op k st) (r, d)
        let r := act.foldl (fun r s => doControl s.op k r) r
        let d := coreSetC c r d
        if r.ret && !coreWaits r then batchReturn c d else d

/-- Core c can issue the word `ss` now: an earlier word's operation holds it back no more, none has issued in this tick, and its units accept it
(R254, R293). -/
def canIssue (c : Nat) (ss : List Slot) (d : Dev) : Bool :=
  let k := core c d
  !coreWaits k && k.issued != k.ticks + 1 && ((wordIllegal ss).isSome || decide (codeSize k ≤ k.pc) || !wordWaits c k ss d)

/-- One slot of a word (R248): `more`: the word has further slots; else the whole word issues, or waits behind those that wait until it can (R254).
 [log entry 41 DESIGN CHOICE] -/
def longSlot (c : Nat) (s : Slot) (more : Bool) (err : Nat) (d : Dev) : Dev :=
  let k := core c d
  if !coreServes c d || k.kfault then d
  else
    let ss := (k.asm.filter fun t => t.slot != s.slot) ++ [s]
    if more then coreSetC c { k with asm := ss } d
    else if k.held.isEmpty && canIssue c ss d then issueWord c err ss (coreSetC c { k with asm := [] } d)
    else coreSetC c { k with asm := [], held := k.held ++ [(ss, err)] } d

/-- The first of the words that wait on core c issues, if it can. -/
def heldIssue (c : Nat) (d : Dev) : Dev :=
  let k := core c d
  match k.held with
  | (ss, err) :: ws => if coreServes c d && !k.kfault && canIssue c ss d then issueWord c err ss (coreSetC c { k with held := ws } d) else d
  | [] => d

/-! ### Waits (R262, R263, R290, R293) -/

/-- A waiting operation completes with this status. -/
def waitDone (c x : Nat) (d : Dev) : Dev :=
  let k := core c d
  let d := coreSetC c { k with wait := .none, xstat := x, ret := k.ret && k.tileWait } d
  if k.ret && !k.tileWait then batchReturn c d else d

/-- A TWAIT completes once every tile operation issued before it has finished (R256). -/
def tilesDone (c : Nat) (d : Dev) : Dev :=
  let k := core c d
  if !coreServes c d || !k.tileWait || !(basin c d).queue.isEmpty then d
  else
    let d := coreSetC c { k with tileWait := false, ret := k.ret && k.wait != .none } d
    if k.ret && k.wait == .none then batchReturn c d else d

/-- The group an SOPEN with G opens in: that of Basin c, if it is in one (R235). -/
def groupOf (c : Nat) (grp : Bool) (d : Dev) : Option Nat := let x := basin c d; if grp && x.groupEn then some x.gid else none

/-- Put the opened stream on its handle. -/
def openOn (c h : Nat) (s : Stream) (d : Dev) : Dev :=
  waitDone c (if s.twin then 5 else 0) (coreMod c (fun k => { handlePut h (some s) k with twin := k.twin || s.twin }) d)

/-- Core c has opened the stream of its group that is open now: a handle holds it, or an issued MAC. -/
def groupJoined (c : Nat) (s : Stream) (d : Dev) : Bool :=
  groupNeeds c s d || (List.range 4).any fun h => match handleOf h (core c d) with | some x => !x.named && x.group == s.group && sameStream x s | none => false

/-- Open the stream of a waiting SOPEN as a group stream (R235, R236), or as the core's own. A member whose issued MAC still needs the open stream waits
for its end and does not decline it (13, the layer program's W5). [log entry 63 DEDUCED] -/
def openGroup (c h : Nat) (s : Stream) (d : Dev) : Dev :=
  match s.group with
  | none => openOn c h s d
  | some g =>
    match gstrGet g d with
    | none =>
      let m := if g < 8 then groupMembers g d else if uready (8 + c) d then 2 ^ c else 0
      openOn c h s (if m = 0 then d else gstrPut g (some { st := s, members := m }) d)
    | some gs =>
      if sameStream gs.st s then
        let fresh := gs.next == 0 || gs.held.any (fun b => b.idx == 0 && !bitOf b.took c)
        if bitOf gs.members c && fresh && !groupJoined c gs.st d then openOn c h s d else d
      else if groupNeeds c gs.st d then d
      else groupQuit c g d

/-- Does a core take twins now (R242, 17 R383, R385): Shallows, and the program is eligible; nothing else depends on the level. -/
def takesTwin (k : Core) (d : Dev) : Bool := decide (1 ≤ d.therm.shlevel) && bitOf (fieldLe (runSlot k).hdr 6 2) 0

/-- The rows a SAPP reads, with their poison. -/
def sappRows (c addr n rowb : Nat) (d : Dev) : List (List Byte × Bool) := (List.range n).map fun i => coreLoad c (addr + i * rowb) rowb d

/-- Ask the peers for every remote part of the rows a session stream reads (16 R358). -/
def sessFetch (c : Nat) (e : SDirEnt) (row n : Nat) (d : Dev) : Dev :=
  foldSt ((List.range n).flatMap fun i => rowParts c e (row + i) d) (fun p d =>
    match p with
    | .there nd pg off len =>
      let keep := d.jetty.memdata.filter fun m => !(m.basin == c && m.node == nd && m.page == pg && m.off == off)
      memSend c false nd pg off len [] { d with jetty := { d.jetty with memdata := keep } }
    | _ => d) d

/-- Write an appended row: local bytes now, a peer's bytes by MEM requests (16 R358). -/
def sappRow (c : Nat) (e : SDirEnt) (i : Nat) (row : List Byte × Bool) (d : Dev) : Dev :=
  let parts := rowParts c e i d
  (parts.foldl (fun (st : Nat × Dev) p =>
    let (o, d) := st
    match p with
    | .here a n =>
      let d := hbmWrite a (slice row.1 o n) d
      (o + n, if row.2 then forN n (fun j d => hbmPoison1 (a + j) d) d else d)
    | .there nd pg off n => (o + n, memSend c true nd pg off n (slice row.1 o n) d)
    | .lost n => (o + n, d)
    | .unknown => st) (0, d)).2

/-- Try to open what core c's SOPEN waits for (R263, R290): HBM and session streams. A Ferry slot opens at the arrival of its block 0
(16 R364), or joins its group's open stream of the same identity while block 0 is held (R236). -/
def openTry (c h src : Nat) (grp : Bool) (a b lay ncol : Nat) (d : Dev) : Dev :=
  let k := core c d
  let p := runSlot k
  if 2 ≤ handlesOpen k then d
  else match src with
    | 0 =>
      let tw := fieldLe (strmEntry p a) 18 2
      let useTw := takesTwin k d && tw != 0xFFFF && fieldLe (strmEntry p a) 12 1 == 0
      let e := if useTw then tw else a
      openGroup c h (strmOf p e (.hbm (p.wgtAt + fieldLe (strmEntry p e) 0 8)) (groupOf c grp d) useTw) d
    | 2 =>
      let e := sessDir a d
      (match rowMiss c e (b + ncol - 1) d with
       | some p => tabFetch c p d
       | none => openOn c h (sessStream e a b lay ncol) (sessFetch c e b ncol d))
    | _ =>
      match groupOf c grp d with
      | none => d
      | some g => if (gstrGet g d).isSome then openGroup c h (strmOf p a (.ferry b) (some g) false) d else d

/-- An append finds no page (R240). -/
def appendFail (c : Nat) (d : Dev) : Dev := waitDone c 4 (raise (8 + c) 4 d)

/-- Try the append core c waits on (R240, R292): whole or nothing. `remote`: the peers' pages granted to it; `errs`: memory errors its source meets,
address and kind (R243, 14 R298). -/
def appendTry (c id addr n : Nat) (remote errs : List (Nat × Nat)) (d : Dev) : Dev :=
  let e := sessDir id d
  match (if e.rows = 0 then none else rowMiss c e (e.rows - 1) d) with
  | some p => tabFetch c p d
  | none =>
    let d := foldSt (errs.filter fun x => decide (addr ≤ x.1) && decide (x.1 < addr + n * e.rowb)) (fun x d => coreMemErr c x.2 x.1 d) d
    let rows := sappRows c addr n e.rowb d
    let held := d.hbm.pages
    match sessGrow n c remote e d with
    | none => appendFail c d
    | some (e', d') =>
      if (List.range n).any (fun i => (rowParts c e' (e.rows + i) d').any fun p => match p with | .lost _ => true | _ => false) then appendFail c d
      else
        let d := foldSt ((List.range n).zip rows) (fun (i, r) d => sappRow c e' (e.rows + i) r d) d'
        if d.jetty.memreq.any (fun q => q.write && q.basin == c) then
          let took := (d.hbm.pages.map (·.1)).filter fun p => !held.any (·.1 == p)
          coreMod c (fun k => { k with wait := .sent id n e'.rows e'.first e'.last took }) d
        else waitDone c 0 (sessDirPut id e' d)

/-- Every MEM write of the append has been acknowledged: ROWS advances. -/
def appendEnd (c id rows first last : Nat) (d : Dev) : Dev :=
  waitDone c 0 (sessDirPut id { sessDir id d with rows := rows, first := first, last := last } d)

/-- The packet a held word belongs to has turned bad: by the stall bound, or by a reset of its Sluice (R262; 06 R119, R126). -/
def slwrLost (n : Nat) (first : Bool) (d : Dev) : Bool := let s := slu n d; !first && (if s.opened then s.absorb && s.turned else !s.absorb)

/-- The held word is not written, and the program's later words for its packet are discarded up to the next FIRST (R262). -/
def slwrRewound (c i n : Nat) (d : Dev) : Dev :=
  let d := sluMod n (fun s => { s with opened := false, absorb := false, answer := false, turned := false, openN := 0 }) d
  waitDone c 2 (coreMod c (fun k => { k with discard := k.discard ||| 2 ^ i }) d)

/-- The operation core c waits on completes, if it can (R293). `errs`: memory errors the source of an append meets. -/
def queueOpComplete (c : Nat) (remote errs : List (Nat × Nat)) (d : Dev) : Dev :=
  if !coreServes c d then d
  else
    let d := tilesDone c d
    let k := core c d
    match k.wait with
    | .none => replyFlush c d
    | .open' h src grp a b lay ncol _ => openTry c h src grp a b lay ncol d
    | .write i data first last valid bad =>
      let n := idxSluice c i
      if slwrLost n first d then slwrRewound c i n d
      else (match slwrTry n data first last valid bad d with | some d => waitDone c 0 d | none => d)
    | .wait i _ => if sluVisible (idxSluice c i) d then waitDone c 0 d else d
    | .append id addr n => appendTry c id addr n remote errs d
    | .free id init => (match freeMiss c id d with | some p => tabFetch c p d | none => waitDone c 0 (sessEndNow c id init d))
    | .sent id _ rows first last _ => if d.jetty.memreq.any (fun q => q.write && q.basin == c) then d else appendEnd c id rows first last d
    | .read v seg g i =>
      (match sluRead (idxSluice c i) d with
       | (some x, d) => waitDone c (if x.abort then 3 else 0) (coreMod c (slrdDone v seg g x) d)
       | (none, d) => d)

/-- An SLWAIT ends: a packet has become visible, or it times out (R262). -/
def slwaitTimeout (c : Nat) (d : Dev) : Dev :=
  match (core c d).wait with
  | .wait i u => if !coreServes c d then d else if sluVisible (idxSluice c i) d then waitDone c 0 d else if due u d then waitDone c 1 d else d
  | _ => d

/-- A program runs past BUDGET (R258, R293). -/
def budgetExpiry (c : Nat) (d : Dev) : Dev :=
  let k := core c d
  if coreServes c d && k.prog && k.running.isSome && due k.budget d then
    longExc c 9 (if k.tileWait then 6 else if k.wait = .none then 0 else 7) 0 (if coreWaits k then k.waitAt else k.pc) d
  else d

/-! ### The kernel (R264 to R267) -/

/-- Close open batch `b`. [log entry 40 DEDUCED] -/
def batchClose (b : Batch) (k : Core) : Core := { k with openB := k.openB.erase b, closed := k.closed ++ [b] }

/-- A slot counts as stopped on core c (R265, R272, R273). [log entry 40 DEDUCED] -/
def slotStopped (c s : Nat) (d : Dev) : Bool :=
  tabGet (fun _ => false) d.longs.stopped s || tabGet (fun _ => false) d.longs.reload (16 * c + s)

/-- The kernel reads the request at the front of Sluice 149 + c (R265, R266). [log entry 40 DEDUCED] -/
def kernelRead (c : Nat) (d : Dev) : Dev :=
  let k := core c d
  let n := 149 + c
  if !coreServes c d || decide (8 ≤ k.closed.length) then d
  else match peekPkt n d with
    | none => d
    | some p =>
      let b := p.body
      let table := fieldLe b 2 2
      let s := table % 16
      let e := table / 16 % 16
      let stage := fieldLe b 0 1 % 8
      let epoch := fieldLe b 8 2
      let dir := fieldLe b 10 1 % 2
      let seq := fieldLe b 12 4
      let inlen := fieldLe b 4 4
      let q : Req := { lidx := p.lidx, stream := p.stream, kind := p.kind, stage := stage, flush := false, prod := false, host := false,
                       table := table, epoch := epoch, seq := seq, input := slice b 52 inlen, plen := inlen }
      let take := fun (d : Dev) => match takePkt n d with | some (_, d) => d | none => d
      if p.aborted then take d
      else if slotStopped c s d then
        (let d := take d
         putMarker (157 + c) (absentPkt (157 + c) (p.stream, p.lidx, stage) d) d)
      else
        let ps := progOf s k
        if ps.hdr.isEmpty ∨ fieldLe ps.hdr 30 1 ≤ e ∨ fieldLe b 1 1 % 4 ≠ fieldLe ps.hdr 53 1 ∨ 256 ≤ table then
          replyFlush c (kernelReply c q (replyBody stage 1 false false noScores 0 epoch seq [] []) false (raise (16 + c) 2 (take d)))
        else
          let rowsmax := fieldLe ps.hdr 32 2
          let lanes := if fieldLe ps.hdr 53 1 = 1 then max 1 (min rowsmax (inlen / 4)) else rowsmax
          match inputPlace c inlen k with
          | none => d
          | some at' =>
            let d := mereWrite at' q.input (take d)
            let k := core c d
            let mine := k.openB.find? fun x => x.slot == s && x.entry == e
            let (k, cur) := match mine with
              | some x => if x.lane + lanes ≤ 512 then ({ k with openB := k.openB.erase x }, x)
                          else (batchClose x k, { slot := s, entry := e, items := [], lane := fieldLe ps.hdr 34 2, openAt := now d, input := 0 })
              | none => (k, { slot := s, entry := e, items := [], lane := fieldLe ps.hdr 34 2, openAt := now d, input := 0 })
            let it : BItem := { lidx := p.lidx, stream := p.stream, dir := dir, kind := p.kind, epoch := epoch, seq := seq, stage := stage, row0 := cur.lane,
                                nrows := lanes, inaddr := at', inlen := inlen, deadline := fieldLe b 16 8, prio := rPrio (routeAt (fieldLe b 11 1) epoch d) }
            let cur := { cur with items := cur.items ++ [it], lane := cur.lane + lanes }
            let k := if cur.lane = 512 ∧ k.closed.length < 8 then { k with closed := k.closed ++ [cur] } else { k with openB := k.openB ++ [cur] }
            longAsk c (coreSetC c k d)

/-- Open batches whose time has come close, while the kernel holds fewer than 8 closed ones (R266). [log entry 40 DEDUCED] -/
def batchTimer (c : Nat) (d : Dev) : Dev :=
  if !coreServes c d then d
  else
    let dueB := fun (b : Batch) (k : Core) =>
      let p := progOf b.slot k
      b.lane == 512 || due (b.openAt + fieldLe p.hdr 36 8) d || due (batchDeadline b - fieldLe p.hdr 44 8) d
    longAsk c (coreMod c (fun k => (k.openB.filter (dueB · k)).foldl (fun k b => if k.closed.length < 8 then batchClose b k else k) k) d)

/-- v and t registers at entry: values the spec leaves undefined (R267). [log entry 5 DESIGN CHOICE] -/
def freeRegs (k : Core) (d : Dev) : Core × Dev :=
  let (k, d) := (List.range 16).foldl (fun (st : Core × Dev) n =>
    let (x, d) := draw st.2; (vPut n (toLe 512 x) (fun _ => false) st.1, d)) (k, d)
  (List.range 8).foldl (fun (st : Core × Dev) n => let (x, d) := draw st.2; (tPut n (toLe 16 x) false st.1, d)) (k, d)

/-- A grant reaches the kernel of core c (R267): the batch table is written and the program entered. [log entry 40 DEDUCED] -/
def dispatchGrant (c : Nat) (d : Dev) : Dev :=
  if !coreServes c d then d
  else match (core c d).closed, (core c d).asked, (core c d).running with
    | b :: rest, some _, none =>
      (match takePkt (181 + 8 * c) d with
       | none => d
       | some (_, d) =>
         let d := mereWrite (batchArea c) (batchTable b d) d
         let k := core c d
         let p := progOf b.slot k
         let k := { k with closed := rest, asked := none, running := some b, prog := true, batchK := batchArea c, dataK := p.dataAt, asm := [], held := [], wait := .none, tileWait := false,
                           ret := false, twin := false, discard := 0, g := [], gP := [], p := 1, startAt := now d, startTick := k.ticks,
                           budget := now d + fieldLe p.hdr 44 8, entry := fieldLe p.hdr (64 + 4 * b.entry) 4, pc := fieldLe p.hdr (64 + 4 * b.entry) 4 }
         let k := gPut 1 (BitVec.ofNat 64 (batchArea c)) false (gPut 2 (BitVec.ofNat 64 b.items.length) false (gPut 3 (BitVec.ofNat 64 b.entry) false k))
         let (k, d) := freeRegs k d
         coreSetC c k d)
    | _, _, _ => d

/-! ### Reset and slots (R272, R273) -/

/-- Core c's reset instant: registers, batches and queued requests are lost; program slots are kept, but for OFF. -/
def longReset (c : Nat) (toOff : Bool) (d : Dev) : Dev :=
  let k := core c d
  let bs := (match k.running with | some b => [b] | none => []) ++ k.closed ++ k.openB
  let inside := (bs.flatMap fun b => b.items.map fun i => (i.stream, i.lidx, i.stage)) ++ k.replies.map fun (p, _) => pktKey p
  let d := handlesDrop c d
  let fresh : Core := { slots := if toOff then [] else k.slots, elog := k.elog, epcLog := k.epcLog, batches := k.batches, lastRun := if toOff then [] else k.lastRun }
  let d := coreSetC c fresh d
  let d := { d with therm := { d.therm with reqs := d.therm.reqs.filter fun q => q.core != c } }
  let d := foldSt [176, 178, 181] (fun n d => (sluConsReset (n + 8 * c) d).2) d
  let d := foldSt [182, 183] (fun n d => sluMod (n + 8 * c) sluEmpty d) d
  let d := (sluConsReset (idxSluice c 8) d).2
  engineReset (16 + c) (149 + c) (157 + c) inside d

/-- Program slot `s` is in use: a Basin program stage of a live epoch of a valid route names it (R272). -/
def progInUse (s : Nat) (d : Dev) : Bool := slotInUse 4 (· % 16) s d

/-- Code bytes of a core's slots. -/
def codeUsed (k : Core) : Nat := k.slots.foldl (fun a (x : Nat × ProgSlot) => a + fieldLe x.2.hdr 8 4) 0

end Sys2Proof.Machine
end

