-- ==== Sys2Proof/Machine/ConfigOps.lean ====
section
/-!
DEFINITION. Machine/ConfigOps.lean: the body of a CONFIG record (19 R435) and the packs and programs it names for the reload after ON (08 R180,
09 R200, 10 R220, 12 R273).
-/
namespace Sys2Proof.Machine

/-- The entries of a CONFIG body, TAG and value, where it is well formed. -/
def cfgEntries : Nat → List Byte → Option (List (Nat × List Byte))
  | 0, b => if b.isEmpty then some [] else none
  | f + 1, b =>
    if b.isEmpty then some []
    else
      let n := fieldLe b 2 2
      let step := (4 + n + 3) / 4 * 4
      if b.length < step then none
      else (cfgEntries f (b.drop step)).map fun es => (fieldLe b 0 2, slice b 4 n) :: es

def cfgList (b : List Byte) : List (Nat × List Byte) := (cfgEntries (b.length / 4 + 1) b).getD []

/-- A known tag, with a value of the length Table 19-5 gives. [log entry 55 DEDUCED] -/
def cfgTagOk (x : Nat × List Byte) : Bool :=
  let n := x.2.length
  match x.1 with
  | 1 => n == 4 | 2 => n == 2
  | 3 => decide (4 ≤ n) && n == 4 + 4 * fieldLe x.2 2 2
  | 4 => n == 128 | 5 => n == 36 | 6 => n == 4
  | 7 => n == 4 && decide (fieldLe x.2 0 1 < 16) && fieldLe x.2 1 1 == 0
  | 8 => n == 4 | 9 => n == 128 | 10 => n == 8 | 11 => n == 8 | 12 => n == 4 | 13 => n == 20 | 14 => n == 20
  | _ => false

/-- A CONFIG body a load accepts (R435). [log entry 55 DEDUCED] -/
def cfgOk (b : List Byte) : Bool :=
  match cfgEntries (b.length / 4 + 1) b with
  | none => false
  | some es => es.all cfgTagOk

/-- One entry as bytes. -/
def cfgEntry (tag : Nat) (v : List Byte) : List Byte := toLe 2 tag ++ toLe 2 v.length ++ padTo ((v.length + 3) / 4 * 4) v

def cfgBytes (es : List (Nat × List Byte)) : List Byte := es.flatMap fun e => cfgEntry e.1 e.2

/-- A body with the first entry of a tag replaced, or the entry added. -/
def cfgPut (tag : Nat) (v : List Byte) (b : List Byte) : List Byte :=
  let es := cfgList b
  if es.any fun e => e.1 == tag then cfgBytes (es.map fun e => if e.1 = tag then (tag, v) else e) else b ++ cfgEntry tag v

/-- A load of tag 0x0008: engine, slot, image, cores. -/
structure CfgLoad where
  engine : Nat
  slot   : Nat
  image  : Nat
  cores  : Nat
  deriving DecidableEq, Repr

def cfgLoads (b : List Byte) : List CfgLoad :=
  ((cfgList b).filter fun e => e.1 == 8).map fun e =>
    { engine := fieldLe e.2 0 1, slot := fieldLe e.2 1 1, image := fieldLe e.2 2 1, cores := fieldLe e.2 3 1 }

/-- Slots an engine's loads name. -/
def cfgSlots (engine : Nat) (b : List Byte) : List Nat := ((cfgLoads b).filter fun l => l.engine == engine).map (·.slot)

/-- The slots a unit is to be given again after an ON, set as it goes OFF, and at boot until the loads phase has
loaded them (R180, R200, R220, R273). -/
def reloadMark (n : Nat) (d : Dev) : Dev :=
  let b := d.boot.config
  match n with
  | 4 => { d with reed := { d.reed with reload := cfgSlots 1 b } }
  | 5 => { d with shoal := { d.shoal with reload := cfgSlots 2 b } }
  | 6 => { d with tarn := { d.tarn with reload := cfgSlots 3 b } }
  | _ =>
    if 16 ≤ n ∧ n < 24 then
      let c := n - 16
      foldSt ((cfgLoads b).filter fun l => l.engine == 4 && bitOf l.cores c) (fun l d =>
        { d with longs := { d.longs with reload := tabSet (fun _ => false) d.longs.reload (16 * c + l.slot % 16) true } }) d
    else d

end Sys2Proof.Machine
end

