-- ==== Sys2Proof/Machine/CryptoSig.lean ====
section
/-!
DEFINITION. Machine/CryptoSig.lean: SHA-384 (FIPS 180-4) and the verification of ECDSA signatures on P-384 (FIPS 186-5), the algorithms
19 names for images. PRESUMED: the standards the rules name, not repeated in the spec.
-/
namespace Sys2Proof.Machine

/-- The 80 round constants, word i at bits [64i+63:64i], written most significant part first. -/
def shaKN : Nat := List.foldl (fun a b => a * 2 ^ 256 + b) 0
  [0x6C44198C4A4758175FCB6FAB3AD6FAEC597F299CFC657E2A4CC5D4BECB3E42B6,
   0x431D67C49C100D4C3C9EBE0A15C9BEBC32CAAB7B40C7249328DB77F523047D84,
   0x1B710B35131C471B113F9804BEF90DAE0A637DC5A2C898A606F067AA72176FBA,
   0xF57D4F7FEE6ED178EADA7DD6CDE0EB1ED186B8C721C0C207CA273ECEEA26619C,
   0xC67178F2E372532BBEF9A3F7B2C67915A4506CEBDE82BDE990BEFFFA23631E28,
   0x8CC702081A6439EC84C87814A1F0AB7278A5636F43172F60748F82EE5DEFB2FC,
   0x682E6FF3D6B2B8A35B9CCA4F7763E3734ED8AA4AE3418ACB391C0CB3C5C95A63,
   0x34B0BCB5E19B48A82748774CDF8EEB991E376C085141AB5319A4C116B8D2D0C8,
   0x106AA07032BBD1B8F40E35855771202AD69906245565A910D192E819D6EF5218,
   0xC76C51A30654BE30C24B8B70D0F89791A81A664BBC423001A2BFE8A14CF10364,
   0x92722C851482353B81C2C92E47EDAEE6766A0ABB3C77B2A8650A73548BAF63DE,
   0x53380D139D95B3DF4D2C6DFC5AC42AED2E1B21385C26C92627B70A8546D22FFC,
   0x142929670A0E6E7006CA6351E003826FD5A79147930AA725C6E00BF33DA88FC2,
   0xBF597FC7BEEF0EE4B00327C898FB213FA831C66D2DB43210983E5152EE66DFAB,
   0x76F988DA831153B55CB0A9DCBD41FBD44A7484AA6EA6E4832DE92C6F592B0275,
   0x240CA1CC77AC9C650FC19DC68B8CD5B5EFBE4786384F25E3E49B69C19EF14AD2,
   0xC19BF174CF6926949BDC06A725C7123580DEB1FE3B1696B172BE5D74F27B896F,
   0x550C7DC3D5FFB4E2243185BE4EE4B28C12835B0145706FBED807AA98A3030242,
   0xAB1C5ED5DA6D8118923F82A4AF194F9B59F111F1B605D0193956C25BF348B538,
   0xE9B5DBA58189DBBCB5C0FBCFEC4D3B2F7137449123EF65CD428A2F98D728AE22]

/-! The words are packed in numbers, word 0 the most significant, and the operations are those of `Nat` by name: Lean's kernel evaluates them
at once. -/

/-- The low 64 bits. -/
def w64 (x : Nat) : Nat := Nat.mod x 0x10000000000000000

/-- Word `i` of the `n` words packed in `w`. -/
def shaW (n w i : Nat) : Nat := w64 (Nat.shiftRight w (Nat.mul 64 (Nat.sub (Nat.sub n 1) i)))

/-- One more word at the end. -/
def shaSnoc (w x : Nat) : Nat := Nat.add (Nat.mul w 0x10000000000000000) x

def shaK (i : Nat) : Nat := w64 (Nat.shiftRight shaKN (Nat.mul 64 i))

def rot64 (n x : Nat) : Nat := Nat.lor (Nat.shiftRight x n) (w64 (Nat.shiftLeft x (Nat.sub 64 n)))
def not64 (x : Nat) : Nat := Nat.sub 0xFFFFFFFFFFFFFFFF x
def xor3 (x y z : Nat) : Nat := Nat.xor (Nat.xor x y) z

/-- The next word of the message schedule, from the latest 16. -/
def shaNextW (w : Nat) : Nat :=
  let a := shaW 16 w 1
  let b := shaW 16 w 14
  let s0 := xor3 (rot64 1 a) (rot64 8 a) (Nat.shiftRight a 7)
  let s1 := xor3 (rot64 19 b) (rot64 61 b) (Nat.shiftRight b 6)
  w64 (Nat.add (Nat.add (shaW 16 w 0) s0) (Nat.add (shaW 16 w 9) s1))

/-- One round on the eight working variables. -/
def shaRound (k w v : Nat) : Nat :=
  let a := shaW 8 v 0
  let b := shaW 8 v 1
  let c := shaW 8 v 2
  let d := shaW 8 v 3
  let e := shaW 8 v 4
  let f := shaW 8 v 5
  let g := shaW 8 v 6
  let s1 := xor3 (rot64 14 e) (rot64 18 e) (rot64 41 e)
  let ch := Nat.xor (Nat.land e f) (Nat.land (not64 e) g)
  let t1 := Nat.add (Nat.add (Nat.add (shaW 8 v 7) s1) (Nat.add ch k)) w
  let s0 := xor3 (rot64 28 a) (rot64 34 a) (rot64 39 a)
  let mj := xor3 (Nat.land a b) (Nat.land a c) (Nat.land b c)
  shaSnoc (shaSnoc (shaSnoc (shaSnoc (shaSnoc (shaSnoc (shaSnoc (w64 (Nat.add t1 (Nat.add s0 mj))) a) b) c) (w64 (Nat.add d t1))) e) f) g

/-- The 80 rounds, `n` of them left. -/
def shaRounds : Nat → Nat → Nat → Nat
  | 0, _, v => v
  | n + 1, w, v => shaRounds n (Nat.mod (shaSnoc w (shaNextW w)) (Nat.pow 2 1024)) (shaRound (shaK (Nat.sub 79 n)) (shaW 16 w 0) v)

/-- The sum word by word of the first `n` of eight words. -/
def shaAdd (h v : Nat) : Nat → Nat
  | 0 => 0
  | n + 1 => shaSnoc (shaAdd h v n) (w64 (Nat.add (shaW 8 h n) (shaW 8 v n)))

/-- One block of 1,024 bits. -/
def shaBlock (h w : Nat) : Nat := shaAdd h (shaRounds 80 w h) 8

def shaInit : Nat := List.foldl shaSnoc 0 [0xCBBB9D5DC1059ED8, 0x629A292A367CD507, 0x9159015A3070DD17, 0x152FECD8F70E5939, 0x67332667FFC00B31, 0x8EB44A8768581511, 0xDB0C2E0D64F98FA7, 0x47B5481DBEFA4FA4]

/-- The last `n` blocks of the padded message `m`. -/
def shaBlocks : Nat → Nat → Nat → Nat
  | 0, _, h => h
  | n + 1, m, h => shaBlocks n m (shaBlock h (Nat.mod (Nat.shiftRight m (Nat.mul 1024 n)) (Nat.pow 2 1024)))

/-- SHA-384: the message, a 1 bit, zeros and its length in 16 bytes, in blocks of 128 bytes. [log entry 18 PRESUMED] -/
def sha384 (m : List Byte) : List Byte :=
  let z := (239 - m.length % 128) % 128
  let p := m ++ [0x80] ++ List.replicate z 0 ++ toBe 16 (8 * m.length)
  toBe 48 (Nat.shiftRight (shaBlocks (p.length / 128) (ofBe p) shaInit) 128)

/-! ### P-384 -/

def p384P : Nat := 2 ^ 384 - 2 ^ 128 - 2 ^ 96 + 2 ^ 32 - 1
def p384N : Nat := 0xFFFFFFFFFFFFFFFFFFFFFFFFFFFFFFFFFFFFFFFFFFFFFFFFC7634D81F4372DDF581A0DB248B0A77AECEC196ACCC52973
def p384B : Nat := 0xB3312FA7E23EE7E4988E056BE3F82D19181D9C6EFE8141120314088F5013875AC656398D8A2ED19D2A85C8EDD3EC2AEF
def p384Gx : Nat := 0xAA87CA22BE8B05378EB1C71EF320AD746E1D3B628BA79B9859F741E082542A385502F25DBF55296C3A545E3872760AB7
def p384Gy : Nat := 0x3617DE4A96262C6F5D9E98BF9292DC29F8F41DBD289A147CE9DA3113B5F0B8C00A60B1CE1D7E819D7A431D7C90EA0E5F

/-- b^e modulo m: `n` bits of e from the top. -/
def powMod : Nat → Nat → Nat → Nat → Nat → Nat
  | 0, _, _, _, r => r
  | n + 1, b, e, m, r =>
    let r := r * r % m
    powMod n b e m (if (e >>> n) % 2 = 1 then r * b % m else r)

/-- The inverse modulo a prime. -/
def invMod (a m : Nat) : Nat := powMod 384 a (m - 2) m 1

/-- A point in Jacobian coordinates, z = 0 the point at infinity; arithmetic modulo p. -/
def pSub (a b : Nat) : Nat := (a + (p384P - b % p384P)) % p384P

def ecDouble : Nat × Nat × Nat → Nat × Nat × Nat
  | (x, y, z) =>
    if z = 0 ∨ y = 0 then (1, 1, 0)
    else
      let zz := z * z % p384P
      let m := 3 * (pSub x zz) * (x + zz) % p384P
      let yy := y * y % p384P
      let s := 4 * x * yy % p384P
      let x3 := pSub (m * m) (2 * s)
      (x3, pSub (m * pSub s x3) (8 * yy * yy), 2 * y * z % p384P)

def ecAdd : Nat × Nat × Nat → Nat × Nat × Nat → Nat × Nat × Nat
  | (x1, y1, z1), (x2, y2, z2) =>
    if z1 = 0 then (x2, y2, z2)
    else if z2 = 0 then (x1, y1, z1)
    else
      let a := z1 * z1 % p384P
      let b := z2 * z2 % p384P
      let u1 := x1 * b % p384P
      let u2 := x2 * a % p384P
      let s1 := y1 * b * z2 % p384P
      let s2 := y2 * a * z1 % p384P
      let h := pSub u2 u1
      let r := pSub s2 s1
      if h = 0 then (if r = 0 then ecDouble (x1, y1, z1) else (1, 1, 0))
      else
        let hh := h * h % p384P
        let hhh := h * hh % p384P
        let v := u1 * hh % p384P
        let x3 := pSub (r * r) (hhh + 2 * v)
        (x3, pSub (r * pSub v x3) (s1 * hhh), h * z1 * z2 % p384P)

/-- j p + k q, `n` bits of j and k from the top; pq is p + q. -/
def ecMul2 : Nat → Nat → Nat → Nat × Nat × Nat → Nat × Nat × Nat → Nat × Nat × Nat → Nat × Nat × Nat → Nat × Nat × Nat
  | 0, _, _, _, _, _, r => r
  | n + 1, j, k, p, q, pq, r =>
    let r := ecDouble r
    ecMul2 n j k p q pq
      (if (j >>> n) % 2 = 1 then (if (k >>> n) % 2 = 1 then ecAdd r pq else ecAdd r p)
       else (if (k >>> n) % 2 = 1 then ecAdd r q else r))

/-- Whether (x, y) is a point of the curve. -/
def ecOn (x y : Nat) : Bool := x < p384P && y < p384P && (y * y + 3 * x) % p384P == (x * x * x + p384B) % p384P

/-- ECDSA P-384 over SHA-384: public key 96 bytes (X, Y), signature 96 bytes (r, s), each 48 bytes big-endian. [log entry 18 PRESUMED] -/
def ecdsaOk (pub m sig : List Byte) : Bool :=
  let x := ofBe (slice pub 0 48)
  let y := ofBe (slice pub 48 48)
  let r := ofBe (slice sig 0 48)
  let s := ofBe (slice sig 48 48)
  if !ecOn x y || r == 0 || s == 0 || decide (p384N ≤ r) || decide (p384N ≤ s) then false
  else
    let e := ofBe (sha384 m)
    let w := invMod s p384N
    let g := (p384Gx, p384Gy, 1)
    match ecMul2 384 (e * w % p384N) (r * w % p384N) g (x, y, 1) (ecAdd g (x, y, 1)) (1, 1, 0) with
    | (qx, _, qz) =>
      if qz = 0 then false
      else
        let zi := invMod qz p384P
        (qx * zi % p384P * zi % p384P) % p384N == r

end Sys2Proof.Machine
end

