-- ==== Sys2Proof/Machine/ImageOps.lean ====
section
/-!
DEFINITION. Machine/ImageOps.lean: signed images (19 R424 to R426), where they are read from (R433, R434), and the checks a load makes (R476).
-/
namespace Sys2Proof.Machine

/-! ### Reading an image -/

/-- Bytes read from a source, and whether a read failed: a failed byte reads 0. -/
def readRun (rd : Nat → Option Byte) (a n : Nat) : List Byte × Bool :=
  let l := (List.range n).map fun i => rd (a + i)
  (l.map (·.getD 0), l.any (·.isNone))

/-- A header and the payload its PLEN names, where both end by `lim`; else no bytes. -/
def readImage (rd : Nat → Option Byte) (a lim : Nat) : List Byte × Bool :=
  if lim < a + 1024 then ([], false)
  else
    let (h, x) := readRun rd a 1024
    let n := fieldLe h 16 8
    if lim < a + 1024 + n then (h, x) else let (p, y) := readRun rd (a + 1024) n; (h ++ p, x || y)

def stageLo : Nat := 0x6000000
def stageHi : Nat := 0x8000000

/-- Where the kernel batch areas of absent cores, which behave as the staging area, begin and end (14 R296). -/
def spareLo (d : Dev) : Nat := 0x400000 + 0x100000 * nBasin d.fuse.variant
def spareHi : Nat := 0xC00000

/-- An address in the Mere staging area, or in an absent core's batch area (14 R296, Table 14-2). -/
def inStage (a : Nat) (d : Dev) : Bool :=
  (decide (stageLo ≤ a) && decide (a < stageHi)) || (decide (spareLo d ≤ a) && decide (a < spareHi))

/-- The end of the area an address of `inStage` lies in. -/
def stageEnd (a : Nat) : Nat := if a < spareHi then spareHi else stageHi

/-- A byte of the flash; an erased one reads 0xFF (R417). [log entry 11 DESIGN CHOICE] -/
def flashByte (a : Nat) (d : Dev) : Byte := memByte 0xFF d.boot.flash a
def flashSize : Nat := 0x4000000

def imageMere (a : Nat) (d : Dev) : List Byte × Bool := readImage (fun x => mereByte x d) a (stageEnd a)
def imageFlash (a lim : Nat) (d : Dev) : List Byte × Bool := readImage (fun x => some (flashByte x d)) a lim

/-- The bytes of a copy in the image store or in HBM (R433). -/
def imageEnt (e : DirEnt) (d : Dev) : List Byte × Bool :=
  if e.hbm then readImage (fun x => hbmByte x d) e.addr (e.addr + e.len) else imageFlash e.addr (e.addr + e.len) d

/-- The active copy of image `n`. -/
def dirActive (n : Nat) (d : Dev) : Option DirEnt := d.boot.dir.find? fun e => e.n == n && e.active

/-- Where a load reads from. -/
def imageOf (s : LoadSrc) (d : Dev) : List Byte × Bool :=
  match s with
  | .image n => match dirActive n d with | some e => imageEnt e d | none => ([], false)
  | .mere a => imageMere a d

/-! ### Fields and checks -/

def imgType (b : List Byte) : Nat := fieldLe b 6 1
def imgVersion (b : List Byte) : Nat := fieldLe b 8 4
def imgSvn (b : List Byte) : Nat := fieldLe b 12 4
def imgPlen (b : List Byte) : Nat := fieldLe b 16 8
def imgPayload (b : List Byte) : List Byte := b.drop 1024
def imgNCompat (b : List Byte) : Nat := fieldLe b 168 2

/-- A compatibility entry (R426): SUBJECT, RESULT, VALUE. -/
def imgCompat (b : List Byte) : List (Nat × Nat × Nat) :=
  (List.range (imgNCompat b)).map fun i => (fieldLe b (256 + 8 * i) 1, fieldLe b (257 + 8 * i) 1, fieldLe b (260 + 8 * i) 4)

/-- SHOREMIN and KERNMIN in force: the fuses as acceptances have raised them (R430). -/
def minSvn (t : Nat) (d : Dev) : Nat := if t = 1 then d.fuse.shoreMin else if t = 2 then d.fuse.kernMin else 0

/-- The image rules, steps 1 to 5 of R425, by name. `bad`: a byte of it could not be read. -/
def imageRules (types : List Nat) (b : List Byte) (bad : Bool) (d : Dev) : List (String × Bool) :=
  let t := imgType b
  let k := fieldLe b 7 1
  [("image-format", decide (1024 ≤ b.length) && fieldLe b 0 4 == 0x4D49584D && fieldLe b 4 2 == 1 && types.contains t && decide (imgNCompat b ≤ 64) &&
      (List.range (imgNCompat b)).all (fun i => fieldLe b (258 + 8 * i) 2 == 0) && allZero (slice b 170 86) && allZero (slice b (256 + 8 * imgNCompat b) (512 - 8 * imgNCompat b)) && allZero (slice b 768 160)),
   ("image-key", decide (k < 4) && sha384 (slice b 72 96) == d.fuse.keys.getD k [] && !bitOf d.fuse.revoked k),
   ("image-sig", ecdsaOk (slice b 72 96) (b.take 928) (slice b 928 96)),
   ("image-svn", !(t == 1 || t == 2) || (decide (minSvn t d ≤ imgSvn b) && decide (imgSvn b ≤ 63))),
   ("image-hash", !bad && b.length == 1024 + imgPlen b && sha384 (imgPayload b) == slice b 24 48)]

/-- The RESULT 3 entries of a pack or model that the running images do not meet. -/
def compatOk (b : List Byte) (d : Dev) : Bool :=
  (imgCompat b).all fun (s, r, v) => r != 3 || ((s != 3 || decide (v ≤ d.boot.shorever)) && (s != 4 || decide (v ≤ d.boot.kernver)))

/-- The first check a pack or model load fails before its payload's own checks (R476). -/
def imageCheck (t : Nat) (b : List Byte) (bad : Bool) (d : Dev) : Option String :=
  firstFail (imageRules [t] b bad d ++ [("compat", compatOk b d)])

end Sys2Proof.Machine
end

