-- ==== Sys2Proof/Machine/CryptoAes.lean ====
section
/-!
DEFINITION. Machine/CryptoAes.lean: AES-256 in Galois/Counter Mode (NIST FIPS 197, SP 800-38D), the cipher 16 R355 puts on an encrypted Jetty
link. PRESUMED: the standards the rule names, not repeated in the spec.
-/
namespace Sys2Proof.Machine

/-- The substitution box: byte i stands at bits [8i+7:8i] of one number, written most significant part first. -/
def aesBoxN : Nat := List.foldl (fun a b => a * 2 ^ 256 + b) 0
  [0x16BB54B00F2D99416842E6BF0D89A18CDF2855CEE9871E9B948ED9691198F8E1,
   0x9E1DC186B95735610EF6034866B53E708A8BBD4B1F74DDE8C6B4A61C2E2578BA,
   0x08AE7A65EAF4566CA94ED58D6D37C8E779E4959162ACD3C25C2406490A3A32E0,
   0xDB0B5EDE14B8EE4688902A22DC4F816073195D643D7EA7C41744975FEC130CCD,
   0xD2F3FF1021DAB6BCF5389D928F40A351A89F3C507F02F94585334D43FBAAEFD0,
   0xCF584C4A39BECB6A5BB1FC20ED00D153842FE329B3D63B52A05A6E1B1A2C8309,
   0x75B227EBE28012079A059618C323C7041531D871F1E5A534CCF73F362693FDB7,
   0xC072A49CAFA2D4ADF04759FA7DC982CA76ABD7FE2B670130C56F6BF27B777C63]

def aesSub (b : Nat) : Nat := (aesBoxN >>> (8 * b)) % 256

/-- Multiply by x in GF(2^8). -/
def aesX (b : Nat) : Nat := if 128 ≤ b then (2 * b) % 256 ^^^ 0x1B else 2 * b

/-- The key schedule: 60 words of four bytes, from the 8 words of the key. `i`: the next word's number. -/
def aesExpand : Nat → Nat → List (List Nat) → List (List Nat)
  | 0, _, ws => ws
  | n + 1, i, ws =>
    let p := ws.getD (i - 1) []
    let t := if i % 8 = 0 then
        let r := (p.drop 1 ++ p.take 1).map aesSub
        match r with
        | a :: r => (a ^^^ 2 ^ (i / 8 - 1)) :: r
        | [] => []
      else if i % 8 = 4 then p.map aesSub else p
    aesExpand n (i + 1) (ws ++ [List.zipWith (· ^^^ ·) (ws.getD (i - 8) []) t])

/-- The 15 round keys of a 32-byte key, 16 bytes each. -/
def aesKeys (key : List Byte) : List (List Nat) :=
  let k := key.map (·.toNat)
  let ws := aesExpand 52 8 ((List.range 8).map fun i => slice k (4 * i) 4)
  (List.range 15).map fun r => (slice ws (4 * r) 4).flatten

/-- ShiftRows on 16 bytes in column order. -/
def aesShift (s : List Nat) : List Nat := (List.range 16).map fun i => s.getD ((i + 4 * (i % 4)) % 16) 0

/-- MixColumns. -/
def aesMix (s : List Nat) : List Nat := (List.range 16).map fun i =>
  let c := 4 * (i / 4)
  let g := fun k => s.getD (c + (i + k) % 4) 0
  aesX (g 0) ^^^ aesX (g 1) ^^^ g 1 ^^^ g 2 ^^^ g 3

/-- One round but the last. -/
def aesRounds : List (List Nat) → List Nat → List Nat
  | [], s => s
  | [k], s => List.zipWith (· ^^^ ·) (aesShift (s.map aesSub)) k
  | k :: ks, s => aesRounds ks (List.zipWith (· ^^^ ·) (aesMix (aesShift (s.map aesSub))) k)

/-- Encrypt one block under expanded keys. [log entry 18 PRESUMED] -/
def aesBlock (ks : List (List Nat)) (b : List Nat) : List Nat :=
  match ks with
  | [] => b
  | k :: ks => aesRounds ks (List.zipWith (· ^^^ ·) b k)

/-- A block's bytes as a number, first byte highest, and back. -/
def blkN (b : List Nat) : Nat := b.foldl (fun a x => a * 256 + x) 0
def nBlk (v : Nat) : List Nat := (List.range 16).map fun i => (v >>> (8 * (15 - i))) % 256

/-- The product in GF(2^128) of GCM: bit 0 is the highest. -/
def gcmMulN : Nat → Nat → Nat → Nat → Nat
  | 0, _, _, z => z
  | n + 1, x, v, z =>
    let z := if (x >>> n) % 2 = 1 then z ^^^ v else z
    gcmMulN n x (if v % 2 = 1 then (v >>> 1) ^^^ (0xE1 <<< 120) else v >>> 1) z
def gcmMul (x y : Nat) : Nat := gcmMulN 128 x y 0

/-- GHASH over blocks as numbers. [log entry 18 PRESUMED] -/
def ghash (h : Nat) (bs : List Nat) : Nat := bs.foldl (fun y b => gcmMul (y ^^^ b) h) 0

/-- Cut bytes into blocks of 16, the last filled with zeros. -/
def gcmBlocks (l : List Byte) : List Nat :=
  (List.range ((l.length + 15) / 16)).map fun i => blkN ((padTo 16 (slice l (16 * i) 16)).map (·.toNat))

/-- Counter mode from block counter `c` of a 12-byte IV. -/
def gcmCtr (ks : List (List Nat)) (iv : List Byte) (c : Nat) (l : List Byte) : List Byte :=
  (List.range ((l.length + 15) / 16)).flatMap fun i =>
    let k := aesBlock ks (iv.map (·.toNat) ++ (toBe 4 (c + i)).map (·.toNat))
    List.zipWith (fun b x => b ^^^ BitVec.ofNat 8 x) (slice l (16 * i) 16) k

/-- The tag over additional data and ciphertext. -/
def gcmTag (ks : List (List Nat)) (iv aad ct : List Byte) : List Byte :=
  let h := blkN (aesBlock ks (List.replicate 16 0))
  let s := ghash h (gcmBlocks aad ++ gcmBlocks ct ++ [(8 * aad.length) * 2 ^ 64 + 8 * ct.length])
  let e := blkN (aesBlock ks (iv.map (·.toNat) ++ [0, 0, 0, 1]))
  toBe 16 (s ^^^ e)

/-- AES-256-GCM encryption: ciphertext and tag. [log entry 18 PRESUMED] -/
def gcmSeal (key iv aad pt : List Byte) : List Byte × List Byte :=
  let ks := aesKeys key
  let ct := gcmCtr ks iv 2 pt
  (ct, gcmTag ks iv aad ct)

/-- AES-256-GCM decryption: none where the tag fails. [log entry 18 PRESUMED] -/
def gcmOpen (key iv aad ct tag : List Byte) : Option (List Byte) :=
  let ks := aesKeys key
  if gcmTag ks iv aad ct = tag then some (gcmCtr ks iv 2 ct) else none

end Sys2Proof.Machine
end

