-- ==== Sys2Proof/Machine/JettyOps.lean ====
section
/-!
DEFINITION. Machine/JettyOps.lean: the Jetty links (16): frames and their codes, bring-up, acknowledgement and replay, credits, keys, routing,
drain fences and markers, the transmitters' schedule, packets for this node, and session pages over Jetty.
-/
namespace Sys2Proof.Machine

def jlink (j : Nat) (d : Dev) : JLink := tabGet (fun _ => {}) d.jetty.link j
def jlinkSet (j : Nat) (l : JLink) (d : Dev) : Dev := { d with jetty := { d.jetty with link := tabSet (fun _ => {}) d.jetty.link j l } }
def jlinkMod (j : Nat) (f : JLink → JLink) (d : Dev) : Dev := jlinkSet j (f (jlink j d)) d
def jettyMod (f : Jetty → Jetty) (d : Dev) : Dev := { d with jetty := f d.jetty }

/-- Link j is fitted. -/
def linkHere (j : Nat) (d : Dev) : Bool := decide (j < nJetty d.fuse.variant)

/-- Link j is UP. -/
def linkUp (j : Nat) (d : Dev) : Bool := linkHere j d && (jlink j d).st == .up

/-! ### Frames (R342, R343, R355 to R357) -/

/-- The 16 bytes of a header (Table 16-3). -/
def frameHead (f : JFrame) : List Byte :=
  toLe 2 f.dest ++ toLe 2 f.src ++ toLe 1 (f.type % 16 + 16 * (f.cls % 4) + 64 * (f.vl % 2) + 128 * (f.kslot % 2))
    ++ toLe 1 (b2n f.first + 2 * b2n f.last + 4 * (f.nw % 8) + 32 * (f.zero5 % 8)) ++ toLe 1 f.valid ++ toLe 1 f.hops
    ++ toLe 2 (f.fseq % 4096) ++ toLe 2 (f.ackseq % 4096 + 4096 * b2n f.ackv + 8192 * b2n f.nak) ++ toLe 1 f.cr0 ++ toLe 1 f.cr1 ++ toLe 2 f.ctr

/-- The header and payload that bytes spell; `n`: payload bytes. -/
def frameOf (b : List Byte) (n : Nat) : JFrame :=
  let b4 := fieldLe b 4 1
  let b5 := fieldLe b 5 1
  let q := fieldLe b 8 2
  let a := fieldLe b 10 2
  { dest := fieldLe b 0 2, src := fieldLe b 2 2, type := b4 % 16, cls := bitsOf b4 5 4, vl := bitsOf b4 6 6, kslot := bitsOf b4 7 7,
    first := bitOf b5 0, last := bitOf b5 1, nw := bitsOf b5 4 2, zero5 := bitsOf b5 7 5, valid := fieldLe b 6 1, hops := fieldLe b 7 1,
    fseq := q % 4096, ackseq := a % 4096, ackv := bitOf a 12, nak := bitOf a 13, cr0 := fieldLe b 12 1, cr1 := fieldLe b 13 1,
    ctr := fieldLe b 14 2, zeros := q < 4096 && a < 16384, data := slice b 16 n }

/-- TYPE 1 to 3 are sequenced (Table 16-4). -/
def sequenced (t : Nat) : Bool := decide (1 ≤ t) && decide (t ≤ 3)

/-- A header that R343 does not refuse. VALID fits NW and LAST: 0 with no word, 64 before the last frame, 1 to 64 in it. -/
def headOk (f : JFrame) (enc : Bool) : Bool :=
  decide (f.type ≤ 5) && f.zero5 == 0 && f.zeros && decide (f.nw ≤ 4) && (enc || f.ctr == 0) && decide (f.valid ≤ 64)
    && (if f.nw = 0 then f.valid == 0 else if f.last then decide (1 ≤ f.valid) else f.valid == 64)

/-- Bytes of CRC-32. -/
def crcBytes (l : List Byte) : List Byte := toLe 4 (crc32 l)

/-- The IV of R356 and R357: SALT, then the 64-bit counter, little-endian as every multi-byte field of this chapter. [log entry 48 DEDUCED] -/
def frameIv (salt ctr : Nat) : List Byte := toLe 4 salt ++ toLe 8 ctr

/-- Key bytes of slot s: eight words, word 0 lowest. -/
def keyBytes (s : Nat) (l : JLink) : List Byte := (List.range 8).flatMap fun w => toLe 4 (tabGet (fun _ => (0 : W32)) l.keys (8 * s + w)).toNat
def keyValid (s : Nat) (l : JLink) : Bool := if s = 0 then l.kv0 else l.kv1

/-- A frame can be sent on a link: an encrypted one takes a valid transmit slot. -/
def canSend (l : JLink) : Bool := !l.encNow || keyValid l.txSlot l

/-- The acknowledgement and credit fields of a header. -/
def ackFields (f : JFrame) (l : JLink) : JFrame := { f with ackseq := l.rxLast, ackv := l.rxAny, cr0 := l.my0 % 256, cr1 := l.my1 % 256 }

/-- Put a frame on link j: acknowledged through the last frame accepted, encrypted where the link encrypts and the type is sequenced. [log entry 48 DEDUCED] -/
def frameOut (j : Nat) (f : JFrame) (d : Dev) : Dev :=
  let l := jlink j d
  let f := ackFields f l
  let enc := l.encNow && sequenced f.type
  let f := if enc then { f with kslot := l.txSlot, ctr := l.ctr % 65536 } else { f with kslot := 0, ctr := 0 }
  let h := frameHead f
  let bs := if enc then
      let (c, t) := gcmSeal (keyBytes l.txSlot l) (frameIv l.salt l.ctr) h f.data
      h ++ c ++ t
    else h ++ f.data ++ crcBytes (h ++ f.data)
  emit (.frame j bs) (jlinkSet j { l with ctr := if enc then l.ctr + 1 else l.ctr, unret := 0, ackAt := now d } d)

/-- An IDLE frame: acknowledgement and credit (Table 16-4). -/
def idleOut (j : Nat) (nak : Bool) (d : Dev) : Dev := frameOut j { src := d.jetty.node, type := 0, nak := nak } d

/-- A KEY frame for the transmit slot (R356), with a new salt where asked; the counter starts at 1 after it. [log entry 48 DEDUCED] -/
def keyOut (j : Nat) (fresh : Bool) (d : Dev) : Dev :=
  let l := jlink j d
  if !l.encNow || !keyValid l.txSlot l then d
  else
    let (x, d) := if fresh then draw d else (l.salt, d)
    let l := { jlink j d with salt := x % 4294967296, ctr := if fresh then 1 else l.ctr, keyHold := true, keyAt := now d + 92160, unret := 0, ackAt := now d,
                              keyAcked := if fresh then false else l.keyAcked, keySeq := if fresh then l.nextSeq else l.keySeq }
    let w := padTo 64 (toLe 1 l.txSlot ++ toLe 4 l.salt)
    let h := frameHead (ackFields { src := d.jetty.node, type := 5, kslot := l.txSlot, first := true, last := true, nw := 1, valid := 64 } l)
    let t := (gcmSeal (keyBytes l.txSlot l) (frameIv l.salt 0) (h ++ w) []).2
    emit (.frame j (h ++ w ++ t)) (jlinkSet j l d)

/-- A new KEY frame before the counter reaches 2^48 (R357). -/
def keyRenew (j : Nat) (d : Dev) : Dev := if 2 ^ 48 ≤ (jlink j d).ctr + 1 then keyOut j true d else d

/-! ### Packets in frames (R346) -/

/-- Words and frames of a packet. -/
def pktWords (p : JPkt) : Nat := (p.data.length + 63) / 64
def pktFrames (p : JPkt) : Nat := (pktWords p + 3) / 4

/-- The frames of a packet, before they are numbered. -/
def framesOf (p : JPkt) : List JFrame :=
  (List.range (pktFrames p)).map fun i =>
    let last := i + 1 == pktFrames p
    let ws := slice p.data (256 * i) 256
    { dest := p.dest, src := p.src, type := p.type, cls := p.cls, vl := p.vl, first := i == 0, last := last, nw := (ws.length + 63) / 64,
      valid := if last then p.valid else 64, hops := p.hops, data := ws }

/-- A packet of whole words from its bytes. -/
def jpkt (dest src type cls : Nat) (bytes : List Byte) : JPkt :=
  let n := max 1 ((bytes.length + 63) / 64)
  { dest := dest, src := src, type := type, cls := cls, data := padTo (64 * n) bytes, valid := bytes.length - 64 * (n - 1) }

/-- The bytes of a packet without its filling. -/
def jbytes (p : JPkt) : List Byte := p.data.take (64 * (pktWords p - 1) + p.valid)

/-- Credits held on a virtual lane: 64 buffers less the frames sent and not freed (R346). -/
def credits (vl : Nat) (l : JLink) : Nat := 64 - (if vl = 0 then l.used0 + 256 - l.free0 else l.used1 + 256 - l.free1) % 256

/-- Link j can start packet p now (R344, R346). -/
def canStartPkt (p : JPkt) (l : JLink) : Bool :=
  l.st == .up && canSend l && decide (pktFrames p ≤ credits p.vl l) && decide (l.sent.length + pktFrames p ≤ 256)

/-- Send a packet's frames with nothing between them. -/
def sendPkt (j : Nat) (p : JPkt) (d : Dev) : Dev :=
  foldSt (framesOf p) (fun f d =>
    let l := jlink j d
    let f := { f with fseq := l.nextSeq }
    let l := { l with nextSeq := (l.nextSeq + 1) % 4096, advAt := if l.sent.isEmpty then now d else l.advAt, sent := l.sent ++ [{ frame := f }],
                      used0 := if f.vl = 0 then (l.used0 + 1) % 256 else l.used0, used1 := if f.vl = 0 then l.used1 else (l.used1 + 1) % 256 }
    keyRenew j (frameOut j f (jlinkSet j l d))) d

/-! ### Routing (R349, R350) -/

def routeWord (D : Nat) (y : Jetty) : Nat := (tabGet (fun _ => (0 : W32)) y.route D).toNat
def rtTrunk (r : Nat) : Nat := r % 16
def rtValid (r : Nat) : Bool := bitOf r 4
def rtVl (r : Nat) : Nat := bitsOf r 6 5

/-- Members of a trunk in ascending link order. -/
def members (t : Nat) (d : Dev) : List Nat := (List.range (nJetty d.fuse.variant)).filter fun j => bitOf (tabGet (fun _ => 0) d.jetty.trunk t) j

/-- The first UP member from a position onwards, wrapping. -/
def firstUp (ms : List Nat) (p : Nat) (d : Dev) : Option Nat := (ms.drop p ++ ms.take p).find? (linkUp · d)

/-- The link of a packet for D: of class FERRY the UP members in rotation, of another class the one R350 computes. -/
def linkFor (D cls : Nat) (d : Dev) : Option Nat :=
  let r := routeWord D d.jetty
  let ms := members (rtTrunk r) d
  if !rtValid r || ms.isEmpty then none
  else if cls = 3 then firstUp ms (tabGet (fun _ => 0) d.jetty.rot (rtTrunk r) % ms.length) d
  else firstUp ms (D % ms.length) d

/-- A FERRY packet has left on link j: the rotation goes on past it. -/
def rotate (D j : Nat) (d : Dev) : Dev :=
  let t := rtTrunk (routeWord D d.jetty)
  jettyMod (fun y => { y with rot := tabSet (fun _ => 0) y.rot t ((members t d).idxOf j + 1) }) d

/-- A discarded packet of R349. -/
def noRoute (d : Dev) : Dev := raise 31 1 d
/-- JETTY_GERRCNT. -/
def jettyGerr (d : Dev) : Dev := raise 31 2 d

/-- Apply VLMODE (R349; 3, reserved, keeps). [log entry 48 DEDUCED] -/
def vlOf (D vl : Nat) (d : Dev) : Nat := match rtVl (routeWord D d.jetty) with | 1 => 1 | 2 => 0 | _ => vl

/-! ### The local injection port (R348): Sluice 76 + j -/

/-- What the first word of a packet in Sluice 76 + j carries beside its bytes: destination, origin, type, class and lane. -/
def metaOf (p : JPkt) : Nat := p.dest % 65536 + 65536 * (p.src % 65536) + 2 ^ 32 * (p.type % 16) + 2 ^ 36 * (p.cls % 4) + 2 ^ 38 * (p.vl % 2)

/-- The packet that words of Sluice 76 + j spell. -/
def injOf (ws : List SWord) : JPkt :=
  let m := match ws.head? with | some w => w.jm | none => 0
  { dest := bitsOf m 15 0, src := bitsOf m 31 16, type := bitsOf m 35 32, cls := bitsOf m 37 36, vl := bitsOf m 38 38,
    data := ws.flatMap (·.data), valid := match ws.getLast? with | some w => w.valid | none => 64 }

/-- The whole committed packet at the front of a Sluice of a link. -/
def linkHead (n : Nat) (d : Dev) : Option JPkt :=
  let s := slu n d
  if s.started || inReset s then none else match frontPkt s.words with | some ws => if ws.any (·.fresh) then none else some (injOf ws) | none => none

/-- That packet leaves. -/
def linkPop (n : Nat) (d : Dev) : Dev :=
  let s := slu n d
  let k := ((frontPkt s.words).getD []).length
  sluSet n (sluFree k { s with words := s.words.drop k }) d

/-- The whole packet at the front of Sluice 76 + j. -/
def injHead (j : Nat) (d : Dev) : Option JPkt := linkHead (76 + j) d

def injPop (j : Nat) (d : Dev) : Dev := linkPop (76 + j) d

/-- The words of a packet in a Sluice of a link. -/
def linkWords (p : JPkt) (d : Dev) : List SWord :=
  let n := pktWords p
  (List.range n).map fun i =>
    { data := padTo 64 (slice p.data (64 * i) 64), first := i == 0, last := i + 1 == n, valid := if i + 1 == n then p.valid else 64, fresh := true,
      jm := if i = 0 then metaOf p else 0, on := now d }

/-- Put a packet into Sluice `n` of a link; none: its port is not free. -/
def linkPut (n : Nat) (p : JPkt) (d : Dev) : Option Dev :=
  if portFree n d then some (sluPump n (sluMod n (fun s => { s with wait := [linkWords p d] }) d)) else none

/-- Put a packet into Sluice 76 + j. -/
def injPut (j : Nat) (p : JPkt) (d : Dev) : Option Dev := linkPut (76 + j) p d

/-- A packet of this node to send: it waits to be put into a transmit Sluice. -/
def jettySend (p : JPkt) (d : Dev) : Dev := jettyMod (fun y => { y with outbox := y.outbox ++ [p] }) d

/-! ### Fences (R351 to R353) -/

/-- Whole packets among words, in order; fuel: the words. -/
def pktsOf : Nat → List SWord → List (List SWord)
  | 0, _ => []
  | f + 1, ws => match frontPkt ws with | some p => p :: pktsOf f (ws.drop p.length) | none => []

/-- Every packet that stands in the transmit Sluice of link j, or waits to be written into it. -/
def injAll (j : Nat) (d : Dev) : List (List SWord) := let s := slu (76 + j) d; pktsOf s.words.length s.words ++ (if waitOpen s then s.wait.drop 1 else s.wait)

/-- A marker of fence f has still to leave on link j: what stands before it there does not wait. -/
def markerBehind (f : Fence) (j : Nat) (d : Dev) : Bool :=
  let mine := fun (p : JPkt) => p.type == 2 && p.dest == f.dest && p.src == d.jetty.node && fieldLe p.data 4 2 == f.mark
  (injAll j d).any (fun ws => mine (injOf ws)) || d.jetty.outbox.any fun p => p.via == some j && mine p

/-- Packets bound for D wait at the head of their inputs: a fence for D is pending, or waits to open (R351 to R353). What stands before the fence's own
marker in a transmit Sluice is on the old path and does not wait, nor does a marker of this node's own. `inj`: the input is the injection port.
 [log entry 48 DEDUCED] -/
def fenced (p : JPkt) (j : Nat) (inj : Bool) (d : Dev) : Bool :=
  !(p.type == 2 && p.src == d.jetty.node) &&
    (d.jetty.fences.any (fun f => f.dest == p.dest && !(inj && markerBehind f j d)) || d.jetty.waitF.any (fun (x, o) => x == p.dest && !(inj && o == j)))

/-- The word of a marker. -/
def markerWord (origin dest mark vl : Nat) (failed : Bool) (old : Nat) : List Byte :=
  padTo 64 (toLe 2 origin ++ toLe 2 dest ++ toLe 2 mark ++ toLe 1 vl ++ toLe 1 (b2n failed) ++ toLe 1 old)

/-- Open the fence of destination D: its markers go out on the old link on each lane, or, where that has left UP, on the new one with FAILED
and OLDLINK (R353). [log entry 48 DEDUCED] -/
def fenceOpen (D old new : Nat) (d : Dev) : Dev :=
  let m := d.jetty.nextMark
  let failed := !linkUp old d
  let on := if failed then new else old
  let d := jettyMod (fun y => { y with nextMark := (m + 1) % 65536, fences := y.fences ++ [{ dest := D, old := old, mark := m, due := now d + 9216000 }] }) d
  foldSt [0, 1] (fun v d =>
    let p := { jpkt D d.jetty.node 2 0 (markerWord d.jetty.node D m v failed (if failed then (jlink old d).peerLink else 0)) with vl := v, valid := 64 }
    match injPut on p d with
    | some d => d
    | none => jettySend { p with via := some on } d) d

/-- A fence of D is pending or waits. [log entry 48 DEDUCED] -/
def fencing (D : Nat) (d : Dev) : Bool := d.jetty.fences.any (fun f => f.dest == D) || d.jetty.waitF.any (fun (x, _) => x == D)

/-- Path changes (R350): destinations whose chosen link is no longer the one their packets took last, with the old and the new link. [log entry 48 DEDUCED] -/
def pathChanges (d : Dev) : List (Nat × Nat × Nat) :=
  d.jetty.route.filterMap fun (D, _) =>
    if D = d.jetty.node then none
    else match linkFor D 0 d, tabGet (fun _ => 0) d.jetty.path D with
      | some j, o + 1 => if o = j then none else some (D, o, j)
      | _, _ => none

/-- Take up the present choice of every destination. -/
def pathKeep (d : Dev) : Dev :=
  foldSt (d.jetty.route.map (·.1)) (fun D d =>
    match linkFor D 0 d with
    | some j => jettyMod (fun y => { y with path := tabSet (fun _ => 0) y.path D (j + 1) }) d
    | none => d) d

/-- Open the fences of the present path changes. Beyond 16 they wait for one to end (R353). -/
def repath (d : Dev) : Dev :=
  let cs := pathChanges d
  let d := pathKeep d
  foldSt cs (fun (D, o, j) d =>
    if fencing D d then d
    else if d.jetty.fences.length < 16 then fenceOpen D o j d
    else jettyMod (fun y => { y with waitF := y.waitF ++ [(D, o)] }) d) d

/-- Fences a write would leave pending. -/
def fencesAfter (d : Dev) : Nat := d.jetty.fences.length + (pathChanges d).countP fun (D, _, _) => !fencing D d

/-- A write of a routing entry or a trunk (R352): discarded where it would open a 17th fence. -/
def pathWrite (f : Jetty → Jetty) (d : Dev) : Dev :=
  let d' := jettyMod f d
  if 16 < fencesAfter d' then badacc d else repath d'

/-- JETTY_ROUTEd; reserved bits read zero. -/
def routeWrite (D : Nat) (v : Nat) (d : Dev) : Dev := pathWrite (fun y => { y with route := tabSet (fun _ => 0) y.route D (BitVec.ofNat 32 (v % 128)) }) d

/-- One half of JETTY_TRUNKt. -/
def trunkWrite (t : Nat) (hi : Bool) (v : Nat) (d : Dev) : Dev :=
  pathWrite (fun y =>
    let o := tabGet (fun _ => 0) y.trunk t
    let n := if hi then o % 2 ^ 32 + 2 ^ 32 * (v % 2 ^ 32) else o / 2 ^ 32 * 2 ^ 32 + v % 2 ^ 32
    { y with trunk := tabSet (fun _ => 0) y.trunk t n }) d

/-- A data packet for D of a class that a fence orders. -/
def orderedTo (D : Nat) (ws : List SWord) : Bool := (injOf ws).dest == D && (injOf ws).type == 1 && (injOf ws).cls != 3

/-- The packets for D leave the transmit Sluice of link j, but for one that is partly written. -/
def injDrop (D j : Nat) (d : Dev) : Dev :=
  sluMod (76 + j) (fun s =>
    let ps := pktsOf s.words.length s.words
    let rest := s.words.drop (ps.flatMap id).length
    let k := b2n (waitOpen s)
    let keep := fun (l : List (List SWord)) => l.filter fun ws => !orderedTo D ws
    frFit { s with words := (keep ps).flatMap id ++ rest, wait := s.wait.take k ++ keep (s.wait.drop k) }) d

/-- The packets for D that wait in transmit Sluices take the newest path, in the order of their arrival (R352); those of the old link stay there where it is
not UP (R354). [log entry 48 DEDUCED] -/
def rehome (D old : Nat) (d : Dev) : Dev :=
  let js := (List.range (nJetty d.fuse.variant)).filter fun j => j != old || linkUp j d
  let ps := (js.flatMap fun j => (injAll j d).filter (orderedTo D)).mergeSort fun a b => decide ((a.head?.map (·.on)).getD 0 ≤ (b.head?.map (·.on)).getD 0)
  if ps.isEmpty then d
  else
    let d := foldSt js (injDrop D) d
    jettyMod (fun y => { y with outbox := ps.map injOf ++ y.outbox }) d

/-- A fence ends: its packets go on, and the next one that waits opens. -/
def fenceEnd (f : Fence) (d : Dev) : Dev :=
  let d := rehome f.dest f.old (jettyMod (fun y => { y with fences := y.fences.filter fun g => !(g.dest == f.dest && g.mark == f.mark) }) d)
  match d.jetty.waitF with
  | [] => d
  | (D, o) :: ws =>
    let d := jettyMod (fun y => { y with waitF := ws }) d
    match linkFor D 0 d with
    | some j => if j = o then d else fenceOpen D o j d
    | none => d

/-- What stands before the fence's marker on the old path is lost, as on a failed link, and the marker with it (R157, R354). [log entry 48 DEDUCED] -/
def pathFails (f : Fence) (d : Dev) : Dev :=
  let mine := fun (p : JPkt) => p.type == 2 && p.dest == f.dest && p.src == d.jetty.node && fieldLe p.data 4 2 == f.mark
  let d := if markerBehind f f.old d then injDrop f.dest f.old d else d
  jettyMod (fun y => { y with outbox := y.outbox.filter fun p => !mine p }) d

/-- A fence unacknowledged for 9,216,000 gu: the old path counts as failed, and the held packets go (R157, R351). -/
def fenceTimeout (D : Nat) (d : Dev) : Dev :=
  match d.jetty.fences.find? (fun f => f.dest == D && due f.due d) with
  | none => d
  | some f => raise 31 0 (fenceEnd f (pathFails f d))

/-! ### Packets for this node (R347) -/

/-- Read a MEM reply (R358): the bytes a read brought, poisoned where it was denied; a write's acknowledgement. The model's own layout:
OP 2 a read's reply, 3 a write's, byte 13 the status (0 ok, 1 denied, 2 poisoned), TAG as in the request. [log entry 48 DEDUCED] -/
def memAnswer (q : MemReq) (status : Nat) (data : List Byte) (d : Dev) : Dev :=
  let d := jettyMod (fun y => { y with memreq := y.memreq.filter fun r => r.tag != q.tag }) d
  if q.write then
    if status = 0 then d
    else
      -- the append fails whole, with XSTAT NOPAGE
      let d := jettyMod (fun y => { y with memreq := y.memreq.filter fun r => !(r.write && r.basin == q.basin) }) d
      match (core q.basin d).wait with
      | .sent _ _ _ _ _ took => appendFail q.basin (foldSt took pageGive d)
      | _ => d
  else
    let m : MemData := { basin := q.basin, node := q.node, page := q.page, off := q.off, data := padTo q.len data, bad := status != 0 }
    jettyMod (fun y => { y with memdata := y.memdata ++ [m] }) d

/-- The request that no reply has answered in JETTY_MEMTO gu (R359). -/
def memtoExpiry (tag : Nat) (d : Dev) : Dev :=
  match d.jetty.memreq.find? (fun q => q.tag == tag && due q.due d) with
  | none => d
  | some q => memAnswer q 1 [] d

/-- Serve a MEM request (R358). `lent`: Shore firmware has lent the page to the requester. Pages are addressed in 4 KiB units of the session
region, as page table entries name them. [log entry 48 DEDUCED] -/
def memServe (lent : Bool) (d : Dev) : Dev :=
  match d.jetty.memIn with
  | [] => d
  | p :: ps =>
    let d := jettyMod (fun y => { y with memIn := ps }) d
    let b := jbytes p
    let op := fieldLe b 12 1
    let off := fieldLe b 20 2
    let len := fieldLe b 22 2
    let a := pageAt (fieldLe b 16 4) d + off
    let good := lent && d.jetty.lend && decide (op ≤ 1) && off % 64 == 0 && decide (64 ≤ len) && decide (len ≤ 4096)
                  && decide (fieldLe b 16 4 < sessUnits d)
    let d := if good && op == 1 then hbmWrite a (padTo len (b.drop 64)) d else d
    let (bs, bad) := if good && op == 0 then bytesOf (hbmRun a len d) else ([], false)
    let st := if !good then 1 else if bad then 2 else 0
    let h := (headWord 0 0 false false 0 noLidx).take 12 ++ padTo 52 (toLe 1 (2 + op % 2) ++ toLe 1 st ++ [0, 0] ++ slice b 16 12)
    jettySend (jpkt p.src d.jetty.node 1 2 (h ++ bs)) d

/-- A packet of class MEM: a request waits for the memory server, a reply ends its request. [log entry 48 DEDUCED] -/
def memDeliver (p : JPkt) (d : Dev) : Dev :=
  let b := jbytes p
  if fieldLe b 12 1 < 2 then jettyMod (fun y => { y with memIn := y.memIn ++ [p] }) d
  else match d.jetty.memreq.find? (fun q => q.tag == fieldLe b 24 4 && q.node == p.src) with
    | none => d
    | some q => memAnswer q (fieldLe b 13 1) (b.drop 64) d

end Sys2Proof.Machine
end

