-- ==== Sys2Proof/Machine/FerryOps.lean ====
section
/-!
DEFINITION. Machine/FerryOps.lean: the Ferry ring (16 R360 to R366): tokens, blocks, their order, hold and misses, ring opens, and the carriage
of mirror packets.
-/
namespace Sys2Proof.Machine

def ferryMod (f : Ferry → Ferry) (d : Dev) : Dev := { d with ferry := f d.ferry }

/-- A FERRY packet of class 3 (Table 16-6). -/
structure FPkt where
  type   : Nat
  ring   : Nat
  slot   : Nat
  block  : Nat
  nblock : Nat
  rev    : Nat
  seq    : Nat
  len    : Nat
  src    : Nat
  data   : List Byte
  deriving DecidableEq, Repr

def fpktOf (b : List Byte) : FPkt :=
  { type := fieldLe b 12 1, ring := fieldLe b 13 1, slot := fieldLe b 14 2, block := fieldLe b 16 4, nblock := fieldLe b 20 4, rev := fieldLe b 24 4,
    seq := fieldLe b 28 4, len := fieldLe b 32 4, src := fieldLe b 36 2, data := b.drop 64 }

def fpktBytes (p : FPkt) : List Byte :=
  (headWord 0 0 false false 0 noLidx).take 12
    ++ padTo 52 (toLe 1 p.type ++ toLe 1 p.ring ++ toLe 2 p.slot ++ toLe 4 p.block ++ toLe 4 p.nblock ++ toLe 4 p.rev ++ toLe 4 p.seq ++ toLe 4 p.len
        ++ toLe 2 p.src) ++ p.data

/-- The Ferry serves. -/
def ferryServes (d : Dev) : Bool := userves 96 d

/-- `a` is older than `b`, modulo 2^32. -/
def revOlder (a b : Nat) : Bool := let k := (b + 2 ^ 32 - a % 2 ^ 32) % 2 ^ 32; decide (0 < k) && decide (k < 2 ^ 31)

/-- Send a packet to NEXT. -/
def ferrySend (p : FPkt) (d : Dev) : Dev :=
  let f := d.ferry
  let p := { p with seq := f.seqOut, src := f.index, ring := f.ring }
  jettySend (jpkt f.next d.jetty.node 1 3 (fpktBytes p)) (ferryMod (fun f => { f with seqOut := (f.seqOut + 1) % 2 ^ 32 }) d)

/-! ### Local group streams (R362, R364) -/

/-- Open streams on ring slot s: their keys. -/
def ferryStreams (s : Nat) (d : Dev) : List Nat := (d.gstr.filter fun (_, g) => g.st.src == .ferry s).map (·.1)

/-- Put bytes of block `i` into the skew buffer of stream g, missing ones before it as poison (R363). -/
def ferryPut (g i : Nat) (data : List Byte) (bad : Bool) (d : Dev) : Dev :=
  match gstrGet g d with
  | none => d
  | some gs =>
    let cut := fun (k : Nat) => min 4096 (gs.st.len - 4096 * k)
    let lost := (List.range (i - gs.next)).map fun k => ({ idx := gs.next + k, data := List.replicate (cut (gs.next + k)) 0, bad := true, took := 0 } : GBlock)
    let b : GBlock := { idx := i, data := padTo (cut i) data, bad := bad, took := 0 }
    groupRun g (gstrPut g (some { gs with next := i + 1, held := gs.held ++ lost ++ [b] }) d)

/-- Whether stream g still waits for block `i` of its slot. -/
def ferryWants (g i : Nat) (d : Dev) : Bool := match gstrGet g d with | none => false | some gs => decide (gs.next ≤ i) && decide (4096 * i < gs.st.len)

/-- Whether it has room for it. -/
def ferryRoom (g : Nat) (d : Dev) : Bool := match gstrGet g d with | none => true | some gs => decide (gs.held.length < 32)

/-- Place a block where it is wanted and there is room. -/
def ferryPlace (b : FBlock) (d : Dev) : Dev :=
  foldSt (ferryStreams b.slot d) (fun g d => if ferryWants g b.block d && ferryRoom g d then ferryPut g b.block b.data false d else d) d

/-- Every local stream open on its slot has the block. -/
def ferryPlaced (b : FBlock) (d : Dev) : Bool := (ferryStreams b.slot d).all fun g => !ferryWants g b.block d

/-- A member did not take a block: its pass reads poison (R362). -/
def ferryMiss (d : Dev) : Dev := raise 96 0 d
def ferryMissOn (b : FBlock) (d : Dev) : Dev :=
  foldSt (ferryStreams b.slot d) (fun g d => if ferryWants g b.block d then ferryMiss (ferryPut g b.block [] true d) else d) d

/-- Block 0 of ring slot s arrives: waiting opens join it, or raise STREAM where the lengths differ (R364). [log entry 42 DEDUCED] -/
def ferryOpens (s len : Nat) (d : Dev) : Dev :=
  foldSt (List.range (nBasin d.fuse.variant)) (fun c d =>
    match (core c d).wait with
    | .open' h 1 grp a b _ _ _ =>
      let k := core c d
      if b ≠ s ∨ !coreServes c d then d
      else if fieldLe (strmEntry (runSlot k) a) 8 4 ≠ len then longExc c 7 7 a k.waitAt d
      else if 2 ≤ handlesOpen k then d
      else
        let g := match groupOf c grp d with | some g => g | none => 8 + c
        openGroup c h (strmOf (runSlot k) a (.ferry s) (some g) false) d
    | _ => d) d

/-- A block is in hand here: received, or this stop's own. -/
def ferryTake (p : FPkt) (mine : Bool) (d : Dev) : Dev :=
  let b : FBlock := { slot := p.slot, block := p.block, nblock := p.nblock, rev := p.rev, len := p.len, data := p.data, at' := now d, mine := mine }
  let d := if p.block = 0 then ferryOpens p.slot p.len d else d
  ferryPlace b (ferryMod (fun f => { f with inHand := f.inHand ++ [b] }) d)

/-! ### The token (R361) -/

/-- Entry and first block of every owned slot, in ascending slot number. -/
def ferryOwned (d : Dev) : List (Nat × Nat) :=
  ((List.range 4096).flatMap fun s => (d.ferry.own.filter fun (_, o) => o.valid && o.slot == s).map fun (k, _) => (k, 0))

/-- One owned block at a time is put in hand; one whose bytes are poisoned is lost (06 R118). After the last the token goes to NEXT. `n`: fuel. -/
def ferryInject : Nat → Dev → Dev
  | 0, d => d
  | n + 1, d =>
    let f := d.ferry
    if !f.token || f.inHand.any (·.mine) then d
    else match f.toSend with
      | [] => ferrySend { type := 1, ring := f.ring, slot := 0, block := 0, nblock := 0, rev := f.rev, seq := 0, len := 0, src := 0, data := [] }
                (ferryMod (fun f => { f with token := false }) d)
      | (k, i) :: rest =>
        let o := tabGet (fun _ => ({} : FOwn)) f.own k
        let nb := (o.len + 4095) / 4096
        let d := ferryMod (fun f => { f with toSend := if i + 1 < nb then (k, i + 1) :: rest else rest }) d
        let (bs, bad) := bytesOf (hbmRun (o.addr + 4096 * i) (min 4096 (o.len - 4096 * i)) d)
        let p : FPkt := { type := 0, ring := f.ring, slot := o.slot, block := i, nblock := nb, rev := f.rev, seq := 0, len := o.len, src := 0,
                          data := padTo 4096 bs }
        if bad then ferryInject n (ferryMod (fun f => { f with seqOut := (f.seqOut + 1) % 2 ^ 32 }) d)
        else ferryTake p true d

/-- Inject on, through every owned block. -/
def ferryInject' (d : Dev) : Dev := ferryInject (4096 * d.ferry.own.length + 2) d

/-- The token is here for revolution `rev`. -/
def ferryHold (rev : Nat) (d : Dev) : Dev :=
  let own := if d.ferry.run then ferryOwned d else []
  ferryInject' (ferryMod (fun f => { f with token := true, rev := rev, toSend := own }) d)

/-- A revolution has been seen to begin: the length of the one before, where there was one (R364, R368). [log entry 49 DEDUCED] -/
def ferryTurn (d : Dev) : Dev :=
  let f := d.ferry
  let n := now d - f.revAt
  let d := ferryMod (fun f => { f with revlast := if f.seen then BitVec.ofNat 32 (min n (2 ^ 32 - 1)) else f.revlast, revAt := now d, seen := true }) d
  if f.seen && decide (f.revb.toNat < n) then raise 96 2 d else d

/-- A token arrives in order. -/
def ferryToken (p : FPkt) (d : Dev) : Dev :=
  if revOlder p.rev d.ferry.rev then raise 96 3 d
  else
    let d := ferryTurn d
    if d.ferry.index = 0 then ferryHold ((p.rev + 1) % 2 ^ 32) d else ferryHold p.rev d

/-- A block arrives in order. -/
def ferryBlock (p : FPkt) (d : Dev) : Dev := if revOlder p.rev d.ferry.rev then raise 96 3 d else ferryTake p false d

/-! ### Order (R363) -/

def ferryServe (p : FPkt) (d : Dev) : Dev :=
  let d := ferryMod (fun f => { f with heard := now d }) d
  if p.type = 1 then ferryToken p d else ferryBlock p d

/-- How far a packet is ahead of the next expected of its predecessor. -/
def ferryAhead (p : FPkt) (d : Dev) : Nat := (p.seq + 2 ^ 32 - tabGet (fun _ => 0) d.ferry.exp p.src) % 2 ^ 32

/-- The packet that waits, and as its predecessor's next one. -/
def ferryNextOf (src : Nat) (d : Dev) : Option FWait :=
  d.ferry.waits.find? fun w => w.src == src && w.seq == tabGet (fun _ => 0) d.ferry.exp src

def fwaitOf (p : FPkt) : FWait :=
  { src := p.src, seq := p.seq, tok := p.type == 1, rev := p.rev,
    blk := { slot := p.slot, block := p.block, nblock := p.nblock, rev := p.rev, len := p.len, data := p.data, at' := 0, mine := false } }

def fpktOfWait (w : FWait) : FPkt :=
  { type := b2n w.tok, ring := 0, slot := w.blk.slot, block := w.blk.block, nblock := w.blk.nblock, rev := w.rev, seq := w.seq, len := w.blk.len,
    src := w.src, data := w.blk.data }

/-- Deliver what is in order now. -/
def ferryRun : Nat → Nat → Dev → Dev
  | 0, _, d => d
  | n + 1, src, d =>
    match ferryNextOf src d with
    | none => d
    | some w =>
      let d := ferryMod (fun f => { f with waits := f.waits.erase w, exp := tabSet (fun _ => 0) f.exp src ((w.seq + 1) % 2 ^ 32) }) d
      ferryRun n src (ferryServe (fpktOfWait w) d)

/-- 64 later packets have arrived before a gap is filled: each block of it is lost, a miss, and the least of them is the next. [log entry 49 DEDUCED] -/
def ferryGap (src : Nat) (d : Dev) : Dev :=
  let ws := d.ferry.waits.filter fun w => w.src == src
  if ws.length < 64 then d
  else
    let e := tabGet (fun _ => 0) d.ferry.exp src
    let least := ws.foldl (fun m w => min m ((w.seq + 2 ^ 32 - e) % 2 ^ 32)) (2 ^ 32)
    ferryRun 65 src (raiseN 96 0 least (ferryMod (fun f => { f with exp := tabSet (fun _ => 0) f.exp src ((e + least) % 2 ^ 32) }) d))

/-- A FERRY packet of class block or token (TYPE 0 or 1) reaches this stop. One behind those served, whose gap has counted as lost, is not taken.
 [log entry 49 DEDUCED] -/
def ferryReceive (b : List Byte) (d : Dev) : Dev :=
  let p := fpktOf b
  if !uready 96 d then jettyGerr d
  else
    let w := fwaitOf p
    if decide (2 ^ 31 ≤ ferryAhead p d) || d.ferry.waits.any (fun x => x.src == w.src && x.seq == w.seq) then d
    else ferryGap p.src (ferryRun 65 p.src (ferryMod (fun f => { f with waits := f.waits ++ [w] }) d))

/-! ### Forwarding (R362) -/

/-- The blocks in hand are placed where they are wanted and there is room, in the order of their arrival. -/
def ferryPlaceAll (d : Dev) : Dev := foldSt d.ferry.inHand ferryPlace d

/-- The first block in hand that goes on: it is placed everywhere, or its hold has ended. [log entry 49 DEDUCED] -/
def ferryNext (d : Dev) : Option FBlock := d.ferry.inHand.find? fun b => ferryPlaced b d || due (b.at' + d.ferry.hold.toNat) d

/-- The first block in hand that may go on is forwarded. `absorb`: NEXT owns it. -/
def ferryForward (absorb : Bool) (d : Dev) : Dev :=
  if !ferryServes d then d
  else
    let d := ferryPlaceAll d
    match ferryNext d with
    | none => d
    | some b =>
        let d := if ferryPlaced b d then d else ferryMissOn b d
        let d := ferryMod (fun f => { f with inHand := f.inHand.erase b }) d
        let p : FPkt := { type := 0, ring := d.ferry.ring, slot := b.slot, block := b.block, nblock := b.nblock, rev := b.rev, seq := 0, len := b.len,
                          src := 0, data := padTo 4096 b.data }
        ferryInject' (if absorb then d else ferrySend p d)

/-- A block in hand is forwarded in the tick in which it has been placed everywhere, or in which its hold ends (R362; 02 R23). Whether NEXT
owns a block that came from another stop is a fact of the ring outside: a free value. [log entry 49 DEDUCED] -/
def ferryForwardDue (d : Dev) : Dev :=
  match ferryNext (ferryPlaceAll d) with
  | none => ferryForward false d
  | some b =>
    if !ferryServes d then d
    else if b.mine then ferryForward (d.ferry.nstop == 1) d
    else let (v, d) := draw d; ferryForward (v % 2 == 1) d

/-- An open whose block 0 has not come within FERRY_REVB (R364). -/
def ferryOpenTimeout (c : Nat) (d : Dev) : Dev :=
  match (core c d).wait with
  | .open' _ 1 _ _ _ _ _ since => if coreServes c d && due (since + d.ferry.revb.toNat) d then waitDone c 1 d else d
  | _ => d

/-- No token has returned to stop 0 for 2 × REVB, or nothing has arrived at another stop (R365). -/
def ferryBreak (d : Dev) : Dev :=
  let f := d.ferry
  if !f.run || !ferryServes d || f.token then d
  else if f.index = 0 then
    if due (f.revAt + 2 * f.revb.toNat) d then ferryHold ((f.rev + 1) % 2 ^ 32) (ferryMod (fun f => { f with revAt := now d, seen := true }) (raise 96 1 d)) else d
  else if due (f.heard + 2 * f.revb.toNat) d then raise 96 1 (ferryMod (fun f => { f with heard := now d }) d)
  else d

/-! ### Control (R368, R370) -/

/-- `start ferry`: RUN 1; stop 0 issues the first token. [log entry 49 DEDUCED] -/
def ferryStart (d : Dev) : Dev :=
  if d.ferry.run then d
  else
    let d := ferryMod (fun f => { f with run := true, heard := now d }) d
    if d.ferry.index = 0 ∧ ferryServes d then ferryHold ((d.ferry.rev + 1) % 2 ^ 32) (ferryMod (fun f => { f with revAt := now d, seen := true }) d) else d

/-- `stop ferry`: RUN 0; a token held is passed on. -/
def ferryStop (d : Dev) : Dev := ferryInject' (ferryMod (fun f => { f with run := false, toSend := [] }) d)

/-- FERRY_OWNk has bytes in the weight region. -/
def ferryOwnOk (o : FOwn) (d : Dev) : Bool :=
  !o.valid || (o.addr % 4096 == 0 && decide (1 ≤ o.len) && decide (o.len ≤ 16777216) && decide (o.addr + o.len ≤ sessBase d))

/-- The Ferry's reset instant: what it had in hand and the token are lost; its registers stay. -/
def ferryReset (d : Dev) : Dev := ferryMod (fun f => { f with token := false, seen := false, waits := [], inHand := [], toSend := [] }) d

/-! ### Mirror packets (R366, 18 R409) -/

def mirrorBytes (p : MirrorPkt) : List Byte :=
  (headWord 0 0 false false 0 p.lidx).take 12 ++ padTo 52 (toLe 1 2 ++ toLe 1 p.op ++ toLe 2 p.origin ++ toLe 4 p.mseq)
    ++ (match p.rcd with | some r => recBytes p.lidx r | none => [])

def mirrorOf (b : List Byte) : MirrorPkt :=
  { op := fieldLe b 13 1, origin := fieldLe b 14 2, mseq := fieldLe b 16 4, lidx := fieldLe b 8 4, rcd := if 192 ≤ b.length then some (recOf (slice b 64 128)) else none }

/-- What the Ledger has to send is written into Sluice 168, behind what stands there (R408, R409). [log entry 49 DEDUCED] -/
def mirrorWrite (d : Dev) : Dev :=
  if !userves 97 d then d
  else
    foldSt d.ledger.mout (fun p d => putMarker 168 { stream := 0, kind := 0, gen := ugen 97 d, lidx := p.lidx, body := (mirrorBytes p).drop 12 } d)
      { d with ledger := { d.ledger with mout := [] } }

/-- The Ferry takes the packets of Sluice 168 and sends them by the routing table: writes, retirements and fetch requests to the mirror peer, answers to the
Ledger whose record they name. `n`: fuel. [log entry 49 DEDUCED] -/
def mirrorCarry : Nat → Dev → Dev
  | 0, d => d
  | n + 1, d =>
    if !ferryServes d then d
    else match takePkt 168 d with
      | none => d
      | some (p, d) =>
        let m := mirrorOf ((headWord 0 0 false false p.gen p.lidx).take 12 ++ p.body)
        let own := m.op == 0 || m.op == 3 || m.op == 5
        mirrorCarry n (if p.aborted then d else jettySend (jpkt (if own then d.ledger.peer else m.origin) d.jetty.node 1 1 (pktBytes p)) d)

/-- Mirror packets move on: from the Ledger into Sluice 168, and from there to the links. -/
def mirrorFlush (d : Dev) : Dev := mirrorWrite (mirrorCarry (slu 168 d).words.length d)

/-- A MIRROR packet for this node goes to Sluice 167. -/
def mirrorDeliver (b : List Byte) (d : Dev) : Dev :=
  if !uready 96 d then jettyGerr d
  else sluPump 167 (sluQueue 167 { lidx := fieldLe b 8 4, body := b.drop 12 } d)

end Sys2Proof.Machine
end

