-- ==== Sys2Proof/Machine/JettyRx.lean ====
section
/-!
DEFINITION. Machine/JettyRx.lean: bring-up of a Jetty link (16 R340, R341), what it receives (R343, R344, R356), acknowledgement and replay, and
the transmitters' grants and delivery (R347, R348, R351).
-/
namespace Sys2Proof.Machine

/-! ### Acknowledgement and replay (R344) -/

/-- Replay every frame that is not acknowledged. -/
def replayAll (j : Nat) (d : Dev) : Dev :=
  let l := jlink j d
  if l.sent.isEmpty ∨ ¬ canSend l then d
  else
    let d := raise (32 + j) 1 (jlinkSet j { l with sent := l.sent.map fun s => { s with replays := s.replays + 1 }, advAt := now d } d)
    foldSt (l.sent.map (·.frame)) (fun f d => keyRenew j (frameOut j f d)) d

/-- What a header acknowledges and frees. [log entry 48 DEDUCED] -/
def ackTake (j : Nat) (f : JFrame) (d : Dev) : Dev :=
  let l := jlink j d
  let l := { l with free0 := f.cr0, free1 := f.cr1 }
  if !f.ackv && !f.nak then jlinkSet j l d
  else
    -- frames up to ACKSEQ, where it lies among those sent
    let k := match l.sent.head? with | some s => (f.ackseq + 4096 + 1 - s.frame.fseq) % 4096 | none => 0
    let k := if k ≤ l.sent.length then k else 0
    let l := { l with sent := l.sent.drop k, advAt := if 0 < k then now d else l.advAt, keyAcked := l.keyAcked || (l.sent.take k).any fun s => s.frame.fseq == l.keySeq }
    let d := jlinkSet j l d
    if f.nak then replayAll j d else d

/-! ### Bring-up (R340, R341, R356) -/

/-- ON is accepted: the link starts to train (R340). -/
def linkOpen (j : Nat) (d : Dev) : Dev :=
  jlinkMod j (fun l => { l with st := .train, openAt := now d, encNow := l.encCfg, helloTx := false, helloAt := now d, helloRx := false, keyRx := false,
                                keyAcked := false, keyHold := false, peerV := false }) d

/-- A link is UP: its counts start (R346), and paths that use it change (R350). -/
def linkIsUp (j : Nat) (d : Dev) : Dev :=
  repath (jlinkMod j (fun l => { l with st := .up, used0 := 0, used1 := 0, free0 := 0, free1 := 0, my0 := 0, my1 := 0, nextSeq := 0, sent := [],
                                         rxLast := 4095, rxAny := false, gap := false, unret := 0, ackAt := now d, advAt := now d }) d)

/-- All four lanes are equalised. -/
def linkTrained (j : Nat) (d : Dev) : Dev := if (jlink j d).st = .train then jlinkMod j (fun l => { l with st := .align }) d else d

/-- FEC and alignment lock are held on all lanes. -/
def linkAligned (j : Nat) (d : Dev) : Dev := if (jlink j d).st = .align then jlinkMod j (fun l => { l with st := .hello, helloAt := now d }) d else d

/-- The word of a HELLO frame (R341). -/
def helloWord (j : Nat) (d : Dev) : List Byte :=
  padTo 64 (toLe 2 d.jetty.node ++ toLe 1 j ++ toLe 1 (varCode d.fuse.variant) ++ toLe 1 1 ++ toLe 1 (b2n (jlink j d).encNow))

def helloOut (j : Nat) (d : Dev) : Dev :=
  jlinkMod j (fun l => { l with helloTx := true, helloAt := now d + 9216 })
    (frameOut j { src := d.jetty.node, type := 4, first := true, last := true, nw := 1, valid := 64, data := helloWord j d } d)

/-- In HELLO a frame goes out every 9,216 gu until the peer's is received. -/
def helloSend (j : Nat) (d : Dev) : Dev :=
  let l := jlink j d
  if l.st = .hello ∧ ¬ l.helloRx ∧ due l.helloAt d then helloOut j d else d

/-- Both HELLO frames pass: on to KEY, or to UP. In KEY a valid transmit slot sends the KEY frame at once. -/
def helloDone (j : Nat) (d : Dev) : Dev :=
  let l := jlink j d
  if l.encNow then keyOut j true (jlinkMod j (fun l => { l with st := .key, keyAt := now d, keyHold := true }) d) else linkIsUp j d

/-- A whole unencrypted frame of `n` payload words with a good CRC, or none. -/
def plainFrame (b : List Byte) : Option JFrame :=
  if b.length < 20 then none
  else
    let n := b.length - 20
    let f := frameOf b n
    if n ≠ 64 * f.nw ∨ b.drop (16 + n) ≠ crcBytes (b.take (16 + n)) ∨ ¬ headOk f false then none else some f

/-- A discarded frame (R343, R344): counted, and in UP answered with NAK. [log entry 48 DEDUCED] -/
def frameLost (j : Nat) (d : Dev) : Dev :=
  let d := raise (32 + j) 2 d
  if (jlink j d).st = .up then idleOut j true (jlinkMod j (fun l => { l with gap := true }) d) else d

/-- A HELLO frame arrives. -/
def helloReceive (j : Nat) (b : List Byte) (d : Dev) : Dev :=
  match plainFrame b with
  | none => frameLost j d
  | some f =>
    if f.type ≠ 4 ∨ f.nw ≠ 1 ∨ (jlink j d).st ≠ .hello then d
    else
      let node := fieldLe f.data 0 2
      let l := { jlink j d with peerV := true, peerNode := node, peerLink := fieldLe f.data 2 1 % 64, peerVar := fieldLe f.data 3 1 % 16 }
      let d := jlinkSet j l d
      if fieldLe f.data 4 1 ≠ 1 ∨ node = d.jetty.node ∨ fieldLe f.data 5 1 ≠ b2n l.encNow then raise (32 + j) 5 d
      else
        let d := if l.helloTx then d else helloOut j d
        helloDone j (jlinkMod j (fun l => { l with helloRx := true }) d)

/-- KEY is left when the peer's frame has verified and this end's has been sent. -/
def keyStep (j : Nat) (d : Dev) : Dev :=
  let l := jlink j d
  if l.st = .key ∧ l.keyRx ∧ 1 ≤ l.ctr ∧ keyValid l.txSlot l then linkIsUp j d else d

/-- A KEY frame arrives (R356): its tag is verified with this end's key in SLOT. -/
def keyReceive (j : Nat) (b : List Byte) (d : Dev) : Dev :=
  let l := jlink j d
  if l.st ≠ .key ∧ l.st ≠ .up then d
  else if b.length ≠ 96 then frameLost j d
  else
    let f := frameOf b 64
    if f.type ≠ 5 ∨ f.nw ≠ 1 ∨ ¬ headOk f false then frameLost j d
    else
      let s := fieldLe f.data 0 1
      let salt := fieldLe f.data 1 4
      if decide (s < 2) && keyValid s l && (gcmOpen (keyBytes s l) (frameIv salt 0) (b.take 80) [] (b.drop 80)).isSome then
        let same := tabGet (fun _ => 0) l.rxSalt s == salt + 1
        let d := jlinkSet j { l with keyRx := true, rxSalt := tabSet (fun _ => 0) l.rxSalt s (salt + 1),
                                     rxCtr := if same then l.rxCtr else tabSet (fun _ => 0) l.rxCtr s 0 } d
        keyStep j (if l.st = .up then ackTake j f d else d)
      else raise (32 + j) 4 d

/-- The KEY frame goes out again until the first sequenced frame after it is acknowledged. -/
def keyResend (j : Nat) (d : Dev) : Dev :=
  let l := jlink j d
  if l.encNow ∧ (l.st = .key ∨ l.st = .up) ∧ l.keyHold ∧ ¬ l.keyAcked ∧ due l.keyAt d then keyStep j (keyOut j (l.ctr == 0) d) else d

/-- KCTL USE and `key link N use S` (R357). -/
def keyUse (j s : Nat) (d : Dev) : Dev :=
  let d := jlinkMod j (fun l => { l with txSlot := s % 2 }) d
  let l := jlink j d
  if l.encNow ∧ (l.st = .key ∨ l.st = .up) then keyStep j (keyOut j true d) else d

/-- A write of JETTY_KEYs_w: the slot is valid once word 7 is written. -/
def keyWordWrite (j s w : Nat) (v : W32) (d : Dev) : Dev :=
  jlinkMod j (fun l =>
    let l := { l with keys := tabSet (fun _ => (0 : W32)) l.keys (8 * (s % 2) + w % 8) v }
    if w % 8 = 7 then (if s % 2 = 0 then { l with kv0 := true } else { l with kv1 := true }) else l) d

/-- KCTL CLR0 and CLR1. -/
def keyClear (j s : Nat) (d : Dev) : Dev :=
  jlinkMod j (fun l =>
    let l := { l with keys := (List.range 8).foldl (fun t w => tabSet (fun _ => (0 : W32)) t (8 * (s % 2) + w) 0) l.keys }
    if s % 2 = 0 then { l with kv0 := false } else { l with kv1 := false }) d

/-! ### Timers (R344, R345) -/

/-- At least every 9,216 gu a header returns ACKSEQ. -/
def ackTimer (j : Nat) (d : Dev) : Dev := if linkUp j d && due ((jlink j d).ackAt + 9216) d then idleOut j false d else d

/-- 18,432 gu without an advance. [log entry 48 DEDUCED] -/
def replayTimeout (j : Nat) (d : Dev) : Dev :=
  let l := jlink j d
  if linkUp j d && !l.sent.isEmpty && due (l.advAt + 18432) d then replayAll j d else d

/-- A link is to fail (R345): 16 replays of one frame, or lock lost for 92,160 gu. -/
def linkFails (j : Nat) (lockLost : Bool) (d : Dev) : Bool := linkUp j d && (lockLost || (jlink j d).sent.any fun s => decide (16 ≤ s.replays))

/-! ### Delivery (R347) -/

/-- The packet at the head of a receive lane leaves it: its frames are freed. -/
def rxPop (j vl : Nat) (d : Dev) : Dev :=
  jlinkMod j (fun l =>
    if vl = 0 then (match l.rx0 with | p :: ps => { l with rx0 := ps, my0 := (l.my0 + pktFrames p) % 256 } | [] => l)
    else (match l.rx1 with | p :: ps => { l with rx1 := ps, my1 := (l.my1 + pktFrames p) % 256 } | [] => l)) d

def rxHead (j vl : Nat) (d : Dev) : Option JPkt := let l := jlink j d; if vl = 0 then l.rx0.head? else l.rx1.head?

/-- A data packet for this node, by class: a unit that is not READY takes none. -/
def localDeliver (p : JPkt) (d : Dev) : Dev :=
  match p.cls with
  | 0 => if uready 0 d then jettyMod (fun y => { y with mgmtIn := y.mgmtIn ++ [(jbytes p).drop 12] }) d else jettyGerr d
  | 1 => mirrorDeliver (jbytes p) d
  | 2 => if uready 26 d then memDeliver p d else jettyGerr d
  | _ => ferryReceive (jbytes p) d

/-- The data packets for this node at the heads of link j's lanes are written to Sluice 12 + j, as its port is free; their frames are freed (R347).
`n`: fuel. -/
def rxDeliver : Nat → Nat → Dev → Dev
  | 0, _, d => d
  | n + 1, j, d =>
    let go := fun (vl : Nat) => match rxHead j vl d with | some p => decide (p.dest = d.jetty.node) && p.type == 1 | none => false
    let take := fun (vl : Nat) => (rxHead j vl d).bind fun p => linkPut (12 + j) p (rxPop j vl d)
    match (if go 0 then take 0 else if go 1 then take 1 else none) with
    | some d => rxDeliver n j d
    | none => d

/-- The consumer of Sluice 12 + j dispatches its committed packets by class (R347), and what waited to be written follows. `n`: fuel. -/
def jettyTake : Nat → Nat → Dev → Dev
  | 0, _, d => d
  | n + 1, j, d =>
    match linkHead (12 + j) d with
    | some p => jettyTake n j (localDeliver p (linkPop (12 + j) d))
    | none => rxDeliver 64 j d

/-- Put this node's waiting packets into transmit Sluices, in order for each destination, and deliver those for this node itself. -/
def outboxRun (d : Dev) : Dev :=
  let ps := d.jetty.outbox
  let d := jettyMod (fun y => { y with outbox := [] }) d
  foldSt ps (fun p d =>
    if p.dest = d.jetty.node then localDeliver p d
    else if d.jetty.outbox.any fun q => q.dest == p.dest && q.cls == p.cls then jettySend p d
    else if p.via.isNone && !rtValid (routeWord p.dest d.jetty) then noRoute d
    else match (match p.via with | some j => some j | none => linkFor p.dest p.cls d) with
      | none => jettySend p d
      | some j =>
        match injPut j p d with
        | none => jettySend p d
        | some d => if p.cls = 3 then rotate p.dest j d else d) d

/-! ### Receiving (R343, R344) -/

/-- The counter a frame was sent with: the one nearest the last, by its low 16 bits (R357). -/
def ctrOf (last low : Nat) : Nat :=
  let b := last / 65536 * 65536 + low
  if b + 32768 < last then b + 65536 else if last + 32768 < b ∧ 65536 ≤ b then b - 65536 else b

/-- A received frame with a good code: its header and clear payload. -/
def frameOpen (j : Nat) (b : List Byte) (d : Dev) : Option (JFrame × Dev) :=
  let l := jlink j d
  let ty := fieldLe b 4 1 % 16
  if l.encNow && sequenced ty then
    if b.length < 32 then none
    else
      let n := b.length - 32
      let f := frameOf b n
      let salt := tabGet (fun _ => 0) l.rxSalt f.kslot
      if n ≠ 64 * f.nw ∨ ¬ headOk f true ∨ salt = 0 ∨ ¬ keyValid f.kslot l then none
      else
        let c := ctrOf (tabGet (fun _ => 0) l.rxCtr f.kslot) f.ctr
        match gcmOpen (keyBytes f.kslot l) (frameIv (salt - 1) c) (b.take 16) f.data (b.drop (16 + n)) with
        | none => none
        | some pt => some ({ f with data := pt }, jlinkSet j { l with rxCtr := tabSet (fun _ => 0) l.rxCtr f.kslot c } d)
  else (plainFrame b).map fun f => (f, d)

/-- A sequenced frame is accepted: its packet grows, and a whole packet enters the lane's receive buffers. -/
def frameAccept (j : Nat) (f : JFrame) (d : Dev) : Dev :=
  let l := jlink j d
  let p0 : JPkt := { dest := f.dest, src := f.src, type := f.type, cls := f.cls, vl := f.vl, hops := f.hops, data := [], valid := f.valid }
  let open' := if f.vl = 0 then l.part0 else l.part1
  let p := if f.first then p0 else open'.getD p0
  let p := { p with data := p.data ++ f.data, valid := f.valid }
  let l := { l with rxLast := f.fseq, rxAny := true, gap := false, unret := l.unret + 1 }
  let l := if f.vl = 0 then { l with part0 := if f.last then none else some p, rx0 := if f.last then l.rx0 ++ [p] else l.rx0 }
           else { l with part1 := if f.last then none else some p, rx1 := if f.last then l.rx1 ++ [p] else l.rx1 }
  let d := rxDeliver 64 j (jlinkSet j l d)
  if 64 ≤ (jlink j d).unret then idleOut j false d else d

/-- A frame arrives on link j: in HELLO the peer's HELLO frame, in KEY and UP also a KEY frame. `fec`: its codeword was uncorrectable.
 [log entries 9 DESIGN CHOICE, 48 DEDUCED] -/
def frameReceive (j : Nat) (fec : Bool) (b : List Byte) (d : Dev) : Dev :=
  let st := (jlink j d).st
  if !linkHere j d || !(st == .hello || st == .key || st == .up) then d
  else if fec then frameLost j (raise (32 + j) 3 d)
  else if st = .hello then helloReceive j b d
  else if fieldLe b 4 1 % 16 = 5 then keyReceive j b d
  else if st = .key then (if (plainFrame b).isSome then d else frameLost j d)
  else
    match frameOpen j b d with
    | none => frameLost j d
    | some (f, d) =>
      if 4 ≤ f.type then d
      else
        let d := ackTake j f d
        if f.type = 0 then d
        else
          let l := jlink j d
          let ahead := (f.fseq + 4096 - (l.rxLast + 1)) % 4096
          if ahead = 0 then frameAccept j f d
          else if 2048 ≤ ahead ∨ l.gap then d
          else idleOut j true (jlinkSet j { l with gap := true } d)

/-! ### Transmit grants (R348) -/

/-- The classes of a slot, its own first, then the order of R348 from it on. -/
def slotClasses (s : Nat) : List Nat :=
  let c := if s = 0 then 0 else if s < 3 then 1 else if s < 5 then 2 else 3
  (List.range 4).map fun k => (c + k) % 4

/-- Inputs: 2 × link + lane for a receiver's lane, 128 for the injection port. -/
def inputHead (i j : Nat) (d : Dev) : Option JPkt := if i = 128 then injHead j d else rxHead (i / 2) (i % 2) d

/-- A peer's FAILED marker waits here until this end of link OLDLINK holds no packet for D in its receive buffers (R353). [log entry 48 DEDUCED] -/
def markerHeld (i : Nat) (p : JPkt) (d : Dev) : Bool :=
  let w := p.data
  let o := fieldLe w 8 1
  let origin := fieldLe w 0 2
  let l := jlink o d
  p.type == 2 && i != 128 && bitOf (fieldLe w 7 1) 0 && (jlink (i / 2) d).peerNode == origin && linkHere o d && l.peerNode == origin
    && (l.part0.toList ++ l.part1.toList ++ l.rx0 ++ l.rx1).any fun q => q.dest == p.dest && q.type == 1

/-- The packet at the head of input i as transmitter j would send it; none: it is not for j, or waits. -/
def inputReady (i j : Nat) (d : Dev) : Option JPkt :=
  match inputHead i j d with
  | none => none
  | some p =>
    if i = 128 then (if fenced p j true d || !canStartPkt p (jlink j d) then none else some p)
    else if p.dest = d.jetty.node ∨ p.hops ≤ 1 ∨ linkFor p.dest p.cls d ≠ some j then none
    else
      let q := { p with hops := p.hops - 1, vl := vlOf p.dest p.vl d }
      if fenced p j false d || markerHeld i p d || !canStartPkt q (jlink j d) then none else some q

/-- A forwarded Bipol message loses one of its own HOPS too (04 R82). [log entry 27 DEDUCED] -/
def mgmtHop (p : JPkt) : JPkt :=
  if p.cls = 0 ∧ p.type = 1 then { p with data := p.data.take 17 ++ toLe 1 (fieldLe p.data 17 1 - 1) ++ p.data.drop 18 } else p

/-- Whether that message is at its end. -/
def mgmtDead (p : JPkt) : Bool := p.cls == 0 && p.type == 1 && decide (fieldLe p.data 17 1 ≤ 1)

/-- Send the head of input i on link j. -/
def inputSend (i j : Nat) (p : JPkt) (d : Dev) : Dev :=
  if i = 128 then sendPkt j p (injPop j d)
  else
    let d := rxPop (i / 2) (i % 2) d
    let d := if p.cls = 3 then rotate p.dest j d else d
    rxDeliver 64 (i / 2) (if mgmtDead p then d else sendPkt j (mgmtHop p) d)

/-- The input class c is served from next on link j. -/
def inputPick (c j : Nat) (d : Dev) : Option (Nat × JPkt) :=
  let n := 2 * nJetty d.fuse.variant
  let ins := List.range n ++ [128]
  let last := tabGet (fun _ => 0) (jlink j d).rr c
  let ins := ins.filter (fun i => decide (last ≤ i)) ++ ins.filter (fun i => decide (i < last))
  ins.findSome? fun i => match inputReady i j d with | some p => if p.cls = c then some (i, p) else none | none => none

/-- Packets without a route, or at their last hop, leave the heads of the receive lanes (R349). -/
def deadHeads (d : Dev) : Dev :=
  foldSt ((List.range (2 * nJetty d.fuse.variant)).filter fun i => (rxHead (i / 2) (i % 2) d).isSome) (fun i d =>
    match rxHead (i / 2) (i % 2) d with
    | some p =>
      if p.dest ≠ d.jetty.node ∧ (p.hops ≤ 1 ∨ ¬ rtValid (routeWord p.dest d.jetty)) then rxDeliver 64 (i / 2) (noRoute (rxPop (i / 2) (i % 2) d)) else d
    | none => d) d

/-- Transmitter j grants one waiting packet by the 16-slot schedule and sends its frames. -/
def transmitGrant (j : Nat) (d : Dev) : Dev :=
  let d := deadHeads (outboxRun d)
  if !linkUp j d then d
  else
    let s := (jlink j d).slotNo
    let pick := (slotClasses s).findSome? fun c => (inputPick c j d).map fun (i, p) => (c, i, p)
    match pick with
    | none => d
    | some (c, i, p) =>
      inputSend i j p (jlinkMod j (fun l => { l with slotNo := (s + 1) % 16, rr := tabSet (fun _ => 0) l.rr c (i + 1) }) d)

/-! ### Markers (R351, R353) -/

/-- A DRAIN marker at the head of a receive lane: acknowledged once its destination has both, or forwarded by this node's own entry unless it
must wait. [log entry 48 DEDUCED] -/
def markerReceive (j vl : Nat) (d : Dev) : Dev :=
  match rxHead j vl d with
  | none => d
  | some p =>
    if p.type ≠ 2 ∨ (p.dest = d.jetty.node ∧ markerHeld (2 * j + vl) p d) then d
    else if p.dest = d.jetty.node then
      let w := p.data
      let o := fieldLe w 0 2
      let m := fieldLe w 4 2
      let seen := match d.jetty.got.find? (fun (a, b, _) => a == o && b == m) with | some (_, _, s) => s | none => 0
      let s := seen ||| 2 ^ (fieldLe w 6 1 % 2)
      let d := rxPop j vl d
      let rest := d.jetty.got.filter fun (a, b, _) => !(a == o && b == m)
      let d := jettyMod (fun y => { y with got := if s = 3 then rest else rest ++ [(o, m, s)] }) d
      rxDeliver 64 j (if s = 3 then jettySend { jpkt o d.jetty.node 3 0 (markerWord o p.dest m 0 false 0) with valid := 64 } d else d)
    else match linkFor p.dest p.cls d with
      | none => deadHeads d
      | some k =>
        match inputReady (2 * j + vl) k d with
        | some q => inputSend (2 * j + vl) k q d
        | none => deadHeads d

/-- A DRAINACK at the head of a receive lane ends its fence, or is forwarded. -/
def drainackReceive (j vl : Nat) (d : Dev) : Dev :=
  match rxHead j vl d with
  | none => d
  | some p =>
    if p.type ≠ 3 then d
    else if p.dest = d.jetty.node then
      let D := fieldLe p.data 2 2
      let m := fieldLe p.data 4 2
      let d := rxDeliver 64 j (rxPop j vl d)
      match d.jetty.fences.find? (fun f => f.dest == D && f.mark == m) with
      | some f => fenceEnd f d
      | none => d
    else match linkFor p.dest p.cls d with
      | none => deadHeads d
      | some k =>
        match inputReady (2 * j + vl) k d with
        | some q => inputSend (2 * j + vl) k q d
        | none => deadHeads d

/-! ### The reset instant (R354, R355) -/

/-- A link's reset instant: what is in its buffers is lost, a packet partly received for this node counts as rewound (06 R132), its keys stay
but at OFF, and the paths that used it change. -/
def linkReset (j : Nat) (toOff : Bool) (d : Dev) : Dev :=
  let l := jlink j d
  let mine := fun (p : Option JPkt) => match p with | some p => b2n (p.dest == d.jetty.node && p.type == 1) | none => 0
  let d := bumpBy (kSlu (12 + j) 0) (mine l.part0 + mine l.part1) d
  let l := { l with st := .down, sent := [], rx0 := [], rx1 := [], part0 := none, part1 := none, gap := false, unret := 0, salt := 0, ctr := 0,
                    rxSalt := [], rxCtr := [], keyRx := false, keyHold := false, keyAcked := false, helloRx := false, helloTx := false, peerV := false,
                    encNow := false, nextSeq := 0, rxLast := 4095, rxAny := false }
  let l := if toOff then { l with keys := [], kv0 := false, kv1 := false } else l
  repath (jlinkSet j l d)

end Sys2Proof.Machine
end

