-- ==== Sys2Proof/Machine/NvOps.lean ====
section
/-!
DEFINITION. Machine/NvOps.lean: the flash of the NV controller (19 R417 to R423): record slots, writes page by page, EVENT entries, and the bodies
of the records. The bodies of BOOTSTATE and DIRECTORY are laid out as the model chooses, since the spec gives what they hold and no layout.
-/
namespace Sys2Proof.Machine

/-! ### Layout (R418) -/

/-- Base of slot `s` of a record kind, and its bytes. -/
def recSlot (kind s : Nat) : Nat × Nat :=
  if kind = 3 then (0x40000 + 0x80000 * s, 0x80000) else (0x10000 * kind + 0x8000 * s, 0x8000)

def markerBase : Nat := 0x30000
def storeBase : Nat := 0x740000
/-- Base of slot A or B of the Shore image (1) or the kernel (2), and its bytes. -/
def fwSlot (t : Nat) (b : Nat) : Nat × Nat := if t = 1 then (0x140000 + 0x200000 * b, 0x200000) else (0x540000 + 0x100000 * b, 0x100000)

def flashRun (a n : Nat) (d : Dev) : List Byte := memRead 0xFF d.boot.flash a n
def flashPut (a : Nat) (b : List Byte) (d : Dev) : Dev := { d with boot := { d.boot with flash := memWrite 0xFF d.boot.flash a b } }
/-- An erased range lists no byte. -/
def flashErase (a n : Nat) (d : Dev) : Dev :=
  { d with boot := { d.boot with flash := d.boot.flash.filter fun p => decide (p.1 < a) || decide (a + n ≤ p.1) } }
def flashErased (a n : Nat) (d : Dev) : Bool := d.boot.flash.all fun p => decide (p.1 < a) || decide (a + n ≤ p.1)

/-! ### Records (R419, R420) -/

/-- A record's header. [log entry 56 DESIGN CHOICE] -/
def recHeader (kind seq : Nat) (body : List Byte) : List Byte :=
  let h := fun (c : Nat) => [0x4E, 0x56, 0x52, 0x43, BitVec.ofNat 8 kind, 1, 0, 0] ++ toLe 4 seq ++ toLe 4 body.length ++ toLe 4 c ++ List.replicate 12 0
  h (crc32 (h 0 ++ body))

/-- The record in a slot, where the slot is valid: SEQ and body. -/
def recRead (kind s : Nat) (d : Dev) : Option (Nat × List Byte) :=
  let (a, n) := recSlot kind s
  let h := flashRun a 32 d
  let len := fieldLe h 12 4
  if fieldLe h 0 4 ≠ 0x4352564E ∨ fieldLe h 4 1 ≠ kind ∨ fieldLe h 5 1 ≠ 1 ∨ n < 256 + len then none
  else
    let body := flashRun (a + 256) len d
    if h == recHeader kind (fieldLe h 8 4) body then some (fieldLe h 8 4, body) else none

/-- A slot that is neither valid nor fully erased. -/
def recTorn (kind s : Nat) (d : Dev) : Bool := let (a, n) := recSlot kind s; (recRead kind s d).isNone && !flashErased a n d

/-- `a` is later than `b`, as serial numbers modulo 2^32. -/
def serialAfter (a b : Nat) : Bool := decide ((a + 2 ^ 32 - b) % 2 ^ 32 < 2 ^ 31) && a != b

/-- The slot, SEQ and body of the record used. -/
def recUsed (kind : Nat) (d : Dev) : Option (Nat × Nat × List Byte) :=
  match recRead kind 0 d, recRead kind 1 d with
  | some (a, x), some (b, y) => if serialAfter b a then some (1, b, y) else some (0, a, x)
  | some (a, x), none => some (0, a, x)
  | none, some (b, y) => some (1, b, y)
  | none, none => none

/-! ### Writes -/

/-- Page programs of `b` from address `a`, which is a multiple of 256. -/
def pagesOf : Nat → Nat → List Byte → List NvOp
  | 0, _, _ => []
  | f + 1, a, b => if b.isEmpty then [] else .page a (b.take 256) :: pagesOf f (a + 256) (b.drop 256)

/-- 64 KiB sector erases over a range; a slot smaller than a sector is one erase of its own. -/
def erasesOf (a n : Nat) : List NvOp := if n < 0x10000 then [.erase a n] else (List.range ((n + 0xFFFF) / 0x10000)).map fun i => .erase (a + 0x10000 * i) 0x10000

def nvKindBusy (k : Nat) (d : Dev) : Bool := d.boot.jobs.any fun j => j.kind == k

def nvAdd (j : NvJob) (d : Dev) : Dev := { d with boot := { d.boot with jobs := d.boot.jobs ++ [j] } }

/-- Write a record of a kind: erase the slot that does not hold the newer valid record, the body's pages in order, page 0 last. [log entry 56 DESIGN CHOICE] -/
def recWrite (kind : Nat) (body : List Byte) (wait : Option (Nat × String)) (d : Dev) : Dev :=
  let before := d.boot.jobs.countP fun j => j.kind == kind
  let (s, seq) := match recUsed kind d with
    | some (s, q, _) => ((1 - s + before) % 2, (q + 1 + before) % 2 ^ 32)
    | none => (before % 2, before)
  let (a, n) := recSlot kind s
  nvAdd { kind := kind, slot := s, ops := erasesOf a n ++ pagesOf (body.length / 256 + 1) (a + 256) body ++ [.page a (recHeader kind seq body)],
          fin := .seqOf kind seq body, wait := wait } d

/-! ### Bodies -/

def bslotByte (x : BSlot) : Byte := BitVec.ofNat 8 (b2n x.activeB + 2 * b2n x.trial + 4 * b2n x.rolled)
def bslotOf (n : Nat) : BSlot := { activeB := bitOf n 0, trial := bitOf n 1, rolled := bitOf n 2 }

/-- BOOTSTATE (R427). [log entry 56 DESIGN CHOICE] -/
def bstBytes (x : BState) : List Byte :=
  [bslotByte x.shore, bslotByte x.kern, BitVec.ofNat 8 x.accepted.length, 0] ++
    x.accepted.flatMap fun (r, st, sv, kv) => toLe 2 r ++ toLe 2 st ++ toLe 4 sv ++ toLe 4 kv

/-- BOOTSTATE as its record's body spells it. [log entry 56 DESIGN CHOICE] -/
def bstOf (b : List Byte) : BState :=
  { shore := bslotOf (fieldLe b 0 1), kern := bslotOf (fieldLe b 1 1),
    accepted := (List.range (min 16 (fieldLe b 2 1))).map fun i =>
      (fieldLe b (4 + 12 * i) 2, fieldLe b (6 + 12 * i) 2, fieldLe b (8 + 12 * i) 4, fieldLe b (12 + 12 * i) 4) }

/-- DIRECTORY: the copies in the flash; one held in HBM lasts until cold power loss only (R433). [log entry 56 DESIGN CHOICE] -/
def dirBytes (es : List DirEnt) : List Byte :=
  (es.filter fun e => !e.hbm).flatMap fun e => [BitVec.ofNat 8 e.n, BitVec.ofNat 8 (b2n e.copyB + 2 * b2n e.active), 0, 0] ++ toLe 4 e.addr ++ toLe 4 e.len

/-- The directory of images as its record's body spells it. [log entry 56 DESIGN CHOICE] -/
def dirOf (b : List Byte) : List DirEnt :=
  (List.range (b.length / 12)).map fun i =>
    let f := fieldLe b (12 * i + 1) 1
    { n := fieldLe b (12 * i) 1, copyB := bitOf f 0, hbm := false, addr := fieldLe b (12 * i + 4) 4, len := fieldLe b (12 * i + 8) 4, active := bitOf f 1 }

def eventsOf (b : List Byte) : List (List Byte) := (List.range (b.length / 32)).map fun i => slice b (32 * i) 32

/-- An EVENT entry is collected (R423): kind, 7 bytes of detail, 16 of data. -/
def evAdd (kind : Nat) (detail extra : List Byte) (d : Dev) : Dev :=
  let e := [BitVec.ofNat 8 kind] ++ padTo 7 detail ++ toLe 8 (now d) ++ padTo 16 extra
  { d with boot := { d.boot with newEv := d.boot.newEv ++ [e] } }

/-- What a record of a kind holds now. -/
def recBody (kind : Nat) (d : Dev) : List Byte :=
  match kind with
  | 0 => bstBytes d.boot.bst
  | 1 => dirBytes d.boot.dir
  | 2 => d.boot.events.flatMap id
  | _ => d.boot.config

/-- A record of a kind is written, unless one of its kind is being written (R419). -/
def nvRecordWrite (kind : Nat) (d : Dev) : Dev :=
  if kind < 4 ∧ nvKindBusy kind d = false ∧ userves 99 d = true then recWrite kind (recBody kind d) none d else d

/-- At most once a second, the entries collected are written (R423); the record holds the latest 256. [log entry 56 DESIGN CHOICE] -/
def eventFlush (d : Dev) : Dev :=
  let early := match d.boot.evAt with | some t => decide (now d < t + 9216000000) | none => false
  if d.boot.newEv.isEmpty || early || nvKindBusy 2 d || !userves 99 d then d
  else
    let es := d.boot.events ++ d.boot.newEv
    nvRecordWrite 2 { d with boot := { d.boot with events := es.drop (es.length - 256), newEv := [], evAt := some (now d) } }

/-! ### Pages (R419, R420) -/

/-- A waiting line of a write is answered. -/
def nvAnswer (w : Option (Nat × String)) (e : Option String) (d : Dev) : Dev :=
  match w with | some (sid, tag) => answer ⟨sid, tag⟩ (.other 6) e [] d | none => d

/-- A write has ended: what it wrote comes into use. A new copy of an image becomes the active one in a new DIRECTORY record (R433). [log entry 56 DESIGN CHOICE] -/
def nvFinish (j : NvJob) (d : Dev) : Dev :=
  match j.fin with
  | .none => nvAnswer j.wait none d
  | .seqOf k q body =>
    let d := { d with boot := { d.boot with seqs := tabSet (fun _ => 0) d.boot.seqs k q, config := if k = 3 then body else d.boot.config } }
    nvAnswer j.wait none d
  | .imageEnt e =>
    let keep := d.boot.dir.filterMap fun x => if x.n ≠ e.n then some x else if x.active then some { x with active := false } else none
    let d := { d with boot := { d.boot with dir := keep ++ [{ e with active := true }] } }
    recWrite 1 (dirBytes d.boot.dir) j.wait d

/-- The flash operation under way completes, or the flash reports it failed: then the write is given up and its slot is left torn. [log entry 56 DESIGN CHOICE] -/
def nvPage (good : Bool) (d : Dev) : Dev :=
  match d.boot.jobs with
  | [] => d
  | j :: js =>
    if !userves 99 d then d
    else match j.ops with
      | [] => nvFinish j { d with boot := { d.boot with jobs := js } }
      | o :: os =>
        if good then
          let d := match o with
            | .page a b => emit (.flash 1 a) (flashPut a b d)
            | .erase a n => emit (.flash 2 a) (flashErase a n d)
          if os.isEmpty then nvFinish j { d with boot := { d.boot with jobs := js } }
          else { d with boot := { d.boot with jobs := { j with ops := os } :: js } }
        else nvAnswer j.wait (some "failed") (raise 99 6 { d with boot := { d.boot with jobs := js } })

/-- The NV controller's reset instant: unfinished writes are abandoned (03 R48, R49). -/
def nvReset (d : Dev) : Dev :=
  let js := d.boot.jobs
  foldSt js (fun j d => nvAnswer j.wait (some "failed") d) { d with boot := { d.boot with jobs := [] } }

end Sys2Proof.Machine
end

