-- ==== Sys2Proof/Machine/ReedOps.lean ====
section
/-!
DEFINITION. Machine/ReedOps.lean: Reedbed's items, carried state, replies and store (08).
-/
namespace Sys2Proof.Machine

/-! ### TABLE and packs (R161, R178) -/

def reedSlotOf (t : Nat) : Nat := t % 8
def reedSlot (k : Nat) (d : Dev) : PackSlot := tabGet (fun _ => {}) d.reed.slots k
def reedSlotSet (k : Nat) (s : PackSlot) (d : Dev) : Dev := { d with reed := { d.reed with slots := tabSet (fun _ => {}) d.reed.slots k s } }
def reedArea : Nat := 3538944
def reedInUse (k : Nat) (d : Dev) : Bool := slotInUse 1 reedSlotOf k d

/-- A bad TABLE (R161). -/
def reedBad (t : Nat) (d : Dev) : Bool :=
  let p := (reedSlot (reedSlotOf t) d).bytes
  let ss := bitsOf t 7 4
  p.isEmpty || bitOf t 3 || bitsOf t 15 12 != 0 || (ss != 15 && decide (rpNStop p ≤ ss)) || decide (rpNProf p ≤ bitsOf t 11 8)

/-! ### Carried state (R173, R174, R176) -/

def reedCarry (s : Nat) (d : Dev) : ReedCarry := tabGet (fun _ => {}) d.reed.carry s
def reedCarrySet (s : Nat) (c : ReedCarry) (d : Dev) : Dev := { d with reed := { d.reed with carry := tabSet (fun _ => {}) d.reed.carry s c } }

/-- A clean state: no held byte, STOPPED clear (R174); the stop matcher is at its start exactly when nothing is held. -/
def reedClean (s : ReedSt) : Bool := s.held.isEmpty && !s.stopped

/-- A clear that marks the stream (R174, R176): a stream that was not clean counts in REED_LOSTCNT. -/
def reedClear (s : Nat) (d : Dev) : Dev :=
  let c := reedCarry s d
  let d := if reedClean c.now then d else raise 4 5 d
  reedCarrySet s { now := {}, was := {}, seq := c.seq, mark := true } d

/-- Clear every answer stream (R179, R180). -/
def reedClearAll (d : Dev) : Dev := foldSt (d.reed.carry.map (·.1)) reedClear d

/-- The state an arriving item uses (R176): none when it is out of order. -/
def reedPick (c : ReedCarry) (q : Nat) : Option ReedSt :=
  if c.mark then some {}
  else if q = (c.seq + 1) % 2 ^ 32 then some c.now
  else if q = c.seq then some c.was
  else none

/-! ### Items -/

/-- The action codes 0 none, 1 HOLD, 2 BLOCK as proposals. -/
def actProp (a : Nat) : Option Nat := if a = 1 then some 4 else if a = 2 then some 1 else none

/-- The most severe of proposals, ABSTAIN when there is none. -/
def worstOf (l : List (Option Nat)) : Nat := (l.filterMap id).foldl (fun a b => if a = 15 then b else worse a b) 15

/-- A kind 0x1 item (R162 to R171). Each rule that cuts it counts (02 R32). -/
def reedRequest (q : Req) (d : Dev) : List Byte × Dev :=
  let p := (reedSlot (reedSlotOf q.table) d).bytes
  if reedBad q.table d then
    let e : ReqText := ⟨[], [], [], 0, 0, false, false, false⟩
    (replyBody q.stage 15 false false noScores 0 q.epoch q.seq [] (reqProduct e 1), raise 4 2 d)
  else
    let pr := rpProfile p (bitsOf q.table 11 8)
    let r := reedText p pr q.input
    let tr := r.truncB || r.truncT
    let prop := worstOf [if r.nRepl ≠ 0 then actProp (bitsOf pr.actions 1 0) else none, if tr then actProp (bitsOf pr.actions 3 2) else none]
    let d := raiseN 4 0 r.nRepl d
    let d := raiseN 4 1 (b2n r.truncB + b2n r.truncT) d
    -- the DROP on Sluice 143 that follows a cut (R165; 06 R121)
    let d := if r.rest then bump (kSlu 143 1) d else d
    (replyBody q.stage 15 false false noScores 0 q.epoch q.seq [] (reqProduct r prop), d)

/-- The product of an answer reply: the header of Table 8-3 and the text. -/
def ansProduct (text : List Byte) (heldIn heldOut stop stopped idx nTok nBad : Nat) : List Byte :=
  padTo 64 (toLe 4 text.length ++ toLe 1 heldIn ++ toLe 1 heldOut ++ toLe 1 (stop + 2 * stopped) ++ toLe 1 idx ++ toLe 4 nTok ++ toLe 4 nBad)
    ++ fillWord 0 text

/-- A kind 0x2 or 0x6 item (R172 to R176). The clear of R149 comes before the first application alone: a replay of an item that was applied finds it
made. -/
def reedAnswer (q : Req) (d : Dev) : List Byte × Dev :=
  let c := reedCarry q.stream d
  let d := if q.flush && !(c.seq == q.seq && !c.mark) then reedClear q.stream d else d
  let c := reedCarry q.stream d
  let rep := fun (prop cut : Nat) (prod : List Byte) => replyBody q.stage prop false false noScores cut q.epoch q.seq [] prod
  let bad := reedBad q.table d
  match reedPick c q.seq with
  | none => (rep 1 0 (if bad then [] else ansProduct [] 0 0 0 0 0 0 0), raise 4 4 (if bad then raise 4 2 d else d))
  | some st =>
    if bad then (rep 1 0 [], raise 4 2 (reedCarrySet q.stream { now := st, was := st, seq := q.seq, mark := false } d))
    else
      let p := (reedSlot (reedSlotOf q.table) d).bytes
      let pr := rpProfile p (bitsOf q.table 11 8)
      if q.kind = 6 then
        (rep 15 0 (ansProduct st.held st.held.length 0 0 (b2n st.stopped) 0 0 0),
         reedCarrySet q.stream { now := {}, was := st, seq := q.seq, mark := false } d)
      else
        let (dec, nTok, nBad) := decodeChunk p (q.input.length + 1) q.input
        let o := chunkStep (rpStops p (bitsOf q.table 7 4)) st dec
        let act := if nBad = 0 then none else actProp (bitsOf pr.actions 5 4)
        let prop := worstOf [o.cut.map fun _ => 2, act]
        let d := raiseN 4 3 nBad d
        (rep prop (if prop = 2 then o.cut.getD 0 else 0)
           (ansProduct o.text st.held.length o.st.held.length (b2n o.stop.isSome) (b2n st.stopped) (o.stop.getD 0) nTok nBad),
         reedCarrySet q.stream { now := o.st, was := st, seq := q.seq, mark := false } d)

/-! ### Replies (R475) -/

/-- Reedbed's port to Sluice 144 has a reply open: its words have not yet committed. -/
def reedPortBusy (d : Dev) : Bool := (slu 144 d).words.any (·.fresh) || !portFree 144 d

/-- Open the first waiting reply (R475). -/
def reedOpen (d : Dev) : Dev :=
  match d.reed.waiting with
  | [] => d
  | p :: ps =>
    if reedPortBusy d || !userves 4 d then d
    else match putPkt 144 { p with gen := ugen 4 d } d with
      | some d => { d with reed := { d.reed with waiting := ps } }
      | none => d

/-- Reedbed takes the item at the front of Sluice 143, if its kind is one of `ks` (R160, R176, R180). [log entry 14 DESIGN CHOICE] -/
def reedItem (ks : List Nat) (d : Dev) : Dev :=
  if !userves 4 d then d
  else match peekPkt 143 d with
    | none => d
    | some p =>
      if !ks.contains p.kind || (p.kind != 1 && d.reed.waiting.any fun w => w.stream == p.stream && w.kind != 1) then d
      else match takePkt 143 d with
        | none => d
        | some (p, d) =>
          let q := reqOf p
          let (pk, d) : Pkt × Dev :=
            if d.reed.reload.contains (reedSlotOf q.table) then
              (absentPkt 144 (q.stream, q.lidx, q.stage) d, d)
            else
              let (b, d) := if q.kind = 1 then reedRequest q d else reedAnswer q d
              (replyPkt 4 q b d, d)
          reedOpen { d with reed := { d.reed with waiting := d.reed.waiting ++ [pk] } }

/-! ### Reset instant and OFF (R180) -/

/-- Reedbed's reset instant: replies not yet open are abandoned. -/
def reedReset (d : Dev) : Dev :=
  let ws := (d.reed.waiting.filter fun p => !p.absent).map pktKey
  let d := foldSt (d.reed.waiting.filter (·.absent)) (putMarker 144) d
  engineReset 4 143 144 ws { d with reed := { d.reed with waiting := [] } }

/-- OFF clears packs and carried state (R180). -/
def reedOff (d : Dev) : Dev := let d := reedClearAll d; { d with reed := { d.reed with slots := [] } }

end Sys2Proof.Machine
end

