-- ==== Sys2Proof/Machine/ShoalOps.lean ====
section
/-!
DEFINITION. Machine/ShoalOps.lean: Shoal's scanners, carried state and store (09).
-/
namespace Sys2Proof.Machine

/-! ### TABLE and packs (R187, R197) -/

def shoalSlotOf (t : Nat) : Nat := t % 4
def shoalSlot (k : Nat) (d : Dev) : PackSlot := tabGet (fun _ => {}) d.shoal.slots k
def shoalSlotSet (k : Nat) (s : PackSlot) (d : Dev) : Dev := { d with shoal := { d.shoal with slots := tabSet (fun _ => {}) d.shoal.slots k s } }
def shoalArea : Nat := 8257536
def shoalInUse (k : Nat) (d : Dev) : Bool := slotInUse 2 shoalSlotOf k d

/-- A bad TABLE (R187). -/
def shoalBad (t : Nat) (d : Dev) : Bool :=
  let p := (shoalSlot (shoalSlotOf t) d).bytes
  p.isEmpty || bitsOf t 3 2 != 0 || bitsOf t 15 8 != 0 || decide (spNProf p ≤ bitsOf t 7 4)

/-! ### Carried state (R195) -/

def shoalCarry (s : Nat) (d : Dev) : ShoalCarry := tabGet (fun _ => {}) d.shoal.carry s
def shoalCarrySet (s : Nat) (c : ShoalCarry) (d : Dev) : Dev := { d with shoal := { d.shoal with carry := tabSet (fun _ => {}) d.shoal.carry s c } }

/-- Clear a stream's state: both copies clean, the stream marked (R176). -/
def shoalClear (s : Nat) (d : Dev) : Dev := shoalCarrySet s { shoalCarry s d with now := 0, was := 0, mark := true } d

/-- Clear with a count of each state other than 0 in SHOAL_LOSTCNT (R199, R200). -/
def shoalClearLost (s : Nat) (d : Dev) : Dev := shoalClear s (if (shoalCarry s d).now = 0 then d else raise 5 3 d)

def shoalClearAll (d : Dev) : Dev := foldSt (d.shoal.carry.map (·.1)) shoalClearLost d

/-- Clear the streams whose state was made on a slot (R199). -/
def shoalClearSlot (k : Nat) (d : Dev) : Dev :=
  foldSt ((d.shoal.carry.filter fun p => p.2.slot == k).map (·.1)) shoalClearLost d

/-! ### Scanners (R185, R186) -/

def scanner (i : Nat) (d : Dev) : Option Pkt := tabGet (fun _ => none) d.shoal.scan i
def scannerSet (i : Nat) (p : Option Pkt) (d : Dev) : Dev := { d with shoal := { d.shoal with scan := tabSet (fun _ => none) d.shoal.scan i p } }

def isAnswer (k : Nat) : Bool := k == 2 || k == 6

/-- Shoal takes the packet at the front of Sluice 145 into the lowest-numbered free scanner, unless its answer stream has an item in one
(R185, R186). -/
def shoalTake (d : Dev) : Dev :=
  if !userves 5 d then d
  else match peekPkt 145 d with
    | none => d
    | some p =>
      let busy := isAnswer p.kind && d.shoal.scan.any fun x => match x.2 with | some w => w.stream == p.stream && isAnswer w.kind | none => false
      if busy then d
      else match findIdx 16 (fun i => (scanner i d).isNone) with
        | none => d
        | some i => match takePkt 145 d with
          | none => d
          | some (p, d) => scannerSet i (some p) d

/-- The bytes a scan walks, the map of its spans, and whether the input is bad (R188). -/
def shoalInput (q : Req) : Option (List Byte × (Nat → Nat → Nat × Nat)) :=
  let ident := fun (a b : Nat) => (a, b)
  if q.prod then
    if q.kind = 1 then
      let t := q.input.takeWhile (· != 0xFF)
      if t.length = q.input.length then none
      else
        let tr := q.input.drop (q.input.length - 64)
        let n := fieldLe tr 4 4
        let m := mapOfBytes n (q.input.drop (64 * (t.length / 64 + 1)))
        some (t, mapSpan q.plen m)
    else some (slice q.input 64 (fieldLe q.input 0 4), ident)
  else some (q.input, ident)

/-- What a scan yields: the reply body, and the block after it (R190 to R195). [log entry 43 DEDUCED] -/
def shoalItem (q : Req) (d : Dev) : List Byte × Dev :=
  let ans := isAnswer q.kind
  let c := shoalCarry q.stream d
  -- a replay of an item that was applied finds the clear of R149 made
  let d := if ans && q.flush && !(c.seq == q.seq && !c.mark) then shoalClear q.stream d else d
  let c := shoalCarry q.stream d
  let blockRep := fun (_ : Unit) =>
    let o : ScanOut := { prop := 1, scores := shoalScores [] [], nMatch := 0, recs := [], nScan := 0, ovr := false, st := 0, acted := false }
    replyBody q.stage 1 false false o.scores 0 q.epoch q.seq [] (shoalProduct o false (ans && q.flush))
  let slot := shoalSlotOf q.table
  let st? : Option Nat :=
    if !ans then some 0
    else if c.mark then some 0
    else if q.seq = (c.seq + 1) % 2 ^ 32 then some c.now
    else if q.seq = c.seq then some c.was
    else none
  match st? with
  | none => (blockRep (), raise 5 2 (if shoalBad q.table d then raise 5 0 d else d))
  | some st =>
    if shoalBad q.table d then
      let d := if ans then shoalCarrySet q.stream { now := st, was := st, slot := c.slot, seq := q.seq, mark := false } d else d
      (blockRep (), raise 5 0 d)
    else match shoalInput q with
      | none => (blockRep (), d)
      | some (bytes, mp) =>
        let p := (shoalSlot slot d).bytes
        let o := shoalScan p (spProfile p (bitsOf q.table 7 4)) mp st bytes
        let d := if o.ovr then raise 5 1 d else d
        let d := if o.acted then raise 5 4 d else d
        let d := if ans then
            shoalCarrySet q.stream { now := if q.kind = 6 then 0 else o.st, was := st, slot := slot, seq := q.seq, mark := false } d
          else d
        (replyBody q.stage o.prop false false o.scores o.cut q.epoch q.seq (o.spans.map fun (a, b) => (a, b - a))
           (shoalProduct o (st != 0) (ans && q.flush)), d)

/-- Scanner `i` finishes its item and commits the reply (R194). [log entry 14 DESIGN CHOICE] -/
def shoalDone (i : Nat) (d : Dev) : Dev :=
  match scanner i d with
  | none => d
  | some p =>
    if !userves 5 d then d
    else
      let q := reqOf p
      if d.shoal.reload.contains (shoalSlotOf q.table) then
        match putPkt 146 (absentPkt 146 (q.stream, q.lidx, q.stage) d) d with
        | some d => scannerSet i none d
        | none => d
      else
        let (b, d') := shoalItem q d
        match replyPut 146 5 q b d' with
        | some d' => scannerSet i none d'
        | none => d

/-! ### Reset instant and OFF (R200) -/

def shoalReset (d : Dev) : Dev :=
  let ps := d.shoal.scan.filterMap fun x => x.2.map pktKey
  engineReset 5 145 146 ps { d with shoal := { d.shoal with scan := [] } }

def shoalOff (d : Dev) : Dev := let d := shoalClearAll d; { d with shoal := { d.shoal with slots := [] } }

end Sys2Proof.Machine
end

