-- ==== Sys2Proof/Machine/TarnOps.lean ====
section
/-!
DEFINITION. Machine/TarnOps.lean: the Sieve, the walk and the replies of Sieve/Tarn, and its store (10).
-/
namespace Sys2Proof.Machine

/-! ### TABLE and packs (R203, R218) -/

def tarnSlotOf (t : Nat) : Nat := t % 4
def tarnSlot (k : Nat) (d : Dev) : PackSlot := tabGet (fun _ => {}) d.tarn.slots k
def tarnSlotSet (k : Nat) (s : PackSlot) (d : Dev) : Dev := { d with tarn := { d.tarn with slots := tabSet (fun _ => {}) d.tarn.slots k s } }
def tarnArea : Nat := 16777216
def tarnInUse (k : Nat) (d : Dev) : Bool := slotInUse 3 tarnSlotOf k d

/-- A bad TABLE (R203). -/
def tarnBad (t : Nat) (d : Dev) : Bool :=
  let p := (tarnSlot (tarnSlotOf t) d).bytes
  p.isEmpty || bitsOf t 3 2 != 0 || bitsOf t 15 8 != 0 || decide (tpNProf p ≤ bitsOf t 7 4)

/-! ### Rows (R204 to R212) -/

/-- The Sieve takes the row at the front of Sluice 147 (R203 to R207). -/
def tarnSieve (d : Dev) : Dev :=
  if !userves 6 d || d.tarn.sieve.isSome then d
  else match takePkt 147 d with
    | none => d
    | some (pk, d) =>
      let q := reqOf pk
      let k := tarnSlotOf q.table
      if d.tarn.reload.contains k then
        putMarker 148 (absentPkt 148 (q.stream, q.lidx, q.stage) d) d
      else
        let p := (tarnSlot k d).bytes
        let row : TarnRow := { pkt := pk, slot := k, prof := bitsOf q.table 7 4 }
        if tarnBad q.table d then { raise 6 0 d with tarn := { (raise 6 0 d).tarn with sieve := some { row with bad := 2 } } }
        else
          let pr := tpProfile p row.prof
          if q.input.length ≠ rowLen pr then
            let d := raise 6 1 d
            { d with tarn := { d.tarn with sieve := some { row with bad := 1 } } }
          else
            { d with tarn := { d.tarn with sieve := some { row with w := sieve p pr q.input, sums := baseSums p } } }

/-- The finished row enters the walk (R211). -/
def tarnEnter (d : Dev) : Dev :=
  match d.tarn.sieve with
  | none => d
  | some r => if 16 ≤ d.tarn.walk.length ∨ !userves 6 d then d
    else { d with tarn := { d.tarn with sieve := none, walk := d.tarn.walk ++ [r] } }

/-- Trees left to deal in a row. -/
def tarnLeft (r : TarnRow) (d : Dev) : Bool := r.bad == 0 && decide (r.nextT < tpNTree (tarnSlot r.slot d).bytes)

/-- The row of a packet, as a lane names it. -/
def rowKey (r : TarnRow) : Nat × Nat := (r.pkt.lidx, (reqOf r.pkt).stage)

/-- A free lane takes the lowest undealt tree of the oldest row that has one; it reads one record a tick (R210, R211). -/
def tarnLane (d : Dev) : Dev :=
  if !userves 6 d || decide (64 ≤ d.tarn.lanes.length) then d
  else match findIdx d.tarn.walk.length (fun i => match d.tarn.walk[i]? with | some r => tarnLeft r d | none => false) with
    | none => d
    | some i => match d.tarn.walk[i]? with
      | none => d
      | some r =>
        let o := walkTree (tarnSlot r.slot d).bytes r.w r.nextT
        let x : TarnLane := { key := rowKey r, t := r.nextT, leaf := o.value, dflt := o.dflt, recs := o.recs, till := d.tickN + o.recs }
        { d with tarn := { d.tarn with walk := d.tarn.walk.set i { r with nextT := r.nextT + 1 }, lanes := d.tarn.lanes ++ [x] } }

/-- A row adds the leaf of its next tree, once it has been read (R212). -/
def rowAdd (p : List Byte) (r : TarnRow) : TarnRow :=
  match r.got.find? fun x => x.1 == r.addT with
  | some x => { r with got := r.got.erase x, addT := r.addT + 1, sums := addLeaf p r.addT x.2 r.sums }
  | none => r

/-- A lane has read its leaf: the row holds it. -/
def laneEnd (x : TarnLane) (r : TarnRow) : TarnRow :=
  if rowKey r = x.key then { r with got := r.got ++ [(x.t, x.leaf)], nDef := r.nDef + b2n x.dflt, v := r.v + x.recs } else r

/-- The end of a tick: each row adds at most one leaf, and the lanes that have read theirs are free (R211, R212). -/
def tarnTick (d : Dev) : Dev :=
  if d.tarn.walk.isEmpty || !userves 6 d then d
  else
    let ends := d.tarn.lanes.filter fun x => decide (x.till ≤ d.tickN + 1)
    let rows := d.tarn.walk.map fun r => rowAdd (tarnSlot r.slot d).bytes r
    { d with tarn := { d.tarn with walk := ends.foldl (fun rs x => rs.map (laneEnd x)) rows, lanes := d.tarn.lanes.filter fun x => !ends.contains x } }

/-- A row is finished: its leaves are all added, or nothing is walked. -/
def tarnDone (r : TarnRow) (d : Dev) : Bool := r.bad != 0 || decide (tpNTree (tarnSlot r.slot d).bytes ≤ r.addT)

/-- The reply of a finished row (R214, R215), and what it counts. -/
def tarnReplyOf (r : TarnRow) (d : Dev) : List Byte × Dev :=
  let q := reqOf r.pkt
  let p := (tarnSlot r.slot d).bytes
  let pr := tpProfile p r.prof
  let flag := fun (prop : Nat) (d : Dev) => if prop = 1 ∨ prop = 4 then raise 6 3 d else d
  if r.bad ≠ 0 then
    let prop := if r.bad = 2 then 1 else if pr.badRow = 1 then 4 else 1
    (replyBody q.stage prop false false noScores 0 q.epoch q.seq []
      (tarnProduct 0 0 0 0 (if p.isEmpty then 0 else tpNClass p) (r.bad == 1) (r.bad == 2) [] []), flag prop d)
  else
    let y := linkOut p r.sums
    let (prop, nan) := tarnProp pr (y.getD pr.dClass 0)
    let d := if nan then raise 6 2 d else d
    (replyBody q.stage prop false false (tarnScores y r.sums r.nDef) 0 q.epoch q.seq []
      (tarnProduct (tpNTree p) r.v r.nDef (r.w.filter (·.miss)).length (tpNClass p) false false y r.sums), flag prop d)

/-- The oldest finished row of the walk commits its reply (R215). -/
def tarnReply (d : Dev) : Dev :=
  if !userves 6 d then d
  else match findIdx d.tarn.walk.length (fun i => match d.tarn.walk[i]? with | some r => tarnDone r d | none => false) with
    | none => d
    | some i => match d.tarn.walk[i]? with
      | none => d
      | some r =>
        let (b, d') := tarnReplyOf r d
        match replyPut 148 6 (reqOf r.pkt) b d' with
        | none => d
        | some d' => { d' with tarn := { d'.tarn with walk := d'.tarn.walk.eraseIdx i, rows := (d'.tarn.rows + 1) % 2 ^ 32 } }

/-! ### Reset instant and OFF (R220) -/

def tarnReset (d : Dev) : Dev :=
  let ps := (d.tarn.sieve.toList ++ d.tarn.walk).map fun r => pktKey r.pkt
  engineReset 6 147 148 ps { d with tarn := { d.tarn with sieve := none, walk := [], lanes := [] } }

def tarnOff (d : Dev) : Dev := { d with tarn := { d.tarn with slots := [] } }

end Sys2Proof.Machine
end

