-- ==== Sys2Proof/Machine/ThermOps.lean ====
section
/-!
DEFINITION. Machine/ThermOps.lean: the Thermocline's measuring, layers, rungs, step changes and dispatch (17 R371 to R387), and the wake sources of
Ice (R391).
-/
namespace Sys2Proof.Machine

def thermSet (t : Therm) (d : Dev) : Dev := { d with therm := t }
def thermMod (f : Therm → Therm) (d : Dev) : Dev := thermSet (f d.therm) d

def sensor (n : Nat) (d : Dev) : Sensor := tabGet (fun _ => {}) d.therm.sens n
def sensorSet (n : Nat) (s : Sensor) (d : Dev) : Dev := thermMod (fun t => { t with sens := tabSet (fun _ => {}) t.sens n s }) d

/-! ### Table 17-1 -/

/-- Step of a rung (R375). -/
def rungStep (r : Nat) : ClkStep := if r ≤ 1 then .full else if r = 2 then .step1 else if r = 3 then .step2 else .step3
/-- Shallows level of a rung (R375); it changes with the rung alone, at a layer boundary (R383). -/
def rungShal (r : Nat) : Nat := r - 4
/-- The lowest rung that runs at a step. -/
def stepRung : ClkStep → Nat | .full => 0 | .step1 => 2 | .step2 => 3 | .step3 => 4 | .ice => 0

/-- VDD_CORE target of a step in millivolts, 700 to 800 (R378), 4 the Ice level. [log entry 6 DESIGN CHOICE] -/
def voutTarget (code : Nat) : Nat := 700 + Sys2Proof.Config.trim code % 101

/-! ### Sensors (R371, R372, R386) -/

/-- Sensors that are invalid. [log entry 50 DEDUCED] -/
def sensInvalid (d : Dev) : Nat := ((List.range 8).filter fun n => !(sensor n d).valid).length

/-- A sample of sensor `n` in units of 0.25 °C; none: the sensor misses it (R372). [log entry 50 DEDUCED] -/
def sensorSample (n : Nat) (x : Option Int) (d : Dev) : Dev :=
  if 8 ≤ n then d
  else
    let s := sensor n d
    let good : Bool := match x with | some v => decide (-160 ≤ v) && decide (v ≤ 600) | none => false
    let missed := match x with | some _ => 0 | none => s.missed + 1
    let fails := match x with | some _ => !good | none => decide (2 ≤ missed)
    let cnt := if good then min 16 (s.good + 1) else 0
    let valid := if fails then false else s.valid || decide (16 ≤ cnt)
    let temp := x.getD s.temp
    let hot := match x with | some v => if valid && decide (440 ≤ v) then s.hot + 1 else 0 | none => s.hot
    let d' := sensorSet n { valid := valid, temp := temp, missed := missed, good := cnt, hot := hot } d
    let d' := if s.valid && !valid then raise 98 3 d' else d'
    if valid && x.isSome then
      thermMod (fun t => { t with tmaxNow := some (match t.tmaxNow with | some m => max m temp | none => temp) }) d'
    else d'

/-- Sensors with two consecutive samples at 110 °C or more (R386). [log entry 50 DEDUCED] -/
def hotMap (d : Dev) : Nat := (List.range 8).foldl (fun a n => if 2 ≤ (sensor n d).hot then a + 2 ^ n else a) 0

/-! ### Layers (R373 to R377) -/

/-- The floor that temperature alone sets, with the 5 °C by which it falls (R376). -/
def floorOf (old : Nat) (t : Int) : Nat :=
  if 400 ≤ t then 5
  else if old = 5 ∧ 380 < t then 5
  else if 380 ≤ t then 3
  else if 3 ≤ old ∧ 360 < t then 3
  else 0

/-- The thermal floor in force (R372, R376). [log entry 50 DEDUCED] -/
def floorNow (tf : Nat) (d : Dev) : Nat := if 3 ≤ sensInvalid d then max tf 5 else tf

/-- The rung and the calm count a settled layer gives (R377). -/
def rungNext (rung calm floor rungmax : Nat) (ovr : Bool) (debt em b : Nat) (tmax : Option Int) (prev : Int) : Nat × Nat :=
  let heating : Bool := match tmax with | some t => decide (380 ≤ t) && decide (prev ≤ t) | none => false
  let cool : Bool := match tmax with | some t => decide (t < 360) | none => false
  let (target, calm) :=
    if ovr || decide (0 < debt) || heating then (rung + 1, 0)
    else if decide (5 * em ≤ 4 * b) && cool then (if calm + 1 = 8 then (rung - 1, 0) else (rung, calm + 1))
    else (rung, 0)
  (max (min (min target (max floor rungmax)) 7) floor, calm)

/-- VDD_CORE is written (20 R464, R466): `ack`, the regulator acknowledged one of the two writes.
The level is reached no later than 460,800 gu after it (R379, 20 R465). -/
def voutWrite (code : Nat) (ack : Bool) (d : Dev) : Dev :=
  if ack then emit (.vout (voutTarget code)) (thermMod (fun t => { t with volt := some (stepOfCode code) }) d)
  else logAdd 98 .fault "vdd_core write failed" d

/-- Begin the step change a rung asks for (R378): a lower frequency switches at the next aligned tick end, and VDD_CORE is lowered then; a
higher one waits for VDD_CORE. None is made while ISTATE is not 0. Answers whether a raise failed. -/
def stepBegin (ack : Bool) (d : Dev) : Bool × Dev :=
  let st := rungStep d.therm.rung
  if d.therm.istate ≠ 0 ∨ d.clk = .ice then (false, d)
  else if st = d.clk then (false, thermMod (fun t => { t with raise := none, pend := none }) d)
  else if d.clk.gu < st.gu then (false, voutWrite st.code ack (thermMod (fun t => { t with pend := some st, raise := none }) d))
  else if ack then (false, thermMod (fun t => { t with raise := some (st, now d + 460800), pend := none }) (voutWrite st.code true d))
  else (true, voutWrite st.code false d)

/-- The layer ends and the next begins (R371, R374, R376, R377): `em` is its measured energy in µJ. [log entry 50 DEDUCED] -/
def layerBoundary (em : Nat) (ack : Bool) (d : Dev) : Dev :=
  if !due (9216000 * (d.therm.layer + 1)) d then d
  else
    let t := d.therm
    let b := t.plimNow * 1000
    let debt := t.debt + em - b
    let ovr := decide (b < em)
    let tf := match t.tmaxNow with | some x => floorOf t.tfloor x | none => t.tfloor
    let floor := floorNow tf d
    let base := t.want.getD t.rung
    let (r, calm) := rungNext base t.calm floor t.rungmax ovr debt em b t.tmaxNow t.tmax
    let r := if t.bootHold then max r 2 else r
    let d := if ovr then raise 98 2 d else d
    let d := if t.floor < floor then raise 98 1 d else d
    let d := thermMod (fun t => { t with debt := debt, elast := min em 4294967295, tmax := t.tmaxNow.getD 0, tmaxNow := none, tfloor := tf, floor := floor,
                                         rung := r, calm := calm, want := none, plimNow := t.plimit, drawn := 0, layer := t.layer + 1, evalNow := true }) d
    let (bad, d) := stepBegin ack d
    -- a failed raise keeps the rung at or above the step's own
    let d := if bad then thermMod (fun u => { u with rung := max r (stepRung d.clk), want := some r }) d else d
    let d := thermMod (fun u => { u with shlevel := rungShal u.rung }) d
    if d.therm.rung = t.rung then d else raise 98 0 d

/-- The temperature every READY stack reports in a layer (14 R310). -/
def hbmTemps (d : Dev) : Dev := forN 4 (fun h d => if memServes (26 + h) d then hbmTemp h d else d) d

/-- The layer boundary falls in this tick (R371; 02 R23): the energy that the current monitors have measured is theirs, a free value, and the regulator
acknowledges. [log entry 50 DEDUCED] -/
def layerDue (d : Dev) : Dev :=
  if due (9216000 * (d.therm.layer + 1)) d then let (em, d) := draw (hbmTemps d); layerBoundary em true d else d

/-- VDD_CORE has settled for a higher step: the divider switches at the next aligned tick end (R378). -/
def stepRaiseSwitch (d : Dev) : Dev :=
  match d.therm.raise with
  | some (st, at') => if due at' d then thermMod (fun t => { t with raise := none, pend := some st }) d else d
  | none => d

/-- The clock at the end of a tick (R21): a pending change among the PLL steps takes effect where the span ends at a multiple of 24 gu, entry
to and exit from Ice at a multiple of 3,000 gu. -/
def clockTick (d : Dev) : Dev :=
  match d.therm.pend with
  | none => d
  | some st =>
    let m := if st = .ice ∨ d.clk = .ice then 3000 else 24
    if spanEnd d % m = 0 then
      let d := thermMod (fun t => if st = .ice then { t with pend := none, istate := 2, iceAt := spanEnd d } else { t with pend := none }) d
      { d with clk := st }
    else d

/-! ### Dispatch (R380 to R382) -/

def reqEst (q : DReq) (d : Dev) : Nat := tabGet (fun e => [2, 4, 8, 12, 16, 20, 26, 32].getD e 0) d.therm.ecost q.eclass * q.ticks / 1000

def reqSlack (q : DReq) (d : Dev) : Int := (q.deadline : Int) - now d - q.ticks * d.clk.gu - lead d

def reqKey (short : Bool) (q : DReq) (d : Dev) : Int := reqSlack q d + (if short then (q.eclass * d.therm.eweight * 9216 : Nat) else 0)

/-- Grant a request: a packet on the core's grant Sluice (12 Table 12-7). [log entry 50 DEDUCED] -/
def grantReq (q : DReq) (d : Dev) : Dev :=
  match putPkt (181 + 8 * q.core) { gen := ugen 98 d, lidx := noLidx } d with
  | some d => thermMod (fun t => { t with reqs := t.reqs.erase q }) d
  | none => d

/-- Walk the remaining requests in key order (R381). -/
def grantWalk (rung deferprio urgent : Nat) : List DReq → Int → Dev → Dev
  | [], _, d => d
  | q :: qs, credit, d =>
    if 1 ≤ rung ∧ deferprio ≤ q.prio then grantWalk rung deferprio urgent qs credit d
    else
      let est := reqEst q d
      if (est : Int) ≤ credit ∨ reqSlack q d < urgent then grantWalk rung deferprio urgent qs (credit - est) (grantReq q d) else d

/-- The Thermocline evaluates the waiting requests (R381). -/
def dispatchEval (d : Dev) : Dev :=
  let t := d.therm
  let b := t.plimNow * 1000
  let credit : Int := (b : Int) - t.debt - t.drawn
  let short : Bool := decide (2 * credit < b)
  let forced := (t.reqs.filter fun q => decide (q.arrived + 9123840 ≤ now d)).mergeSort fun a b => decide (a.arrived ≤ b.arrived)
  let d := foldSt forced (fun q d => raise 98 6 (grantReq q d)) d
  let rest := (t.reqs.filter fun q => !forced.contains q).mergeSort fun a b =>
    decide (reqKey short a d < reqKey short b d) || (reqKey short a d == reqKey short b d && decide (a.core ≤ b.core))
  let d := grantWalk t.rung t.deferprio t.urgent rest credit d
  thermMod (fun t => { t with evalNow := false, lastEval := now d }) d

/-- An evaluation, with the energy drawn so far in the layer as the monitors measure it (R373, R381). -/
def dispatchEvaluate (drawn : Nat) (d : Dev) : Dev := dispatchEval (thermMod (fun t => { t with drawn := drawn }) d)

/-! ### Wake sources of Ice (R391, R393) -/

/-- ISTATE names (17 Table 17-8). -/
def iceName : Nat → String | 0 => "running" | 1 => "entering" | 2 => "ice" | _ => "leaving"

/-- A whole number of milliseconds. -/
def msText (n : Nat) : String := dec n ++ "ms"

/-- The line of `show ice`. -/
def iceLine (d : Dev) : String :=
  let t := d.therm
  "ice state " ++ iceName t.istate ++ " auto " ++ dec (b2n t.auto) ++ " idle " ++ msText t.iceidle ++ " wait " ++ msText t.icewait ++ " wake " ++ msText t.icewake
    ++ " last " ++ dec t.exitlast ++ "gu src " ++ dec t.wakesrc

/-- `wait`ing lines of enter ice. -/
def iceAnswerIn (e : Option String) (body : List String) (d : Dev) : Dev :=
  let ws := d.therm.waitIn
  foldSt ws (fun w d => answer ⟨w.1, w.2⟩ (.other 3) e body d) (thermMod (fun t => { t with waitIn := [] }) d)

/-- The entry to Ice is abandoned (R393): no further ICE is asked, and the units are called back one a tick. [log entry 51 DEDUCED] -/
def iceAbandon (d : Dev) : Dev :=
  if d.therm.istate ≠ 1 ∨ d.therm.abandon then d
  else
    let d := raise 98 5 d
    -- VDD_CORE lowered in step 4 is first raised again
    let d := match d.therm.lowered with
      | some _ => thermMod (fun t => { t with exitGo := some (now d + 460800) }) (voutWrite (rungStep d.therm.rung).code true d)
      | none => d
    let d := thermMod (fun t => { t with istate := 3, abandon := true, iceTodo := [], exitRest := t.iceReq, exitTodo := t.iceReq, lowered := none, pend := none, exitAt := now d }) d
    iceAnswerIn (some "failed") [iceLine d] d

/-- A wake source arrives (R391, R393). -/
def wakeLatch (src : Nat) (d : Dev) : Dev :=
  match d.therm.istate with
  | 2 => thermMod (fun t => { t with istate := 3, wakesrc := src, exitAt := now d }) d
  | 1 => iceAbandon d
  | _ => d

end Sys2Proof.Machine
end

