-- ==== Sys2Proof/Machine/WellOps.lean ====
section
/-!
DEFINITION. Machine/WellOps.lean: the Wellhead (15): inputs and supplies, frames and the channel map, the listen path, the wake and its drain,
admission of device frames, the frame stage, and zeroisation.
-/
namespace Sys2Proof.Machine

def wellSet (w : Well) (d : Dev) : Dev := { d with well := w }
def wellMod (f : Well → Well) (d : Dev) : Dev := wellSet (f d.well) d

/-- The Wellhead is present. -/
def wellHere (d : Dev) : Bool := hasWell d.fuse.variant

/-- The unit is in READY, DRAINING or ICE: the listen path may run (R325). A wake in Ice goes on through WAKING to the drain it is for (R328, R330).
 [log entry 47 DEDUCED] -/
def wellListens (d : Dev) : Bool :=
  wellHere d && (match ustate 30 d with | .ready => true | .draining => true | .ice => true | .waking => d.well.lstate == .opened | _ => false)

def wIn (n : Nat) (w : Well) : WInput := tabGet (fun _ => {}) w.inp n
def wInSet (n : Nat) (i : WInput) (w : Well) : Well := { w with inp := tabSet (fun _ => {}) w.inp n i }
def wMap (c : Nat) (w : Well) : WChan := tabGet (fun _ => {}) w.map c
def wLive (c : Nat) (w : Well) : WChan := tabGet (fun _ => {}) w.live c

/-! ### Power of inputs and supplies (R313 to R315, R319, Table 15-4) -/

/-- Inputs the map names. -/
def wMapInputs (w : Well) : List Nat := (List.range 8).filter fun n => (List.range 8).any fun c => (wMap c w).en && (wMap c w).inp == n

/-- Inputs of the channels in force: they stay powered until the boundary at which a change of the map takes effect (07 R156). -/
def wLiveInputs (w : Well) : List Nat := (List.range 8).filter fun n => (List.range 8).any fun c => (wLive c w).en && (wLive c w).inp == n

/-- Inputs of the frame in progress, which they end. -/
def wCurInputs (w : Well) : List Nat := match w.cur with | some (_, _, srcs) => srcs | none => []

/-- Inputs the listen state powers. -/
def wWants (w : Well) : List Nat :=
  match w.lstate with
  | .off => []
  | .seep | .ripple => [w.lmic]
  | .opened => (List.range 8).filter fun n => n == w.lmic || (wMapInputs w).contains n
  | .awake | .capture => wMapInputs w ++ wLiveInputs w ++ wCurInputs w

/-- Power inputs up and down as the listen state asks; one powered up from off ramps for 2 ms (R315). -/
def wPower (at' : Nat) (w : Well) : Well :=
  forN 8 (fun n w =>
    let i := wIn n w
    let want := (wWants w).contains n
    if want && !i.powered then wInSet n { i with powered := true, ramp := at' + 18432000 } w
    else if !want && i.powered then wInSet n { i with powered := false, ramp := 0 } w
    else w) w

/-- A supply is on: ON is 1, no fault stands, and a powered input selects it (R313, R314). `k`: 1 supply A, 2 supply B. -/
def wSupplyOn (k : Nat) (w : Well) : Bool :=
  let s := if k = 1 then w.supA else w.supB
  s.on && !s.flt && (List.range 8).any fun n => (wIn n w).powered && (wIn n w).bias == k

/-- A load above 4 mA has lasted 100 µs: the supply switches off (R314). -/
def biasOverload (k : Nat) (d : Dev) : Dev :=
  if !wellHere d || !(k == 1 || k == 2) || !wSupplyOn k d.well then d
  else raise 30 4 (wellMod (fun w => if k = 1 then { w with supA := { w.supA with flt := true } } else { w with supB := { w.supB with flt := true } }) d)

/-- Software writes a supply's V and ON: ON written 1 after 0 ends a fault (R314). -/
def wSupplyWrite (v : Nat) (on : Bool) (s : WSupply) : WSupply := { v := v, on := on, flt := s.flt && !(on && !s.on) }

/-- Input `n` reaches full operation (R315). -/
def inputRampEnd (n : Nat) (d : Dev) : Dev :=
  if n < 8 ∧ (wIn n d.well).ramp ≠ 0 ∧ due (wIn n d.well).ramp d then wellMod (fun w => wInSet n { wIn n w with ramp := 0 } w) d else d

/-! ### Zeroisation and the listen states (R325, R331) -/

/-- The ring, the feature history and Ripple's working values are zeroised. -/
def zeroise (w : Well) : Well := { w with ring := [], hist := [], fresh := false, drain := [], draining := false }

/-- LSTATE becomes SEEP. The frame in progress is the last (R325). -/
def toSeep (at' : Nat) (w : Well) : Well :=
  wPower at' { w with lstate := .seep, gate := false, flush := w.flush && w.cur.isSome, hops := 0, active := 0, inactive := 0, fresh := false, drain := [],
                      drained := false, draining := false, late := [], lastOut := none, lastLidx := 0, lastVerdict := none, wakeIce := false, hopAt := at' }

/-- LSTATE becomes OFF. -/
def toOff (at' : Nat) (w : Well) : Well :=
  wPower at' { w with lstate := .off, gate := false, flush := false, hops := 0, active := 0, inactive := 0, fresh := false, drain := [],
                      drained := false, draining := false, late := [], lastOut := none, cur := none, lastLidx := 0, lastVerdict := none, wakeIce := false }

/-- LSTATE becomes CAPTURE or AWAKE: every enabled channel changes at the next frame boundary (R319). -/
def toLive (s : LState) (at' : Nat) (w : Well) : Well := wPower at' { w with lstate := s, live := [], active := 0, inactive := 0 }

/-- The unit is READY: the decimation counter is reset (R318), and the listen state is as LISTEN gives it, but for one that LISTEN 1 gave and that the unit
kept: a wake goes on to its drain or its live frames, and listening that an abandoned entry into Ice did not end goes on (R325, R328, R330).
 [log entry 47 DEDUCED] -/
def listenStart (d : Dev) : Dev :=
  let at' := now d
  wellMod (fun w =>
    let w := { w with frameAt := at', nowRate := w.rate, nowFlen := w.flen, live := [] }
    match w.lstate, w.listen with
    | .opened, _ => { w with cur := if w.drained then some (0, w.flen, [w.lmic]) else none }
    | .seep, 1 | .ripple, 1 => { w with cur := none }
    | _, 1 => toSeep at' { w with cur := none }
    | _, 2 => toLive .capture at' { w with cur := none }
    | _, _ => toOff at' { w with cur := none }) d

/-- The unit leaves ICE for WAKING, or starts from OFF: LSTATE is OFF, but for a wake, which its drain awaits (R325, R328). [log entry 47 DEDUCED] -/
def wellWaking (d : Dev) : Dev := if d.well.lstate = .opened then d else wellMod (toOff (now d)) d

/-- The unit enters ICE: no frame is produced in it. -/
def wellIced (d : Dev) : Dev := wellMod (fun w => { w with cur := none, flush := false }) d

/-- A pack with a Ripple model is loaded. -/
def hasRipple (w : Well) : Bool := !w.pack.isEmpty && wpRipple w.pack

/-- LISTEN is written (R325, R331). [log entry 47 DEDUCED] -/
def listenWrite (v : Nat) (d : Dev) : Dev :=
  if v = 3 ∨ 3 < v ∨ (v = 1 ∧ ¬ hasRipple d.well) then badacc d
  else
    let at' := now d
    let old := d.well.listen
    let d := wellMod (fun w => { (if old = v then w else zeroise w) with listen := v }) d
    if !wellListens d then d
    else wellMod (fun w =>
      match v, w.lstate with
      | 0, _ => toOff at' w
      | 1, .off | 1, .awake | 1, .capture => toSeep at' w
      | 2, .off => toLive .capture at' w
      | _, _ => w) d

/-- LMIC is written: a change zeroises, and in SEEP or RIPPLE it restarts SEEP (R325, R331). -/
def lmicWrite (v : Nat) (d : Dev) : Dev :=
  if d.well.lmic = v then d
  else
    let at' := now d
    wellMod (fun w =>
      let w := { zeroise w with lmic := v }
      match w.lstate with | .seep | .ripple => toSeep at' w | _ => wPower at' w) d

/-! ### Frames (R318 to R320) -/

/-- Gauge units of a frame. -/
def frameGu (flen : Nat) : Nat := 92160000 * (flen + 1)

/-- What a decimator computes, in units of 2⁻¹⁶ of a sample step, as its int16 output: to nearest, ties to even, saturated (R317). [log entry 9 DESIGN CHOICE] -/
def pcmRound (x : Int) : Int :=
  let q := x / 65536
  let r := x % 65536
  clampS 16 (if 32768 < r ∨ (r = 32768 ∧ q % 2 = 1) then q + 1 else q)

/-- A list of exactly `n` samples. The filters' coefficients are not the spec's, and what they compute is given from outside. [log entry 9 DESIGN CHOICE] -/
def fitSamples (n : Nat) (l : List Int) : List Int := ((l.map pcmRound) ++ List.replicate (n - l.length) 0).take n

/-- A frame as a packet of Sluice 165, written behind those that wait: word 0 holds the common header, with no record, and the frame follows from
word 1 on. [log entry 47 DEDUCED] -/
def wellEmit (b : List Byte) (d : Dev) : Dev :=
  putMarker 165 { stream := d.well.stream, kind := 4, gen := ugen 30 d, lidx := noLidx, body := List.replicate 52 0 ++ b } d

/-- Samples of `k` positions, `n` each, as the inputs give them where no command has brought them: free values. [log entry 9 DESIGN CHOICE] -/
def freeSamples (k n : Nat) (d : Dev) : List (List Int) × Dev :=
  let (v, d) := draw d
  ((List.range k).map fun i => (List.range n).map fun j => (65536 : Int) * sgn 16 (v / 2 ^ (16 * (i * n + j)) % 65536), d)

/-- The channels `cs` of the written map come into force (R319). -/
def wMapIn (w : Well) (cs : List Nat) : Well :=
  { w with live := cs.foldl (fun t c => tabSet (fun _ => ({} : WChan)) t c (wMap c w)) w.live }

/-- A frame boundary (R318, R319, 07 R156): the frame in progress is committed, and pending changes of rate, length and map take effect.
`x`: the decimated samples of each position. -/
def frameBoundary (x : List (List Int)) (d : Dev) : Dev :=
  let w := d.well
  if !wellHere d || !userves 30 d || !due (w.frameAt + frameGu w.nowFlen) d then d
  else
    let d := match w.cur with
      | none => d
      | some (r, f, srcs) =>
        let n := wellS1 r * (f + 1)
        let xs := (List.range srcs.length).map fun k => fitSamples n (x.getD k [])
        let b := wellFrameBytes r f false false w.flush srcs w.frameAt xs
        let d := wellMod (fun w => { w with flush := false }) d
        if w.draining then wellMod (fun w => { w with late := w.late ++ [b] }) d else wellEmit b d
    wellMod (fun w =>
      let changed := w.nowRate != w.rate || w.nowFlen != w.flen
      let w := { w with frameAt := w.frameAt + frameGu w.nowFlen, nowRate := w.rate, nowFlen := w.flen }
      match w.lstate with
      | .awake | .capture =>
        let ready := fun (c : Nat) => !(wMap c w).en || (wIn (wMap c w).inp w).ramp == 0
        let moves := (List.range 8).filter fun c => wMap c w != wLive c w && ready c
        let used := moves.any fun c => (wMap c w).en || (wLive c w).en
        let w := wMapIn w moves
        let srcs := ((List.range 8).filter fun c => (wLive c w).en).map fun c => (wLive c w).inp
        wPower w.frameAt { w with cur := if srcs.isEmpty then none else some (w.rate, w.flen, srcs), flush := w.flush || used || (!srcs.isEmpty && changed) }
      | .opened => { w with cur := if w.drained then some (0, w.flen, [w.lmic]) else none, flush := false }
      | _ => { w with cur := none, flush := false }) d

/-- A frame boundary falls in this tick (02 R23). [log entry 9 DESIGN CHOICE] -/
def frameDue (d : Dev) : Dev :=
  let w := d.well
  if !wellHere d || !userves 30 d || !due (w.frameAt + frameGu w.nowFlen) d then d
  else match w.cur with
    | none => frameBoundary [] d
    | some (r, f, srcs) => let (x, d) := freeSamples srcs.length (wellS1 r * (f + 1)) d; frameBoundary x d

/-! ### Listening (R326, R327) -/

/-- Features of one hop of LMIC under RFSET (R327). -/
def hopFeatures (w : Well) (x : List Int) : List Nat := if hasRipple w then wellHop (wpBands w.pack (wpRfset w.pack)) [] x else []

/-- The latest `n` of a list. -/
def latest {α : Type} (n : Nat) (l : List α) : List α := l.drop (l.length - n)

/-- Ripple has a hop to evaluate: it ends within ⌈MACS / 64⌉ + 32 ticks (R327). -/
def askRipple (t : Nat) (w : Well) : Well := { w with fresh := true, evalBy := t + (wpMacs w.pack + 63) / 64 + 32 }

/-- The end of a 10 ms hop of LMIC (R326, R327): it is judged, recorded and its features are kept. -/
def seepHop (x : List Int) (d : Dev) : Dev :=
  let w := d.well
  if !wellListens d || !due (w.hopAt + 92160000) d then d
  else
    let x := fitSamples 160 x
    let act := seepActive w.ethr w.zmin w.zmax x
    let judge := fun (w : Well) =>
      { w with active := if act then w.active + 1 else 0, inactive := if act then 0 else w.inactive + 1, hopAt := w.hopAt + 92160000 }
    let record := fun (w : Well) =>
      { w with ring := latest 200 (w.ring ++ [x]), hist := if hasRipple w then latest (wpNwin w.pack) (w.hist ++ [hopFeatures w x]) else [] }
    match w.lstate with
    | .seep => wellSet (judge (record w)) d
    | .ripple => wellSet (judge (record (askRipple d.tickN { w with hops := w.hops + 1 }))) d
    | .opened => if w.drained then d else wellSet { record w with hopAt := w.hopAt + 92160000 } d
    | .awake => wellSet (judge w) d
    | _ => d

/-- A hop of LMIC ends in this tick (02 R23). [log entry 9 DESIGN CHOICE] -/
def hopDue (d : Dev) : Dev :=
  let w := d.well
  let hears := match w.lstate with | .seep | .ripple | .awake => true | .opened => !w.drained | _ => false
  if wellListens d && hears && due (w.hopAt + 92160000) d then (let (x, d) := freeSamples 1 160 d; seepHop (x.headD []) d) else d

/-- NTRIG consecutive active hops: LSTATE becomes RIPPLE (R325). -/
def seepTrigger (d : Dev) : Dev :=
  let w := d.well
  if wellListens d && w.lstate == .seep && decide (w.ntrig ≤ w.active) then wellSet (askRipple d.tickN { w with lstate := .ripple, hops := 0 }) d else d

/-- HANG consecutive inactive hops in SEEP zeroise the ring (R326). -/
def hangZeroise (d : Dev) : Dev :=
  let w := d.well
  if wellListens d && w.lstate == .seep && decide (w.hang ≤ w.inactive) then wellSet { zeroise w with inactive := 0 } d else d

/-- A score at or above RTHR is a wake (R328). -/
def wellWake (d : Dev) : Dev :=
  let at' := now d
  let d := raise 30 0 (wellMod (fun w => wPower at' { w with lstate := .opened, gate := true, wakeAt := at', drained := false, draining := false, drain := [],
                                                              late := [], lastOut := none, lastLidx := 0, lastVerdict := none }) d)
  if d.therm.istate = 1 ∨ d.therm.istate = 2 then wakeLatch 4 (wellMod (fun w => { w with wakeIce := true }) d) else d

/-- Ripple evaluates its model over the history (R327). -/
def rippleEval (d : Dev) : Dev :=
  let w := d.well
  if !(wellListens d && w.lstate == .ripple && w.fresh) then d
  else
    let d := wellSet { w with fresh := false } d
    if sgn 32 w.rthr.toNat ≤ rippleScore w.pack w.hist then wellWake d else d

/-- The evaluation has ended by its bound (R327). -/
def rippleDue (d : Dev) : Dev := if d.well.fresh && decide (d.well.evalBy ≤ d.tickN) then rippleEval d else d

/-- RTIME hops without acceptance (R325). -/
def rippleTimeout (d : Dev) : Dev :=
  let w := d.well
  if wellListens d && w.lstate == .ripple && !w.fresh && decide (w.rtime ≤ w.hops) then wellMod (toSeep (now d)) d else d

/-- WHANG consecutive inactive hops in AWAKE (R325). -/
def whangExpiry (d : Dev) : Dev :=
  let w := d.well
  if wellListens d && w.lstate == .awake && w.whang != 0 && decide (w.whang ≤ w.inactive) then wellMod (toSeep (now d)) d else d

/-! ### The drain and the decision (R328 to R330) -/

/-- Complete frames held: hops, or pairs of hops from the latest back. -/
def ringFrames (flen : Nat) (ring : List (List Int)) : List (List Int) :=
  if flen = 0 then ring
  else
    let r := ring.drop (ring.length % 2)
    (List.range (r.length / 2)).map fun i => r.getD (2 * i) [] ++ r.getD (2 * i + 1) []

/-- The drain starts (R328): the frame in progress becomes the first live frame. The first drained frame takes its 8 ticks as well: of 200, LASTPRE
commits 1,599 ticks later, as the worked case has it. [log entry 47 DEDUCED] -/
def drainStart (d : Dev) : Dev :=
  let w := d.well
  if w.lstate == .opened && w.gate && !w.drained && w.cur.isNone && uready 30 d then
    wellSet { w with drained := true, draining := true, drain := ringFrames w.flen w.ring, cur := some (0, w.flen, [w.lmic]), frameAt := w.hopAt, drainAt := w.hopAt,
                     nowFlen := w.flen, nowRate := w.rate, emitAt := d.tickN + 7 } d
  else d

/-- LASTPRE has committed: the ring is zeroised (R328, R331). One that turned bad on its way has not (06 R119). -/
def drainEnd (d : Dev) : Dev :=
  match d.well.lastOut with
  | none => d
  | some n =>
    if !portFree 165 d then d
    else if ctrVal 65535 (kSlu 165 0) d = n then wellMod (fun w => { zeroise w with lastOut := none }) d
    else wellMod (fun w => { w with lastOut := none }) d

/-- The drain commits its next frame, at most one per 8 ticks, its port free; after LASTPRE the live frames that waited follow (R328). A ring without a
complete frame ends the drain at once. [log entry 47 DEDUCED] -/
def drainEmit (d : Dev) : Dev :=
  let w := d.well
  if !(w.lstate == .opened && w.draining && uready 30 d && decide (w.emitAt ≤ d.tickN) && portFree 165 d) then d
  else match w.drain with
    | [] => wellSet { zeroise w with late := [] } (foldSt w.late wellEmit d)
    | x :: xs =>
      let last := xs.isEmpty
      let at' := w.drainAt - frameGu w.flen * (xs.length + 1)
      let b := wellFrameBytes 0 w.flen true last false [w.lmic] at' [x]
      let d := wellSet { w with drain := xs, emitAt := d.tickN + 8 } d
      if last then
        let d := drainEnd (wellEmit b (wellMod (fun w => { w with draining := false, lastOut := some (ctrVal 65535 (kSlu 165 0) d) }) d))
        foldSt w.late wellEmit (wellMod (fun w => { w with late := [] }) d)
      else wellEmit b d

/-- The wake is rejected (R330, R331). -/
def wakeReject (d : Dev) : Dev := raise 30 1 (wellMod (fun w => toSeep (now d) (zeroise w)) d)

/-- The frame at the front of Sluice 165: its packet, which names no record, and the block without it. -/
def frameFront (d : Dev) : Option (Pkt × Dev) :=
  match takePkt 165 d with
  | some (p, d) => if p.lidx = noLidx && !p.aborted then some (p, d) else none
  | none => none

/-- The Weir admits the frame at the front of Sluice 165 (R329, R333) and keeps it in the hold store (18 R401), or discards it where STREAM's request direction is unbound; it waits while there is no record for it, or no room
in the hold store. [log entry 67 DEDUCED] -/
def frameAdmit (d0 : Dev) : Dev :=
  match frameFront d0 with
  | none => d0
  | some (p, d) =>
    let w := d.well
    let f := p.body.drop 52
    let last := bitOf (fieldLe f 2 1) 2
    if !uready 3 d then d0
    else match boundRoute p.stream 0 d with
      | none =>
        let d := raise 30 5 d
        if last && w.lstate == .opened then wakeReject d else d
      | some (r, c) =>
        if !ledgOpen d || !holdOpen d then d0
        else match ledgPick d with
          | none => d0
          | some l =>
            let seq := (streamSt (2 * p.stream) d).next
            let slot := seq % 2 ^ w.aL
            let base := (w.abaseLo.toNat + 2 ^ 32 * w.abaseHi.toNat) / 16384 * 16384 + 16384 * slot
            let a : AdmitIn := { stream := p.stream, kind := 4, dir := 0, payload := f, whole := true, host := false, src := 0, rbuf := base,
                                 rlen := if w.aEn then 16384 else 0, cookie := base, subidx := slot, subring := 0, cq := w.aCq,
                                 settle := bitOf (fieldLe f 2 1) 3 }
            let d := if last && w.lstate == .opened then wellSet { w with lastLidx := l + 1 } d else d
            itemPut 142 l f (admitItem a r c l d)

/-- The verdict released for LASTPRE decides the wake (R330): PASS or HOLD confirms it. -/
def wakeDecision (d : Dev) : Dev :=
  match d.well.lastVerdict with
  | none => d
  | some v =>
    let d := wellMod (fun w => { w with lastVerdict := none }) d
    if d.well.lstate != .opened then d
    else if v = 0 ∨ v = 4 then wellMod (fun w => toLive .awake (now d) { w with hopAt := now d }) d
    else wakeReject d

/-- LASTPRE has not been released by OPENTTL after the wake (R330). -/
def openTtlExpiry (d : Dev) : Dev :=
  let w := d.well
  if w.lstate == .opened && w.lastVerdict.isNone && due (w.wakeAt + w.openttl * 9216) d then raise 30 6 (wakeReject d) else d

/-! ### Controls (R331, R332) -/

/-- WELL_CTL DRAIN: denied while the gate is closed, and without effect while it is open. Answers whether it was denied. -/
def wellDrainAsk (d : Dev) : Bool × Dev := if d.well.gate then (false, d) else (true, raise 30 2 d)

/-- WELL_CTL FORGET. -/
def wellForget (d : Dev) : Dev := wellMod zeroise d

/-- `forget audio`: an AWAKE or OPENED state returns to SEEP as well (R337). -/
def audioForget (d : Dev) : Dev :=
  wellMod (fun w => match w.lstate with | .awake | .opened => toSeep (now d) (zeroise w) | _ => zeroise w) d

/-- DRAINING entry for Ice: a wake pauses its drain, and stays a wake source (R325, R330). -/
def wellIceDrain (d : Dev) : Dev :=
  match d.well.lstate with
  | .awake | .capture => wellMod (toSeep (now d)) d
  | .opened => wakeLatch 4 (wellMod (fun w => { w with wakeIce := true }) d)
  | _ => d

/-- The unit leaves READY, DRAINING and ICE, or its reset instant (R325, R331). -/
def wellReset (toOff' : Bool) (d : Dev) : Dev :=
  let d := wellMod (fun w => toOff (now d) (zeroise { w with pack := if toOff' then [] else w.pack })) d
  d

/-! ### The frame stage (R321, R322, R324) -/

/-- A frame stage's reply for record `l`, stage `i`, commits to Sluice 165. -/
def frameStage (l i : Nat) (d : Dev) : Dev :=
  match item? l d with
  | none => d
  | some it =>
    let s := rStage (routeAt it.route it.epoch d) i
    let sent : Bool := match it.stages.getD i .idle with | .sent .. => true | _ => false
    let waits := (slu 165 d).words.any fun w => w.first && fieldLe w.data 8 4 == l
    if stKind s != 5 || !sent || !userves 30 d || !wellHere d || waits then d
    else
      let t := stTable s
      let p := d.well.pack
      let bad := decide (4 ≤ t) || p.isEmpty || decide (wpNfset p ≤ t) || wellBadFrame it.host it.payload
      let d' := if bad then raise 30 3 d else d
      let q : Req := { lidx := l, stream := it.stream, kind := it.kind, stage := i, flush := false, prod := false, host := it.host, table := t,
                       epoch := it.epoch, seq := it.seq, input := [], plen := it.payload.length }
      let body := replyBody i (if bad then 1 else 15) false false noScores 0 it.epoch it.seq [] (if bad then [] else wellProduct p t it.payload)
      (replyPut 165 30 q body d').getD d

end Sys2Proof.Machine
end

