-- ==== Sys2Proof/Machine/DirOps.lean ====
section
/-!
DEFINITION. Machine/DirOps.lean: the Unit Directory (03): requests and their checks, acknowledgement, drains, wakes and faults, the reset
instant of every unit, and the results a request gets.
-/
namespace Sys2Proof.Machine

/-! ### The reset instant of a unit (R49, R132) -/

/-- Basin b's reset instant also ends the batch its core runs: the rows of its pass follow R49. [log entry 23 DEDUCED] -/
def basinInstant (b : Nat) (d : Dev) : Dev :=
  let d := basinReset b d
  match (core b d).running with
  | none => d
  | some x => weirSettle (foldSt x.items (fun i d => ledgMark i.lidx i.stage d) (batchEnd b d))

/-- The Weir's reset instant: every item it holds is lost to it, and released as failed. [log entry 23 DEDUCED] -/
def weirReset (d : Dev) : Dev :=
  let d := foldSt (d.weir.items.map (·.1)) itemFail d
  weirSettle (foldSt [140, 144, 146, 148, 157, 158, 159, 160, 161, 162, 163, 164, 165] (fun n d => (sluConsReset n d).2) (sluProdReset 3 d))

/-- Host items whose payload is not wholly committed to the intake Sluice. -/
def intakeOpen (d : Dev) : List Nat := (d.weir.items.filter fun (_, it) => it.host && !it.inn && !it.whole && !it.failed).map (·.1)

/-- The Inlet's reset instant: its open packets turn bad, reads it waited to repeat are given up, and payloads it has not written whole are lost to it.
 [log entry 23 DEDUCED] -/
def inletReset (d : Dev) : Dev :=
  let d := sluProdReset 1 { d with host := { d.host with retries := [] } }
  foldSt (intakeOpen d) (fun l d => sluLost 140 l 0 d) d

/-- Clear the bytes of an HBM stack (OFF keeps no state). Ledger records of its lines go too. [log entry 46 DEDUCED] -/
def hbmClear (i : Nat) (d : Dev) : Dev :=
  let here := fun (a : Nat) => hbmStackOf a d == i
  { d with hbm := { d.hbm with mem := d.hbm.mem.filter (fun p => !here p.1), pois := d.hbm.pois.filter (fun p => !here (64 * p.1)) },
           ledger := { d.ledger with recs := d.ledger.recs.filter fun p => !here (ledgBase d + 128 * p.1) } }

/-- The instant at which unit n leaves DRAINING for a target or enters FAULTED. `ice`: the target is ICE, which keeps state; `toOff`: it is
OFF, which keeps none. [log entries 20 DEDUCED, 23 DEDUCED] -/
def resetInstant (n : Nat) (ice toOff : Bool) (d : Dev) : Dev :=
  if 8 ≤ n ∧ n < 16 then (if ice then basinMod (n - 8) (fun x => { x with queue := [] }) (groupLeave (n - 8) d) else basinInstant (n - 8) d)
  else if 16 ≤ n ∧ n < 24 then
    (if ice && (core (n - 16) d).running.isNone && (core (n - 16) d).closed.isEmpty && (core (n - 16) d).openB.isEmpty then d
     else longReset (n - 16) toOff d)
  else if 26 ≤ n ∧ n < 30 then (if toOff then hbmClear (n - 26) (sluProdReset n d) else sluProdReset n d)
  else if 32 ≤ n ∧ n < 96 then linkReset (n - 32) toOff (sluProdReset n d)
  else match n with
    | 1 => inletReset d
    | 3 => if ice then d else weirReset d
    | 4 => let d := reedReset d; if toOff then reedOff d else d
    | 5 => let d := shoalReset d; if toOff then shoalOff d else d
    | 6 => let d := tarnReset d; if toOff then tarnOff d else d
    | 25 => siphonReset toOff d
    | 30 => if ice then wellIced (sluProdReset 30 d) else wellReset toOff (sluProdReset 30 d)
    | 2 => sluConsAll 2 [] (sluProdReset 2 d)
    | 96 => sluConsAll 96 [] (ferryReset (sluProdReset 96 d))
    | 97 => sluConsAll 97 [] (sluProdReset 97 d)
    | 99 => nvReset d
    | _ => sluProdReset n d

/-- A unit goes from FAULTED to OFF: what OFF does not keep is lost. [log entry 20 DEDUCED] -/
def offInstant (n : Nat) (d : Dev) : Dev := resetInstant n false true d

/-! ### Lines of the unit noun (R58) -/

def pendName (e : UEntry) : String :=
  match e.pend with
  | none => "none" | some .on => "on" | some .off => "off" | some .reset => "reset" | some .update => "update" | some .ice => "ice"
  | some .exit => "exit" | some .abandon => "abandon"

def causeName : Cause → String
  | .none => "none" | .req => "req" | .shore => "shore" | .thermo => "thermo" | .fault => "fault" | .bound => "bound" | .boot => "boot"

def unitHead (n : Nat) (d : Dev) : String :=
  "unit " ++ dec n ++ " " ++ uName n ++ " state " ++ uStateName (ustate n d) ++ " gen " ++ hex0 4 (ugen n d)

/-- The `list unit` line. -/
def unitListLine (n : Nat) (d : Dev) : String := unitHead n d ++ " pend " ++ pendName (uent n d) ++ " cause " ++ causeName (uent n d).cause

/-- The `show unit` line. -/
def unitShowLine (n : Nat) (d : Dev) : String := unitHead n d ++ " cause " ++ causeName (uent n d).cause

/-! ### Results (R45, R47, R55) -/

/-- UDIR_RESP takes a result. -/
def respWrite (n tag : Nat) (r : UResult) (d : Dev) : Dev :=
  let v := at' (ugen n d) 16 + at' (tag % 16) 12 + at' (ustate n d).code 8 + at' r.code 4
  { d with udir := { d.udir with resp := BitVec.ofNat 32 v } }

def resultWord : UResult → String
  | .busy => "busy" | .absent => "absent" | .stale => "stale" | .denied => "denied" | .range => "range" | .failed => "failed" | _ => "ok"

/-- What a line of the unit noun waits for: the unit, once it has been kept for a later tick with `wait`. -/
def askObj (wait : Bool) (n : Nat) (r : BRef) (d : Dev) : WaitObj := if wait && waitsFor r (.unit n) d then .unit n else .output

/-- The first result of a request. -/
def reqResult (q : UReq) (r : UResult) (d : Dev) : Dev :=
  match q.path with
  | .udir tag => respWrite q.unit tag r d
  | .bipol sid tag wait =>
    match r with
    | .accepted => if wait then bwait ⟨sid, tag⟩ (.unit q.unit) d else answer ⟨sid, tag⟩ .output none [unitListLine q.unit d] d
    | .done => answer ⟨sid, tag⟩ (askObj wait q.unit ⟨sid, tag⟩ d) none [unitListLine q.unit d] d
    | r => answer ⟨sid, tag⟩ (askObj wait q.unit ⟨sid, tag⟩ d) (some (resultWord r)) [unitHead q.unit d] d
  | _ => d

/-- The last result: done, or failed (R47). -/
def reqFinal (n : Nat) (w : UPath) (r : UResult) (d : Dev) : Dev :=
  match w with
  | .udir tag => respWrite n tag r d
  | .bipol sid tag true => answer ⟨sid, tag⟩ (.unit n) (if r = .failed then some "failed" else none) [unitShowLine n d] d
  | _ => d

/-! ### Transitions (R40, R42, R46) -/

/-- CHANGE, and FAULT for a move to FAULTED (R55): the entry's bit of UDIR_CHGMAPk is set. -/
def changeNote (n : Nat) (fault : Bool) (d : Dev) : Dev :=
  let d := { d with udir := { d.udir with chgmap := tabSet (fun _ => false) d.udir.chgmap n true, chgset := tabSet (fun _ => false) d.udir.chgset n true } }
  let d := raise 0 0 d
  if fault then raise 0 1 d else d

def drainBound (n : Nat) (d : Dev) : Nat := tabGet drainDef d.udir.drain n
def wakeBound (n : Nat) (d : Dev) : Nat := tabGet wakeDef d.udir.wake n

/-- What entering a state sets going in the unit. -/
def enterState (n : Nat) (s : UState) (ice : Bool) (d : Dev) : Dev :=
  match s with
  | .waking => if n = 30 then wellWaking d else if 32 ≤ n ∧ n < 96 then linkOpen (n - 32) d else d
  | .draining => if n = 30 ∧ ice then wellIceDrain d else d
  | .off => reloadMark n d
  | .ready => if n = 30 then listenStart d else if 26 ≤ n ∧ n < 30 then hbmTemp (n - 26) d else if n = 25 then forN d.siph.stopped.length (fun _ => siphonAbortReport) d else d
  | _ => d

/-- Entry n moves to state s with a cause: the generation advances, and the bounds of the new state run. -/
def moveTo (n : Nat) (s : UState) (c : Cause) (target : Option UAct) (d : Dev) : Dev :=
  let e := uent n d
  let e' : UEntry := { e with state := s, gen := e.gen + 1, cause := c, pend := none, leaving := none, target := target,
                              drainEnd := if s = .draining then now d + drainBound n d else 0,
                              wakeEnd := if s = .waking then now d + wakeBound n d else 0 }
  enterState n s (target == some .ice) (changeNote n (s == .faulted) (uentSet n e' d))

/-- The state has been reached that a request of action a asked for. -/
def reached (a : UAct) (s : UState) : Bool :=
  match a, s with
  | .off, .off => true
  | .ice, .ice => true
  | .on, .ready => true | .reset, .ready => true | .update, .ready => true | .exit, .ready => true | .abandon, .ready => true
  | _, _ => false

/-- Give done, or failed, to the requester of a sequence that has ended. -/
def settleWho (n : Nat) (d : Dev) : Dev :=
  let e := uent n d
  match e.who with
  | none => d
  | some w =>
    let fin := fun (r : UResult) => reqFinal n w r (uentSet n { uent n d with who := none } d)
    match e.state with
    | .faulted => fin .failed
    | .ready => fin .done
    | .off => fin .done
    | .ice => fin .done
    | _ => d

/-- A move and, where it ends a sequence, the result. [log entry 23 DEDUCED] -/
def moveAnd (n : Nat) (s : UState) (c : Cause) (target : Option UAct) (d : Dev) : Dev := settleWho n (moveTo n s c target d)

/-- The move to FAULTED: the tick is the unit's reset instant (R51). A link that AUTO resets notes the Gauge (16 R345). [log entry 23 DEDUCED] -/
def toFaulted (n : Nat) (c : Cause) (auto : Bool) (d : Dev) : Dev :=
  let d := moveTo n .faulted c none d
  let d := resetInstant n false false d
  let d := if n = 1 ∨ n = 2 then aerFaulted d else d
  let d := if auto ∧ 32 ≤ n ∧ n < 96 then jlinkMod (n - 32) (fun l => { l with faultAt := some (now d) }) d else d
  settleWho n d

/-- A unit leaves DRAINING for its recorded target, which is its reset instant. [log entry 23 DEDUCED] -/
def leaveDrain (n : Nat) (c : Cause) (d : Dev) : Dev :=
  let e := uent n d
  match e.target with
  | some .off => settleWho n (resetInstant n false true (moveTo n .off c none d))
  | some .reset => resetInstant n false false (moveTo n .waking c none d)
  | some .update => resetInstant n false false (moveTo n .updating c none d)
  | some .ice => settleWho n (resetInstant n true false (moveTo n .ice c none d))
  | _ => d

/-! ### Requests (R44, Table 3-4) -/

def actOf : Nat → Option UAct
  | 1 => some .on | 2 => some .off | 3 => some .reset | 4 => some .update | 5 => some .ice | 6 => some .exit | 7 => some .abandon | _ => none

/-- Whether an action is one the path may name at all: UDIR_REQ lists four, the Thermocline's three come from it alone. -/
def actListed (p : UPath) (a : Nat) : Bool :=
  match p with
  | .thermo => decide (5 ≤ a) && decide (a ≤ 7)
  | _ => decide (1 ≤ a) && decide (a ≤ 4)

/-- Units whose OFF, ON and RESET UDIR_REQ may issue (Table 3-1, DATAREQ). -/
def dataReq (n : Nat) : Bool := uAssigned n && !(decide (n < 4) || n == 24 || (decide (26 ≤ n) && decide (n < 30)) || decide (97 ≤ n))

/-- Units a load updates (Table 3-1). -/
def byLoad (n : Nat) : Bool := (decide (4 ≤ n) && decide (n < 7)) || (decide (16 ≤ n) && decide (n < 24)) || n == 30

/-- Table 3-1: the action from this path for unit n. [log entry 27 DEDUCED] -/
def permitted (p : UPath) (n : Nat) (a : UAct) : Bool :=
  match p with
  | .boot => true
  | .thermo => n != 0 && n != 98 && n != 99
  | .load => a == .update && byLoad n
  | .udir _ => a != .update && dataReq n
  | _ =>
    match a with
    | .on => n != 0 && n != 24 && decide (n < 97)
    | .off => n != 0 && n != 24 && decide (n < 97)
    | .reset => n != 0 && n != 98
    | _ => false

/-- Table 3-3: the action is listed from the state. [log entry 23 DEDUCED] -/
def actFrom (p : UPath) (e : UEntry) (a : UAct) : Bool :=
  match a, e.state with
  | .on, .off => true
  | .on, .ice => p == .boot
  | .off, .ready => true | .off, .faulted => true
  | .reset, .ready => true | .reset, .faulted => true
  | .update, .off => true | .update, .ready => true | .update, .faulted => true
  | .ice, .ready => true
  | .exit, .ice => true
  | .abandon, .draining => e.target == some .ice
  | _, _ => false

/-- The checks of Table 3-4 in order. -/
def dirCheck (q : UReq) (d : Dev) : UResult :=
  let e := uent q.unit d
  if !uAssigned q.unit || !actListed q.path q.act then .range
  else if !uPresent d.fuse.variant q.unit then .absent
  else match actOf q.act with
    | none => .range
    | some a =>
      let free := match q.path with | .thermo => true | .boot => true | _ => false
      if !permitted q.path q.unit a || (e.state == .ice && !free) then .denied
      else if q.gen ≠ e.gen.toNat then .stale
      else if e.pend.isSome || e.state == .waking || e.state == .updating || (e.state == .draining && !(a == .abandon && e.target == some .ice)) then .busy
      else if (a = .on ∧ e.state = .ready) ∨ (a = .off ∧ e.state = .off) then .done
      else if actFrom q.path e a then .accepted else .range

/-- What `up link` writes with its request (16 R369), where the request is not refused. -/
def reqEnc (q : UReq) (d : Dev) : Dev := match q.enc with | some e => jlinkMod (q.unit - 32) (fun l => { l with encCfg := e }) d | none => d

/-- A request that waits for a later tick; its line waits, or keeps its place among the responses (04 R74). -/
def dirPark (q : UReq) (d : Dev) : Dev :=
  let d := { d with udir := { d.udir with waiting := d.udir.waiting ++ [q] } }
  match q.path with
  | .bipol sid tag true => bwait ⟨sid, tag⟩ (.unit q.unit) d
  | .bipol sid tag false => if (sess sid d).order.any fun o => o.tag == tag && o.lines.isNone then d else owe ⟨sid, tag⟩ d
  | _ => d

/-- Check one request: it waits where another has been accepted in this tick (R44). [log entry 61 DESIGN CHOICE] -/
def dirOne (q : UReq) (d : Dev) : Dev :=
  match dirCheck q d with
  | .accepted =>
    if d.udir.taken then dirPark q d
    else
      let e := uent q.unit d
      let e := { e with pend := actOf q.act, ackBy := d.tickN + 4, who := some q.path }
      reqResult q .accepted (reqEnc q (uentSet q.unit e { d with udir := { d.udir with taken := true } }))
  | .done => reqResult q .done (reqEnc q d)
  | r => reqResult q r d

/-- Requests that wait are evaluated afresh, in order (R44). -/
def dirRetry (d : Dev) : Dev :=
  if d.udir.taken then d else foldSt d.udir.waiting dirOne { d with udir := { d.udir with waiting := [] } }

/-- A request arrives; those that wait from an earlier tick have come first. -/
def dirSubmit (q : UReq) (d : Dev) : Dev := dirOne q d

/-- A write of UDIR_REQ (R55), served in recovery as at any time. Behind it in its tick the Shore agent's requests come first (R44).
 [log entries 59 DESIGN CHOICE, 60 DEDUCED] -/
def udirWrite (v : Nat) (d : Dev) : Dev :=
  let q : UReq := { path := .udir (bitsOf v 15 12), unit := bitsOf v 6 0, act := bitsOf v 11 8, gen := bitsOf v 31 16 }
  if d.udir.shore then { d with udir := { d.udir with waiting := d.udir.waiting ++ [q] } } else dirSubmit q d

/-- CAUSE of an accepted action (R55). -/
def causeOf : UPath → Cause
  | .udir _ => .req | .boot => .boot | .thermo => .thermo | _ => .shore

/-! ### What the units answer (R46, R48, R51, R474) -/

/-- A unit leaves UPDATING with its load done. -/
def wakeUpdated (n : Nat) (c : Cause) (d : Dev) : Dev := moveTo n .waking c none d

/-- Unit n acknowledges the accepted transition, or the one that follows the end of its drain or load. [log entry 23 DEDUCED] -/
def dirAck (n : Nat) (d : Dev) : Dev :=
  let e := uent n d
  match e.pend, e.who with
  | some a, some w =>
    let c := causeOf w
    match a, e.state with
    | .on, _ => moveTo n .waking c none d
    | .exit, _ => moveTo n .waking c none d
    | .reset, .faulted => moveTo n .waking c none d
    | .off, .faulted => settleWho n (offInstant n (moveTo n .off c none d))
    | .update, .ready => moveTo n .draining c (some .update) d
    | .update, _ => moveTo n .updating c none d
    | .abandon, _ => moveAnd n .ready c none d
    | a, _ => moveTo n .draining c (some a) d
  | _, _ => match e.leaving with
    | some c => if e.state = .draining then leaveDrain n c d else wakeUpdated n c d
    | none => d

/-- No acknowledgement within 4 ticks, of CCLK as it runs. [log entry 61 DESIGN CHOICE] -/
def ackExpiry (n : Nat) (d : Dev) : Dev :=
  let e := uent n d
  if (e.pend.isSome || e.leaving.isSome) && decide (e.ackBy ≤ d.tickN) then toFaulted n .bound false d else d

/-- The end of a drain, or of a load: `ack`, the unit acknowledges what follows, `f`, at once; else within 4 ticks (R46). [log entries 23 DEDUCED, 61 DESIGN CHOICE] -/
def ackOr (n : Nat) (c : Cause) (ack : Bool) (f : Dev → Dev) (d : Dev) : Dev :=
  if ack then f d else uentSet n { uent n d with leaving := some c, ackBy := d.tickN + 4 } d

/-- The last accepted request of a DRAINING unit has committed. -/
def drainComplete (n : Nat) (ack : Bool) (d : Dev) : Dev :=
  let e := uent n d
  if e.state = .draining ∧ e.pend = none ∧ e.leaving = none then ackOr n e.cause ack (leaveDrain n e.cause) d else d

/-- The drain bound expires. -/
def drainExpiry (n : Nat) (ack : Bool) (d : Dev) : Dev :=
  let e := uent n d
  if e.state = .draining ∧ e.pend = none ∧ e.leaving = none ∧ due e.drainEnd d then ackOr n .bound ack (leaveDrain n .bound) d else d

/-- A WAKING unit acknowledges READY. A Jetty link is READY in the tick it reaches UP, and not before (16 R340). -/
def wakeComplete (n : Nat) (d : Dev) : Dev :=
  let e := uent n d
  if e.state = .waking ∧ ¬ (32 ≤ n ∧ n < 96 ∧ (jlink (n - 32) d).st ≠ .up) then moveAnd n .ready e.cause none d else d

/-- The wake bound expires. -/
def wakeExpiry (n : Nat) (d : Dev) : Dev :=
  let e := uent n d
  if e.state = .waking ∧ wakeBound n d ≠ 0 ∧ due e.wakeEnd d then toFaulted n .bound true d else d

/-- An uncorrectable fault (R51): from READY, DRAINING or WAKING; the recorded target is dropped. -/
def unitFault (n : Nat) (d : Dev) : Dev :=
  match ustate n d with
  | .ready => toFaulted n .fault false d
  | .draining => toFaulted n .fault false d
  | .waking => toFaulted n .fault false d
  | _ => d

/-- A load during UPDATING ends (R474). -/
def updateDone (n : Nat) (ack : Bool) (d : Dev) : Dev :=
  let c := (uent n d).cause
  if ustate n d = .updating then ackOr n c ack (wakeUpdated n c) d else d
def updateFail (n : Nat) (d : Dev) : Dev := if ustate n d = .updating then toFaulted n .fault false d else d

/-- Faults that a command has brought about: a core in kernel mode (12 R259), four passes in a row with a parity error (11 R244), a link that
fails (16 R345); and a link that has reached UP is READY. -/
def faultsRun (d : Dev) : Dev :=
  let d := foldSt (d.longs.core.filter (fun p => p.2.kfault)) (fun (c, _) d => unitFault (16 + c) (coreMod c (fun k => { k with kfault := false }) d)) d
  let d := foldSt (d.basin.filter (fun p => decide (4 ≤ p.2.parRun))) (fun (b, _) d => unitFault (8 + b) (basinMod b (fun x => { x with parRun := 0 }) d)) d
  foldSt d.jetty.link (fun (j, l) d => if l.st = .up then wakeComplete (32 + j) d else d) d

/-- LINK_FAILURE (16 R345): DOWN is set and the unit faults. -/
def linkFailure (j : Nat) (lockLost : Bool) (d : Dev) : Dev :=
  if linkFails j lockLost d && userves (32 + j) d then toFaulted (32 + j) .fault true (raise (32 + j) 0 d) else d

/-- LINK_AUTO_RESET (16 R345): the Shore agent resets a faulted link 92,160,000 gu after its move. -/
def linkAutoReset (j : Nat) (d : Dev) : Dev :=
  let l := jlink j d
  match l.faultAt with
  | none => d
  | some t =>
    if l.auto && ustate (32 + j) d == .faulted && due (t + 92160000) d then
      dirSubmit { path := .agent, unit := 32 + j, act := 3, gen := ugen (32 + j) d } (jlinkMod j (fun l => { l with faultAt := none }) d)
    else d

/-! ### Unit commands of Bipol (R58) -/

/-- `on`, `off` and `reset`: 1, 2 and 3. A machine-mode line without `gen` is refused with syntax; typed mode takes the current generation. -/
def unitCmd (r : BRef) (a n : Nat) (gen : Option Nat) (wait : Bool) (enc : Option Bool) (d : Dev) : Dev :=
  if (sess r.sid d).machine && gen.isNone then err r "syntax" [] d
  else dirSubmit { path := .bipol r.sid r.tag wait, unit := n, act := a, gen := gen.getD (ugen n d), enc := enc } d

end Sys2Proof.Machine
end

