-- ==== Sys2Proof/Machine/IceOps.lean ====
section
/-!
DEFINITION. Machine/IceOps.lean: entry to and exit from Ice, and the abandonment of an entry (17 R388 to R393).
-/
namespace Sys2Proof.Machine

/-- The order in which step 3 asks the units (R389). [log entry 51 DEDUCED] -/
def iceOrder : List Nat :=
  [4, 5, 6, 25] ++ (List.range 8).map (16 + ·) ++ (List.range 8).map (8 + ·) ++ [96] ++ (List.range 64).map (32 + ·) ++ [30, 3, 2, 97] ++ (List.range 4).map (26 + ·)

/-- WEIR_HELD is 0 and no amendment window is open. [log entry 51 DEDUCED] -/
def weirIdle (d : Dev) : Bool := d.weir.items.isEmpty

/-- A Thermocline request with the unit's current generation. -/
def thermoAsk (n a : Nat) (d : Dev) : Dev := dirSubmit { path := .thermo, unit := n, act := a, gen := ugen n d } d

/-- Step 1, once no step change is pending: ISTATE 1, and ICE for the Inlet. [log entry 51 DEDUCED] -/
def iceStart (d : Dev) : Dev :=
  let t := d.therm
  if !t.enterReq || t.istate ≠ 0 || t.raise.isSome || t.pend.isSome then d
  else
    let ready := iceOrder.filter fun n => uready n d
    let inl := uready 1 d
    let d := thermMod (fun t => { t with enterReq := false, istate := 1, iceAt := now d, iceReq := (if inl then [1] else []) ++ ready, iceTodo := ready, iceGo := false,
                                         abandon := false, lowered := none, exitGo := none, exitTodo := [], exitRest := [] }) d
    if inl then thermoAsk 1 5 d else d

/-- An entry is asked for (R389). [log entry 51 DEDUCED] -/
def iceEnter (d : Dev) : Dev := if d.therm.istate = 0 then iceStart (thermMod (fun t => { t with enterReq := true }) d) else d

/-- AUTO: nothing admitted and nothing held for THERM_ICEIDLE. -/
def iceAutoIdle (d : Dev) : Dev :=
  let t := d.therm
  if t.auto && t.istate == 0 && weirIdle d && due (t.lastAdm + t.iceidle * 9216000) d then iceEnter d else d

/-- Steps 2 and 3: with WEIR_HELD 0 and no window open, the next unit is asked. [log entry 51 DEDUCED] -/
def iceQuiesced (d : Dev) : Dev :=
  let t := d.therm
  if t.istate ≠ 1 ∨ t.abandon ∨ d.udir.taken then d
  else if !t.iceGo && !weirIdle d then d
  else
    let d := thermMod (fun t => { t with iceGo := true }) d
    match t.iceTodo with
    | [] => d
    | n :: ns => thermoAsk n 5 (thermMod (fun t => { t with iceTodo := ns }) d)

/-- Step 4: every requested unit is in ICE, and VDD_CORE is lowered. -/
def iceAllIn (d : Dev) : Dev :=
  let t := d.therm
  if t.istate = 1 ∧ t.iceGo ∧ t.iceTodo = [] ∧ t.lowered = none ∧ t.iceReq.all (fun n => ustate n d == .ice) then
    thermMod (fun t => { t with lowered := some (now d) }) (voutWrite 4 true d)
  else d

/-- 460,800 gu later the PLL is bypassed at an aligned tick end. -/
def icePllBypass (d : Dev) : Dev :=
  match d.therm.lowered with
  | some at' => if d.therm.istate = 1 ∧ due (at' + 460800) d then thermMod (fun t => { t with pend := some .ice }) d else d
  | none => d

/-- THERM_ICEWAIT expires before the part is quiet (R393). -/
def iceWaitExpiry (d : Dev) : Dev :=
  let t := d.therm
  if t.istate = 1 ∧ ¬ t.iceGo ∧ due (t.iceAt + t.icewait * 9216000) d then iceAbandon d else d

/-- THERM_ICEWAKE (R391). -/
def iceWakeTimer (d : Dev) : Dev :=
  let t := d.therm
  if t.istate = 2 ∧ t.icewake ≠ 0 ∧ due (t.iceAt + t.icewake * 9216000) d then wakeLatch 5 d else d

/-- Exit begins (Table 17-6): the PLL is powered, and VDD_CORE is raised for the rung's step. -/
def iceExit (d : Dev) : Dev :=
  let t := d.therm
  if t.istate = 3 ∧ d.clk = .ice ∧ t.raise = none ∧ t.pend = none then
    let st := rungStep t.rung
    let hbm := t.iceReq.filter fun n => decide (26 ≤ n) && decide (n < 30)
    let led := t.iceReq.filter (· == 97)
    let rest := t.iceReq.filter fun n => !hbm.contains n && n != 97
    thermMod (fun t => { t with raise := some (st, t.exitAt + 460800), exitTodo := hbm ++ led ++ rest, exitRest := t.iceReq, shlevel := rungShal t.rung })
      (voutWrite st.code true d)
  else d

/-- The units an exit or abandonment calls back, one a tick: EXIT for one in ICE, ABANDON for one DRAINING towards it. A unit that has not
yet acknowledged waits. -/
def iceBack (d : Dev) : Dev :=
  let t := d.therm
  if t.istate ≠ 3 ∨ d.udir.taken ∨ (d.clk = .ice ∧ ¬ t.abandon) ∨ t.pend.isSome then d
  else
    let open' := fun (n : Nat) => (uent n d).pend.isNone
    let pick := t.exitTodo.find? fun n => open' n && ((ustate n d == .draining && (uent n d).target == some .ice) || (ustate n d == .ice && t.exitGo.isNone))
    let done := t.exitTodo.filter fun n => open' n && !(ustate n d == .draining || ustate n d == .ice)
    let d := thermMod (fun t => { t with exitTodo := t.exitTodo.filter fun n => !done.contains n }) d
    match pick with
    | none => d
    | some n => thermoAsk n (if ustate n d = .ice then 6 else 7) (thermMod (fun t => { t with exitTodo := t.exitTodo.erase n }) d)

/-- The PLL has locked: CCLK switches at an aligned tick end, and then the units are woken. -/
def iceExitSwitch (d : Dev) : Dev :=
  if d.therm.istate = 3 ∧ d.clk = .ice then stepRaiseSwitch d else iceBack d

/-- VDD_CORE has settled for an abandoned entry: the first EXIT (R393). -/
def iceAbandonSettled (d : Dev) : Dev :=
  match d.therm.exitGo with
  | some t => if due t d then iceBack (thermMod (fun t => { t with exitGo := none }) d) else d
  | none => d

/-- The last unit called back has come to rest: ISTATE returns to 0. -/
def iceFinish (d : Dev) : Dev :=
  let t := d.therm
  let rest := fun (n : Nat) => (uent n d).pend.isNone && !(ustate n d == .draining || ustate n d == .ice || ustate n d == .waking)
  if t.istate = 3 ∧ t.exitTodo = [] ∧ t.exitGo = none ∧ (t.abandon ∨ d.clk ≠ .ice) ∧ t.exitRest.all rest then
    let d := if t.abandon then d else raise 98 4 (thermMod (fun t => { t with exitlast := min (now d - t.exitAt) 4294967295 }) d)
    let ws := d.therm.waitOut
    let d := thermMod (fun t => { t with istate := 0, abandon := false, iceReq := [], exitRest := [], waitOut := [] }) d
    foldSt ws (fun w d => answer ⟨w.1, w.2⟩ (.other 4) none [iceLine d] d) d
  else d

/-- What the Thermocline does of its own accord in a tick for Ice. -/
def iceTick (d : Dev) : Dev :=
  iceFinish (iceAbandonSettled (iceExitSwitch (iceExit (iceWakeTimer (iceWaitExpiry (icePllBypass (iceAllIn (iceQuiesced (iceAutoIdle (iceStart d))))))))))

end Sys2Proof.Machine
end

