-- ==== Sys2Proof/Machine/RegOps.lean ====
section
/-!
DEFINITION. Machine/RegOps.lean: the shared forms of register reads and writes (02 R27 to R33).
-/
namespace Sys2Proof.Machine

/-- What a read of one register gives: its value and the state after the read; none: the offset is unassigned (R28). -/
abbrev RegR := Option (Nat × Dev)

/-- A register that reads as a value. -/
def rval (v : Nat) (d : Dev) : RegR := some (v % 4294967296, d)

/-- A 16-bit RC event counter (R32). -/
def rcnt (k : Nat) (d : Dev) : RegR := some (ctrRc 0xFFFF k d)

/-- The status bits of a notice block, and its enables. -/
def rnote (b : Nat) (d : Dev) : RegR := rval (noteGet b d).bits.toNat d
def rnoteEn (b : Nat) (d : Dev) : RegR := rval (noteGet b d).en.toNat d

/-- Writes of them: 1s clear (R31); the enables are stored, reserved bits dropped. `m`: the bits that exist. -/
def wnote (b m v : Nat) (d : Dev) : Option Dev := some (clearBits b (BitVec.ofNat 8 (v % 256 &&& m)) d)
def wnoteEn (b m v : Nat) (d : Dev) : Option Dev := some (setEn b (BitVec.ofNat 8 (v % 256 &&& m)) d)

/-- A write that a rule discards and counts. -/
def wbad (d : Dev) : Option Dev := some (badacc d)

/-- A write to a register that ignores it. -/
def wro (d : Dev) : Option Dev := some d

/-- A write taken where a condition holds, else discarded and counted. -/
def wif (p : Bool) (f : Dev → Dev) (d : Dev) : Option Dev := if p then some (f d) else wbad d

/-- The bits a number has as flags. -/
def mask (hi lo : Nat) : Nat := (2 ^ (hi + 1 - lo) - 1) * 2 ^ lo

end Sys2Proof.Machine
end

