-- ==== Sys2Proof/Machine/LoadOps.lean ====
section
/-!
DEFINITION. Machine/LoadOps.lean: loading packs and model images into the engines: slot lines, the load lines of the nouns, and how a load
ends (08 R178 to R180, 09 R198 to R200, 10 R219, R220, 12 R270 to R273, 15 R335, 03 R474, 19 R476).
-/
namespace Sys2Proof.Machine

def sp (k v : String) : String := " " ++ k ++ " " ++ v
def spn (k : String) (v : Nat) : String := sp k (dec v)

/-! ### Slot lines -/

def reedSlotLine (k : Nat) (d : Dev) : String :=
  let p := (reedSlot k d).bytes
  "slot " ++ dec k ++ spn "loaded" (b2n !p.isEmpty) ++ spn "inuse" (b2n (reedInUse k d)) ++ spn "size" p.length ++ spn "pieces" (rpNPiece p)
    ++ spn "maxlen" (rpMaxLen p) ++ spn "stopsets" (rpNStop p) ++ spn "profiles" (rpNProf p)

def shoalSlotLine (k : Nat) (d : Dev) : String :=
  let p := (shoalSlot k d).bytes
  "slot " ++ dec k ++ spn "loaded" (b2n !p.isEmpty) ++ spn "inuse" (b2n (shoalInUse k d)) ++ spn "size" p.length ++ spn "states" (spNState p)
    ++ spn "classes" (spNClass p) ++ spn "patterns" (spNPat p) ++ spn "profiles" (spNProf p)

def tarnSlotLine (k : Nat) (d : Dev) : String :=
  let p := (tarnSlot k d).bytes
  "slot " ++ dec k ++ spn "loaded" (b2n !p.isEmpty) ++ spn "inuse" (b2n (tarnInUse k d)) ++ spn "size" p.length ++ spn "trees" (tpNTree p)
    ++ spn "nodes" (tpNNode p) ++ spn "classes" (tpNClass p) ++ spn "link" (tpLink p) ++ spn "profiles" (tpNProf p)

/-- `show long C prog P`. -/
def longProgLine (c k : Nat) (d : Dev) : String :=
  let p := progOf k (core c d)
  "prog " ++ dec k ++ spn "loaded" (b2n !p.hdr.isEmpty) ++ spn "inuse" (b2n (progInUse k d)) ++ spn "stopped" (b2n (slotStopped c k d))
    ++ spn "shallows" (b2n (bitOf (fieldLe p.hdr 6 2) 0)) ++ spn "streams" (strmCount p) ++ spn "code" (fieldLe p.hdr 8 4)

/-- The lowest core of a mask. -/
def lowCore (m : Nat) : Nat := (findIdx 8 (bitOf m)).getD 0

/-- The line a load of an engine answers with. -/
def loadLines (u k cores : Nat) (d : Dev) : List String :=
  match u with
  | 4 => [reedSlotLine k d]
  | 5 => [shoalSlotLine k d]
  | 6 => [tarnSlotLine k d]
  | 16 => [longProgLine (lowCore cores) k d]
  | _ => []

/-! ### Model images (12 R270 to R272) -/

def pad64 (n : Nat) : Nat := (n + 63) / 64 * 64
def mCode (m : List Byte) : Nat := fieldLe m 8 4
def mData (m : List Byte) : Nat := fieldLe m 12 4
def mBss (m : List Byte) : Nat := fieldLe m 16 4
def mWeight (m : List Byte) : Nat := fieldLe m 20 8
def mStreams (m : List Byte) : Nat := fieldLe m 28 2
def mTableAt : Nat := 256
def mCodeAt (m : List Byte) : Nat := 256 + pad64 (32 * mStreams m)
def mDataAt (m : List Byte) : Nat := mCodeAt m + pad64 (mCode m)
def mWeightAt (m : List Byte) : Nat := mDataAt m + pad64 (mData m)
def mSize (m : List Byte) : Nat := mWeightAt m + pad64 (mWeight m)
def mEntry (m : List Byte) (i : Nat) : List Byte := slice m (mTableAt + 32 * i) 32

def weightFmt (w : Nat) : Bool := (List.range 6).any fun a => macMode a w != 0

def mHeaderOk (m : List Byte) : Bool :=
  fieldLe m 0 4 == 0x4D49474C && fieldLe m 4 2 == 1 && decide (fieldLe m 6 2 < 2) && within (mCode m) 64 229376 && mCode m % 64 == 0
    && mData m % 64 == 0 && decide (mData m + mBss m ≤ 16777216) && decide (mStreams m ≤ 1024) && within (fieldLe m 30 1) 1 16
    && within (fieldLe m 31 1) 1 2 && within (fieldLe m 32 2) 1 512 && decide (fieldLe m 34 2 ≤ 511) && decide (fieldLe m 32 2 + fieldLe m 34 2 ≤ 512)
    && decide (fieldLe m 36 8 ≤ 92160000) && within (fieldLe m 44 8) 9216 9216000000 && decide (fieldLe m 52 1 ≤ 7) && decide (fieldLe m 53 1 ≤ 2)
    && allZero (slice m 54 6) && allZero (slice m 128 128)
    && allN 16 fun i => let e := fieldLe m (64 + 4 * i) 4
                        if i < fieldLe m 30 1 then e % 64 == 0 && decide (e < mCode m) else e == 0

def mStreamOk (m : List Byte) (i : Nat) : Bool :=
  let e := mEntry m i
  let w := fieldLe e 12 1
  let tw := fieldLe e 18 2
  let t := mEntry m tw
  fieldLe e 0 8 % 64 == 0 && decide (fieldLe e 0 8 + fieldLe e 8 4 ≤ pad64 (mWeight m)) && weightFmt w && decide (fieldLe e 13 1 ≤ 1)
    && fieldLe e 8 4 == streamLen (fieldLe e 14 2) (fieldLe e 16 2) w (fieldLe e 13 1) && allZero (slice e 20 12)
    && (tw == 0xFFFF || (bitOf (fieldLe m 6 2) 0 && w == 0 && decide (tw < mStreams m) && fieldLe t 12 1 == 1 && slice t 13 5 == slice e 13 5
          && fieldLe t 18 2 == 0xFFFF))

/-- The Mere program area and the HBM weight region as places with a start and an end. -/
def progArea : Nat × Nat := (0xC00000, 0x6000000)

/-- Ranges of an area taken by programs other than slot `k` of the cores named, as offsets from its start. -/
def progUsed (weights : Bool) (k cores : Nat) (d : Dev) : List (Nat × Nat) :=
  d.longs.core.flatMap fun (c, x) => x.slots.filterMap fun (s, p) =>
    if (s = k ∧ bitOf cores c = true) ∨ p.hdr.isEmpty then none
    else if weights then some (p.wgtAt, (mWeight p.hdr + 4095) / 4096 * 4096)
    else some (p.dataAt - progArea.1, pad64 (mData p.hdr + mBss p.hdr))

/-- The lowest free place for `n` bytes. [log entry 38 DEDUCED] -/
def placeIn (size n : Nat) (used : List (Nat × Nat)) : Option Nat :=
  if n = 0 then some 0 else ((freeRanges size used).find? fun r => decide (n ≤ r.2)).map (·.1)

def dataPlace (m : List Byte) (k cores : Nat) (d : Dev) : Option Nat :=
  (placeIn (progArea.2 - progArea.1) (pad64 (mData m + mBss m)) (progUsed false k cores d)).map (progArea.1 + ·)

/-- The HBM address for a program's weights: the lowest place that is free of images and of every core's weights (R272). [log entry 38 DEDUCED] -/
def wgtPlace (m : List Byte) (k cores : Nat) (d : Dev) : Option Nat :=
  let held := (d.boot.dir.filter (·.hbm)).map fun e => (e.addr, e.len)
  placeIn (sessBase d) ((mWeight m + 4095) / 4096 * 4096) (held ++ progUsed true k cores d)

def codeRoom (m : List Byte) (k c : Nat) (d : Dev) : Bool :=
  let x := core c d
  decide (codeUsed x - fieldLe (progOf k x).hdr 8 4 + mCode m ≤ 229376)

/-- The checks 2 to 8 of R272. [log entry 38 DEDUCED] -/
def longCheck (m : List Byte) (plen k cores : Nat) (d : Dev) : Option String :=
  firstFail [
    ("size", decide (256 ≤ m.length) && mSize m == plen && m.length == plen),
    ("crc", crc32 (zeroAt m 60 4) == fieldLe m 60 4),
    ("header", mHeaderOk m), ("stream", allN (mStreams m) (mStreamOk m)),
    ("room-code", allN 8 fun c => !bitOf cores c || codeRoom m k c d),
    ("room-mere", (dataPlace m k cores d).isSome), ("room-hbm", (wgtPlace m k cores d).isSome)]

/-! ### Checks by engine -/

/-- Room in an engine's pack area, the slot's own range counting as free. -/
def packPlace (u k n : Nat) (d : Dev) : Option Nat :=
  match u with
  | 4 => slotPlace reedArea 1 n d.reed.slots k
  | 5 => slotPlace shoalArea 1 n d.shoal.slots k
  | 6 => slotPlace tarnArea 16 n d.tarn.slots k
  | _ => some 0

/-- The payload's own checks of an engine (R179, R198, R219, R335, R272). [log entry 38 DEDUCED] -/
def payloadCheck (u k cores : Nat) (p : List Byte) (plen : Nat) (d : Dev) : Option String :=
  let room := fun (c : Option String) => match c with | none => (if (packPlace u k p.length d).isSome then none else some "room") | c => c
  match u with
  | 4 => room (reedCheck p plen)
  | 5 => room (shoalCheck p plen)
  | 6 => room (tarnCheck p plen)
  | 30 => wellCheck p
  | _ => longCheck p plen k cores d

/-- Every check of a load of engine `u` (16 for a model), by name. [log entry 38 DEDUCED] -/
def loadCheck (u k cores : Nat) (b : List Byte) (bad : Bool) (d : Dev) : Option String :=
  match imageCheck (if u = 16 then 4 else 3) b bad d with
  | some n => some n
  | none =>
    if u = 30 ∧ imgPlen b ≠ fieldLe (imgPayload b) 8 4 then some "size"
    else payloadCheck u k cores (imgPayload b) (imgPlen b) d

/-- Whether a load's slot is in use. [log entry 38 DEDUCED] -/
def loadInUse (u k : Nat) (d : Dev) : Bool :=
  match u with | 4 => reedInUse k d | 5 => shoalInUse k d | 6 => tarnInUse k d | 16 => progInUse k d | _ => true

/-- The units of a load. -/
def loadUnits (u cores : Nat) : List Nat := if u = 16 then ((List.range 8).filter (bitOf cores)).map (16 + ·) else [u]

/-! ### Accepting a load -/

/-- A load is accepted. [log entry 38 DEDUCED] -/
def loadAdd (j : LoadJob) (d : Dev) : Dev := { d with loads := d.loads ++ [j] }

/-- Answer now, or when the load has ended. -/
def loadAnswer (b : BRef) (u k cores : Nat) (wait : Bool) (d : Dev) : Dev :=
  if wait then bwait b (.slot u k) d else ok b (loadLines u k cores d) d

/-- A load line of an engine's noun: range, then the checks, then absent, then busy, each as its noun states; `replace` goes by UPDATE where
the slot is in use or the unit is not READY, and the Wellhead always (R44, R179, R335). -/
def loadLine (b : BRef) (u k nslot cores : Nat) (src : LoadSrc) (replace wait : Bool) (d : Dev) : Dev :=
  bcmd b (fun d =>
    let srcOk := match src with | .image n => decide (n < 64) | .mere a => inStage a d
    let us := loadUnits u cores
    if nslot ≤ k ∨ srcOk = false ∨ 256 ≤ cores ∨ us.isEmpty = true then err b "range" [] d
    else if us.any (fun n => !uPresent d.fuse.variant n) then err b "absent" [] d
    else
      let (img, bad) := imageOf src d
      match loadCheck u k cores img bad d with
      | some n => err b "range" ["check " ++ n] d
      | none =>
        let flash := match src with | .image n => (match dirActive n d with | some e => !e.hbm | none => false) | .mere _ => false
        let ready := us.all fun n => uready n d
        let lines := loadLines u k cores d
        let j : LoadJob := { unit := u, slot := k, cores := cores, left := if u = 16 then cores else 1, image := imgPayload img, upd := false,
                             sid := b.sid, tag := b.tag, wait := wait }
        if flash && !uready 99 d then err b "absent" lines d
        else if u = 30 ∨ (replace = true ∧ (loadInUse u k d = true ∨ ready = false)) then
          let q := fun (n : Nat) (d : Dev) => ({ path := .load, unit := n, act := 4, gen := ugen n d } : UReq)
          match us.find? (fun n => dirCheck (q n d) d != .accepted) with
          | some n => err b (resultWord (dirCheck (q n d) d)) lines d
          | none => foldSt us (fun n d => dirSubmit (q n d) d) (loadAnswer b u k cores wait (loadAdd { j with upd := true } d))
        else if !ready ∧ u < 16 then err b "absent" lines d
        else if !ready then errAway b ((us.find? fun n => !uready n d).getD 0) lines d
        else if loadInUse u k d then err b "busy" lines d
        else loadAnswer b u k cores wait (loadAdd j d)) d

/-! ### Ending a load -/

def jobDrop (j : LoadJob) (d : Dev) : Dev := { d with loads := d.loads.erase j }

/-- A slot named for the reload is dealt with. -/
def reloadClear (u k cores : Nat) (d : Dev) : Dev :=
  match u with
  | 4 => { d with reed := { d.reed with reload := d.reed.reload.filter (· != k) } }
  | 5 => { d with shoal := { d.shoal with reload := d.shoal.reload.filter (· != k) } }
  | 6 => { d with tarn := { d.tarn with reload := d.tarn.reload.filter (· != k) } }
  | 16 => foldSt ((List.range 8).filter (bitOf cores)) (fun c d =>
      { d with longs := { d.longs with reload := tabSet (fun _ => false) d.longs.reload (16 * c + k) false } }) d
  | _ => d

/-- A load that has failed: who waits hears it; the reload after an ON is logged. An engine's slot then reads empty (R180, R200, R220); a core's counts as
stopped until it has been reloaded (12 R273). -/
def jobFail (j : LoadJob) (d : Dev) : Dev :=
  let d := jobDrop j d
  let d := if j.again then logAdd j.unit .fault ("load slot " ++ dec j.slot ++ " failed") (if j.unit = 16 then d else reloadClear j.unit j.slot j.cores d) else d
  answer ⟨j.sid, j.tag⟩ (.slot j.unit j.slot) (some "failed") (loadLines j.unit j.slot j.cores d) d

def jobDone (j : LoadJob) (d : Dev) : Dev :=
  let d := jobDrop j d
  if j.wait then answer ⟨j.sid, j.tag⟩ (.slot j.unit j.slot) none (loadLines j.unit j.slot j.cores d) d else d

/-- Put a model on the cores `m` of its mask (R272). -/
def longInstall (j : LoadJob) (m : Nat) (d : Dev) : Option Dev :=
  let p := j.image
  let have' := ((List.range 8).find? fun c => bitOf j.cores c && !bitOf j.left c).map fun c => progOf j.slot (core c d)
  let place := match have' with
    | some s => some (s.dataAt, s.wgtAt)
    | none => match dataPlace p j.slot j.cores d, wgtPlace p j.slot j.cores d with | some a, some w => some (a, w) | _, _ => none
  match place with
  | none => none
  | some (a, w) =>
    let d := if have'.isSome then d
             else mereWrite a (slice p (mDataAt p) (mData p) ++ List.replicate (mBss p) 0) (hbmWrite w (slice p (mWeightAt p) (mWeight p)) d)
    let s : ProgSlot := { hdr := p.take 256, table := slice p mTableAt (32 * mStreams p), code := slice p (mCodeAt p) (mCode p), dataAt := a, wgtAt := w }
    some (foldSt ((List.range 8).filter (bitOf m)) (fun c d =>
      coreMod c (fun k => { k with slots := tabSet (fun _ => ({} : ProgSlot)) k.slots j.slot s }) d) (reloadClear 16 j.slot m d))

/-- The slot holds the new pack; none: its room has gone meanwhile. `m`: the cores that take a model. -/
def jobInstall (j : LoadJob) (m : Nat) (d : Dev) : Option Dev :=
  let d := if j.unit = 16 then d else reloadClear j.unit j.slot 0 d
  match j.unit with
  | 4 => (packPlace 4 j.slot j.image.length d).map fun o =>
      let d := if j.upd then reedClearAll d else d
      reedSlotSet j.slot { base := o, bytes := j.image } d
  | 5 => (packPlace 5 j.slot j.image.length d).map fun o =>
      let d := if j.upd then shoalClearAll d else shoalClearSlot j.slot d
      shoalSlotSet j.slot { base := o, bytes := j.image } d
  | 6 => (packPlace 6 j.slot j.image.length d).map fun o => tarnSlotSet j.slot { base := o, bytes := j.image } d
  | 30 => some { d with well := { d.well with pack := j.image } }
  | _ => longInstall j m d

/-- A load into a slot not in use has been read and checked: the slot holds the new pack (R179, R199, R220, R272). [log entry 38 DEDUCED] -/
def slotLoadComplete (u k : Nat) (d : Dev) : Dev :=
  match d.loads.find? fun j => j.unit == u && j.slot == k && !j.upd with
  | none => d
  | some j =>
    if !(loadUnits u j.cores).all (fun n => userves n d) then jobFail j d
    else match jobInstall j j.cores d with
      | none => jobFail j d
      | some d => jobDone j d

/-- Bit of unit n in a job's `left`. -/
def jobBit (j : LoadJob) (n : Nat) : Nat := if j.unit = 16 then n - 16 else 0

def jobSwap (j j' : LoadJob) (d : Dev) : Dev := { d with loads := d.loads.map fun x => if x == j then j' else x }

/-- The load by UPDATE that unit n has still to take. -/
def updJob (n : Nat) (d : Dev) : Option LoadJob :=
  d.loads.find? fun j => j.upd && (loadUnits j.unit j.cores).contains n && bitOf j.left (jobBit j n)

/-- A load during UPDATING completes and verifies (03 R474): the unit takes the pack and wakes. -/
def loadComplete (n : Nat) (ack : Bool) (d : Dev) : Dev :=
  if ustate n d = .updating ∧ (uent n d).leaving = none then
    match updJob n d with
    | none => updateDone n ack d
    | some j =>
      match jobInstall j (2 ^ jobBit j n) d with
      | none => jobFail j (updateFail n d)
      | some d => updateDone n ack (jobSwap j { j with left := j.left - 2 ^ jobBit j n } d)
  else d

/-- A load during UPDATING fails: the unit is FAULTED. -/
def loadFail (n : Nat) (d : Dev) : Dev :=
  if ustate n d = .updating ∧ (uent n d).leaving = none then
    match updJob n d with
    | none => updateFail n d
    | some j => jobFail j (updateFail n d)
  else d

/-- An UPDATE of unit n is asked for, waited for or under way. -/
def updAlive (n : Nat) (d : Dev) : Bool :=
  let e := uent n d
  e.pend == some .update || (e.state == .draining && e.target == some .update) || e.state == .updating || d.udir.waiting.any fun q => q.unit == n && q.act == 4

/-- What has become of one load: by UPDATE it is done once every unit that took it is READY again, and failed once one cannot take it any more;
a load into a slot not in use fails with its unit. -/
def jobSettle (j : LoadJob) (d : Dev) : Dev :=
  let us := loadUnits j.unit j.cores
  if j.upd then
    if us.any fun n => (bitOf j.left (jobBit j n) && !updAlive n d) || (!bitOf j.left (jobBit j n) && (ustate n d == .faulted || ustate n d == .off)) then jobFail j d
    else if us.all fun n => !bitOf j.left (jobBit j n) && uready n d then jobDone j d
    else d
  else if us.any fun n => ustate n d == .faulted || ustate n d == .off then jobFail j d
  else d

/-- Every load that has come to its end is settled. [log entry 38 DEDUCED] -/
def loadsRun (d : Dev) : Dev := foldSt d.loads jobSettle d

/-! ### The reload after an ON (08 R180, 12 R273) -/

/-- Slots of unit n that CONFIG names and that have not been reloaded: slot, image and cores. -/
def reloadList (n : Nat) (d : Dev) : List CfgLoad :=
  let ls := cfgLoads d.boot.config
  match n with
  | 4 => ls.filter fun l => l.engine == 1 && d.reed.reload.contains l.slot
  | 5 => ls.filter fun l => l.engine == 2 && d.shoal.reload.contains l.slot
  | 6 => ls.filter fun l => l.engine == 3 && d.tarn.reload.contains l.slot
  | 30 => ls.filter fun l => l.engine == 5 && d.well.pack.isEmpty
  | _ => (ls.filter fun l => l.engine == 4 && bitOf l.cores (n - 16) && tabGet (fun _ => false) d.longs.reload (16 * (n - 16) + l.slot % 16)).map
      fun l => { l with cores := 2 ^ (n - 16) }

def slotEmpty (u k cores : Nat) (d : Dev) : Bool :=
  match u with
  | 4 => (reedSlot k d).bytes.isEmpty
  | 5 => (shoalSlot k d).bytes.isEmpty
  | 6 => (tarnSlot k d).bytes.isEmpty
  | 16 => (progOf k (core (lowCore cores) d)).hdr.isEmpty
  | _ => d.well.pack.isEmpty

/-- One load of the reload. [log entry 38 DEDUCED] -/
def reloadOne (u : Nat) (l : CfgLoad) (d : Dev) : Dev :=
  let (img, bad) := imageOf (.image l.image) d
  let j : LoadJob := { unit := u, slot := l.slot, cores := l.cores, left := if u = 16 then l.cores else 1, image := imgPayload img, upd := u == 30,
                       again := true, sid := 999 }
  if d.loads.any fun x => x.unit == u && x.slot == l.slot && x.cores == l.cores && x.again then d
  else if !slotEmpty u l.slot l.cores d then reloadClear u l.slot l.cores d
  else if (loadCheck u l.slot l.cores img bad d).isSome then jobFail j d
  else
    let d := loadAdd j d
    if u = 30 then dirSubmit { path := .load, unit := 30, act := 4, gen := ugen 30 d } d else d

/-- After an ON outside boot the Shore agent reloads what CONFIG names, once unit n is READY. -/
def engineReload (n : Nat) (d : Dev) : Dev :=
  if uready n d && (decide (4 ≤ n) && decide (n < 7) || decide (16 ≤ n) && decide (n < 24) || n == 30) then
    foldSt (reloadList n d) (reloadOne (if 16 ≤ n ∧ n < 24 then 16 else n)) d
  else d

end Sys2Proof.Machine
end

