-- ==== Sys2Proof/Machine/EngCmds.lean ====
section
/-!
DEFINITION. Machine/EngCmds.lean: the nouns and windows of Reedbed (08 R183, R184), Shoal (09 R201, R202), Sieve/Tarn (10 R222, R223) and the
Longavel cores (12 R274, R275).
-/
namespace Sys2Proof.Machine

/-- The slots a `show` line gives: the one named, or all. -/
def shownSlots (n : Nat) (k : Option Nat) : List Nat := match k with | some k => [k] | none => List.range n

/-- The form of `show reed`, `show shoal` and `show tarn`: range, then absent, then the lines. -/
def showEngine (b : BRef) (u n : Nat) (k : Option Nat) (head : Dev → String) (line : Nat → Dev → String) (d : Dev) : Dev :=
  bcmd b (fun d =>
    if n ≤ k.getD 0 then err b "range" [] d
    else if !uready u d then err b "absent" [] d
    else ok b (head d :: (shownSlots n k).map fun i => line i d) d) d

/-! ### Reedbed -/

def reedLargest (d : Dev) : Nat := slotLargest reedArea 1 d.reed.slots
def showReed (b : BRef) (k : Option Nat) : Dev → Dev := showEngine b 4 8 k (fun d => "reed largest " ++ dec (reedLargest d)) reedSlotLine

/-- `set reed slot S empty`. -/
def setReedEmpty (b : BRef) (k : Nat) (d : Dev) : Dev :=
  bcmd b (fun d =>
    if 8 ≤ k then err b "range" [] d
    else if !uready 4 d then err b "absent" [] d
    else if reedInUse k d then err b "busy" [reedSlotLine k d] d
    else let d := reedSlotSet k {} d; ok b [reedSlotLine k d] d) d

/-- `set reed stream N flush`. -/
def setReedFlush (b : BRef) (s : Nat) (d : Dev) : Dev :=
  bcmd b (fun d =>
    if 4096 ≤ s then err b "range" [] d
    else if !uready 4 d then err b "absent" [] d
    else if d.reed.waiting.any fun p => p.stream == s && p.kind != 1 then err b "busy" [] d
    else ok b [] (reedClear s d)) d

def reedRegRead (off : Nat) (d : Dev) : RegR :=
  if 0x100 ≤ off ∧ off < 0x180 then
    let k := (off - 0x100) / 16
    let s := reedSlot k d
    let p := s.bytes
    match off % 16 with
    | 0 => rval (at' (rpNProf p - 1) 28 + s.base * b2n !p.isEmpty) d
    | 4 => rval p.length d
    | 8 => rval (at' (b2n !p.isEmpty) 31 + at' (b2n (reedInUse k d)) 30 + at' (rpMaxLen p) 24 + at' (rpNStop p) 20 + rpNPiece p) d
    | _ => none
  else match off with
    | 0x00 => rnote 4 d | 0x04 => rnoteEn 4 d
    | 0x08 => rcnt 64 d | 0x0C => rcnt 65 d | 0x10 => rcnt 66 d | 0x14 => rcnt 67 d | 0x18 => rcnt 68 d | 0x1C => rcnt 69 d
    | 0x20 => rval (reedLargest d) d
    | _ => none

def reedRegWrite (off v : Nat) (d : Dev) : Option Dev :=
  match off with
  | 0x00 => wnote 4 63 v d | 0x04 => wnoteEn 4 63 v d
  | _ => (reedRegRead off d).map fun _ => d

/-! ### Shoal -/

def shoalLargest (d : Dev) : Nat := slotLargest shoalArea 1 d.shoal.slots
/-- Scanners that hold an item (SHOAL_BUSY). -/
def shoalBusy (d : Dev) : Nat := (List.range 16).foldl (fun a i => a + if (scanner i d).isSome then 2 ^ i else 0) 0
def showShoal (b : BRef) (k : Option Nat) : Dev → Dev :=
  showEngine b 5 4 k (fun d => "shoal largest " ++ dec (shoalLargest d) ++ " busy " ++ hex0 4 (shoalBusy d)) shoalSlotLine

def shoalRegRead (off : Nat) (d : Dev) : RegR :=
  if 0x100 ≤ off ∧ off < 0x140 then
    let k := (off - 0x100) / 16
    let s := shoalSlot k d
    let p := s.bytes
    match off % 16 with
    | 0 => rval (s.base * b2n !p.isEmpty) d
    | 4 => rval p.length d
    | 8 => rval (at' (b2n !p.isEmpty) 31 + at' (b2n (shoalInUse k d)) 30 + at' (spNProf p - 1) 24 + at' (spNClass p - 1) 16 + (spNPat p - 1)) d
    | 12 => rval (spNState p) d
    | _ => none
  else match off with
    | 0x00 => rnote 5 d | 0x04 => rnoteEn 5 d
    | 0x08 => rcnt 80 d | 0x0C => rcnt 81 d | 0x10 => rcnt 82 d | 0x14 => rcnt 83 d | 0x18 => rcnt 84 d
    | 0x1C => rval (shoalBusy d) d
    | 0x20 => rval (shoalLargest d) d
    | _ => none

def shoalRegWrite (off v : Nat) (d : Dev) : Option Dev :=
  match off with
  | 0x00 => wnote 5 31 v d | 0x04 => wnoteEn 5 31 v d
  | _ => (shoalRegRead off d).map fun _ => d

/-! ### Sieve and Tarn -/

/-- Largest free range in records. -/
def tarnLargest (d : Dev) : Nat := slotLargest tarnArea 16 d.tarn.slots / 16
def showTarn (b : BRef) (k : Option Nat) : Dev → Dev :=
  showEngine b 6 4 k (fun d => "tarn largest " ++ dec (tarnLargest d) ++ " rows " ++ dec d.tarn.walk.length ++ " busy " ++ dec d.tarn.lanes.length) tarnSlotLine

/-- `set tarn slot S empty`. -/
def setTarnEmpty (b : BRef) (k : Nat) (d : Dev) : Dev :=
  bcmd b (fun d =>
    if 4 ≤ k then err b "range" [] d
    else if !uready 6 d then err b "absent" [] d
    else if tarnInUse k d then err b "busy" [tarnSlotLine k d] d
    else let d := tarnSlotSet k {} d; ok b [tarnSlotLine k d] d) d

def tarnRegRead (off : Nat) (d : Dev) : RegR :=
  if 0x100 ≤ off ∧ off < 0x140 then
    let k := (off - 0x100) / 16
    let s := tarnSlot k d
    let p := s.bytes
    match off % 16 with
    | 0 => rval (s.base / 16 * b2n !p.isEmpty) d
    | 4 => rval p.length d
    | 8 => rval (at' (b2n !p.isEmpty) 31 + at' (b2n (tarnInUse k d)) 30 + at' (tpLink p) 27 + at' (tpNProf p - 1) 23 + at' (tpNClass p - 1) 19 + (tpNTree p - 1)) d
    | 12 => rval (tpNNode p) d
    | _ => none
  else match off with
    | 0x00 => rnote 6 d | 0x04 => rnoteEn 6 d
    | 0x08 => rcnt 96 d | 0x0C => rcnt 97 d | 0x10 => rcnt 98 d | 0x14 => rcnt 99 d
    | 0x18 => rval (at' d.tarn.walk.length 8 + d.tarn.lanes.length) d
    | 0x1C => rval (tarnLargest d) d
    | 0x20 => rval d.tarn.rows d
    | _ => none

def tarnRegWrite (off v : Nat) (d : Dev) : Option Dev :=
  match off with
  | 0x00 => wnote 6 15 v d | 0x04 => wnoteEn 6 15 v d
  | _ => (tarnRegRead off d).map fun _ => d

/-! ### Longavel -/

/-- The program slot a core runs, 31 for none. -/
def coreProg (k : Core) : Nat := match k.running with | some b => b.slot | none => 31
def codeFree (k : Core) : Nat := 229376 - codeUsed k

/-- A core's line of `show longavel` (12 R275). [log entry 26 DESIGN CHOICE] -/
def longLine (c : Nat) (d : Dev) : String :=
  let k := core c d
  let cnt := fun (i : Nat) => ctrVal 65535 (16 * (16 + c) + i) d
  "long " ++ dec c ++ sp "state" (uStateName (ustate (16 + c) d)) ++ sp "prog" (if k.running.isSome then dec (coreProg k) else "none") ++ spn "queued" k.closed.length
    ++ spn "batches" k.batches ++ spn "exc" (cnt 0) ++ spn "budget" (cnt 1) ++ spn "badtab" (cnt 2) ++ spn "codefree" (codeFree k)

/-- `show long [C] [prog P]`. -/
def showLong (b : BRef) (c p : Option Nat) (d : Dev) : Dev :=
  bcmd b (fun d =>
    let n := nBasin d.fuse.variant
    if 8 ≤ c.getD 0 ∨ 16 ≤ p.getD 0 then err b "range" [] d
    else if n ≤ c.getD 0 then err b "absent" [] d
    else match c, p with
      | some c, some p => ok b [longProgLine c p d] d
      | some c, none => ok b [longLine c d] d
      | none, _ => ok b ((List.range n).map fun c => longLine c d) d) d

/-- `stop long prog P` and `start long prog P`. -/
def longStop (b : BRef) (p : Nat) (stop : Bool) (d : Dev) : Dev :=
  bcmd b (fun d =>
    if 16 ≤ p then err b "range" [] d
    else ok b [] { d with longs := { d.longs with stopped := tabSet (fun _ => false) d.longs.stopped p stop } }) d

def longRegRead (c off : Nat) (d : Dev) : RegR :=
  let k := core c d
  let b := 16 + c
  if 0x100 ≤ off ∧ off < 0x180 then
    let s := (off - 0x100) / 8
    let p := progOf s k
    if off % 8 = 0 then
      rval (at' (b2n !p.hdr.isEmpty) 31 + at' (b2n (progInUse s d)) 30 + at' (b2n (slotStopped c s d)) 29 + at' (b2n (bitOf (fieldLe p.hdr 6 2) 0)) 28
        + strmCount p) d
    else rval (fieldLe p.hdr 8 4) d
  else match off with
    | 0x00 => rnote b d | 0x04 => rnoteEn b d
    | 0x08 => rcnt (16 * b) d | 0x0C => rcnt (16 * b + 1) d | 0x10 => rcnt (16 * b + 2) d | 0x14 => rcnt (16 * b + 3) d
    | 0x18 => rval (at' (coreProg k) 24 + at' k.closed.length 20 + (match k.running with | some x => x.items.length | none => 0)) d
    | 0x1C => rval k.elog d
    | 0x20 => rval k.epcLog d
    | 0x24 => rval k.batches d
    | 0x28 => rval (codeFree k) d
    | _ => none

def longRegWrite (c off v : Nat) (d : Dev) : Option Dev :=
  match off with
  | 0x00 => wnote (16 + c) 15 v d | 0x04 => wnoteEn (16 + c) 15 v d
  | _ => (longRegRead c off d).map fun _ => d

end Sys2Proof.Machine
end

