-- ==== Sys2Proof/Machine/LongRun.lean ====
section
/-!
DEFINITION. Machine/LongRun.lean: a Longavel word's slot as a command, and the noun and window of the Basins (11 R245, R246).
-/
namespace Sys2Proof.Machine

/-- What follows an event that may fault a unit or end a load. -/
def settle (d : Dev) : Dev := loadsRun (faultsRun d)

/-- One slot of a word on core c; the word issues with its last slot. -/
def longCmd (c : Nat) (s : Slot) (more : Bool) (err : Nat) (d : Dev) : Dev := settle (longSlot c s more err d)

/-! ### Basins -/

def basinCnt (b i : Nat) (d : Dev) : Nat := ctrVal 65535 (16 * (8 + b) + i) d

def modeName : Nat → String | 1 => "I8" | 2 => "I4" | 3 => "F8" | 4 => "BF" | 5 => "H" | _ => "none"

/-- MODE and SHALLOWS of BASIN_STAT. -/
def basinMode (x : Basin) : Nat := match basinRunning x with | some (a, s) => macMode a.fmt s.wfmt | none => 0
def basinTwin (x : Basin) : Bool := match basinRunning x with | some (_, s) => s.twin | none => false

def basinLine (b : Nat) (d : Dev) : String :=
  let x := basin b d
  "basin " ++ dec b ++ sp "state" (uStateName (ustate (8 + b) d)) ++ sp "mode" (modeName (basinMode x)) ++ sp "group" (if x.groupEn then dec x.gid else "none")
    ++ sp "members" (hex0 2 (groupShown b d)) ++ spn "passes" x.passes ++ spn "stall" x.stall ++ spn "busy" x.busy ++ spn "shallows" (b2n (basinTwin x))
    ++ spn "ce" (basinCnt b 0 d) ++ spn "ue" (basinCnt b 1 d) ++ spn "parity" (basinCnt b 2 d) ++ spn "sat" (basinCnt b 3 d) ++ spn "nopage" (basinCnt b 4 d)

/-- `show basin [B]`. -/
def showBasin (r : BRef) (b : Option Nat) (d : Dev) : Dev :=
  bcmd r (fun d =>
    let n := nBasin d.fuse.variant
    if 8 ≤ b.getD 0 then err r "range" [] d
    else if n ≤ b.getD 0 then err r "absent" [] d
    else ok r ((match b with | some b => [b] | none => List.range n).map fun b => basinLine b d) d) d

/-- `set basin B group G`, or none. -/
def setBasinGroup (r : BRef) (b : Nat) (g : Option Nat) (d : Dev) : Dev :=
  bcmd r (fun d =>
    if 8 ≤ b ∨ 8 ≤ g.getD 0 then err r "range" [] d
    else if nBasin d.fuse.variant ≤ b then err r "absent" [] d
    else
      let d := match g with | some g => groupWrite b true g d | none => groupWrite b false (basin b d).gid d
      ok r [basinLine b d] d) d

def basinRegRead (b off : Nat) (d : Dev) : RegR :=
  let x := basin b d
  let k := 16 * (8 + b)
  match off with
  | 0x00 => rnote (8 + b) d | 0x04 => rnoteEn (8 + b) d
  | 0x08 => rcnt k d | 0x0C => rcnt (k + 1) d | 0x10 => rcnt (k + 2) d | 0x14 => rcnt (k + 3) d | 0x18 => rcnt (k + 4) d
  | 0x1C =>
    let rows := match basinRunning x with | some (a, _) => a.nrows - 1 | none => 0
    let on := fun (n : Nat) => b2n (x.queue.any fun q => bopBank q.op == n)
    rval (at' (basinMode x) 12 + at' (b2n (basinTwin x)) 11 + at' (on 1) 10 + at' (on 0) 9 + rows) d
  | 0x20 => rval (at' (b2n x.groupEn) 31 + at' (groupShown b d) 16 + x.gid) d
  | 0x24 => rval x.passes d
  | 0x28 => rval x.stall d
  | 0x2C => rval x.busy d
  | _ => none

def basinRegWrite (b off v : Nat) (d : Dev) : Option Dev :=
  match off with
  | 0x00 => wnote (8 + b) 31 v d | 0x04 => wnoteEn (8 + b) 31 v d
  | 0x20 => some (groupWrite b (bitOf v 31) (v % 8) d)
  | _ => (basinRegRead b off d).map fun _ => d

end Sys2Proof.Machine
end

