-- ==== Sys2Proof/Machine/Reset.lean ====
section
/-!
DEFINITION. Machine/Reset.lean: the block right after a power-on reset (03 R41 and the reset values of every register table).
-/
namespace Sys2Proof.Machine

/-- The digest of the public key in KEY0 of the model's fuse record: a test key of the model's own (DESIGN CHOICE, log entry 4). [log entry 4 DESIGN CHOICE] -/
def testKeyDigest : List Byte := toBe 48
  0xb0f8bf0c76315a32711889384339214c8f67ec43f67595355c6c7ab66699abb21a8eb02960d6d96ddd2c3a25bda61851

/-- The fuse record of the model's part: an HG8, stepping A1 (19 R416; DESIGN CHOICE). [log entry 4 DESIGN CHOICE] -/
def hg8Fuse : Fuse := { variant := .hg8, keys := [testKeyDigest, List.replicate 48 0, List.replicate 48 0, List.replicate 48 0] }

/-- State and cause of a present unit at power-on reset (R41). -/
def unitReset (n : Nat) : UEntry :=
  let st := if n = 98 then UState.ready else if n = 0 ∨ n = 24 ∨ n = 99 then .waking else .off
  { state := st, cause := .boot, wakeEnd := wakeDef n }

/-- The Directory's entries at power-on reset. -/
def entReset (v : Variant) : Tab UEntry := ((List.range 100).filter (uPresent v)).map fun n => (n, unitReset n)

/-- The block at power-on reset with a fuse record: everything else at its reset value, memories empty, the flash erased. [log entries 4 DESIGN CHOICE, 12 DESIGN CHOICE] -/
def devReset (f : Fuse) : Dev :=
  { fuse := f,
    udir := { ent := entReset f.variant },
    therm := { plimit := tdp f.variant, plimNow := tdp f.variant },
    hbm := { sessions := if f.variant = .hg8 then 32 else 16 } }

end Sys2Proof.Machine
end

