-- ==== Sys2Proof/Machine/State.lean ====
section
/-!
DEFINITION. Machine/State.lean: the state of the machine: the block and the queue of the commands that wait, first in, first out; and the
reasons a step can stop.
-/
namespace Sys2Proof.Machine

/-- The block's state and its waiting commands. -/
structure State where
  dev     : Dev
  pending : List Instr
  deriving DecidableEq, Repr

/-- Faults. The spec stops the block on no command, so there is none. -/
inductive Fault where
  deriving DecidableEq, Repr

/-- Refusals. -/
inductive Refusal where
  /-- Raised by an arm of exec for a command that has no meaning yet; safe: the model stops. -/
  | notModelled (mnemonic : String)
  deriving DecidableEq, Repr

/-- The machine right after a power-on reset: its queue is empty. [log entries 1 DESIGN CHOICE, 12 DESIGN CHOICE] -/
def State.reset : State := { dev := devReset hg8Fuse, pending := [] }

end Sys2Proof.Machine
end

