-- ==== Sys2Proof/Machine/Run.lean ====
section
/-!
DEFINITION. Machine/Run.lean: how a command's effect on the block becomes the next state. The queue of waiting commands is not touched.
-/
namespace Sys2Proof.Machine

/-- A command that acts in every condition of the part. -/
def runAny (f : Dev → Dev) (s : State) : Host.Outcome State Fault Refusal := .next { s with dev := f s.dev }

/-- A command that takes a running part: while CCLK is gated it has no effect (19 R421, R422, 20 R458, R461). -/
def runLive (f : Dev → Dev) (s : State) : Host.Outcome State Fault Refusal := .next { s with dev := whenRunning f s.dev }

/-- A Shore agent's commit is among the commands of this tick that wait (07 R147: it is taken before a WEIR_COMMIT of the same tick). [log entry 60 DEDUCED] -/
def shoreBehind (s : State) : Bool := s.pending.any fun i => match i with | .commitRoute .. => true | _ => false

/-- A Shore agent's request to the Unit Directory is (03 R44: it is taken before a UDIR_REQ of the same tick). [log entry 60 DEDUCED] -/
def askBehind (s : State) : Bool := s.pending.any fun i => match i with
  | .onUnit .. => true | .offUnit .. => true | .resetUnit .. => true | .upLink .. => true | .downLink .. => true | .enterIce .. => true | _ => false

/-- A line on the UART is (04 R75: it is taken before lines of the same tick from elsewhere). [log entry 60 DEDUCED] -/
def uartBehind (s : State) : Bool := s.pending.any fun i => match i with
  | .lineTerminator sid _ => sid == 0 | .uartByte b _ => b == 13 || b == 10 | _ => false

/-- A line that goes before one from another node, or may, is. [log entry 60 DEDUCED] -/
def lineBehind (s : State) : Bool := uartBehind s || s.pending.any fun i => match i with
  | .lineTerminator _ _ => true | .mailboxCheadWrite _ => true | .registerWrite a _ _ _ => a == 0x1300010 | .bipolMessageReceive _ => true | _ => false

/-- What stands behind the present command in its tick. -/
def behind (commit ask uart line : Bool) (d : Dev) : Dev :=
  { d with weir := { d.weir with shore := commit }, udir := { d.udir with shore := ask }, bip := { d.bip with uartNext := uart, lineNext := line } }

/-- A command that others of its tick may go before: a host write, or a line. [log entries 36 DEDUCED, 60 DEDUCED] -/
def runHost (f : Dev → Dev) (s : State) : Host.Outcome State Fault Refusal :=
  runLive (fun d => behind false false false false (f (behind (shoreBehind s) (askBehind s) (uartBehind s) (lineBehind s) d))) s

end Sys2Proof.Machine
end

