-- ==== Sys2Proof/Machine/CmdBasin.lean ====
section
/-!
DEFINITION. Machine/CmdBasin.lean: commands at the Basins (11) and the kernels of the Longavel cores (12).
-/
namespace Sys2Proof.Machine

/-- BASIN_MAC_START (R227). The MAC at place `i` of Basin b's queue starts its first slice (R227, R234). -/
def execBasinMacStart (b : Nat) (i : Nat) (s : State) : Host.Outcome State Fault Refusal :=
  runLive (macStart b i) s

/-- BASIN_OP_COMPLETE (R238). The operation at place `i` finishes and its results become final (R226, R230, R232, R238). The surroundings give its corrected errors, words of the store (`ue`) and of HBM (`hue`) that fail, and the rows with a parity error (R243, R244). -/
def execBasinOpComplete (b : Nat) (i : Nat) (ce : Nat) (ue : List Nat) (hue : List Nat) (par : List Nat) (s : State) : Host.Outcome State Fault Refusal :=
  runLive (fun d => settle (basinComplete b i ce ue hue par d)) s

/-- GROUP_BLOCK_FETCH (R236). Group `g` fetches its next 4 KiB block (R236); `ue`: the words that fail. -/
def execGroupBlockFetch (g : Nat) (ue : List Nat) (s : State) : Host.Outcome State Fault Refusal :=
  runLive (groupFetch g ue) s

/-- BASIN_PATROL (R243). The patrol reads and corrects word `w` of Basin b's store (R243): 0 no error, 1 corrected, 2 uncorrectable. -/
def execBasinPatrol (b : Nat) (w : Nat) (kind : Nat) (s : State) : Host.Outcome State Fault Refusal :=
  runLive (basinPatrol b w kind) s

/-- SHOW_BASIN (R246). `show basin [B]`. -/
def execShowBasin (r : BRef) (b : Option Nat) (s : State) : Host.Outcome State Fault Refusal :=
  runLive (showBasin r b) s

/-- SET_BASIN_GROUP (R246). `set basin B group G`. -/
def execSetBasinGroup (r : BRef) (b : Nat) (g : Nat) (s : State) : Host.Outcome State Fault Refusal :=
  runLive (setBasinGroup r b (some g)) s

/-- SET_BASIN_GROUP_NONE (R246). `set basin B group none`. -/
def execSetBasinGroupNone (r : BRef) (b : Nat) (s : State) : Host.Outcome State Fault Refusal :=
  runLive (setBasinGroup r b none) s

/-- KERNEL_REQUEST_READ (R266). The kernel of core c reads the request at the front of Sluice 149 + c (R265, R266). -/
def execKernelRequestRead (c : Nat) (s : State) : Host.Outcome State Fault Refusal :=
  runLive (kernelRead c) s

/-- BATCH_CLOSE_TIMER (R266). Open batches of core c whose GATHER or deadline has come close (R266). -/
def execBatchCloseTimer (c : Nat) (s : State) : Host.Outcome State Fault Refusal :=
  runLive (batchTimer c) s

/-- DISPATCH_EVALUATE (R381). The Thermocline evaluates the waiting dispatch requests (17 R381); `drawn`: the energy drawn so far in the layer, in µJ. -/
def execDispatchEvaluate (drawn : Nat) (s : State) : Host.Outcome State Fault Refusal :=
  runLive (dispatchEvaluate drawn) s

/-- DISPATCH_GRANT (R267). A grant reaches the kernel of core c, which writes the batch table and enters the program (R267). -/
def execDispatchGrant (c : Nat) (s : State) : Host.Outcome State Fault Refusal :=
  runLive (dispatchGrant c) s

/-- BUDGET_EXPIRY (R258). The program of core c has run past BUDGET (R258, R293). -/
def execBudgetExpiry (c : Nat) (s : State) : Host.Outcome State Fault Refusal :=
  runLive (fun d => settle (budgetExpiry c d)) s

/-- SLWAIT_TIMEOUT (R262). The timeout of a waiting SLWAIT on core c (R262). -/
def execSlwaitTimeout (c : Nat) (s : State) : Host.Outcome State Fault Refusal :=
  runLive (slwaitTimeout c) s

/-- QUEUE_OP_COMPLETE (R293). The operation core c waits on completes, if it can (13 R293); `remote`: pages of peers granted to an append, node and page each (R240); `errs`: memory errors its source meets, address and kind (R243). -/
def execQueueOpComplete (c : Nat) (remote : List (Nat × Nat)) (errs : List (Nat × Nat)) (s : State) : Host.Outcome State Fault Refusal :=
  runLive (queueOpComplete c remote errs) s

/-- SHOW_LONG (R275). `show long [C]`. -/
def execShowLong (r : BRef) (c : Option Nat) (s : State) : Host.Outcome State Fault Refusal :=
  runLive (showLong r c none) s

/-- SHOW_LONG_PROG (R275). `show long C prog P`. -/
def execShowLongProg (r : BRef) (c : Nat) (p : Nat) (s : State) : Host.Outcome State Fault Refusal :=
  runLive (showLong r (some c) (some p)) s

/-- LOAD_LONG (R272). `load long prog P …` (R272). -/
def execLoadLong (r : BRef) (p : Nat) (src : LoadSrc) (cores : Nat) (replace : Bool) (wait : Bool) (s : State) : Host.Outcome State Fault Refusal :=
  runLive (loadLine r 16 p 16 cores src replace wait) s

/-- STOP_LONG (R272). `stop long prog P`. -/
def execStopLong (r : BRef) (p : Nat) (s : State) : Host.Outcome State Fault Refusal :=
  runLive (longStop r p true) s

/-- START_LONG (R272). `start long prog P`. -/
def execStartLong (r : BRef) (p : Nat) (s : State) : Host.Outcome State Fault Refusal :=
  runLive (longStop r p false) s

end Sys2Proof.Machine
end

