-- ==== Sys2Proof/Machine/BipolParse.lean ====
section
/-!
DEFINITION. Machine/BipolParse.lean: the form of a Bipol line: tokens (04 R61), the element order (R62), values (R63) and arguments.
-/
namespace Sys2Proof.Machine

/-- A value read from a line, with what is wrong with it: 0 nothing, 1 syntax, 2 unknown, 3 range. -/
structure Pv (α : Type) where
  e : Nat
  v : α

/-- Of two errors the one that comes first in Table 4-5 (R73). -/
def firstErr (a b : Nat) : Nat := if a = 0 then b else if b = 0 then a else min a b

def good {α : Type} (v : α) : Pv α := ⟨0, v⟩

/-- Give a function its next argument. -/
def Pv.on {α β : Type} (f : Pv (α → β)) (x : Pv α) : Pv β := ⟨firstErr f.e x.e, f.v x.v⟩

def Pv.conv {α β : Type} (x : Pv α) (f : α → β) : Pv β := ⟨x.e, f x.v⟩

/-- An error beside those of a value. -/
def Pv.also {α : Type} (x : Pv α) (e : Nat) : Pv α := ⟨firstErr x.e e, x.v⟩

/-! ### Characters -/

def isDig (c : Char) : Bool := decide (48 ≤ c.toNat) && decide (c.toNat ≤ 57)

/-- The value of a digit of base 16; none for another character. -/
def digVal (c : Char) : Option Nat :=
  let n := c.toNat
  if isDig c then some (n - 48)
  else if 65 ≤ n ∧ n ≤ 70 then some (n - 55)
  else if 97 ≤ n ∧ n ≤ 102 then some (n - 87)
  else none

/-- Digits of a base: their number and value; none where one is not a digit. -/
def digits (base : Nat) (l : List Char) : Option Nat :=
  l.foldl (fun a c => match a, digVal c with | some a, some v => if v < base then some (a * base + v) else none | _, _ => none) (some 0)

/-- Underscores stand between digits only. -/
def underOk (l : List Char) : Bool := l.head? != some '_' && l.getLast? != some '_'

/-- Digits of base 16 or 2 after their prefix: 1 to `n` of them, underscores ignored. -/
def basedInt (base n : Nat) (l : List Char) : Option Nat :=
  let ds := l.filter (· != '_')
  if underOk l && within ds.length 1 n then digits base ds else none

/-- An integer of Table 4-3. -/
def intForm (l : List Char) : Option Nat :=
  match l with
  | '0' :: 'x' :: t => basedInt 16 16 t
  | '0' :: 'b' :: t => basedInt 2 64 t
  | _ => if l.isEmpty then none else digits 10 l

/-- An integer argument: 0 to 2^64 − 1. -/
def valInt (t : String) : Pv Nat :=
  match intForm t.toList with
  | none => ⟨1, 0⟩
  | some v => if v < 2 ^ 64 then good v else ⟨3, v⟩

/-- An integer in any of its forms and the unit of a list that follows it. -/
def valUnit (units : List String) (t : String) : Option (Nat × String) :=
  let l := t.toList
  units.findSome? fun u =>
    let k := l.length - u.length
    if String.ofList (l.drop k) = u then (intForm (l.take k)).map fun v => (v, u) else none

/-- A time in gauge units: 9.216 gu are 1 ns. -/
def valTime (t : String) : Pv Nat :=
  match valUnit ["gu", "ns", "us", "ms", "s"] t with
  | none => ⟨1, 0⟩
  | some (v, u) =>
    if 2 ^ 64 ≤ v then ⟨3, 0⟩
    else if u = "gu" then good v
    else if u = "ns" then (if v * 9216 % 1000 = 0 then good (v * 9216 / 1000) else ⟨3, 0⟩)
    else if u = "us" then good (v * 9216)
    else if u = "ms" then good (v * 9216000)
    else good (v * 9216000000)

/-- A count of bytes: an integer, or a size. -/
def valSize (t : String) : Pv Nat :=
  match valUnit ["KiB", "MiB", "GiB"] t with
  | some (v, u) => if 2 ^ 64 ≤ v then ⟨3, 0⟩ else good (v * (if u = "KiB" then 1024 else if u = "MiB" then 1048576 else 1073741824))
  | none => valInt t

/-- A whole number of GiB: an integer, or a size. -/
def valGiB (t : String) : Pv Nat :=
  match valUnit ["KiB", "MiB", "GiB"] t with
  | some _ => let x := valSize t; if x.e = 0 ∧ x.v % 1073741824 = 0 then good (x.v / 1073741824) else ⟨3, 0⟩
  | none => valInt t

/-- An exponent: e, a sign or none, and digits. -/
def expForm : List Char → Option Int
  | [] => some 0
  | 'e' :: '-' :: t => if t.isEmpty then none else (digits 10 t).map fun v => -(v : Int)
  | 'e' :: '+' :: t => if t.isEmpty then none else (digits 10 t).map fun v => (v : Int)
  | 'e' :: t => if t.isEmpty then none else (digits 10 t).map fun v => (v : Int)
  | _ => none

/-- A real: sign, decimal digits as an integer, and the power of ten they are counted in. -/
def realForm (t : String) : Option (Bool × Nat × Int) :=
  let l := t.toList
  let neg := l.head? == some '-'
  let l := if l.head? == some '-' || l.head? == some '+' then l.drop 1 else l
  let a := l.takeWhile isDig
  let r := l.drop a.length
  let f := (r.drop 1).takeWhile isDig
  if a.isEmpty || r.head? != some '.' || f.isEmpty then none
  else match digits 10 (a ++ f), expForm ((r.drop 1).drop f.length) with
    | some m, some e => some (neg, m, e - (f.length : Int))
    | _, _ => none

/-- A real as its binary32 word, rounded to nearest, ties to even. An exponent above 400, or so far below 0 that the digits cannot make up for it,
is taken at that bound, which no result sees. -/
def valF32 (t : String) : Pv Nat :=
  match realForm t with
  | none => ⟨1, 0⟩
  | some (neg, m, e) =>
    let e := max (-(400 + (bitLen m : Int))) (min 400 e)
    if m = 0 then good (fRound f32 neg 0 0)
    else if 0 ≤ e then good (fRound f32 neg (m * 10 ^ e.toNat) 0)
    else
      let q := 10 ^ (-e).toNat
      let k := bitLen q + 64
      let n := m * 2 ^ k
      good (fRound f32 neg (2 * (n / q) + (if n % q = 0 then 0 else 1)) (-(k : Int) - 1))

/-- Tenths of a unit: an integer, or a real that is a whole number of tenths and not negative. -/
def valTenths (t : String) : Pv Nat :=
  match realForm t with
  | none => (valInt t).conv (· * 10)
  | some (neg, m, e) =>
    let e := max (-(400 + (bitLen m : Int))) (min 400 (e + 1))
    let q := 10 ^ (-e).toNat
    if neg && m != 0 || m % q != 0 then ⟨3, 0⟩ else good (m / q * 10 ^ e.toNat)

/-- A number or a string, where a word must stand. -/
def notWord (t : String) : Bool := (intForm t.toList).isSome || (realForm t).isSome || t.toList.head? == some '"'

/-- A word of a list by its code; another word is out of range, and what is no word has the wrong form (R62). [log entry 24 DEDUCED] -/
def valWord (ws : List (String × Nat)) (t : String) : Pv Nat :=
  match ws.find? fun w => w.1 == t with
  | some w => good w.2
  | none => ⟨if notWord t then 1 else 3, 0⟩

/-- A word that the command itself looks up. -/
def valName (t : String) : Pv String := ⟨if notWord t then 1 else 0, t⟩

/-- A generation: in hex (03 R58), of 16 bits. [log entry 25 DEDUCED] -/
def valGen (t : String) : Pv Nat :=
  match t.toList with
  | '0' :: 'x' :: h => match basedInt 16 16 h with
    | some v => if v < 65536 then good v else ⟨3, v⟩
    | none => ⟨1, 0⟩
  | _ => ⟨1, 0⟩

def valOnOff : String → Pv Nat := valWord [("off", 0), ("on", 1)]

/-! ### Tokens (R61) -/

/-- One more character joined to the token under way. A double-quoted string is one token (R63). `q`: inside a string; `x`: the last
character was its backslash. -/
structure Lex where
  done : List (List Char) := []
  cur  : List Char := []
  q    : Bool := false
  x    : Bool := false

def Lex.next (s : Lex) (c : Char) : Lex :=
  if s.q then { s with cur := s.cur ++ [c], q := s.x || c != '"', x := c == '\\' && !s.x }
  else if c = ' ' then (if s.cur.isEmpty then s else { s with done := s.done ++ [s.cur], cur := [] })
  else { s with cur := s.cur ++ [c], q := s.cur.isEmpty && c == '"', x := false }

/-- The tokens of a text; the flag tells an unterminated string. [log entry 25 DEDUCED] -/
def tokens (t : List Char) : Bool × List String :=
  let s := t.foldl Lex.next {}
  (s.q, (if s.cur.isEmpty then s.done else s.done ++ [s.cur]).map String.ofList)

def stripL (t : List Char) : List Char := t.dropWhile (· == ' ')
def stripR (t : List Char) : List Char := (stripL t.reverse).reverse

/-- The check code of a stripped line (R64): the text it covers and its value, none where the line has none. A last token that begins with
an asterisk and is not two hex digits is malformed. [log entry 24 DEDUCED] -/
inductive Check where
  | none
  | code (covered : List Char) (v : Nat)
  | bad
  deriving DecidableEq, Repr

/-- The check code at the end of a line (R65). [log entry 24 DEDUCED] -/
def checkOf (t : List Char) : Check :=
  let last := (t.reverse.takeWhile (· != ' ')).reverse
  let rest := stripR (t.take (t.length - last.length))
  match last with
  | ['*', a, b] => match digVal a, digVal b with
    | some x, some y => .code rest (16 * x + y)
    | _, _ => .bad
  | '*' :: _ => .bad
  | _ => .none

/-! ### Arguments (R62) -/

/-- The arguments of a command: its positional values, its keywords with theirs, and what is wrong with them. -/
structure Args where
  e   : Nat := 0
  pos : List String := []
  kw  : List (String × List String) := []

def wordStart (t : String) : Bool := match t.toList.head? with | some c => c.isAlpha | none => false

/-- Keywords, each with the number of values it takes. -/
def keyArgs (spec : List (String × Nat)) : Nat → List String → Args → Args
  | 0, _, a => a
  | _, [], a => a
  | n + 1, t :: ts, a =>
    match spec.find? fun k => k.1 == t with
    | some k =>
      let a := if a.kw.any (fun x => x.1 == t) || decide (ts.length < k.2) then { a with e := firstErr a.e 1 } else a
      keyArgs spec n (ts.drop k.2) { a with kw := a.kw ++ [(t, ts.take k.2)] }
    | none =>
      if wordStart t then
        keyArgs spec n (match ts with | u :: us => if wordStart u then ts else us | [] => []) { a with e := firstErr a.e 2 }
      else keyArgs spec n ts { a with e := firstErr a.e 1 }

/-- The arguments of a command with `req` positional values and, where `opt` holds of the next token, one more. -/
def readArgs (req : Nat) (opt : String → Bool) (spec : List (String × Nat)) (ts : List String) : Args :=
  let p := ts.take req
  let r := ts.drop req
  let (p, r) := match r with
    | t :: us => if opt t then (p ++ [t], us) else (p, r)
    | [] => (p, r)
  keyArgs spec r.length r { e := if ts.length < req then 1 else 0, pos := p }

def noOpt : String → Bool := fun _ => false
/-- An optional number. -/
def numOpt (t : String) : Bool := !wordStart t

/-- Positional value i. -/
def Args.arg (a : Args) (i : Nat) {α : Type} (f : String → Pv α) : Pv α := f (a.pos.getD i "")
/-- Positional value i, where it stands. -/
def Args.argOpt (a : Args) (i : Nat) {α : Type} (f : String → Pv α) : Pv (Option α) :=
  match a.pos[i]? with | some t => (f t).conv some | none => good none
/-- Whether a keyword stands. -/
def Args.has (a : Args) (k : String) : Bool := a.kw.any fun x => x.1 == k
def Args.flag (a : Args) (k : String) : Pv Bool := good (a.has k)
/-- The value of an optional keyword. -/
def Args.key (a : Args) (k : String) {α : Type} (f : String → Pv α) : Pv (Option α) :=
  match a.kw.find? fun x => x.1 == k with
  | some (_, t :: _) => (f t).conv some
  | _ => good none
/-- The value of a required keyword. -/
def Args.must (a : Args) (k : String) {α : Type} (f : String → Pv α) : Pv α :=
  match a.kw.find? fun x => x.1 == k with
  | some (_, t :: _) => f t
  | _ => ⟨1, (f "0").v⟩

/-- A function of the arguments, beside what is wrong with them as a whole. -/
def Args.run (a : Args) {α : Type} (f : α) : Pv α := ⟨a.e, f⟩

end Sys2Proof.Machine
end

