-- ==== Sys2Proof/Machine/JettyCmds.lean ====
section
/-!
DEFINITION. Machine/JettyCmds.lean: the link and ferry nouns (16 R369, R370) and the Jetty and Ferry windows (R367, R368).
-/
namespace Sys2Proof.Machine

/-! ### Links -/

/-- A register access of link j's block: discarded and counted where the link is not fitted (03 R54). -/
def linkReg (j : Nat) (f : Dev → Dev) (d : Dev) : Dev := if linkHere j d then f d else badacc d

/-- A command that names link j: range above 63, absent where it is not fitted. -/
def linkCmd (r : BRef) (j : Nat) (f : Dev → Dev) (d : Dev) : Dev :=
  bcmd r (fun d => if 64 ≤ j then err r "range" [] d else if !linkHere j d then err r "absent" [] d else f d) d

/-- The words for LSTATE. [log entry 26 DESIGN CHOICE] -/
def jstateName : JState → String
  | .down => "DOWN" | .train => "TRAIN" | .align => "ALIGN" | .hello => "HELLO" | .key => "KEY" | .up => "UP"

def linkLine (j : Nat) (d : Dev) : String :=
  let l := jlink j d
  "link " ++ dec j ++ sp "state" (uStateName (ustate (32 + j) d)) ++ sp "lstate" (jstateName l.st) ++ sp "peer" (dec l.peerNode ++ ":" ++ dec l.peerLink)
    ++ spn "enc" (b2n l.encNow)

def linkCount (j i : Nat) (d : Dev) : Nat := ctrVal 65535 (16 * (32 + j) + i) d

def linkShowLine (j : Nat) (d : Dev) : String :=
  linkLine j d ++ spn "unack" (jlink j d).sent.length ++ spn "retry" (linkCount j 1 d) ++ spn "crc" (linkCount j 2 d) ++ spn "fec" (linkCount j 3 d)
    ++ spn "down" (linkCount j 0 d) ++ spn "keyfail" (linkCount j 4 d)

/-- `list link`. -/
def listLink (r : BRef) (d : Dev) : Dev := bcmd r (fun d => ok r ((List.range (nJetty d.fuse.variant)).map fun j => linkLine j d) d) d

/-- `show link N`. -/
def showLink (r : BRef) (j : Nat) (d : Dev) : Dev := linkCmd r j (fun d => ok r [linkShowLine j d] d) d

/-- `show link route D`. -/
def showLinkRoute (r : BRef) (D : Nat) (d : Dev) : Dev :=
  bcmd r (fun d =>
    if 65536 ≤ D then err r "range" [] d
    else
      let w := routeWord D d.jetty
      ok r ["route " ++ dec D ++ spn "trunk" (rtTrunk w) ++ spn "valid" (b2n (rtValid w)) ++ spn "vl" (rtVl w)
        ++ sp "link" (match linkFor D 0 d with | some j => dec j | none => "none") ++ spn "fence" (b2n (fencing D d))] d) d

/-- `up link N [enc on/off] [gen G] [wait]`: LCFG ENC is written, then ON; a line whose ON is refused writes nothing (04 R72). [log entry 27 DEDUCED] -/
def upLink (r : BRef) (j : Nat) (enc : Option Bool) (gen : Option Nat) (wait : Bool) (d : Dev) : Dev :=
  settle (linkCmd r j (unitCmd r 1 (32 + j) gen wait enc) d)

/-- `down link N [gen G] [wait]`. -/
def downLink (r : BRef) (j : Nat) (gen : Option Nat) (wait : Bool) (d : Dev) : Dev := settle (linkCmd r j (unitCmd r 2 (32 + j) gen wait none) d)

/-- A `key link` line: a slot of 0 or 1, and never over Jetty (R369, 04 R83). [log entry 27 DEDUCED] -/
def keyCmd (r : BRef) (j s : Nat) (f : Dev → Dev) (d : Dev) : Dev :=
  bcmd r (fun d =>
    if 64 ≤ j ∨ 2 ≤ s then err r "range" [] d
    else if !linkHere j d then err r "absent" [] d
    else if 2 ≤ r.sid then err r "denied" [linkLine j d] d
    else ok r [] (f d)) d

/-- `key link N slot S k0 … k3`: four 64-bit values, the lowest first. -/
def keyLinkSlot (r : BRef) (j s : Nat) (k : Nat × Nat × Nat × Nat) (d : Dev) : Dev :=
  keyCmd r j s (fun d =>
    let w := [k.1, k.2.1, k.2.2.1, k.2.2.2].flatMap fun x => [x % 4294967296, x / 4294967296 % 4294967296]
    foldSt (List.range 8) (fun i d => keyWordWrite j s i (BitVec.ofNat 32 (w.getD i 0)) d) d) d

def keyLinkClear (r : BRef) (j s : Nat) (d : Dev) : Dev := keyCmd r j s (keyClear j s) d
def keyLinkUse (r : BRef) (j s : Nat) (d : Dev) : Dev := settle (keyCmd r j s (keyUse j s) d)

/-! ### The Jetty window (R367) -/

def jettyLinkRead (j off : Nat) (d : Dev) : RegR :=
  let l := jlink j d
  let b := 32 + j
  if 0x40 ≤ off ∧ off < 0x80 then rval 0 d
  else match off with
    | 0x00 => rnote b d | 0x04 => rnoteEn b d
    | 0x08 => rcnt (16 * b) d | 0x0C => rcnt (16 * b + 1) d | 0x10 => rcnt (16 * b + 2) d | 0x14 => rcnt (16 * b + 3) d
    | 0x18 => rcnt (16 * b + 4) d | 0x1C => rcnt (16 * b + 5) d
    | 0x20 => rval (at' l.sent.length 8 + at' l.txSlot 4 + at' (b2n l.encNow) 3 + l.st.code) d
    | 0x24 => rval (at' (b2n l.peerV) 31 + at' (l.peerVar % 16) 24 + at' (l.peerLink % 64) 16 + l.peerNode % 65536) d
    | 0x28 => rval (at' (b2n l.auto) 1 + b2n l.encCfg) d
    | 0x80 => rval (at' (b2n l.kv1) 2 + at' (b2n l.kv0) 1) d
    | _ => none

/-- KCTL: clears first, then the switch to a slot. -/
def kctlWrite (j v : Nat) (d : Dev) : Dev :=
  let d := if bitOf v 4 then keyClear j 0 d else d
  let d := if bitOf v 5 then keyClear j 1 d else d
  if bitOf v 8 then settle (keyUse j (bitsOf v 9 9) d) else d

def jettyLinkWrite (j off v : Nat) (d : Dev) : Option Dev :=
  if 0x40 ≤ off ∧ off < 0x80 ∧ off % 4 = 0 then some (keyWordWrite j ((off - 0x40) / 32) ((off - 0x40) / 4 % 8) (BitVec.ofNat 32 v) d)
  else match off with
    | 0x00 => wnote (32 + j) 63 v d | 0x04 => wnoteEn (32 + j) 63 v d
    | 0x28 => some (jlinkMod j (fun l => { l with encCfg := bitOf v 0, auto := bitOf v 1 }) d)
    | 0x80 => some (kctlWrite j v d)
    | _ => (jettyLinkRead j off d).map fun _ => d

/-- Every link is DOWN: JETTY_NODE takes a write. -/
def linksDown (d : Dev) : Bool := (List.range (nJetty d.fuse.variant)).all fun j => (jlink j d).st == .down

def nodeWrite (v : Nat) (d : Dev) : Dev := if linksDown d then jettyMod (fun y => { y with node := v % 65536 }) d else badacc d
def memtoWrite (v : Nat) (d : Dev) : Dev := if within v 9216 92160000 then jettyMod (fun y => { y with memto := v }) d else badacc d

def jettyRegRead (off : Nat) (d : Dev) : RegR :=
  if off < 0x40000 then (if linkHere (off / 0x1000) d then jettyLinkRead (off / 0x1000) (off % 0x1000) d else none)
  else if 0x80000 ≤ off ∧ off < 0xC0000 then rval (routeWord ((off - 0x80000) / 4) d.jetty) d
  else if 0x40100 ≤ off ∧ off < 0x40180 then
    let m := tabGet (fun _ => 0) d.jetty.trunk ((off - 0x40100) / 8)
    rval (if off % 8 = 0 then m else m / 4294967296) d
  else match off with
    | 0x40000 => rnote 31 d | 0x40004 => rnoteEn 31 d
    | 0x40008 => rcnt 496 d | 0x4000C => rcnt 497 d | 0x40010 => rcnt 498 d
    | 0x40014 => rval d.jetty.node d
    | 0x40018 => rval (b2n d.jetty.lend) d
    | 0x4001C => rval d.jetty.memto d
    | 0x40020 => rval d.jetty.fences.length d
    | _ => none

def jettyRegWrite (off v : Nat) (d : Dev) : Option Dev :=
  if off < 0x40000 then (if linkHere (off / 0x1000) d then jettyLinkWrite (off / 0x1000) (off % 0x1000) v d else none)
  else if 0x80000 ≤ off ∧ off < 0xC0000 then some (settle (routeWrite ((off - 0x80000) / 4) v d))
  else if 0x40100 ≤ off ∧ off < 0x40180 then some (settle (trunkWrite ((off - 0x40100) / 8) (off % 8 == 4) v d))
  else match off with
    | 0x40000 => wnote 31 7 v d | 0x40004 => wnoteEn 31 7 v d
    | 0x40014 => some (nodeWrite v d)
    | 0x40018 => some (jettyMod (fun y => { y with lend := bitOf v 0 }) d)
    | 0x4001C => some (memtoWrite v d)
    | _ => (jettyRegRead off d).map fun _ => d

/-! ### The Ferry (R368, R370) -/

def ferryOwn (k : Nat) (d : Dev) : FOwn := tabGet (fun _ => {}) d.ferry.own k
def ferryOwnSet (k : Nat) (o : FOwn) (d : Dev) : Dev := ferryMod (fun f => { f with own := tabSet (fun _ => {}) f.own k o }) d

/-- A write of the configuration: never while RUN is 1, and INDEX stays below NSTOP. [log entry 49 DEDUCED] -/
def ferryConf (f : Ferry → Ferry) (d : Dev) : Dev :=
  let g := f d.ferry
  if d.ferry.run || decide (g.nstop ≤ g.index) then badacc d else { d with ferry := g }

/-- A write of FERRY_OWNk. [log entry 49 DEDUCED] -/
def ferryOwnWrite (k : Nat) (o : FOwn) (d : Dev) : Dev := if d.ferry.run || !ferryOwnOk o d then badacc d else ferryOwnSet k o d

def ferryRegRead (off : Nat) (d : Dev) : RegR :=
  let f := d.ferry
  if 0x1000 ≤ off ∧ off < 0x2000 then
    let o := ferryOwn ((off - 0x1000) / 16) d
    match off % 16 with
    | 0 => rval (at' (b2n o.valid) 31 + o.slot % 4096) d
    | 4 => rval o.addr d
    | 8 => rval (o.addr / 4294967296) d
    | 12 => rval o.len d
    | _ => none
  else match off with
    | 0x00 => rnote 96 d | 0x04 => rnoteEn 96 d
    | 0x08 => rcnt 1536 d | 0x0C => rcnt 1537 d | 0x10 => rcnt 1538 d | 0x14 => rcnt 1539 d
    | 0x18 => rval (at' f.index 16 + f.next) d
    | 0x1C => rval (at' f.ring 24 + at' (f.nslot - 1) 12) d
    | 0x20 => rval (at' (b2n f.run) 31 + at' (b2n f.token) 30 + (f.nstop - 1)) d
    | 0x24 => rval f.revb.toNat d
    | 0x28 => rval f.hold.toNat d
    | 0x2C => rval f.revlast.toNat d
    | _ => none

def ferryRegWrite (off v : Nat) (d : Dev) : Option Dev :=
  if 0x1000 ≤ off ∧ off < 0x2000 ∧ off % 4 = 0 then
    let k := (off - 0x1000) / 16
    let o := ferryOwn k d
    let o := match off % 16 with
      | 0 => { o with valid := bitOf v 31, slot := bitsOf v 11 0 }
      | 4 => { o with addr := o.addr / 2 ^ 32 * 2 ^ 32 + v % 2 ^ 32 }
      | 8 => { o with addr := o.addr % 2 ^ 32 + 2 ^ 32 * (v % 2 ^ 32) }
      | _ => { o with len := v % 2 ^ 32 }
    some (ferryOwnWrite k o d)
  else match off with
    | 0x00 => wnote 96 15 v d | 0x04 => wnoteEn 96 15 v d
    | 0x18 => some (ferryConf (fun f => { f with index := bitsOf v 31 16, next := bitsOf v 15 0 }) d)
    | 0x1C => some (ferryConf (fun f => { f with ring := bitsOf v 31 24, nslot := bitsOf v 23 12 + 1 }) d)
    | 0x20 => some (ferryConf (fun f => { f with nstop := bitsOf v 15 0 + 1 }) d)
    | 0x24 => some (ferryMod (fun f => { f with revb := BitVec.ofNat 32 v }) d)
    | 0x28 => some (ferryMod (fun f => { f with hold := BitVec.ofNat 32 v }) d)
    | _ => (ferryRegRead off d).map fun _ => d

def ferryLine (d : Dev) : String :=
  let f := d.ferry
  let c := fun (i : Nat) => ctrVal 65535 (1536 + i) d
  "ferry ring " ++ dec f.ring ++ spn "index" f.index ++ spn "stops" f.nstop ++ spn "slots" f.nslot ++ spn "next" f.next ++ spn "run" (b2n f.run)
    ++ spn "token" (b2n f.token) ++ sp "revlast" (dec f.revlast.toNat ++ "gu") ++ sp "revb" (dec f.revb.toNat ++ "gu") ++ spn "miss" (c 0)
    ++ spn "break" (c 1) ++ spn "slow" (c 2)

def showFerry (r : BRef) (d : Dev) : Dev := bcmd r (fun d => ok r [ferryLine d] d) d

/-- `set ferry`: the fields it names; times in gauge units. [log entry 49 DEDUCED] -/
def setFerry (r : BRef) (ring index stops slots next revb hold : Option Nat) (d : Dev) : Dev :=
  bcmd r (fun d =>
    let f := d.ferry
    let g := { f with ring := ring.getD f.ring, index := index.getD f.index, nstop := stops.getD f.nstop, nslot := slots.getD f.nslot, next := next.getD f.next }
    if 256 ≤ g.ring ∨ 65536 ≤ g.index ∨ !within g.nstop 1 65536 ∨ !within g.nslot 1 4096 ∨ 65536 ≤ g.next ∨ g.nstop ≤ g.index
        ∨ 4294967296 ≤ revb.getD 0 ∨ 4294967296 ≤ hold.getD 0 then err r "range" [] d
    else if f.run && (ring.isSome || index.isSome || stops.isSome || slots.isSome || next.isSome) then err r "busy" [ferryLine d] d
    else
      let t := fun (x : Option Nat) (o : W32) => match x with | some v => BitVec.ofNat 32 v | none => o
      ok r [] { d with ferry := { g with revb := t revb f.revb, hold := t hold f.hold } }) d

/-- `set ferry own K slot S hbm A len L`. -/
def setFerryOwn (r : BRef) (k s a l : Nat) (d : Dev) : Dev :=
  bcmd r (fun d =>
    let o : FOwn := { valid := true, slot := s, addr := a, len := l }
    if 256 ≤ k ∨ 4096 ≤ s ∨ !ferryOwnOk o d then err r "range" [] d
    else if d.ferry.run then err r "busy" [ferryLine d] d
    else ok r [] (ferryOwnSet k o d)) d

/-- `start ferry` and `stop ferry`. -/
def runFerry (r : BRef) (go : Bool) (d : Dev) : Dev :=
  settle (bcmd r (fun d =>
    if go && !uready 96 d then errAway r 96 [ferryLine d] d
    else let d := if go then ferryStart d else ferryStop d; ok r [ferryLine d] d) d)

/-- A token (TYPE 1) or a block (TYPE 0) reaches this stop as a packet. [log entry 49 DEDUCED] -/
def ferryArrive (tok : Bool) (b : List Byte) (d : Dev) : Dev := if fieldLe b 12 1 = b2n tok then settle (ferryReceive b d) else d

end Sys2Proof.Machine
end

