-- ==== Sys2Proof/Machine/LedgerCmds.lean ====
section
/-!
DEFINITION. Machine/LedgerCmds.lean: mirroring between two Ledgers (18 R408 to R411), recovery (R412), the lifetime of orphans (R407), the ledger noun
(R415) and the Ledger window (R414).
-/
namespace Sys2Proof.Machine

def ledgMod (f : Ledger → Ledger) (d : Dev) : Dev := { d with ledger := f d.ledger }

/-! ### Recovery (Table 18-4) -/

/-- A record that survives becomes what Table 18-4 says: an ADMITTED item an orphaned entry with a deadline verdict, a late one DONE, a waiting
delivery an orphan; a poisoned one is discarded (R413). Answers whether it was recovered. [log entry 52 DEDUCED] -/
def recoverRec (l : Nat) (r : LRec) (d : Dev) : Bool × Dev :=
  if r.poison then (false, raise 97 4 (lrecSet l {} d))
  else match r.phase with
    | 1 =>
      let r := { r with phase := 3, verdict := if r.dlv then 6 else 5, flags := (r.flags &&& 0x74) + 1 + 8 * b2n (unsealed d), type := 1, error := 14, rlen := 0,
                        relAt := now d, cut := 0xFFFFFFFF, scores := [0x7E00, 0x7E00, 0x7E00, 0x7E00], spans := [], mark := 0, refetch := false,
                        admitAt := 0, deadline := 0, plen := 0, clipped := false }
      (true, raise 97 6 (orphan l (lrecSet l r d)))
    | 0 => (false, d)
    | _ =>
      let r := { r with phase := 3, mark := 0, refetch := false }
      let d := lrecSet l r d
      (false, if r.deliv = 0 then ledgRetire l d else if r.deliv = 1 then orphan l d else d)

/-! ### The origin (R408, R410) -/

/-- Every record that is not FREE and has no write under way is sent again, in LIDX order (R410). An entry found poisoned is retired undelivered
(R413). -/
def mirrorResend (d : Dev) : Dev :=
  foldSt (d.ledger.recs.map (·.1)) (fun l d =>
    let r := lrec l d
    if r.phase = 0 ∨ d.ledger.unacked.any (fun w => w.lidx == l) then d
    else if r.poison && r.deliv != 0 then ledgRetire l (raise 97 5 (lrecSet l { r with deliv := 0 } d))
    else mirrorSend 0 l d) d

/-- Back in step once everything has been acknowledged. -/
def mirrorStep (d : Dev) : Dev := if d.ledger.unacked.isEmpty then ledgMod (fun g => { g with degraded := false }) d else d

/-- Writes are sent from now on: every record goes as for DEGRADED (R408). [log entry 52 DEDUCED] -/
def mirrorRestart (d : Dev) : Dev := mirrorStep (mirrorResend (ledgMod (fun g => { g with degraded := true, unacked := [] }) d))

/-- A mirror write has failed (R410). [log entry 52 DEDUCED] -/
def mirrorFail (w : MirrorWait) (d : Dev) : Dev :=
  mirrorResend (raise 97 3 (ledgMod (fun g => { g with unacked := g.unacked.erase w, degraded := true }) d))

/-- The write of sequence number `q` is unacknowledged after LEDG_MIRTO: it is sent once more, and then it has failed. -/
def mirrorTimeout (q : Nat) (d : Dev) : Dev :=
  match d.ledger.unacked.find? (fun w => w.mseq == q && due w.due d) with
  | none => d
  | some w =>
    if w.again then mirrorFail w d
    else
      let r := lrec w.lidx d
      let p : MirrorPkt := { op := if r.phase = 0 then 3 else 0, origin := d.jetty.node, mseq := w.mseq, lidx := w.lidx, rcd := if r.phase = 0 then none else some r }
      ledgMod (fun g => { g with mout := g.mout ++ [p], unacked := g.unacked.map fun x => if x == w then { w with due := now d + g.mirTo, again := true } else x }) d

/-! ### The packets of Sluice 167 -/

/-- The mirror packet at the front of Sluice 167, where its OP is among `ops`. [log entry 52 DEDUCED] -/
def mirrorTake (ops : List Nat) (d : Dev) : Option (MirrorPkt × Dev) :=
  if !userves 97 d then none
  else match takePkt 167 d with
    | none => none
    | some (p, d) =>
      let m := mirrorOf (List.replicate 8 0 ++ toLe 4 p.lidx ++ p.body)
      if ops.contains m.op && !p.aborted && !p.absent then some (m, d) else none

/-- What the peer answers to mirror traffic (R410). [log entry 52 DEDUCED] -/
def mirrorReply (op : Nat) (m : MirrorPkt) (d : Dev) : Dev :=
  ledgMod (fun g => { g with mout := g.mout ++ [{ op := op, origin := m.origin, mseq := m.mseq, lidx := m.lidx, rcd := none }] }) d

/-- The peer this part serves. -/
def servesPeer (m : MirrorPkt) (d : Dev) : Bool := d.ledger.serveNow && d.ledger.peerV && d.ledger.peer == m.origin

/-- Records of the mirror area. -/
def mirrorSize (d : Dev) : Nat := if d.ledger.serveNow then d.hbm.ledger * 8388608 / 2 else 0

/-- OP 0 and 3: the record is stored, or freed, and acknowledged; what is not accepted is answered with OP 2 (R410). -/
def mirrorReceive (d : Dev) : Dev :=
  match mirrorTake [0, 3] d with
  | none => d
  | some (m, d) =>
    if !servesPeer m d || decide (mirrorSize d ≤ m.lidx) then mirrorReply 2 m d
    else
      let old := tabGet (fun _ => 0) d.ledger.mirrorSeq m.lidx
      let late := old != 0 && serialAfter (old - 1) m.mseq
      let store := fun (r : LRec) =>
        ledgMod (fun g =>
          { g with mirror := tabSet (fun _ => {}) g.mirror m.lidx r,
                   mirrorSeq := tabSet (fun _ => 0) g.mirrorSeq m.lidx (m.mseq + 1) }) d
      mirrorReply 1 m (if late then d else if m.op = 3 then store {} else match m.rcd with | some r => store r | none => d)

/-- A fetch ends: its line is answered (R411, R415). -/
def fetchEnd (e : Option String) (d : Dev) : Dev :=
  let g := d.ledger
  let d := ledgMod (fun g => { g with fetchDue := none, fetchWho := none }) d
  match g.fetchWho with
  | some (sid, tag) => answer ⟨sid, tag⟩ (.other 5) e (if e.isNone then ["ledger recovered " ++ dec g.fetched] else []) d
  | none => d

/-- OP 1 and 2 at the origin. An OP 2 that answers a fetch request ends the fetch. [log entry 52 DEDUCED] -/
def mirrorAck (d : Dev) : Dev :=
  match mirrorTake [1, 2] d with
  | none => d
  | some (m, d) =>
    match d.ledger.unacked.find? (fun w => w.lidx == m.lidx && w.mseq == m.mseq) with
    | none => if m.op = 2 ∧ m.lidx = noLidx ∧ d.ledger.fetchDue.isSome then fetchEnd (some "failed") (raise 97 3 d) else d
    | some w =>
      if m.op = 2 then mirrorFail w d
      else
        let d := ledgMod (fun g => { g with unacked := g.unacked.erase w }) d
        let d := if (lrec m.lidx d).phase ≠ 0 ∧ d.ledger.unacked.all (fun x => x.lidx != m.lidx) then lrecMod m.lidx (fun r => { r with mirrored := true }) d else d
        mirrorStep d

/-! ### The fetch (R411) -/

/-- OP 5: every record of the mirror area that is not FREE goes back, in LIDX order, and then OP 6. -/
def fetchRequest (d : Dev) : Dev :=
  match mirrorTake [5] d with
  | none => d
  | some (m, d) =>
    if !servesPeer m d then mirrorReply 2 m d
    else
      let ps := (d.ledger.mirror.filter fun p => p.2.phase != 0).map fun (l, r) =>
        ({ op := 4, origin := m.origin, mseq := tabGet (fun _ => 0) d.ledger.mirrorSeq l - 1, lidx := l, rcd := some r } : MirrorPkt)
      mirrorReply 6 { m with lidx := noLidx } (ledgMod (fun g => { g with mout := g.mout ++ ps }) d)

/-- OP 4 and 6 at the requester: a record takes its place where the local one is FREE, as one that survived; OP 6 ends the fetch. [log entry 52 DEDUCED] -/
def fetchData (d : Dev) : Dev :=
  match mirrorTake [4, 6] d with
  | none => d
  | some (m, d) =>
    if d.ledger.fetchDue.isNone ∨ m.origin ≠ d.jetty.node then d
    else if m.op = 6 then fetchEnd none d
    else
      let d := ledgMod (fun g => { g with fetchDue := some (now d + 92160000) }) d
      match m.rcd with
      | none => d
      | some r =>
        if ledgSize d ≤ m.lidx ∨ (lrec m.lidx d).phase ≠ 0 then d
        else
          let (yes, d) := recoverRec m.lidx r (lrecSet m.lidx r d)
          let d := ledgMod (fun g => { g with fetched := g.fetched + b2n yes }) d
          if (lrec m.lidx d).phase = 0 then d else mirrorSend 0 m.lidx d

/-- A request unanswered for 92,160,000 gu. [log entry 52 DEDUCED] -/
def fetchTimeout (d : Dev) : Dev :=
  match d.ledger.fetchDue with
  | some t => if due t d then fetchEnd (some "failed") (raise 97 3 d) else d
  | none => d

/-- Ask the peer for this part's records. -/
def fetchStart (who : Option (Nat × String)) (d : Dev) : Dev :=
  let p : MirrorPkt := { op := 5, origin := d.jetty.node, mseq := 0, lidx := noLidx, rcd := none }
  ledgMod (fun g => { g with mout := g.mout ++ [p], fetchDue := some (now d + 92160000), fetchWho := who, fetched := 0 }) d

/-! ### Orphans (R407) -/

/-- The orphaned entry of record `l` lies more than ORPHTTL ms in the past. -/
def orphanExpiry (l : Nat) (d : Dev) : Dev :=
  let r := lrec l d
  if d.ledger.orphTtl ≠ 0 ∧ r.deliv = 2 ∧ r.relAt + d.ledger.orphTtl * 9216000 < now d then
    ledgRetire l (raise 97 5 (lrecSet l { r with deliv := 0 } d))
  else d

/-! ### Registers (R408, R414) -/

/-- New values of the mirror settings: the writes start, or stop and are forgotten. -/
def mirrorSetup (f : Ledger → Ledger) (d : Dev) : Dev :=
  let was := mirroring d
  let old := d.ledger.peer
  let d := ledgMod f d
  if !mirroring d then ledgMod (fun g => { g with unacked := [], degraded := false }) d
  else if was && d.ledger.peer == old then d
  else mirrorRestart d

/-- LEDG_CFG; under FORCED, MIRROR stays 1 and a write of 0 to it is counted. -/
def ledgCfgWrite (v : Nat) (d : Dev) : Dev :=
  let f := d.ledger.forced
  let d := if f && !bitOf v 8 then badacc d else d
  mirrorSetup (fun g => { g with maxReplay := bitsOf v 3 0, mirrorOn := bitOf v 8 || f, serve := bitOf v 9, autoFetch := bitOf v 11 }) d

/-- LEDG_PEER; under FORCED a write with VALID 0 is discarded whole and counted. -/
def ledgPeerWrite (v : Nat) (d : Dev) : Dev :=
  if d.ledger.forced && !bitOf v 31 then badacc d else mirrorSetup (fun g => { g with peerV := bitOf v 31, peer := bitsOf v 15 0 }) d

/-- LEDG_MSTAT STATE: 0 OFF, 1 IN STEP, 2 DEGRADED. [log entry 26 DESIGN CHOICE] -/
def mirrorState (d : Dev) : Nat := if !d.ledger.mirrorOn then 0 else if !d.ledger.peerV || d.ledger.degraded then 2 else 1

def ledgRegRead (off : Nat) (d : Dev) : RegR :=
  let g := d.ledger
  let k := 16 * 97
  match off with
  | 0x00 => rnote 97 d | 0x04 => rnoteEn 97 d
  | 0x08 => rcnt k d | 0x0C => rcnt (k + 1) d | 0x10 => rcnt (k + 2) d | 0x14 => rcnt (k + 3) d | 0x18 => rcnt (k + 4) d | 0x1C => rcnt (k + 5) d
  | 0x20 => rcnt (k + 6) d
  | 0x24 => rval (at' (b2n g.autoFetch) 11 + at' (b2n g.forced) 10 + at' (b2n g.serve) 9 + at' (b2n g.mirrorOn) 8 + g.maxReplay) d
  | 0x28 => rval (at' (b2n g.peerV) 31 + g.peer) d
  | 0x2C => rval (ledgSize d) d
  | 0x30 => rval (ledgFree d) d
  | 0x34 => rval g.orphTtl d
  | 0x38 => rval g.mirTo d
  | 0x3C => rval (at' (min g.unacked.length 65535) 16 + mirrorState d) d
  | 0x40 => rval (ledgMarked d) d
  | _ => none

def ledgRegWrite (off v : Nat) (d : Dev) : Option Dev :=
  match off with
  | 0x00 => wnote 97 127 v d | 0x04 => wnoteEn 97 127 v d
  | 0x24 => some (ledgCfgWrite v d)
  | 0x28 => some (ledgPeerWrite v d)
  | 0x34 => some (ledgMod (fun g => { g with orphTtl := v }) d)
  | 0x38 => wif (within v 92160 92160000) (ledgMod fun g => { g with mirTo := v }) d
  | _ => (ledgRegRead off d).map fun _ => d

/-! ### The noun (R415) -/

/-- The line of `show ledger` (R415). [log entry 26 DESIGN CHOICE] -/
def ledgerLine (d : Dev) : String :=
  let g := d.ledger
  "ledger records " ++ dec (ledgSize d) ++ spn "free" (ledgFree d) ++ spn "marked" (ledgMarked d)
    ++ sp "mirror" (match mirrorState d with | 0 => "off" | 1 => "in-step" | _ => "degraded") ++ sp "peer" (if g.peerV then dec g.peer else "none")
    ++ spn "lag" g.unacked.length ++ spn "maxreplay" g.maxReplay ++ sp "ttl" (dec g.orphTtl ++ "ms") ++ spn "serve" (b2n g.serve)

/-- The words for PHASE. [log entry 26 DESIGN CHOICE] -/
def phaseName : Nat → String | 0 => "free" | 1 => "admitted" | 2 => "running-late" | _ => "done"
/-- The words for DELIV. [log entry 26 DESIGN CHOICE] -/
def delivName : Nat → String | 0 => "none" | 1 => "held" | _ => "orphaned"

/-- A record's line of `show ledger` (R415). [log entry 26 DESIGN CHOICE] -/
def lidxLine (l : Nat) (d : Dev) : String :=
  let r := lrec l d
  "lidx " ++ dec l ++ sp "phase" (phaseName r.phase) ++ sp "delivery" (delivName r.deliv) ++ spn "stream" r.stream ++ spn "seq" r.seq ++ spn "route" r.route
    ++ spn "epoch" r.epoch ++ sp "done" (hex0 2 r.done) ++ sp "mark" (hex0 2 r.mark) ++ spn "replays" r.replays ++ spn "mirrored" (b2n r.mirrored)

def showLedger (r : BRef) (d : Dev) : Dev := bcmd r (fun d => ok r [ledgerLine d] d) d

def showLidx (r : BRef) (l : Nat) (d : Dev) : Dev := bcmd r (fun d => if ledgSize d ≤ l then err r "range" [] d else ok r [lidxLine l d] d) d

/-- `set ledger`: what it names, as one change; times in gauge units. `peer`: none none, or a node. -/
def setLedger (r : BRef) (maxreplay : Option Nat) (mirror : Option Bool) (peer : Option (Option Nat)) (serve ttl mirto : Option Nat) (d : Dev) : Dev :=
  bcmd r (fun d =>
    if 16 ≤ maxreplay.getD 0 ∨ 65536 ≤ (peer.getD none).getD 0 ∨ 2 ≤ serve.getD 0 ∨ ttl.getD 0 % 9216000 ≠ 0 ∨ 4294967296 ≤ ttl.getD 0 / 9216000
        ∨ !within (mirto.getD 92160) 92160 92160000 then err r "range" [] d
    else if d.ledger.forced ∧ (mirror = some false ∨ peer = some none) then err r "unsealed" [ledgerLine d] d
    else
      ok r [] (mirrorSetup (fun g =>
        { g with maxReplay := maxreplay.getD g.maxReplay, mirrorOn := mirror.getD g.mirrorOn, serve := match serve with | some v => v == 1 | none => g.serve,
                 peerV := match peer with | some p => p.isSome | none => g.peerV, peer := match peer with | some (some n) => n | _ => g.peer,
                 orphTtl := match ttl with | some t => t / 9216000 | none => g.orphTtl, mirTo := mirto.getD g.mirTo }) d)) d

/-- `fetch ledger mirror [wait]`. -/
def fetchLedger (r : BRef) (wait : Bool) (d : Dev) : Dev :=
  bcmd r (fun d =>
    if !uready 97 d then errAway r 97 [ledgerLine d] d
    else if !d.ledger.peerV then err r "denied" [ledgerLine d] d
    else if d.ledger.fetchDue.isSome then err r "busy" [ledgerLine d] d
    else if wait then fetchStart (some (r.sid, r.tag)) (bwait r (.other 5) d)
    else ok r [] (fetchStart none d)) d

end Sys2Proof.Machine
end

