-- ==== Sys2Proof/Machine/MemCmds.lean ====
section
/-!
DEFINITION. Machine/MemCmds.lean: the mere, siphon and hbm nouns (14 R311), the windows of R310, and host accesses to BAR2 and BAR4 (05 R89 to
R91, 14 R296).
-/
namespace Sys2Proof.Machine

/-! ### CONFIG records written by a command (19 R435) -/

/-- A command that writes a new CONFIG record with body `b`: refused while the store cannot take it, else answered at once. -/
def cfgRewrite (r : BRef) (b : List Byte) (lines : List String) (d : Dev) : Dev :=
  if !uready 99 d then err r "absent" [] d
  else if nvKindBusy 3 d then err r "busy" [] d
  else ok r lines (recWrite 3 b none d)

/-! ### Mere -/

def mereLine (d : Dev) : String :=
  "mere ce " ++ dec (ctrVal 65535 384 d) ++ spn "ue" (ctrVal 65535 385 d) ++ sp "ueaddr" (hexGrouped 8 d.mere.ueaddr) ++ " refresh 24000gu"

def showMere (r : BRef) (d : Dev) : Dev := bcmd r (fun d => ok r [mereLine d] d) d

/-- One byte of a hex line. -/
def mereText (a : Nat) (d : Dev) : String := match mereByte a d with | some b => hexBytes [b] | none => "poison"

/-- Hex lines of 16 bytes (R311). [log entry 26 DESIGN CHOICE] -/
def mereHex (a n : Nat) (d : Dev) : List String :=
  (List.range ((n + 15) / 16)).map fun i => spaced ((List.range (min 16 (n - 16 * i))).map fun j => mereText (a + 16 * i + j) d)

/-- `read mere A [length N]`. -/
def readMere (r : BRef) (a : Nat) (len : Option Nat) (d : Dev) : Dev :=
  bcmd r (fun d =>
    let n := len.getD 64
    if !within n 1 256 || decide (mereSize < a + n) then err r "range" [] d
    else if !memServes 24 d then err r "absent" [] d
    else ok r (mereHex a n d) d) d

/-! ### Siphon -/

/-- The line of `show siphon` (R311). [log entry 26 DESIGN CHOICE] -/
def siphonLine (d : Dev) : String :=
  let c := fun (i : Nat) => ctrVal 65535 (400 + i) d
  "siphon state " ++ uStateName (ustate 25 d) ++ spn "active" d.siph.active.length ++ spn "jobs" d.siph.jobs.toNat ++ spn "refused" (c 0)
    ++ spn "bounced" (c 1) ++ spn "aborted" (c 2) ++ spn "poison" (c 3)

def showSiphon (r : BRef) (d : Dev) : Dev := bcmd r (fun d => ok r [siphonLine d] d) d

/-- The number a decimal tag spells, 0 for another tag. [log entry 45 DEDUCED] -/
def tagNumber (t : String) : Nat :=
  t.toList.foldl (fun (a : Nat) c => if '0' ≤ c ∧ c ≤ '9' then (a * 10 + (c.toNat - 48)) % 4294967296 else a) 0

/-- An address of a space, by its number and Basin: none of range or absence is wrong, else the error word. [log entry 45 DEDUCED] -/
def spaceBad (sp b a : Nat) (d : Dev) : Option String :=
  if 3 < sp ∨ (sp = 2 ∧ 8 ≤ b) ∨ spaceSize sp d ≤ a then some "range"
  else if sp = 2 ∧ nBasin d.fuse.variant ≤ b then some "absent" else none

/-- `copy siphon`: the job waits at the Shore agent for its turn (R299, R311). [log entry 45 DEDUCED] -/
def copySiphon (r : BRef) (ssp sb src dsp db dst len : Nat) (rows : Option Nat) (ss ds : Option Int) (wait : Bool) (d : Dev) : Dev :=
  bcmd r (fun d =>
    let n := rows.getD 1
    let e := match spaceBad ssp sb src d, spaceBad dsp db dst d with
      | some "range", _ => some "range"
      | _, some "range" => some "range"
      | some w, _ => some w
      | none, x => x
    if !within len 1 16777216 || !within n 1 65536 || decide (4294967296 < len * n) then err r "range" [] d
    else match e with
      | some w => err r w [] d
      | none =>
        if !uready 25 d then errAway r 25 [siphonLine d] d
        else
          let x : SDesc := { jobid := tagNumber r.tag, ssp := ssp, sb := sb, dsp := dsp, db := db, rsvd := false, src := src, dst := dst, rowlen := len,
                             nrows := n, sstride := ss.getD len, dstride := ds.getD len }
          let d := siphSet { d.siph with queue := d.siph.queue ++ [{ sub := .shore r.sid r.tag wait, d := x, accAt := now d }] } d
          if wait then bwait r (.siphon x.jobid) d else ok r [] d) d

/-! ### HBM -/

/-- End of the weight region in 64 MiB units (R308). -/
def hbmWend (d : Dev) : Nat := sessBase d / 67108864

def hbmHead (d : Dev) : String :=
  "hbm ledger " ++ dec d.hbm.ledger ++ "GiB" ++ sp "sessions" (dec d.hbm.sessions ++ "GiB") ++ sp "wend" (hex0 4 (hbmWend d))

/-- A stack's line of `show hbm` (R311). [log entry 26 DESIGN CHOICE] -/
def stackLine (h : Nat) (d : Dev) : String :=
  let s := stackGet h d
  "stack " ++ dec h ++ sp "state" (uStateName (ustate (26 + h) d)) ++ spn "rate" s.rate ++ spn "temp" s.temp ++ spn "spares" s.spares
    ++ spn "ce" (ctrVal 65535 (16 * (26 + h)) d) ++ spn "ue" (ctrVal 65535 (16 * (26 + h) + 1) d) ++ sp "ueaddr" (hexGrouped 16 s.ueaddr)

/-- `show hbm [stack H]`. -/
def showHbm (r : BRef) (h : Option Nat) (d : Dev) : Dev :=
  bcmd r (fun d =>
    let n := nHbm d.fuse.variant
    if 4 ≤ h.getD 0 then err r "range" [] d
    else if n ≤ h.getD 0 then err r "absent" [] d
    else ok r (hbmHead d :: (match h with | some h => [h] | none => List.range n).map fun h => stackLine h d) d) d

/-- The value of CONFIG tag 0x0006 with new sizes; the rate code stays, and is the rate in force where the record has none. -/
def hbmTag (l s : Nat) (d : Dev) : List Byte :=
  let rate := match (cfgList d.boot.config).find? fun e => e.1 == 6 with | some e => fieldLe e.2 0 1 | none => (stackGet 0 d).rate
  toLe 1 rate ++ toLe 1 l ++ toLe 2 s

/-- `set hbm ledger L sessions S`. [log entry 46 DEDUCED] -/
def setHbmLedger (r : BRef) (l s : Nat) (d : Dev) : Dev :=
  bcmd r (fun d =>
    if !within l 1 16 || s = 0 || decide (hbmBytes d.fuse.variant < (l + s + 8) * gib + 67108864) then err r "range" [] d
    else cfgRewrite r (cfgPut 6 (hbmTag l s d) d.boot.config) [] d) d

/-- Repairs of stack `h` the CONFIG record asks for and no warm reset has made. -/
def repairsAsked (h : Nat) (d : Dev) : Nat :=
  ((cfgList d.boot.config).filter fun e => e.1 == 11 && hbmStackOf (fieldLe e.2 0 8) d == h && !d.hbm.repaired.contains (fieldLe e.2 0 8)).length

/-- `set hbm repair A` (R309). [log entry 46 DEDUCED] -/
def setHbmRepair (r : BRef) (a : Nat) (d : Dev) : Dev :=
  bcmd r (fun d =>
    let h := hbmStackOf a d
    if hbmBytes d.fuse.variant ≤ a then err r "range" [] d
    else if (stackGet h d).spares ≤ repairsAsked h d then err r "failed" [stackLine h d] d
    else cfgRewrite r (d.boot.config ++ cfgEntry 11 (toLe 8 a)) [] d) d

/-! ### The windows (R310) -/

def memRegRead (off : Nat) (d : Dev) : RegR :=
  match off with
  | 0x000 => rnote 24 d | 0x004 => rnoteEn 24 d | 0x008 => rcnt 384 d | 0x00C => rcnt 385 d | 0x010 => rval d.mere.ueaddr d
  | 0x100 => rnote 25 d | 0x104 => rnoteEn 25 d | 0x108 => rcnt 400 d | 0x10C => rcnt 401 d | 0x110 => rcnt 402 d | 0x114 => rcnt 403 d
  | 0x118 => rval d.siph.active.length d
  | 0x11C => rval d.siph.jobs.toNat d
  | _ => none

def memRegWrite (off v : Nat) (d : Dev) : Option Dev :=
  match off with
  | 0x000 => wnote 24 3 v d | 0x004 => wnoteEn 24 3 v d
  | 0x100 => wnote 25 15 v d | 0x104 => wnoteEn 25 15 v d
  | _ => (memRegRead off d).map fun _ => d

def hbmRegRead (off : Nat) (d : Dev) : RegR :=
  if off < 0x4000 then
    let h := off / 0x1000
    let s := stackGet h d
    let k := 16 * (26 + h)
    if nHbm d.fuse.variant ≤ h then none
    else match off % 0x1000 with
      | 0x00 => rnote (26 + h) d | 0x04 => rnoteEn (26 + h) d | 0x08 => rcnt k d | 0x0C => rcnt (k + 1) d
      | 0x10 => rval s.ueaddr d
      | 0x14 => rval (s.ueaddr / 4294967296) d
      | 0x18 => rval (at' (s.temp % 256) 24 + at' (s.spares % 256) 16 + s.rate % 256) d
      | _ => none
  else match off with
    | 0x8000 => rval d.hbm.ledger d
    | 0x8004 => rval d.hbm.sessions d
    | 0x8008 => rval (hbmWend d) d
    | _ => none

def hbmRegWrite (off v : Nat) (d : Dev) : Option Dev :=
  if off < 0x4000 ∧ off / 0x1000 < nHbm d.fuse.variant ∧ off % 0x1000 = 0 then wnote (26 + off / 0x1000) 3 v d
  else if off < 0x4000 ∧ off / 0x1000 < nHbm d.fuse.variant ∧ off % 0x1000 = 4 then wnoteEn (26 + off / 0x1000) 3 v d
  else (hbmRegRead off d).map fun _ => d

/-! ### Host accesses to BAR2 and BAR4 -/

/-- A BAR2 address a host write does not reach (R296). -/
def mereShut (a : Nat) (d : Dev) : Bool :=
  decide (a < 0x400000) || (decide (0x400000 ≤ a) && decide (a < 0xC00000) && decide ((a - 0x400000) / 0x100000 < nBasin d.fuse.variant))
    || (decide (0xC00000 ≤ a) && decide (a < 0x6000000))

/-- HBM that a host reaches: not while the device is in Ice, nor while a stack sleeps (17 R390). -/
def hbmAsleep (d : Dev) : Bool := d.therm.istate == 2

/-- Bytes read one by one, and whether one met an uncorrectable error. A unit that does not serve leaves the data open. [log entries 5 DESIGN CHOICE, 31 DEDUCED] -/
def readOut (serves pois : Nat → Dev → Bool) (rd : Nat → Dev → Option Byte) : Nat → Nat → Dev → List Byte × Bool × Dev
  | _, 0, d => ([], false, d)
  | a, n + 1, d =>
    let (b, d) := match rd a d with
      | some b => (b, d)
      | none => let (v, d) := draw d; (BitVec.ofNat 8 v, d)
    let bad := serves a d && pois a d
    let (bs, p, d) := readOut serves pois rd (a + 1) n d
    (b :: bs, bad || p, d)

/-- A host read of `n` bytes of BAR2. [log entry 31 DEDUCED] -/
def bar2Read (a n : Nat) (d : Dev) : Dev :=
  let m := min n (mereSize - a)
  let (bs, p, d) := readOut (fun _ d => memServes 24 d) (fun a d => tabGet (fun _ => false) d.mere.pois (a / 64)) mereByte a m d
  emit (.mem bs p) d

/-- A host write of BAR2: discarded and counted where it reaches a protected area. [log entry 31 DEDUCED] -/
def bar2Write (a : Nat) (bs : List Byte) (d : Dev) : Dev :=
  let bs := bs.take (mereSize - a)
  if (List.range bs.length).any fun i => mereShut (a + i) d then badacc d else mereWrite a bs d

/-- A host read of `n` bytes of BAR4: zeros and a count beyond the installed HBM (R89) and in Ice (17 R390). [log entry 31 DEDUCED] -/
def bar4Read (a n : Nat) (d : Dev) : Dev :=
  let size := hbmBytes d.fuse.variant
  if hbmAsleep d then emit (.mem (List.replicate n 0) false) (badacc d)
  else
    let m := min n (size - a)
    let inOvf := fun (x : Nat) (d : Dev) => decide (ovfBase d ≤ x) && decide (x < ledgBase d)
    let rd := fun (x : Nat) (d : Dev) => if inOvf x d then none else hbmByte x d
    let serves := fun (x : Nat) (d : Dev) => memServes (26 + hbmStackOf x d) d
    let (bs, p, d) := readOut serves hbmPois rd a m d
    emit (.mem (bs ++ List.replicate (n - m) 0) p) (if m < n then badacc d else d)

/-- A host write of BAR4: the Ledger and overflow regions and the space beyond the installed HBM take none (R89, R91). [log entry 31 DEDUCED] -/
def bar4Write (a : Nat) (bs : List Byte) (d : Dev) : Dev :=
  if hbmAsleep d then badacc d
  else if ovfBase d < a + bs.length then badacc d
  else hbmWrite a bs d

/-- An error a read of `n` bytes at `a` meets (14 R298, R309): 1 corrected, 2 uncorrectable, 3 a second command or address parity failure of an HBM
stack, uncorrectable on every word of the access; else none. [log entry 31 DEDUCED] -/
def readErr (bar a n err : Nat) (d : Dev) : Dev :=
  if bar = 2 then (if a < mereSize ∧ memServes 24 d = true then mereErr err a d else d)
  else if a < hbmBytes d.fuse.variant ∧ memServes (26 + hbmStackOf a d) d = true ∧ hbmAsleep d = false then
    (if err = 3 then foldSt (List.range ((a + max 1 n - 1) / 64 + 1 - a / 64)) (fun i d => hbmErr 2 (64 * (a / 64 + i)) d) d else hbmErr err a d)
  else d

/-- A host access to the window onto Mere (2) or HBM (4), within the BAR. A poisoned write, of BAR0 too, is discarded whole and reported (R91, R107).
 [log entries 9 DESIGN CHOICE, 31 DEDUCED] -/
def hostMemory (bar a n : Nat) (data : Option (List Byte)) (pois : Bool) (err : Nat) (d : Dev) : Dev :=
  let size := if bar = 0 then 0x4000000 else if bar = 2 then mereSize else 2 ^ d.host.bar4
  if !(bar == 2 || bar == 4 || (bar == 0 && pois && data.isSome)) || decide (size < a + (match data with | some b => b.length | none => n)) || d.host.perst || d.host.fnReset then d
  else match data with
    | none => let d := readErr bar a n err d; if bar = 2 then bar2Read a n d else bar4Read a n d
    | some b => if pois then aerPoisoned d else if bar = 2 then bar2Write a b d else bar4Write a b d

end Sys2Proof.Machine
end

