-- ==== Sys2Proof/Machine/ThermCmds.lean ====
section
/-!
DEFINITION. Machine/ThermCmds.lean: the thermo and ice nouns (17 R395) and the Thermocline window (R394).
-/
namespace Sys2Proof.Machine

/-! ### Registers -/

def ecostDef (e : Nat) : Nat := [2, 4, 8, 12, 16, 20, 26, 32].getD e 0

def plimitOk (v : Nat) (d : Dev) : Bool := within v 40 (tdp d.fuse.variant)

def plimitWrite (v : Nat) (d : Dev) : Dev := if plimitOk v d then thermMod (fun t => { t with plimit := v }) d else badacc d

/-- THERM_ICE: AUTO, then ENTER, then LEAVE. -/
def iceRegWrite (v : Nat) (d : Dev) : Dev :=
  let d := thermMod (fun t => { t with auto := bitOf v 2 }) d
  let d := if bitOf v 0 then iceEnter d else d
  if bitOf v 1 then wakeLatch 2 d else d

/-- THERM_TMAX VALIDMAP. -/
def validMap (d : Dev) : Nat := (List.range 8).foldl (fun a n => if (sensor n d).valid then a + 2 ^ n else a) 0

def thermRegRead (off : Nat) (d : Dev) : RegR :=
  let t := d.therm
  let k := 16 * 98
  if 0x60 ≤ off ∧ off < 0x80 then let s := sensor ((off - 0x60) / 4) d; rval (at' (b2n s.valid) 31 + low 16 s.temp) d
  else if 0x80 ≤ off ∧ off < 0xA0 then rval (tabGet ecostDef t.ecost ((off - 0x80) / 4)) d
  else match off with
    | 0x00 => rnote 98 d | 0x04 => rnoteEn 98 d
    | 0x08 => rcnt k d | 0x0C => rcnt (k + 1) d | 0x10 => rcnt (k + 2) d | 0x14 => rcnt (k + 3) d | 0x18 => rcnt (k + 4) d
    | 0x1C => rcnt (k + 5) d | 0x20 => rcnt (k + 6) d
    | 0x24 => rval (at' (validMap d) 16 + low 16 t.tmax) d
    | 0x28 => rval t.plimit d
    | 0x2C => rval t.elast d
    | 0x30 => rval (min t.debt 4294967295) d
    | 0x34 => rval (at' t.shlevel 16 + at' d.clk.code 12 + at' t.rungmax 8 + at' t.floor 4 + t.rung) d
    | 0x38 => rval (at' t.eweight 8 + t.deferprio) d
    | 0x3C => rval t.urgent d
    | 0x40 => rval t.efirst d
    | 0x44 => rval (at' t.wakesrc 8 + at' t.istate 4 + at' (b2n t.auto) 2) d
    | 0x48 => rval t.iceidle d
    | 0x4C => rval t.icewait d
    | 0x50 => rval t.icewake d
    | 0x54 => rval t.exitlast d
    | _ => none

def thermRegWrite (off v : Nat) (d : Dev) : Option Dev :=
  if 0x80 ≤ off ∧ off < 0xA0 ∧ off % 4 = 0 then
    some (thermMod (fun t => { t with ecost := tabSet ecostDef t.ecost ((off - 0x80) / 4) (v % 65536) }) d)
  else match off with
    | 0x00 => wnote 98 127 v d | 0x04 => wnoteEn 98 127 v d
    | 0x28 => some (plimitWrite (v % 65536) d)
    | 0x34 => some (thermMod (fun t => { t with rungmax := bitsOf v 10 8 }) d)
    | 0x38 => some (thermMod (fun t => { t with eweight := bitsOf v 23 8, deferprio := bitsOf v 1 0 }) d)
    | 0x3C => wif (decide (v ≤ 9216000)) (thermMod fun t => { t with urgent := v }) d
    | 0x40 => wif (decide (1 ≤ v)) (thermMod fun t => { t with efirst := v }) d
    | 0x44 => some (settle (iceRegWrite v d))
    | 0x48 => wif (within (v % 65536) 1 60000) (thermMod fun t => { t with iceidle := v % 65536 }) d
    | 0x4C => wif (within (v % 65536) 1 20000) (thermMod fun t => { t with icewait := v % 65536 }) d
    | 0x50 => some (thermMod (fun t => { t with icewake := v }) d)
    | _ => (thermRegRead off d).map fun _ => d

/-! ### The thermo noun -/

/-- A temperature of 0.25 °C units in °C with two decimals. [log entry 26 DESIGN CHOICE] -/
def tempText (v : Int) : String := (if v < 0 then "-" else "") ++ decP 2 (25 * v.natAbs)

def stepText : ClkStep → String | .full => "full" | .step1 => "step-1" | .step2 => "step-2" | .step3 => "step-3" | .ice => "ice"

/-- The line of `show thermo` (R395). [log entry 26 DESIGN CHOICE] -/
def thermoLine (d : Dev) : String :=
  let t := d.therm
  "thermo rung " ++ dec t.rung ++ spn "floor" t.floor ++ sp "step" (stepText d.clk) ++ spn "shallows" t.shlevel ++ sp "plimit" (dec t.plimit ++ "W")
    ++ sp "elast" (dec t.elast ++ "uJ") ++ sp "debt" (dec t.debt ++ "uJ") ++ sp "tmax" (tempText t.tmax)

/-- A sensor's line of `show thermo` (R395). [log entry 26 DESIGN CHOICE] -/
def sensorLine (n : Nat) (d : Dev) : String := "sensor " ++ dec n ++ sp "temp" (tempText (sensor n d).temp) ++ spn "valid" (b2n (sensor n d).valid)

def showThermo (r : BRef) (d : Dev) : Dev := bcmd r (fun d => ok r (thermoLine d :: (List.range 8).map fun n => sensorLine n d) d) d

/-- The values `set thermo` names; times in gauge units. -/
structure ThermSet where
  plimit    : Option Nat
  rungmax   : Option Nat
  deferprio : Option Nat
  eweight   : Option Nat
  urgent    : Option Nat
  efirst    : Option Nat
  ecost     : Option (Nat × Nat)
  iceauto   : Option Nat
  iceidle   : Option Nat
  icewait   : Option Nat
  icewake   : Option Nat

/-- An optional time is a whole number of units of `u` gu and lies in lo .. hi of them. -/
def timeOk (x : Option Nat) (u lo hi : Nat) : Bool := match x with | none => true | some v => v % u == 0 && within (v / u) lo hi
def numOk (x : Option Nat) (lo hi : Nat) : Bool := match x with | none => true | some v => within v lo hi

def thermSetOk (x : ThermSet) (d : Dev) : Bool :=
  numOk x.plimit 40 (tdp d.fuse.variant) && numOk x.rungmax 0 7 && numOk x.deferprio 0 3 && timeOk x.eweight 9216 0 65535 && numOk x.urgent 0 9216000
    && numOk x.efirst 1 4294967295 && (match x.ecost with | none => true | some (e, n) => decide (e < 8) && decide (n < 65536)) && numOk x.iceauto 0 1
    && timeOk x.iceidle 9216000 1 60000 && timeOk x.icewait 9216000 1 20000 && timeOk x.icewake 9216000 0 4294967295

def setThermo (r : BRef) (x : ThermSet) (d : Dev) : Dev :=
  bcmd r (fun d =>
    if !thermSetOk x d then err r "range" [] d
    else
      let u := fun (v : Option Nat) (k o : Nat) => match v with | some v => v / k | none => o
      let d := thermMod (fun t =>
        { t with plimit := x.plimit.getD t.plimit, rungmax := x.rungmax.getD t.rungmax, deferprio := x.deferprio.getD t.deferprio,
                 eweight := u x.eweight 9216 t.eweight, urgent := x.urgent.getD t.urgent, efirst := x.efirst.getD t.efirst,
                 ecost := (match x.ecost with | some (e, n) => tabSet ecostDef t.ecost e n | none => t.ecost),
                 auto := (match x.iceauto with | some v => v == 1 | none => t.auto), iceidle := u x.iceidle 9216000 t.iceidle,
                 icewait := u x.icewait 9216000 t.icewait, icewake := u x.icewake 9216000 t.icewake }) d
      ok r [thermoLine d] d) d

/-! ### The ice noun -/

def showIce (r : BRef) (d : Dev) : Dev := bcmd r (fun d => ok r [iceLine d] d) d

/-- `enter ice [wait]`: in Ice nothing changes; on the way in or out it is busy. -/
def enterIce (r : BRef) (wait : Bool) (d : Dev) : Dev :=
  settle (bcmd r (fun d =>
    if d.therm.istate = 2 then ok r [iceLine d] d
    else if d.therm.istate ≠ 0 ∨ d.therm.enterReq then err r "busy" [iceLine d] d
    else if wait then iceEnter (bwait r (.other 3) (thermMod (fun t => { t with waitIn := t.waitIn ++ [(r.sid, r.tag)] }) d))
    else let d := iceEnter d; ok r [iceLine d] d) d)

/-- `leave ice [wait]`: while running nothing changes. -/
def leaveIce (r : BRef) (wait : Bool) (d : Dev) : Dev :=
  settle (bcmd r (fun d =>
    if d.therm.istate = 0 then ok r [iceLine d] d
    else if wait then wakeLatch 1 (bwait r (.other 4) (thermMod (fun t => { t with waitOut := t.waitOut ++ [(r.sid, r.tag)] }) d))
    else let d := wakeLatch 1 d; ok r [iceLine d] d) d)

end Sys2Proof.Machine
end

