-- ==== Sys2Proof/Machine/WeirCmds.lean ====
section
/-!
DEFINITION. Machine/WeirCmds.lean: the route and weir nouns (07 R159) and the Weir window (R158).
-/
namespace Sys2Proof.Machine

/-! ### Commits (R145, R147, R159) -/

def commitLine (r : Nat) (d : Dev) : String := "route " ++ dec r ++ " epoch " ++ dec (routeNew r d).epoch ++ " live " ++ dec (routeLiveN r d)

/-- The outcome of a commit as a response. -/
def commitAnswer (b : BRef) (r : Nat) (c : Commit) (d : Dev) : Dev :=
  match c with
  | .committed => ok b [commitLine r d] d
  | .busy => err b "busy" [commitLine r d] d
  | .stale => err b "stale" [commitLine r d] d
  | .range => err b "range" [commitLine r d] d

/-- The response of a commit that was held. -/
def commitLate (w : CommitWait) (c : Commit) (d : Dev) : Dev :=
  answer ⟨w.sid, w.tag⟩ (if w.hold then .commit w.route else .output) (match c with | .committed => none | .busy => some "busy" | .stale => some "stale" | .range => some "range")
    [commitLine w.route d] d

/-- A commit that is taken later: with `wait` its line waits, else it keeps its place among the responses (04 R74). -/
def commitHold (w : CommitWait) (d : Dev) : Dev :=
  let d := { d with weir := { d.weir with waits := d.weir.waits ++ [w] } }
  if w.hold then bwait ⟨w.sid, w.tag⟩ (.commit w.route) d else owe ⟨w.sid, w.tag⟩ d

/-- A held commit tries again: with `wait` it stays held while two epochs are live; one commit a tick. [log entry 36 DEDUCED] -/
def commitTry (w : CommitWait) (d : Dev) : Dev :=
  if d.weir.committed ∨ (w.hold ∧ 2 ≤ routeLiveN w.route d) then { d with weir := { d.weir with waits := d.weir.waits ++ [w] } }
  else let (c, d) := routeCommit w.route w.epoch d; commitLate w c d

/-- Held commits, in order. [log entry 36 DEDUCED] -/
def commitsRun (d : Dev) : Dev := let ws := d.weir.waits; foldSt ws commitTry { d with weir := { d.weir with waits := [] } }

/-- `commit route R epoch E [wait]`: range and stale come before busy. -/
def commitRoute (b : BRef) (r : Nat) (e : Option Nat) (wait : Bool) (d : Dev) : Dev :=
  bcmd b (fun d =>
    if 256 ≤ r then err b "range" [] d
    else if (sess b.sid d).machine && e.isNone then err b "syntax" [] d
    else
      let ep := e.getD (routeNew r d).epoch
      let w : CommitWait := { hold := wait, sid := b.sid, tag := b.tag, route := r, epoch := ep }
      if 65536 ≤ ep then err b "range" [] d
      else if asleep 3 d then err b "denied" [] d
      else if d.weir.committed then commitHold w d
      else if wait && routeOk (routeStage r d) && (routeNew r d).epoch == ep && decide (2 ≤ routeLiveN r d) then commitHold w d
      else let (c, d) := routeCommit r ep d; commitAnswer b r c d) d

/-! ### Listings (R159) -/

def routeListLine (r : Nat) (d : Dev) : String :=
  let m := (routeNew r d).img
  "route " ++ dec r ++ " epoch " ++ dec (routeNew r d).epoch ++ " stages " ++ dec (rNStage m) ++ " mode " ++ (if rEarly m then "early" else "stillwater")
    ++ " deadline " ++ dec (rDeadline m) ++ "gu live " ++ dec (routeLiveN r d)

/-- `list route`. -/
def listRoute (b : BRef) (d : Dev) : Dev :=
  bcmd b (fun d => ok b (((List.range 256).filter fun r => rValid (routeNew r d).img).map fun r => routeListLine r d) d) d

def kindName : Nat → String
  | 1 => "reed" | 2 => "shoal" | 3 => "tarn" | 4 => "basin" | 5 => "well" | 6 => "combine" | _ => "none"

def ruleName : Nat → String | 0 => "worst" | 1 => "kofn" | 2 => "all" | _ => "first"
def emptyName : Nat → String | 0 => "pass" | 1 => "block" | _ => "hold"
def dirsName (m : List Byte) : String := if rReq m && rAns m then "both" else if rAns m then "ans" else "req"

/-- The first line of `show route` (R159). [log entry 26 DESIGN CHOICE] -/
def routeHeadLine (r : Nat) (e : String) (m : List Byte) : String :=
  "route " ++ dec r ++ " epoch " ++ e ++ " valid " ++ dec (b2n (rValid m)) ++ " mode " ++ (if rEarly m then "early" else "stillwater")
    ++ " dlv " ++ (if rDlv m then "block" else "pass") ++ " amend " ++ dec (b2n (rAmend m)) ++ " window " ++ dec (rWindow m) ++ "gu absent "
    ++ (if rHold m then "hold" else "skip") ++ " prio " ++ dec (rPrio m) ++ " empty " ++ emptyName (rEmptyV m) ++ " dirs " ++ dirsName m ++ " mask "
    ++ (if rMaskWrite m then hex0 2 (rMaskByte m).toNat else "off") ++ " stages " ++ dec (rNStage m) ++ " deadline " ++ dec (rDeadline m) ++ "gu"

/-- Score slots a Combine's SLOTMAP uses (Table 7-2): USED in bit 5 of an entry, its source stage in bits 4 to 2, its score in 1 to 0. -/
def slotWords (s : List Byte) : List String :=
  (List.range 4).filterMap fun j =>
    let x := stSlot s j
    if bitOf x 5 then some ("slot" ++ dec j ++ " " ++ dec (bitsOf x 4 2) ++ "." ++ dec (bitsOf x 1 0)) else none

/-- A stage's line of `show route` (R159). [log entry 26 DESIGN CHOICE] -/
def routeStageLine (i : Nat) (s : List Byte) : String :=
  let k := stKind s
  "stage " ++ dec i ++ " kind " ++ kindName k
    ++ (if 1 ≤ k ∧ k ≤ 5 then " table " ++ hex0 4 (stTable s) else "")
    ++ (if k = 4 then " cores " ++ hex0 2 (stCores s) else "")
    ++ (if k = 6 then " rule " ++ ruleName (stCores s) ++ " inputs " ++ hex0 2 (stInputs s) ++ " k " ++ dec (stK s) ++ " stop " ++ dec (b2n (stStop s))
          ++ (slotWords s).foldl (fun a w => a ++ " " ++ w) "" else "")

/-- `show route R [staged]`. -/
def showRoute (b : BRef) (r : Nat) (staged : Bool) (d : Dev) : Dev :=
  bcmd b (fun d =>
    if 256 ≤ r then err b "range" [] d
    else
      let m := if staged then routeStage r d else (routeNew r d).img
      let e := if staged then "staged" else dec (routeNew r d).epoch
      ok b (routeHeadLine r e m :: (List.range (min 8 (rNStage m))).map fun i => routeStageLine i (rStage m i)) d) d

/-! ### Writing the staging copy (R159) -/

/-- Replace bits of byte i of an image. -/
def imgBits (i hi lo v : Nat) (m : List Byte) : List Byte :=
  let o := (m.getD i 0).toNat
  m.set i (BitVec.ofNat 8 (o - bitsOf o hi lo * 2 ^ lo + v * 2 ^ lo))

/-- Replace n bytes of an image from i. -/
def imgBytes (i n v : Nat) (m : List Byte) : List Byte := m.take i ++ toLe n v ++ m.drop (i + n)

/-- Apply a setting to a route image where the line gives it. [log entry 36 DEDUCED] -/
def imgOpt (v : Option Nat) (f : Nat → List Byte → List Byte) (m : List Byte) : List Byte := match v with | none => m | some x => f x m

def optLt (v : Option Nat) (n : Nat) : Bool := match v with | none => true | some x => decide (x < n)

/-- Whether the value given, if any, lies between two bounds. -/
def optIn (v : Option Nat) (lo hi : Nat) : Bool := match v with | none => true | some x => decide (lo ≤ x) && decide (x ≤ hi)

/-- `set route R …`: only the header fields named change. A value outside the range Table 7-1 gives its field fails with range (R63, R159). `mask` 256 stands for off; `dirs` 1 req, 2 ans, 3 both. -/
def setRoute (b : BRef) (r : Nat) (valid deadline early dlv amend window hold prio emptyv dirs maskb stages : Option Nat) (d : Dev) : Dev :=
  bcmd b (fun d =>
    if 256 ≤ r ∨ ¬ (optLt valid 2 && optIn deadline deadlineMin deadlineMax && optLt early 2 && optLt dlv 2 && optLt amend 2 && optIn window 0 deadlineMax && optLt hold 2 && optLt prio 4
        && optLt emptyv 3 && optLt dirs 4 && optLt maskb 257 && optIn stages 1 8) then err b "range" [] d
    else
      let m := routeStage r d
      let m := imgOpt valid (imgBits 1 0 0) m
      let m := imgOpt early (imgBits 1 1 1) m
      let m := imgOpt dlv (imgBits 1 2 2) m
      let m := imgOpt amend (imgBits 1 3 3) m
      let m := imgOpt hold (imgBits 1 4 4) m
      let m := imgOpt prio (imgBits 1 7 6) m
      let m := imgOpt maskb (fun x m => if x = 256 then imgBits 1 5 5 0 m else imgBits 3 7 0 x (imgBits 1 5 5 1 m)) m
      let m := imgOpt stages (imgBits 2 3 0) m
      let m := imgOpt emptyv (imgBits 2 5 4) m
      let m := imgOpt dirs (fun x m => imgBits 2 7 6 x m) m
      let m := imgOpt deadline (imgBytes 8 8) m
      let m := imgOpt window (imgBytes 16 8) m
      ok b [] (routeStageSet r m d)) d

/-- The keywords a kind has (Table 7-2), and the field widths. -/
def stageKeysOk (kind : Nat) (table cores rule inputs k stop : Option Nat) (slots : List (Nat × Nat × Nat)) : Bool :=
  decide (kind ≤ 6) && (kind == 6 || (rule.isNone && inputs.isNone && k.isNone && stop.isNone && slots.isEmpty)) && (kind == 4 || cores.isNone)
    && (decide (1 ≤ kind) && decide (kind ≤ 5) || table.isNone) && optLt table 65536 && optLt cores 256 && optLt rule 4 && optLt inputs 256 && optLt k 16
    && optLt stop 2 && slots.all fun (j, i, s) => decide (j < 4) && decide (i < 8) && decide (s < 4)

/-- The eight bytes of a stage as `set route R stage I` writes them. -/
def stageBytes (kind : Nat) (table cores rule inputs k stop : Option Nat) (slots : List (Nat × Nat × Nat)) : List Byte :=
  let sm := slots.foldl (fun (a : Nat) (x : Nat × Nat × Nat) =>
    let (j, i, s) := x
    a - bitsOf a (6 * j + 5) (6 * j) * 2 ^ (6 * j) + (32 + 4 * i + s) * 2 ^ (6 * j)) 0
  if kind = 6 then toLe 1 6 ++ toLe 1 (rule.getD 0) ++ toLe 2 (inputs.getD 0 + 256 * k.getD 0 + 4096 * stop.getD 0) ++ toLe 4 sm
  else toLe 1 kind ++ toLe 1 (cores.getD 0) ++ toLe 2 (table.getD 0) ++ toLe 4 0

/-- `set route R stage I kind K …`: the whole descriptor is written. -/
def setRouteStage (b : BRef) (r i kind : Nat) (table cores rule inputs k stop : Option Nat) (slots : List (Nat × Nat × Nat)) (d : Dev) : Dev :=
  bcmd b (fun d =>
    if 256 ≤ r ∨ 8 ≤ i ∨ ¬ stageKeysOk kind table cores rule inputs k stop slots then err b "range" [] d
    else
      let m := routeStage r d
      let s := stageBytes kind table cores rule inputs k stop slots
      ok b [] (routeStageSet r (m.take (64 + 8 * i) ++ s ++ m.drop (72 + 8 * i)) d)) d

/-- `bind route R/none stream S dir req/ans`. [log entry 36 DEDUCED] -/
def bindRoute (b : BRef) (r : Option Nat) (s : Nat) (ans : Bool) (d : Dev) : Dev :=
  bcmd b (fun d =>
    if 4096 ≤ s ∨ 256 ≤ r.getD 0 then err b "range" [] d
    else
      let o := (bindReg s d).toNat
      let half := match r with | some r => 256 + r | none => 0
      let v := if ans then o % 65536 + 65536 * half else o / 65536 * 65536 + half
      let d := bindWrite s (BitVec.ofNat 32 v) d
      let n := (bindReg s d).toNat
      let nm := fun (w : Nat) => if bitOf w 8 then dec (w % 256) else "none"
      ok b ["stream " ++ dec s ++ " req " ++ nm (n % 65536) ++ " ans " ++ nm (n / 65536)] d) d

/-- WEIR_HELD: admitted items not yet released. -/
def weirHeld (d : Dev) : Nat := d.weir.items.countP fun p => !p.2.released

/-- `show weir`. -/
def showWeir (b : BRef) (d : Dev) : Dev :=
  bcmd b (fun d => ok b ["weir held " ++ dec (weirHeld d) ++ " late " ++ dec (ctrVal 65535 48 d) ++ " amend " ++ dec (ctrVal 65535 49 d) ++ " absent "
    ++ dec (ctrVal 65535 50 d) ++ " early-off " ++ dec (b2n d.weir.earlyOff)] d) d

/-- `set weir early-off 0/1`. -/
def setWeir (b : BRef) (x : Nat) (d : Dev) : Dev :=
  bcmd b (fun d => if 2 ≤ x then err b "range" [] d else ok b [] { d with weir := { d.weir with earlyOff := x == 1 } }) d

/-- The commit a commit-wait row names retires into a commit, if its older epoch has retired. -/
def commitWaitRetire (r : Nat) (d : Dev) : Dev :=
  let ws := d.weir.waits.filter fun w => w.route == r
  match ws with
  | [] => d
  | w :: _ => if d.weir.committed ∨ 2 ≤ routeLiveN r d then d
              else commitTry w { d with weir := { d.weir with waits := d.weir.waits.erase w } }

/-- Either form of a replay (18 R404). -/
def replayOrRefetch (l i : Nat) (payload : Option (List Byte)) (d : Dev) : Dev :=
  match payload with
  | none => replayDispatch l i d
  | some b => refetched l b d

/-! ### The Weir window (R158) -/

def weirRegRead (off : Nat) (d : Dev) : RegR :=
  if off < 0x10000 then
    match off with
    | 0x00 => rnote 3 d | 0x04 => rnoteEn 3 d
    | 0x08 => rcnt 48 d | 0x0C => rcnt 49 d | 0x10 => rcnt 50 d | 0x14 => rcnt 51 d
    | 0x18 => rval (b2n d.weir.earlyOff) d
    | 0x1C => rval 0 d
    | 0x20 => rval d.weir.cresp.toNat d
    | 0x24 => rval (weirHeld d) d
    | _ => none
  else if off < 0x18000 then rval (fieldLe (routeStage ((off - 0x10000) / 128) d) (off % 128) 4) d
  else if 0x20000 ≤ off ∧ off < 0x28000 then rval (fieldLe (routeNew ((off - 0x20000) / 128) d).img (off % 128) 4) d
  else if 0x30000 ≤ off ∧ off < 0x30400 then
    let r := (off - 0x30000) / 4
    rval (at' (routeNew r d).epoch 16 + at' (routeLiveN r d) 14 + at' (b2n (rValid (routeNew r d).img)) 13) d
  else if 0x40000 ≤ off ∧ off < 0x44000 then rval (bindReg ((off - 0x40000) / 4) d).toNat d
  else none

def weirRegWrite (off v : Nat) (d : Dev) : Option Dev :=
  if off < 0x10000 then
    match off with
    | 0x00 => wnote 3 15 v d | 0x04 => wnoteEn 3 15 v d
    | 0x08 => wro d | 0x0C => wro d | 0x10 => wro d | 0x14 => wro d | 0x20 => wro d | 0x24 => wro d
    | 0x18 => some { d with weir := { d.weir with earlyOff := bitOf v 0 } }
    | 0x1C => wif (!asleep 3 d) (weirCommit (BitVec.ofNat 32 v)) d
    | _ => none
  else if off < 0x18000 then
    let r := (off - 0x10000) / 128
    some (routeStageSet r ((imgBytes (off % 128) 4 v (routeStage r d)).set 0 (BitVec.ofNat 8 r)) d)
  else if 0x20000 ≤ off ∧ off < 0x28000 then wbad d
  else if 0x30000 ≤ off ∧ off < 0x30400 then wro d
  else if 0x40000 ≤ off ∧ off < 0x44000 then some (bindWrite ((off - 0x40000) / 4) (BitVec.ofNat 32 v) d)
  else none

end Sys2Proof.Machine
end

