-- ==== Sys2Proof/Machine/BootOps.lean ====
section
/-!
DEFINITION. Machine/BootOps.lean: power-on, warm reset and the boot sequence (19 R423, R426 to R436, 03 R41), trips and power-down (19 R421, R422, 20
R458, R461, R464).
-/
namespace Sys2Proof.Machine

def bootMod (f : Boot → Boot) (d : Dev) : Dev := { d with boot := f d.boot }

/-! ### The marker area (R422, R423) -/

/-- The flash address of marker page `i` (R423). [log entry 56 DESIGN CHOICE] -/
def markerAt (i : Nat) : Nat := markerBase + 256 * i
def markerFree (i : Nat) (d : Dev) : Bool := flashErased (markerAt i) 256 d
/-- Marker pages that are not erased. [log entry 56 DESIGN CHOICE] -/
def markersUsed (d : Dev) : List Nat := (List.range 256).filter fun i => !markerFree i d

def markerBytes (cause sensors kind slot gauge : Nat) : List Byte :=
  let b := [0x54, 0x52, 0x49, 0x50] ++ toLe 1 cause ++ toLe 1 sensors ++ toLe 1 kind ++ toLe 1 slot ++ toLe 8 gauge ++ List.replicate 236 0
  b ++ toLe 4 (crc32 b)

/-- A page of the marker area that holds a marker. -/
def markerOk (b : List Byte) : Bool := fieldLe b 0 4 == 0x50495254 && crc32 (b.take 252) == fieldLe b 252 4

/-- Program a trip marker into the lowest erased page. -/
def markerWrite (cause sensors : Nat) (j : Option NvJob) (d : Dev) : Dev :=
  match findIdx 256 (fun i => markerFree i d) with
  | none => d
  | some i =>
    let k := match j with | some x => if x.kind < 4 then x.kind else 0xFF | none => 0xFF
    let s := match j with | some x => if x.kind < 4 then x.slot else 0 | none => 0
    emit (.flash 1 (markerAt i)) (flashPut (markerAt i) (markerBytes cause sensors k s (now d)) d)

/-! ### A write cut short -/

/-- One byte after an abandoned erase: a value the spec leaves open. [log entry 5 DESIGN CHOICE] -/
def flashLose (a : Nat) (d : Dev) : Dev := let (v, d) := draw d; flashPut a [BitVec.ofNat 8 v] d

/-- An erase abandoned by software reset leaves the bytes it was erasing open. -/
def eraseCut (a n : Nat) (d : Dev) : Dev :=
  foldSt ((d.boot.flash.filter fun p => decide (a ≤ p.1) && decide (p.1 < a + n)).map (·.1)) flashLose d

/-- One byte of an abandoned page program: each bit that was to go to 0 may have gone. [log entry 5 DESIGN CHOICE] -/
def pageLose (a : Nat) (b : Byte) (d : Dev) : Dev :=
  let (v, d) := draw d
  let old := flashByte a d
  flashPut a [old &&& (b ||| BitVec.ofNat 8 v)] d

def pageCut : Nat → List Byte → Dev → Dev
  | _, [], d => d
  | a, b :: bs, d => pageCut (a + 1) bs (pageLose a b d)

/-- The NV controller stops: an erase under way is abandoned; a page program completes, or is abandoned where `cut`; nothing after it starts. -/
def nvStop (cut : Bool) (d : Dev) : Dev :=
  let d := match d.boot.jobs.head? with
    | none => d
    | some j =>
      match j.ops.head? with
      | none => d
      | some (.page a b) => if cut then pageCut a b d else emit (.flash 1 a) (flashPut a b d)
      | some (.erase a n) => eraseCut a n d
  bootMod (fun b => { b with jobs := [] }) d

/-! ### Trips and power-down -/

/-- CCLK is gated; the NV controller has stopped and has written a marker. -/
def tripNow (t : Trip) (cut : Bool) (sensors : Nat) (d : Dev) : Dev :=
  let j := d.boot.jobs.head?
  let d := markerWrite (if t = .hardware then 2 else 1) sensors j (nvStop cut d)
  bootMod (fun b => { b with trip := t, tripped := true }) d

/-- The firmware trip (R421): a sensor has had two samples of 110 °C or more. -/
def firmwareTrip (d : Dev) : Dev := if running d && hotMap d != 0 then tripNow .firmware false (hotMap d) d else d

/-- The hardware trip (R422): the comparators of `sensors` are at 120 °C. [log entry 54 DEDUCED] -/
def hardwareTrip (sensors : Nat) (d : Dev) : Dev :=
  if sensors % 256 = 0 ∨ d.boot.thermtrip = false then d
  else
    let d := emit (.pin "THERMTRIP_n" false) (bootMod (fun b => { b with thermtrip := false }) d)
    if d.boot.trip = .powerDown then d else tripNow .hardware true (sensors % 256) d

/-- REF24 is lost (20 R461). [log entry 54 DEDUCED] -/
def ref24Loss (d : Dev) : Dev := if running d then tripNow .refLoss false 0 d else d

/-- PWR_GOOD stays low for 25 reference periods (20 R458). -/
def powerDown (d : Dev) : Dev :=
  if !ballsSeen d ∨ d.boot.trip = .powerDown then d
  else
    let d := nvStop false d
    let d := bootMod (fun b => { b with trip := .powerDown, tripped := false, outZ := true }) d
    { d with host := { d.host with linkUp := false } }

/-- What outlasts the supplies: the flash, the fuses and the rows an HBM stack has repaired; and what has left the block. -/
def coldBase (d : Dev) : Dev :=
  let f := devReset d.fuse
  { f with boot := { f.boot with flash := d.boot.flash, thermtrip := d.boot.thermtrip },
           hbm := { f.hbm with repaired := d.hbm.repaired },
           host := { f.host with perst := d.host.perst, linkUp := !d.host.perst },
           out := d.out, freeCtr := d.freeCtr }

/-- The board removes the supplies (17 R387): THERMTRIP_n is released. [log entry 54 DEDUCED] -/
def powerRemoval (d : Dev) : Dev :=
  let d := if d.boot.trip = .powerDown then d else nvStop true d
  let f := coldBase d
  { f with boot := { f.boot with thermtrip := true, trip := .powerDown, outZ := true }, host := { f.host with linkUp := false } }

/-- VR_ALERT_n falls: STATUS_WORD is read and logged (20 R464). -/
def vrAlert (w : Nat) (d : Dev) : Dev := if ballsSeen d then logAdd 98 .fault ("vr_alert status_word " ++ hex0 4 w) d else d

/-! ### The moves of R41 -/

/-- A unit's entry as warm reset moves it: the generation advances, but for the Thermocline. -/
def warmEntry (n : Nat) (d : Dev) : UEntry :=
  if n = 98 then { state := .ready, gen := (uent n d).gen, cause := (uent n d).cause }
  else
    let s : UState := if n = 97 ∨ (26 ≤ n ∧ n < 30) then .ice else (unitReset n).state
    { state := s, gen := (uent n d).gen + 1, cause := .boot, wakeEnd := if s = .waking then now d + wakeDef n else 0 }

/-- The block in the first tick of a warm reset: everything at its reset value but what R41, R436 and Table 18-4 keep. [log entries 46 DEDUCED, 55 DEDUCED] -/
def warmBase (d : Dev) : Dev :=
  let f := devReset d.fuse
  { f with gauge := d.gauge,
           udir := { ent := (d.udir.ent.map (·.1)).map fun n => (n, warmEntry n d) },
           hbm := { f.hbm with mem := d.hbm.mem, pois := d.hbm.pois, ledger := d.hbm.ledger, sessions := d.hbm.sessions, repaired := d.hbm.repaired },
           ledger := { recs := d.ledger.recs, mirror := d.ledger.mirror, mirrorSeq := d.ledger.mirrorSeq, mseq := d.ledger.mseq, serve := d.ledger.serve },
           boot := { f.boot with flash := d.boot.flash, dir := d.boot.dir.filter (·.hbm), thermtrip := d.boot.thermtrip },
           host := { f.host with perst := d.host.perst, linkUp := !d.host.perst },
           tap := d.tap, out := d.out, freeCtr := d.freeCtr }

/-! ### Records and markers at boot (R420, R423) -/

/-- A TRIP entry: cause, sensors, record kind and slot, and the Gauge of the trip as its data. -/
def tripEntry (i : Nat) (d : Dev) : Dev :=
  let b := flashRun (markerAt i) 256 d
  if markerOk b then raise 99 4 (evAdd 1 (slice b 4 4) (slice b 8 8) d)
  else raise 99 3 (evAdd 2 [0xFF, BitVec.ofNat 8 i] [] d)

/-- A TEAR entry: record kind and slot. -/
def tearEntry (k s : Nat) (d : Dev) : Dev := if recTorn k s d then raise 99 3 (evAdd 2 [BitVec.ofNat 8 k, BitVec.ofNat 8 s] [] d) else d

/-- The record of each kind comes into use; what the record areas and the marker area tell is collected. -/
def recordsRead (d : Dev) : Dev :=
  let d := foldSt (markersUsed d) tripEntry d
  let d := foldSt (List.range 4) (fun k d => tearEntry k 1 (tearEntry k 0 d)) d
  let body := fun (k : Nat) => match recUsed k d with | some (_, _, b) => b | none => []
  let seqs : Tab Nat := foldSt (List.range 4) (fun k t => match recUsed k d with | some (_, q, _) => tabSet (fun _ => 0) t k q | none => t) []
  bootMod (fun b => { b with seqs := seqs, bst := bstOf (body 0), dir := dirOf (body 1) ++ b.dir, events := eventsOf (body 2), config := body 3 }) d

/-! ### Compatibility (R426) -/

def stepCode (d : Dev) : Nat := d.fuse.letter * 16 + d.fuse.digit

def compatHas (img : List Byte) (subj res : Nat) (is : Nat → Bool) : Bool := (imgCompat img).any fun (s, r, v) => s == subj && r == res && is v

/-- 0 untested, 1 tested, 2 incompatible: from what each side lists of the other. -/
def pairOf (has : Nat → Bool) : Nat := if has 2 then 2 else if has 1 then 1 else 0

def majorMinor (a b : Nat) : Bool := a / 65536 == b / 65536

/-- An image and the stepping, or the boot ROM. -/
def pairStep (img : List Byte) (d : Dev) : Nat := pairOf fun r => compatHas img 1 r (· == stepCode d)
def pairRom (img : List Byte) (d : Dev) : Nat := pairOf fun r => compatHas img 2 r (· == d.fuse.romver)
/-- A kernel and a Shore image. -/
def pairKS (kern shore : List Byte) : Nat :=
  pairOf fun r => compatHas kern 3 r (majorMinor (imgVersion shore)) || compatHas shore 4 r (majorMinor (imgVersion kern))

/-! ### Choosing images (R427, R428) -/

/-- BADIMG is set, counted and logged. -/
def badImage (t s : Nat) (why : String) (d : Dev) : Dev :=
  logAdd 99 .fault ("bad image " ++ (if t = 1 then "shore" else "kernel") ++ (if s = 0 then " A " else " B ") ++ why)
    (raise 99 2 (evAdd 6 [BitVec.ofNat 8 t, BitVec.ofNat 8 s] [] d))

/-- The image in slot `s` of type `t`, and the first of R425's rules it fails. -/
def slotImage (t s : Nat) (d : Dev) : List Byte × Option String :=
  let (a, n) := fwSlot t s
  let (b, bad) := imageFlash a (a + n) d
  (b, firstFail (imageRules [t] b bad d))

/-- Try the slots in order (Table 19-4). [log entry 53 DEDUCED] -/
def chooseImage (t : Nat) (incompat : List Byte → Bool) : List Nat → Dev → Option (Nat × List Byte) × Dev
  | [], d => (none, d)
  | s :: ss, d =>
    match slotImage t s d with
    | (_, some why) => chooseImage t incompat ss (badImage t s why d)
    | (b, none) =>
      if incompat b then chooseImage t incompat ss (logAdd 99 .fault ((if t = 1 then "shore" else "kernel") ++ (if s = 0 then " A" else " B") ++ " incompatible") d)
      else (some (s, b), d)

/-- After power-on with TRIAL set the other slot comes first, from now on; ROLLEDBACK is set, TRIAL cleared, and ROLLBACK logged. [log entry 53 DEDUCED] -/
def rollBack (x : BSlot) : BSlot := { activeB := !x.activeB, trial := false, rolled := true }

/-- Both images are rolled back where TRIAL was set (R428). [log entry 53 DEDUCED] -/
def rollBacks (d : Dev) : Dev :=
  let b := d.boot.bst
  let one := fun (p : Bool) (k : Nat) (d : Dev) => if p then raise 99 1 (evAdd 3 [BitVec.ofNat 8 k] [] d) else d
  let b' := { b with shore := if b.shore.trial then rollBack b.shore else b.shore, kern := if b.kern.trial then rollBack b.kern else b.kern }
  one b.kern.trial 2 (one b.shore.trial 1 (bootMod (fun x => { x with bst := b' }) d))

def slotOrder (x : BSlot) : List Nat := if x.activeB then [1, 0] else [0, 1]

/-- A Shore image that is incompatible with the stepping or the boot ROM (R426). [log entry 53 DEDUCED] -/
def shoreIncompat (d : Dev) (b : List Byte) : Bool := pairStep b d == 2 || pairRom b d == 2
/-- A kernel image that is incompatible with the stepping or the Shore image (R426). [log entry 53 DEDUCED] -/
def kernIncompat (d : Dev) (shore b : List Byte) : Bool := pairStep b d == 2 || pairKS b shore == 2

/-- REASON: the pairs that are untested (Table 19-8). -/
def reasonOf (shore kern : List Byte) (d : Dev) : Nat :=
  b2n (pairStep shore d == 0) + 2 * b2n (pairRom shore d == 0)
    + (if kern.isEmpty then 0 else 4 * b2n (pairStep kern d == 0) + 8 * b2n (pairKS kern shore == 0))

/-- The tuple an acceptance records (R427). -/
def tupleOf (shore kern : List Byte) (d : Dev) : Nat × Nat × Nat × Nat := (d.fuse.romver, stepCode d, imgVersion shore, imgVersion kern)

/-- What a boot does to one image's marks: `odd`, a pair of it is untested. -/
def bootMark (odd guarded recov : Bool) (x : BSlot) : BSlot :=
  if !odd then { x with rolled := false } else if guarded && !recov && !x.rolled then { x with trial := true } else x

/-! ### CONFIG at boot (R435, Table 19-5) -/

/-- Apply one entry; where a register discards its value it is skipped and logged at warn. -/
def cfgTry (tag : Nat) (f : Dev → Dev) (d : Dev) : Dev :=
  let d' := f d
  if ctrGet kBadacc d' = ctrGet kBadacc d then d' else logAdd 0 .warn ("config " ++ hex0 4 tag ++ " skipped") d

/-- An entry whose value is not taken counts as a discarded write, which cfgTry then undoes and logs. [log entry 55 DEDUCED] -/
def cfgSkip (ok : Bool) (f : Dev → Dev) (d : Dev) : Dev := if ok then f d else badacc d

def routeEntry (v : List Byte) (i : Nat) (d : Dev) : Dev := routeWrite (fieldLe v 0 2 + i) (fieldLe v (4 + 4 * i) 4) d

def linkEntry (v : List Byte) (d : Dev) : Dev :=
  let j := fieldLe v 0 1
  let s := fieldLe v 1 1
  cfgSkip (linkHere j d && decide (s < 2)) (fun d =>
    let d := jlinkMod j (fun l => { l with encCfg := bitOf (fieldLe v 2 1) 0, auto := bitOf (fieldLe v 2 1) 1 }) d
    foldSt (List.range 8) (fun i d => keyWordWrite j s i (BitVec.ofNat 32 (fieldLe v (4 + 4 * i) 4)) d) d) d

/-- The region sizes and the rate (R306, R308). [log entry 19 DEDUCED] -/
def hbmSizesOk (v : List Byte) (d : Dev) : Bool :=
  let l := fieldLe v 1 1
  let s := fieldLe v 2 2
  within l 1 16 && decide (1 ≤ s) && decide ((l + s + 8) * gib + 67108864 ≤ hbmBytes d.fuse.variant) && [64, 80, 92].contains (fieldLe v 0 1)

/-- CONFIG tag 0x0006: the region sizes and the rate. [log entries 19 DEDUCED, 46 DEDUCED] -/
def hbmEntry (v : List Byte) (d : Dev) : Dev :=
  cfgSkip (hbmSizesOk v d) (fun d =>
    let d := { d with hbm := { d.hbm with ledger := fieldLe v 1 1, sessions := fieldLe v 2 2 } }
    foldSt (List.range (nHbm d.fuse.variant)) (fun h d => stackSet h { stackGet h d with rate := fieldLe v 0 1 } d) d) d

/-- A repair of the row that holds an address, once (R309). [log entry 46 DEDUCED] -/
def repairEntry (v : List Byte) (d : Dev) : Dev :=
  let a := fieldLe v 0 8
  let h := hbmStackOf a d
  if d.hbm.repaired.contains a then d
  else cfgSkip (decide (a < hbmBytes d.fuse.variant) && decide (1 ≤ (stackGet h d).spares)) (fun d =>
    stackSet h { stackGet h d with spares := (stackGet h d).spares - 1 } { d with hbm := { d.hbm with repaired := d.hbm.repaired ++ [a] } }) d

/-- Tag 7: while Guarded forces mirroring, MIRROR stays 1 and a peer is not cleared, and the other fields are taken (18 R408). -/
def ledgEntry (v : List Byte) (d : Dev) : Dev :=
  let f := fieldLe v 0 1
  let g := d.ledger.forced
  let d := if g && !bitOf f 3 then d else ledgPeerWrite (at' (b2n (bitOf f 3)) 31 + fieldLe v 2 2) d
  ledgCfgWrite (at' (b2n (bitOf f 2)) 11 + at' (b2n (bitOf f 1)) 9 + at' (b2n (bitOf f 0 || g)) 8 + d.ledger.maxReplay) d

def ferryEntry (v : List Byte) (d : Dev) : Dev :=
  let w := fun (i : Nat) => fieldLe v (4 * i) 4
  ferryConf (fun f => { f with index := bitsOf (w 0) 31 16, next := bitsOf (w 0) 15 0, ring := bitsOf (w 1) 31 24, nslot := bitsOf (w 1) 23 12 + 1,
                               nstop := bitsOf (w 2) 15 0 + 1, revb := BitVec.ofNat 32 (w 3), hold := BitVec.ofNat 32 (w 4) }) d

def ownEntry (v : List Byte) (d : Dev) : Dev :=
  let w := fun (i : Nat) => fieldLe v (4 * i) 4
  cfgSkip (decide (w 0 < 256)) (ferryOwnWrite (w 0) { valid := bitOf (w 1) 31, slot := bitsOf (w 1) 11 0, addr := w 2 + 2 ^ 32 * w 3, len := w 4 }) d

/-- The entries of the units phase: node ID, routing, trunks, keys, Ledger, power limit, Ferry. -/
def unitsEntry (e : Nat × List Byte) (d : Dev) : Dev :=
  let v := e.2
  match e.1 with
  | 1 => bootMod (fun b => { b with ssvid := fieldLe v 0 2, ssid := fieldLe v 2 2 }) d
  | 2 => cfgTry 2 (nodeWrite (fieldLe v 0 2)) d
  | 3 => cfgTry 3 (fun d => cfgSkip (decide (fieldLe v 0 2 + fieldLe v 2 2 ≤ 65536)) (foldSt (List.range (fieldLe v 2 2)) (routeEntry v)) d) d
  | 4 => cfgTry 4 (fun d => foldSt (List.range 16) (fun t d => trunkWrite t true (fieldLe v (8 * t + 4) 4) (trunkWrite t false (fieldLe v (8 * t) 4) d)) d) d
  | 5 => cfgTry 5 (linkEntry v) d
  | 7 => cfgTry 7 (ledgEntry v) d
  | 12 => cfgTry 12 (fun d => thermMod (fun t => { t with rungmax := bitsOf (fieldLe v 2 1) 2 0 }) (plimitWrite (fieldLe v 0 2) d)) d
  | 13 => cfgTry 13 (ferryEntry v) d
  | 14 => cfgTry 14 (ownEntry v) d
  | _ => d

/-- SERVE as CONFIG gives it, else as it was written. [log entry 55 DEDUCED] -/
def serveCfg (d : Dev) : Bool :=
  match ((cfgList d.boot.config).filter fun e => e.1 == 7).getLast? with | some e => bitOf (fieldLe e.2 0 1) 1 | none => d.ledger.serve

/-- MIRROR as CONFIG gives it; without an entry its reset value (R430). [log entry 55 DEDUCED] -/
def mirrorCfg (d : Dev) : Bool :=
  match ((cfgList d.boot.config).filter fun e => e.1 == 7).getLast? with | some e => bitOf (fieldLe e.2 0 1) 0 | none => false

/-- One load of the loads phase: a load that fails leaves its slot empty and is logged at fault. What a unit that is not READY was to hold is reloaded after
its ON; a core's slot counts as stopped until then (12 R273). -/
def loadEntry (l : CfgLoad) (d : Dev) : Dev :=
  let u := match l.engine with | 1 => 4 | 2 => 5 | 3 => 6 | 4 => 16 | 5 => 30 | _ => 0
  let n := match l.engine with | 1 => 8 | 2 => 4 | 3 => 4 | 4 => 16 | _ => 1
  let (img, bad) := imageOf (.image l.image) d
  let us := loadUnits u l.cores
  let away := us.any (fun x => !uready x d)
  let fails := u == 0 || decide (n ≤ l.slot) || decide (64 ≤ l.image) || us.isEmpty || away || (loadCheck u l.slot l.cores img bad d).isSome
  let d' := if fails then none else jobInstall { unit := u, slot := l.slot, cores := l.cores, image := imgPayload img, upd := false } l.cores d
  match d' with
  | some d => d
  | none => logAdd u .fault ("load image " ++ dec l.image ++ " slot " ++ dec l.slot ++ " failed") (if away || u = 16 then d else reloadClear u l.slot l.cores d)

/-- A route image, committed at boot (tag 9); a bind (tag 0xA). -/
def commitEntry (e : Nat × List Byte) (d : Dev) : Dev :=
  match e.1 with
  | 9 =>
    let r := fieldLe e.2 0 1
    let (c, d') := routeCommit r (routeNew r d).epoch (routeStageSet r e.2 d)
    if c = .committed then { weirRetire d' with ctr := d.ctr } else logAdd 3 .warn "config 0x0009 skipped" d
  | 10 => cfgTry 10 (fun d => cfgSkip (decide (fieldLe e.2 0 2 < 4096)) (bindWrite (fieldLe e.2 0 2) (BitVec.ofNat 32 (fieldLe e.2 4 4))) d) d
  | _ => d

/-! ### Units at boot (R41, R436) -/

/-- The boot sequence asks for ON, under the checks of Table 3-4: where it is accepted, the unit acknowledges WAKING (R41, R44). -/
def bootAsk (n : Nat) (d : Dev) : Option Dev :=
  if dirCheck { path := .boot, unit := n, act := 1, gen := (ugen n d) } d = .accepted then some (moveTo n .waking .boot none d) else none

/-- The ON request of the boot sequence: WAKING, and READY. -/
def bootOn (n : Nat) (d : Dev) : Dev := match bootAsk n d with | some d => moveAnd n .ready .boot none d | none => d

/-- A stack is trained, or fails its training and is FAULTED (R306). [log entry 46 DEDUCED] -/
def bootStack (bad : Nat) (h : Nat) (d : Dev) : Dev :=
  if bitOf bad h then (match bootAsk (26 + h) d with | some d => toFaulted (26 + h) .fault false d | none => d) else bootOn (26 + h) d

/-- Records beyond the local ones are no longer records of this Ledger; each that survives is recovered (Table 18-4). [log entry 52 DEDUCED] -/
def ledgerBoot (d : Dev) : Dev :=
  let d := ledgMod (fun g => { g with serve := serveCfg d, serveNow := serveCfg d }) d
  let d := ledgMod (fun g => { g with recs := g.recs.filter fun p => decide (p.1 < ledgSize d) }) d
  bootOn 97 (foldSt (d.ledger.recs.map (·.1)) (fun l d => (recoverRec l (lrec l d) d).2) d)

/-- Units that phase 2 brings up after the Ledger: all but the Inlet, the cores and the links. [log entry 3 DESIGN CHOICE] -/
def bootUnits : List Nat := [2, 3, 4, 5, 6] ++ (List.range 8).map (8 + ·) ++ [25, 30, 96]

/-- From the Shore image's start to READY. `recov`: the image was staged in recovery (R432). [log entry 3 DESIGN CHOICE] -/
def bootShore (img : List Byte) (slot : Nat) (recov : Bool) (hbmBad : Nat) (d : Dev) : Dev :=
  let b := d.boot.bst
  let (k, d) := chooseImage 2 (kernIncompat d img) (slotOrder b.kern) d
  let kern := match k with | some (_, x) => x | none => []
  let odd := reasonOf img kern d
  let reason := if b.accepted.contains (tupleOf img kern d) then 0 else odd
  let guarded := recov || reason != 0
  let b' := { b with shore := bootMark (bitOf reason 0 || bitOf reason 1) guarded recov b.shore, kern := bootMark (bitOf reason 2 || bitOf reason 3) guarded recov b.kern }
  let d := bootMod (fun x => { x with
    phase := 1, bst := b', guarded := guarded, reason := reason, rolled := b'.shore.rolled || b'.kern.rolled, strial := b'.shore.trial, ktrial := b'.kern.trial,
    sslot := slot, shoreImg := img, shorever := imgVersion img, kernok := k.isSome, kslot := (match k with | some (s, _) => s | none => 0),
    kernImg := kern, kernver := if kern.isEmpty then 0 else imgVersion kern }) d
  -- phase 1: the Shore image starts, and the local sessions
  let d := moveAnd 0 .ready .boot none (mereWrite 0 img d)
  let d := startSess 1 (startSess 0 d)
  let d := if guarded then raise 99 0 (evAdd 4 [BitVec.ofNat 8 reason] [] d) else d
  let d := if b' = b then d else recWrite 0 (bstBytes b') none d
  -- phase 2: HBM, the Ledger, CONFIG, the units, the kernel and the cores
  let cfg := cfgList d.boot.config
  let d := foldSt cfg (fun e d => if e.1 = 6 then cfgTry 6 (hbmEntry e.2) d else if e.1 = 11 then cfgTry 11 (repairEntry e.2) d else d) d
  let d := foldSt (List.range (nHbm d.fuse.variant)) (bootStack hbmBad) d
  let d := ledgerBoot d
  let d := if guarded then mirrorSetup (fun g => { g with forced := true, mirrorOn := true }) d else d
  let d := foldSt cfg unitsEntry d
  let d := foldSt bootUnits bootOn d
  let d := if k.isSome then foldSt ((List.range 8).map (16 + ·)) bootOn d else d
  -- phase 3: loads, routes, binds, links
  let d := foldSt (cfgLoads d.boot.config) loadEntry (foldSt ([4, 5, 6] ++ (List.range 8).map (16 + ·)) reloadMark d)
  let d := foldSt cfg commitEntry d
  let d := foldSt ((List.range (nJetty d.fuse.variant)).map (32 + ·)) (fun n d => (bootAsk n d).getD d) d
  -- phase 4: the Inlet
  let d := bootOn 1 d
  let d := logAdd 0 .info "boot ready" (bootMod (fun x => { x with phase := 4, tripped := false }) d)
  let d := if d.boot.cause = 1 ∧ d.ledger.autoFetch = true ∧ mirroring d = true then fetchStart none d else d
  let d := eventFlush d
  let d := if 128 ≤ (markersUsed d).length ∧ recov = false then nvAdd { kind := 7, slot := 0, ops := erasesOf markerBase 0x10000 } d else d
  settle d

/-- Neither Shore slot is usable (R432). [log entry 53 DEDUCED] -/
def enterRecovery (d : Dev) : Dev := bootMod (fun x => { x with phase := 5, tripped := false }) (evAdd 7 [] [] d)

/-- The boot ROM's part. `vrOk`: the regulator answers VOUT_MODE as R464 requires; `sfdp`: the highest octal DTR rate in MHz the flash lists, 0
none. [log entry 3 DESIGN CHOICE] -/
def bootRom (cause : Nat) (vrOk : Bool) (hbmBad sfdp : Nat) (d : Dev) : Dev :=
  let oct := sfdp != 0
  let d := bootMod (fun b => { b with cause := cause, mode8 := oct, mhz := if oct then min sfdp 200 else 50 }) d
  let d := foldSt (List.range (nHbm d.fuse.variant)) (fun h d =>
    stackSet h { stackGet h d with spares := 64 - d.hbm.repaired.countP fun a => hbmStackOf a d == h } d) d
  let d := if vrOk then voutWrite 0 true d
           else logAdd 98 .fault "vout_mode failed" { d with clk := .step1, therm := { d.therm with rung := 2, bootHold := true } }
  let d := moveAnd 24 .ready .boot none (moveAnd 99 .ready .boot none d)
  let d := recordsRead d
  let d := if cause = 1 then rollBacks d else d
  let (s, d) := chooseImage 1 (shoreIncompat d) (slotOrder d.boot.bst.shore) d
  match s with
  | some (s, img) => bootShore img s false hbmBad d
  | none => enterRecovery d

/-- The Gauge at which a boot ends lies at a tick end of every step. [log entry 3 DESIGN CHOICE] -/
def bootGauge (g : Nat) : W64 := BitVec.ofNat 64 ((g + 2999) / 3000 * 3000)

/-- PWR_GOOD rises (R436): the block stands at its power-on reset, and boots. `g`: the Gauge at which it has finished. [log entries 3 DESIGN CHOICE, 9 DESIGN CHOICE, 54 DEDUCED] -/
def powerOn (vrOk : Bool) (hbmBad sfdp g : Nat) (d : Dev) : Dev :=
  if !ballsSeen d then d
  else if d.boot.trip = .powerDown ∨ d.boot.phase = 0 ∧ d.boot.trip = .none then
    bootRom 1 vrOk hbmBad sfdp { coldBase d with gauge := bootGauge g }
  else d

/-- SYS_RST_n is released after an assertion (20 R459). A hardware trip holds until power is removed (20 R462), and without REF24 nothing
starts (R461). [log entries 3 DESIGN CHOICE, 9 DESIGN CHOICE, 54 DEDUCED] -/
def warmReset (vrOk refOk : Bool) (hbmBad sfdp g : Nat) (d : Dev) : Dev :=
  if !ballsSeen d ∨ d.boot.trip = .powerDown ∨ d.boot.trip = .hardware ∨ d.boot.thermtrip = false ∨ (d.boot.trip = .refLoss ∧ refOk = false) then d
  else
    let f := warmBase d
    bootRom (if d.boot.tripped then 3 else 2) vrOk hbmBad sfdp { f with gauge := bootGauge (now d + g) }

/-- BOOT_RECOVER GO (R432). [log entry 53 DEDUCED] -/
def recoveryGo (hbmBad : Nat) (d : Dev) : Dev :=
  if d.boot.phase ≠ 5 then d
  else
    let (img, bad) := imageMere d.boot.recaddr d
    match firstFail (imageRules [1] img bad d) with
    | some _ => raise 99 2 (evAdd 6 [1, 2] [] d)
    | none => bootShore img 0 true hbmBad d

end Sys2Proof.Machine
end

