-- ==== Sys2Proof/Machine/BootCmds.lean ====
section
/-!
DEFINITION. Machine/BootCmds.lean: the nv, firmware and seal nouns (19 R430, R431, R433 to R435, R445), the boot window (R444), the measurements (R438)
and the test port (20 R469).
-/
namespace Sys2Proof.Machine

/-! ### The nv noun -/

def modeText (d : Dev) : String := if d.boot.mode8 then "8D-8D-8D" else "1S-1S-1S"

def nvLine (d : Dev) : String :=
  let q := fun (k : Nat) => tabGet (fun _ => 0) d.boot.seqs k
  "nv mode " ++ modeText d ++ " clock " ++ dec d.boot.mhz ++ "MHz" ++ spn "busy" (b2n !d.boot.jobs.isEmpty) ++ " seq" ++ spn "bootstate" (q 0) ++ spn "directory" (q 1)
    ++ spn "event" (q 2) ++ spn "config" (q 3) ++ spn "markers" (min 255 (markersUsed d).length)

/-- A line of these nouns: `f` where the NV controller is READY. -/
def nvCmd (r : BRef) (range : Bool) (f : Dev → Dev) (d : Dev) : Dev :=
  bcmd r (fun d => if range then err r "range" [] d else if !uready 99 d then err r "absent" [] d else f d) d

def showNv (r : BRef) (d : Dev) : Dev := nvCmd r false (fun d => ok r [nvLine d] d) d

/-- Flash offsets of the key bytes of the tag 0x0005 entries from offset `a` of a CONFIG slot that ends at `lim`. -/
def keyOffsets (d : Dev) (lim : Nat) : Nat → Nat → List (Nat × Nat)
  | 0, _ => []
  | f + 1, a =>
    let h := flashRun a 4 d
    let n := fieldLe h 2 2
    let step := (4 + n + 3) / 4 * 4
    if lim < a + step ∨ !(within (fieldLe h 0 2) 1 14) then []
    else (if fieldLe h 0 2 = 5 then [(a + 8, a + 40)] else []) ++ keyOffsets d lim f (a + step)

/-- The key bytes of both CONFIG slots; a slot holds at most 131,008 entries. -/
def keyPlaces (d : Dev) : List (Nat × Nat) :=
  [0, 1].flatMap fun s => let (a, n) := recSlot 3 s; keyOffsets d (a + n) 131008 (a + 256)

/-- `read nv A [length N]`: key bytes as zero. -/
def readNv (r : BRef) (a : Nat) (len : Option Nat) (d : Dev) : Dev :=
  let n := len.getD 64
  nvCmd r (!within n 1 256 || decide (flashSize < a + n)) (fun d =>
    if 2 ≤ r.sid then err r "denied" [] d
    else
      let ks := keyPlaces d
      let byte := fun (x : Nat) => if ks.any fun k => decide (k.1 ≤ x) && decide (x < k.2) then (0 : Byte) else flashByte x d
      ok r ((List.range ((n + 15) / 16)).map fun i => spaced ((List.range (min 16 (n - 16 * i))).map fun j => hexBytes [byte (a + 16 * i + j)])) d) d

/-! ### Showing firmware and the seal -/

/-- A version number in print. [log entry 26 DESIGN CHOICE] -/
def verText (v : Nat) : String := dec (v / 16777216) ++ "." ++ dec (v / 65536 % 256) ++ "." ++ dec (v % 65536)

def slotLine (t s : Nat) (d : Dev) : String :=
  let (b, e) := slotImage t s d
  let x := if t = 1 then d.boot.bst.shore else d.boot.bst.kern
  let act := b2n x.activeB == s
  (if t = 1 then "shore" else "kernel") ++ (if s = 0 then " A" else " B") ++ sp "version" (verText (imgVersion b)) ++ spn "svn" (imgSvn b) ++ spn "valid" (b2n e.isNone)
    ++ spn "active" (b2n act) ++ spn "trial" (b2n (act && x.trial))

def showFirmware (r : BRef) (d : Dev) : Dev :=
  nvCmd r false (fun d =>
    ok r [slotLine 1 0 d, slotLine 1 1 d, slotLine 2 0 d, slotLine 2 1 d,
          "guarded " ++ dec (b2n d.boot.guarded) ++ sp "reason" (hex0 1 d.boot.reason) ++ spn "rolledback" (b2n d.boot.rolled)] d) d

def entLine (e : DirEnt) (d : Dev) : String :=
  let (b, _) := imageEnt e d
  "image " ++ dec e.n ++ sp "copy" (if e.copyB then "B" else "A") ++ sp "version" (verText (imgVersion b)) ++ spn "type" (imgType b) ++ spn "bytes" e.len
    ++ sp "where" (if e.hbm then "hbm" else "flash")

def showImages (r : BRef) (d : Dev) : Dev :=
  nvCmd r false (fun d => ok r ((List.range 64).flatMap fun n => (d.boot.dir.filter fun e => e.n == n).map fun e => entLine e d) d) d

def dec2 (n : Nat) : String := (if n < 10 then "0" else "") ++ dec n

def stepName (d : Dev) : String := String.ofList [Char.ofNat (64 + d.fuse.letter)] ++ dec d.fuse.digit

/-- `show seal`: it needs no NV controller. -/
def showSeal (r : BRef) (d : Dev) : Dev :=
  bcmd r (fun d =>
    let f := d.fuse
    ok r ["seal class " ++ dec f.sealc ++ sp "variant" (varName f.variant) ++ sp "stepping" (stepName d) ++ sp "since" (dec (2000 + f.year) ++ "-" ++ dec2 f.month)
            ++ sp "until" (dec (2015 + f.year) ++ "-" ++ dec2 f.month) ++ spn "guarded" (b2n d.boot.guarded) ++ spn "debuglock" (b2n f.debugLock)] d) d

/-! ### Writing firmware (R433, R434) -/

/-- The payload's own checks that no slot has a part in (R425 step 6). -/
def payloadOwn (b : List Byte) : Option String :=
  let p := imgPayload b
  let n := imgPlen b
  match imgType b with
  | 3 => if fieldLe p 0 4 = 0x4B504252 then reedCheck p n else if fieldLe p 0 4 = 0x4B504853 then shoalCheck p n
         else if fieldLe p 0 4 = 0x4B504E54 then tarnCheck p n else if n ≠ fieldLe p 8 4 then some "size" else wellCheck p
  | 4 => firstFail [("size", decide (256 ≤ p.length) && mSize p == n && p.length == n), ("crc", crc32 (zeroAt p 60 4) == fieldLe p 60 4),
                    ("header", mHeaderOk p), ("stream", allN (mStreams p) (mStreamOk p))]
  | _ => none

/-- The first check an image fails that a firmware line loads or selects. [log entry 53 DEDUCED] -/
def firmCheck (types : List Nat) (b : List Byte) (bad : Bool) (d : Dev) : Option String :=
  match firstFail (imageRules types b bad d) with
  | some n => some n
  | none => if types == [3, 4] && !compatOk b d then some "compat" else payloadOwn b

/-- After the range check: absent, denied, unsealed and busy, in that order; then the write starts, and `wait` answers at its end. -/
def firmWrite (r : BRef) (kind : Nat) (sealed wait : Bool) (f : Option (Nat × String) → Dev → Dev) (d : Dev) : Dev :=
  if !uready 99 d then err r "absent" [] d
  else if 2 ≤ r.sid then err r "denied" [] d
  else if sealed then err r "unsealed" [] d
  else if nvKindBusy kind d then err r "busy" [] d
  else if wait then f (some (r.sid, r.tag)) (bwait r (.other 6) d)
  else ok r [] (f none d)

/-- `load firmware shore|kernel mere A [wait]`: to the slot that is not ACTIVE. [log entry 53 DEDUCED] -/
def loadFirmSlot (r : BRef) (kernel : Bool) (a : Nat) (wait : Bool) (d : Dev) : Dev :=
  bcmd r (fun d =>
    let t := if kernel then 2 else 1
    let x := if kernel then d.boot.bst.kern else d.boot.bst.shore
    let s := if x.activeB then 0 else 1
    let (base, size) := fwSlot t s
    let (b, bad) := imageMere a d
    if !inStage a d then err r "range" [] d
    else match firmCheck [t] b bad d with
      | some n => err r "range" ["check " ++ n] d
      | none =>
        if size < b.length then err r "range" ["check room"] d
        else firmWrite r (3 + t) (d.boot.guarded && x.trial) wait (fun w d =>
          nvAdd { kind := 3 + t, slot := s, ops := erasesOf base b.length ++ pagesOf (b.length / 256 + 1) base b, wait := w } d) d) d

/-- Extents of the image store that copies take, as offsets from its base. -/
def storeUsed (d : Dev) : List (Nat × Nat) :=
  (d.boot.dir.filter fun e => !e.hbm).map fun e => (e.addr - storeBase, (e.len + 0xFFFF) / 0x10000 * 0x10000)

/-- `load firmware image N mere|hbm A [wait]`: the new copy takes free extents, or is registered where it lies in the weight region. -/
def loadFirmImage (r : BRef) (n : Nat) (hbm : Bool) (a : Nat) (wait : Bool) (d : Dev) : Dev :=
  bcmd r (fun d =>
    let (b, bad) := if hbm then readImage (fun x => hbmByte x d) a (sessBase d) else imageMere a d
    if 64 ≤ n ∨ (!hbm && !inStage a d) ∨ (hbm && decide (sessBase d ≤ a)) then err r "range" [] d
    else match firmCheck [3, 4] b bad d with
      | some c => err r "range" ["check " ++ c] d
      | none =>
        let copyB := match dirActive n d with | some e => !e.copyB | none => false
        if hbm then
          firmWrite r 6 false false (fun _ d =>
            let keep := d.boot.dir.filterMap fun x => if x.n ≠ n then some x else if x.active then some { x with active := false } else none
            bootMod (fun y => { y with dir := keep ++ [{ n := n, copyB := copyB, hbm := true, addr := a, len := b.length, active := true }] }) d) d
        else match placeIn (flashSize - storeBase) ((b.length + 0xFFFF) / 0x10000 * 0x10000) (storeUsed d) with
          | none => err r "range" ["check room"] d
          | some o =>
            let base := storeBase + o
            firmWrite r 6 false wait (fun w d =>
              nvAdd { kind := 6, slot := b2n copyB, ops := erasesOf base b.length ++ pagesOf (b.length / 256 + 1) base b,
                      fin := .imageEnt { n := n, copyB := copyB, hbm := false, addr := base, len := b.length, active := true }, wait := w } d) d) d

/-- `load firmware config mere A length L [wait]` (R435). [log entry 55 DEDUCED] -/
def loadFirmConfig (r : BRef) (a len : Nat) (wait : Bool) (d : Dev) : Dev :=
  bcmd r (fun d =>
    let (b, bad) := readRun (fun x => mereByte x d) a len
    if !inStage a d ∨ stageEnd a < a + len ∨ 0x80000 - 256 < len then err r "range" [] d
    else if bad || !cfgOk b then err r "range" [] d
    else firmWrite r 3 false wait (fun w d => recWrite 3 b w d) d) d

/-! ### Selecting and accepting (R430, R431) -/

/-- `select firmware shore|kernel a|b`. [log entry 53 DEDUCED] -/
def selectSlot (r : BRef) (kernel toB : Bool) (d : Dev) : Dev :=
  bcmd r (fun d =>
    if !uready 99 d then err r "absent" [] d
    else match (slotImage (if kernel then 2 else 1) (b2n toB) d).2 with
      | some c => err r "range" ["check " ++ c] d
      | none =>
        if 2 ≤ r.sid then err r "denied" [] d
        else
          let x : BSlot := { activeB := toB }
          let b := if kernel then { d.boot.bst with kern := x } else { d.boot.bst with shore := x }
          ok r [] (recWrite 0 (bstBytes b) none (bootMod (fun y => { y with bst := b }) d))) d

/-- `select firmware image N a|b`. -/
def selectImage (r : BRef) (n : Nat) (toB : Bool) (d : Dev) : Dev :=
  nvCmd r (decide (64 ≤ n)) (fun d =>
    match d.boot.dir.find? fun e => e.n == n && e.copyB == toB with
    | none => err r "absent" [] d
    | some e =>
      let (b, bad) := imageEnt e d
      match firmCheck [3, 4] b bad d with
      | some c => err r "range" ["check " ++ c] d
      | none =>
        if 2 ≤ r.sid then err r "denied" [] d
        else
          let dir := d.boot.dir.map fun x => if x.n = n then { x with active := x.copyB == toB } else x
          ok r [] (recWrite 1 (dirBytes dir) none (bootMod (fun y => { y with dir := dir }) d))) d

/-- `accept firmware`: Guarded ends. [log entry 53 DEDUCED] -/
def acceptFirmware (r : BRef) (d : Dev) : Dev :=
  nvCmd r false (fun d =>
    if 2 ≤ r.sid then err r "denied" [] d
    else if !d.boot.guarded then ok r [] d
    else
      let b := d.boot
      let tup := tupleOf b.shoreImg b.kernImg d
      let acc := b.bst.accepted.filter (· != tup) ++ [tup]
      let bst : BState := { shore := { b.bst.shore with trial := false, rolled := false }, kern := { b.bst.kern with trial := false, rolled := false },
                            accepted := acc.drop (acc.length - 16) }
      let d := bootMod (fun x => { x with guarded := false, unsealTick := true, reason := 0, rolled := false, strial := false, ktrial := false, bst := bst }) d
      let f := d.fuse
      let d := { d with fuse := { f with shoreMin := max f.shoreMin (imgSvn b.shoreImg),
                                         kernMin := if b.kernImg.isEmpty then f.kernMin else max f.kernMin (imgSvn b.kernImg) } }
      let m := mirrorCfg d
      let d := mirrorSetup (fun g => { g with forced := false, mirrorOn := m }) d
      let d := raise 99 5 (evAdd 5 [] [] d)
      ok r [] (recWrite 0 (bstBytes bst) none (logAdd 99 .info "firmware accepted" d))) d

/-! ### The boot window (R444) -/

def bootStat (d : Dev) : Nat :=
  let b := d.boot
  at' b.phase 28 + at' b.cause 24 + at' (b2n b.guarded) 20 + at' b.reason 16 + at' (b2n b.rolled) 12 + at' (b2n b.ktrial) 9 + at' (b2n b.strial) 8
    + at' b.kslot 5 + at' b.sslot 4 + at' (b2n b.kernok) 1

def bootId (d : Dev) : Nat :=
  let f := d.fuse
  at' (f.sealc % 256) 24 + at' (f.year % 256) 16 + at' (f.month % 16) 12 + at' (f.romver % 16) 8 + b2n f.debugLock

def bootRegRead (off : Nat) (d : Dev) : RegR :=
  let k := 16 * 99
  match off with
  | 0x000 => rnote 99 d | 0x004 => rnoteEn 99 d
  | 0x008 => rcnt k d | 0x00C => rcnt (k + 1) d | 0x010 => rcnt (k + 2) d | 0x014 => rcnt (k + 3) d | 0x018 => rcnt (k + 4) d | 0x01C => rcnt (k + 5) d
  | 0x020 => rval (bootId d) d
  | 0x024 => rval (bootStat d) d
  | 0x028 => rval d.boot.shorever d | 0x02C => rval d.boot.kernver d
  | 0x030 => rval (at' (d.fuse.kernMin % 64) 8 + d.fuse.shoreMin % 64) d
  | 0x034 => rval 0 d | 0x038 => rval d.boot.recaddr d
  | 0x100 => rval (at' (b2n !d.boot.jobs.isEmpty) 31 + at' (d.boot.mhz % 256) 16 + at' (b2n d.boot.mode8) 8 + min 255 (markersUsed d).length) d
  | 0x104 => rval (tabGet (fun _ => 0) d.boot.seqs 0) d | 0x108 => rval (tabGet (fun _ => 0) d.boot.seqs 1) d
  | 0x10C => rval (tabGet (fun _ => 0) d.boot.seqs 2) d | 0x110 => rval (tabGet (fun _ => 0) d.boot.seqs 3) d
  | 0x114 => rcnt (k + 6) d
  | _ => none

/-- A staging address for BOOT_RECADDR: a multiple of 64 in 0x600_0000 to 0x7FF_FFFF. -/
def recaddrOk (v : Nat) : Bool := decide (stageLo ≤ v) && decide (v < stageHi) && v % 64 == 0

def bootRegWrite (off v : Nat) (d : Dev) : Option Dev :=
  match off with
  | 0x000 => wnote 99 127 v d | 0x004 => wnoteEn 99 127 v d
  | 0x034 => some (if bitOf v 0 then recoveryGo 0 d else d)
  | 0x038 => wif (recaddrOk (v % 2 ^ 27)) (bootMod fun b => { b with recaddr := v % 2 ^ 27 }) d
  | _ => (bootRegRead off d).map fun _ => d

/-! ### Measurements (R438) -/

/-- Bytes of the boot ROM: the part's own, which the spec does not give. -/
def packHash (p : List Byte) : List Byte := if p.isEmpty then List.replicate 48 0 else sha384 p

def fuseBytes (d : Dev) : List Byte :=
  let f := d.fuse
  [varCode f.variant, stepCode d, f.sealc, f.year, f.month, f.romver, f.shoreMin, f.kernMin, b2n f.debugLock].map (BitVec.ofNat 8) ++ List.replicate 7 0

/-- The digest of measurement 1 to 6; that of the boot ROM is a value the spec leaves open. -/
def measure (i : Nat) (d : Dev) : List Byte :=
  match i with
  | 2 => sha384 d.boot.shoreImg
  | 3 => sha384 d.boot.kernImg
  | 4 => sha384 ((List.range 8).flatMap (fun k => packHash (reedSlot k d).bytes) ++ (List.range 4).flatMap (fun k => packHash (shoalSlot k d).bytes)
                  ++ (List.range 4).flatMap (fun k => packHash (tarnSlot k d).bytes) ++ packHash d.well.pack)
  | 5 => sha384 (fuseBytes d)
  | 6 => sha384 (toLe 8 (b2n d.boot.guarded + 2 * b2n d.fuse.debugLock + 4 * b2n (d.boot.phase == 5)))
  | _ => toBe 48 (Sys2Proof.Config.romDigest d.fuse.romver)

/-! ### The test port (20 R469) -/

/-- The identification register. -/
def idcode (d : Dev) : Nat := at' (d.fuse.letter % 16) 28 + at' (0x4840 + varCode d.fuse.variant) 12 + at' 0x3D9 1 + 1

def tapMod (f : TapPort → TapPort) (d : Dev) : Dev := { d with tap := f d.tap }

/-- A scan of the boundary register under EXTEST (0) or SAMPLE/PRELOAD (1): the levels captured leave, and `cells` are in the register. [log entry 17 PRESUMED] -/
def tapScan (ir levels cells : Nat) (d : Dev) : Dev := emit (.tdo (levels % 2 ^ 48)) (tapMod (fun t => { t with ir := ir, bsr := cells % 2 ^ 48 }) d)

/-- An IDCODE scan of the test port (20 R469). [log entry 17 PRESUMED] -/
def tapIdcode (d : Dev) : Dev := emit (.tdo (idcode d)) (tapMod (fun t => { t with ir := 2 }) d)

/-- BYPASS, and every other code: one cell, which captures 0. `bits` are shifted in, `n` of them. [log entry 17 PRESUMED] -/
def tapBypass (code n bits : Nat) (d : Dev) : Dev :=
  if code < 3 then d else emit (.tdo (2 * bits % 2 ^ n)) (tapMod (fun t => { t with ir := 15 }) d)

/-- TRST_n: Test-Logic-Reset selects IDCODE, so EXTEST ends. [log entry 17 PRESUMED] -/
def tapReset (d : Dev) : Dev := tapMod (fun t => { t with ir := 2 }) d

end Sys2Proof.Machine
end

