-- ==== Sys2Proof/Machine/HostCmds.lean ====
section
/-!
DEFINITION. Machine/HostCmds.lean: the Inlet (05 R93 to R97), resets of the host function (R108, 18 R403), mastering (R102), the inlet and outlet nouns
(R110), their windows (R109), and attestation (R106).
-/
namespace Sys2Proof.Machine

def hostMod (f : HostLink → HostLink) (d : Dev) : Dev := { d with host := f d.host }

/-! ### Descriptors (R93, R96) -/

def dStream (b : List Byte) : Nat := bitsOf (fieldLe b 0 2) 11 0
def dKind (b : List Byte) : Nat := bitsOf (fieldLe b 0 2) 15 12
def dDir (b : List Byte) : Nat := bitsOf (fieldLe b 2 1) 0 0
def dInline (b : List Byte) : Bool := bitOf (fieldLe b 2 1) 1
def dNotify (b : List Byte) : Bool := bitOf (fieldLe b 2 1) 2
def dPlen (b : List Byte) : Nat := fieldLe b 4 4

/-- The first row of Table 5-5: what R11 refuses, reserved bits, a direction that does not match, an inline payload beyond 28 bytes. -/
def descBad (b : List Byte) : Bool :=
  let k := dKind b
  k == 0 || decide (7 ≤ k) || decide (65536 < dPlen b) || (k == 6 && dPlen b != 0) || bitsOf (fieldLe b 2 1) 7 3 != 0 || fieldLe b 3 1 != 0
    || ((k == 1 || k == 3 || k == 4) && dDir b != 0) || ((k == 2 || k == 6) && dDir b != 1) || (dInline b && decide (28 < dPlen b))

/-! ### The head (R95) -/

/-- A descriptor that has been taken is done with: refused, or admitted with its payload wholly committed, or its item will have none. -/
def flightDone (x : Nat) (d : Dev) : Bool :=
  x == 0 || match item? (x - 1) d with | none => true | some it => it.inn || it.whole || it.failed

/-- The head passes the descriptors at the front that are done with; NOTIFY raises its message. -/
def headPassN : Nat → Nat → Dev → Dev
  | 0, _, d => d
  | f + 1, n, d =>
    let r := subRing n d
    match r.flight with
    | [] => d
    | (_, note, x) :: xs =>
      if flightDone x d then
        let d := subSet n { r with flight := xs, head := ptrNext r.log2 r.head } d
        headPassN f n (if note then sendMsix r.vector d else d)
      else d

/-- The head passes the descriptors whose payloads are in (R95). [log entry 29 DEDUCED] -/
def headPass (n : Nat) (d : Dev) : Dev := headPassN (subRing n d).flight.length n d

/-! ### Taking and admitting (R95) -/

/-- The function may read host memory for its rings. -/
def inMastering (d : Dev) : Bool := d.host.bme && !d.host.d3 && d.host.linkUp

/-- A ring from which a descriptor can be taken. One that is fetched is admitted or refused with it, so no ring holds more that are neither. -/
def ringPending (n : Nat) (d : Dev) : Bool :=
  let r := subRing n d
  r.enable && !r.stopped && r.next != r.tail && !d.host.retries.any fun q => q.ring == n && q.lidx == 0

/-- The ring whose turn it is: the one that is being served, up to 16 descriptors, then the next in ring order. [log entry 29 DEDUCED] -/
def ringTurn (d : Dev) : Option Nat :=
  let n := d.host.rrRing
  if ringPending n d && decide (d.host.rrTaken < 16) then some n
  else ((List.range 256).map fun i => (n + 1 + i) % 256).find? fun m => ringPending m d

/-- The turn counts what it has taken. [log entry 29 DEDUCED] -/
def turnCount (n : Nat) (d : Dev) : Dev :=
  hostMod (fun h => if h.rrRing = n ∧ h.rrTaken < 16 then { h with rrTaken := h.rrTaken + 1 } else { h with rrRing := n, rrTaken := 1 }) d

/-- A descriptor read from ring `n` is checked, and refused or admitted; `payload`: what the payload read returned, none while it is not here.
None where it cannot be admitted in this tick: it waits, and nothing happens. [log entry 29 DEDUCED] -/
def descTake (n : Nat) (b : List Byte) (payload : Option (List Byte)) (d : Dev) : Option Dev :=
  let r := subRing n d
  let idx := ptrIndex r.next
  let took := fun (x : Nat) (d : Dev) =>
    let r := subRing n d
    some (headPass n (subSet n { r with next := ptrNext r.log2 r.next, flight := r.flight ++ [(idx, dNotify b, x)] } d))
  if !r.enable || r.stopped then none
  else if descBad b then took 0 (outRefuse r.cq n idx b 8 d)
  else match boundRoute (dStream b) (dDir b) d with
    | none => took 0 (outRefuse r.cq n idx b 9 d)
    | some (rt, c) =>
      if d.host.admitted || !uready 3 d || !ledgOpen d then none
      else match ledgPick d with
        | none => none
        | some l =>
          let pay := if dInline b then some (slice b 36 (dPlen b)) else if dPlen b = 0 then some [] else payload.map (padTo (dPlen b))
          let a : AdmitIn := { stream := dStream b, kind := dKind b, dir := dDir b, payload := [], whole := false, host := true, src := fieldLe b 16 8,
                               rbuf := fieldLe b 24 8, rlen := fieldLe b 32 4, cookie := fieldLe b 8 8, subidx := idx, subring := n, cq := r.cq, settle := false }
          let d := lrecMod l (fun x => { x with plen := dPlen b }) (admitItem a rt c l d)
          let d := match pay with | some p => intakePut l p d | none => d
          took (l + 1) (hostMod (fun h => { h with admitted := true }) d)

/-- The Inlet takes a descriptor: `b` is what host memory holds there (64 bytes). While the intake Sluice has no room for what has been read, it takes
none (21, back-pressure). [log entry 29 DEDUCED] -/
def descAdmit (b : List Byte) (payload : Option (List Byte)) (d : Dev) : Dev :=
  if !uready 1 d || !inMastering d || !(slu 140 d).wait.isEmpty then d
  else match ringTurn d with
    | none => d
    | some n => match descTake n (padTo 64 b) payload d with
      | none => d
      | some d => turnCount n d

/-! ### Failed reads (R97) -/

/-- Whether ring `n` is reading a descriptor (`x` 0) or the payload of record x − 1. -/
def reading (n x : Nat) (d : Dev) : Bool :=
  if x = 0 then ringPending n d && ringTurn d == some n
  else (match item? (x - 1) d with | some it => it.host && !it.inn && !it.whole && !it.failed | none => false) && (lrec (x - 1) d).subring == n
    && !d.host.retries.any fun q => q.ring == n && q.lidx == x

/-- A read fails: DMAERR, an AER report, and a retry 921,600 gu later. `kind`: 0 Unsupported Request, 1 Completer Abort, 2 poisoned, 3 timed out. -/
def readFail (n x kind : Nat) (d : Dev) : Dev :=
  if uready 1 d && inMastering d && reading n x d then
    aerReadFail kind (raise 1 1 (hostMod (fun h => { h with retries := h.retries ++ [{ ring := n, lidx := x, due := now d + 921600 }] }) d))
  else d

/-- The payload of record `l` is here: it goes into the intake Sluice. [log entry 29 DEDUCED] -/
def payloadIn (l : Nat) (b : List Byte) (d : Dev) : Dev := intakePut l (padTo (lrec l d).plen b) d

/-- The retry of a failed read runs: `ok`, it succeeds, with the descriptor `b` or the payload. A second failure stops the ring, or releases the item
with BLOCK. A payload read that is under way and has not failed ends with `ok` too. [log entry 29 DEDUCED] -/
def readRetry (n x kind : Nat) (ok : Bool) (b : List Byte) (payload : Option (List Byte)) (d : Dev) : Dev :=
  match d.host.retries.find? fun q => q.ring == n && q.lidx == x with
  | none => if ok && decide (x ≠ 0) && uready 1 d && inMastering d && reading n x d then payloadIn (x - 1) (payload.getD []) d else d
  | some q =>
    if !due q.due d || !uready 1 d || !inMastering d then d
    else
      let d1 := hostMod (fun h => { h with retries := h.retries.erase q }) d
      if ok then (if x = 0 then (descTake n (padTo 64 b) payload d1).getD d1 else payloadIn (x - 1) (payload.getD []) d1)
      else
        let d1 := aerReadFail kind (raise 1 1 d1)
        if x = 0 then subSet n { subRing n d1 with stopped := true } d1 else headPass n (itemFail (x - 1) d1)

/-! ### Doorbells (R94) -/

def doorbell (n v : Nat) (d : Dev) : Dev :=
  let r := subRing n d
  match ptrOf r.log2 v with
  | none => raise 1 2 d
  | some p =>
    let u := ringUsed r.log2 r.head p
    if !r.enable || decide (ringSize r.log2 < u) || decide (u < ringUsed r.log2 r.head r.tail) then raise 1 2 d
    else wakeLatch 3 (subSet n { r with tail := p } d)

/-- A write of INL_RBASE (`part` 0, 1) or OUT_CBASE of a ring: discarded and counted while the ring is enabled. -/
def subBase (n part v : Nat) (d : Dev) : Dev :=
  let r := subRing n d
  if r.enable then badacc d
  else subSet n (if part = 0 then { r with baseLo := BitVec.ofNat 32 (v / 4096 * 4096) } else { r with baseHi := BitVec.ofNat 32 v }) d

def cplBaseWrite (n part v : Nat) (d : Dev) : Dev :=
  let r := cplRing n d
  if r.enable then badacc d
  else cplSet n (if part = 0 then { r with baseLo := BitVec.ofNat 32 (v / 4096 * 4096) } else { r with baseHi := BitVec.ofNat 32 v }) d

/-- OUT_CMODn: a COUNT of 0 is stored as 1. [log entry 29 DEDUCED] -/
def cplMod (n v : Nat) (d : Dev) : Dev := cplSet n { cplRing n d with count := max 1 (bitsOf v 31 24), time := bitsOf v 23 0 } d

/-- TIME µs have passed since the first entry without a message (R105). [log entry 29 DEDUCED] -/
def cplTimer (c : Nat) (d : Dev) : Dev :=
  let r := cplRing c d
  if r.time ≠ 0 ∧ r.since ≠ 0 ∧ due (r.firstAt + r.time * 9216) d then cplMessage c d else d

/-- A write of OUT_BKL_FETCH: a unit in ICE takes none (17 R390). -/
def bklFetch (v : Nat) (d : Dev) : Dev := if asleep 2 d then badacc d else cplFetch (bitOf v 31) (bitsOf v 7 0) d

/-! ### Resets of the host function (R108) -/

/-- An item whose intake packet the reset rewinds is withdrawn (18 R403). -/
def withdraw (l : Nat) (d : Dev) : Dev :=
  match item? l d with
  | none => d
  | some it =>
    let k := 2 * it.stream + it.dir
    let st := streamSt k d
    if (it.seq + 1) % 2 ^ 32 = st.next then
      let st := { st with next := it.seq, ansN := it.ans, prevRoute := it.prev.1, prevReed := it.prev.2.1, prevShoal := it.prev.2.2 }
      mirrorSend 3 l (lrecSet l {} (itemDel l (streamSet k st d)))
    else itemFail l (lrecMod l (fun r => { r with refetch := false }) d)

/-- The records to withdraw, highest sequence number first. -/
def withdrawn (d : Dev) : List Nat :=
  let xs := (intakeOpen d).map fun l => (match item? l d with | some it => it.seq | none => 0, l)
  (xs.mergeSort fun a b => decide (b.1 < a.1) || (decide (a.1 = b.1) && decide (b.2 ≤ a.2))).map (·.2)

/-- The notice registers and counters of the two windows return to reset. [log entry 30 DEDUCED] -/
def hostNotes (d : Dev) : Dev :=
  let d := noteSet 2 {} (noteSet 1 {} d)
  foldSt (List.range 32) (fun i d => ctrSet (16 + i) {} d) d

/-- The release of record `l` is under way: the payload writes of `k` TLPs have left, and the reset stops the next. It takes an item that is released in
this tick (R108). [log entry 30 DEDUCED] -/
def stopRelease (mid : Option (Nat × Nat)) (d : Dev) : Dev :=
  match mid with
  | none => d
  | some (l, k) => hostMod (fun h => { h with stopTlp := none }) (releaseOne l (hostMod (fun h => { h with stopTlp := some k }) d))

/-- The intake packets that are not wholly committed are rewound. -/
def intakeRewind (d : Dev) : Dev := sluBad 140 (sluMod 140 (fun s => { s with wait := [] }) d)

/-- What a function-level reset keeps of the configuration space: its sticky bits. [log entry 15 PRESUMED] -/
def stickyCfg (c : Pcie) : Pcie :=
  { aerUnc := c.aerUnc, aerUncMask := c.aerUncMask, aerUncSev := c.aerUncSev, aerCor := c.aerCor, aerCorMask := c.aerCorMask, aerFirst := c.aerFirst,
    hdrLog := c.hdrLog, rate := c.rate, width := c.width, lnkCtl2 := c.lnkCtl2 }

/-- Every reset of the host function: `up`, the link stays up; `sticky`, the sticky bits stay. [log entry 30 DEDUCED] -/
def hostReset (under up sticky : Bool) (mid : Option (Nat × Nat)) (d : Dev) : Dev :=
  let d := stopRelease mid d
  let d := foldSt (withdrawn d) withdraw d
  let d := foldSt (d.host.cpl.map (·.1)) heldOrphan d
  let d := answerAll (.other 2) (some "failed") [backlogLine { d with host := { d.host with fetchRing := none } }] d
  let h := d.host
  let h' : HostLink := { linkUp := h.linkUp && up, fnReset := under, perst := h.perst, lastFetch := h.lastFetch, fnEra := h.fnEra + 1, admitted := h.admitted,
                         resetBy := if up ∧ under then now d + 92160000 else 0, cfg := if sticky then stickyCfg h.cfg else { rate := h.cfg.rate, width := h.cfg.width } }
  weirSettle (intakeRewind (hostNotes (endMailbox { d with host := h' })))

/-- A function-level reset (R108), which completes within 92,160,000 gu. [log entry 30 DEDUCED] -/
def fnLevelReset (mid : Option (Nat × Nat)) (d : Dev) : Dev := if cfgOpen d then hostReset true true true mid d else d
/-- A hot reset: the link goes down with it (R108). [log entry 30 DEDUCED] -/
def hotReset (mid : Option (Nat × Nat)) (d : Dev) : Dev := hostReset true false false mid d
/-- PERST_n is asserted (R108, 20 R460). [log entry 30 DEDUCED] -/
def perstAssert (mid : Option (Nat × Nat)) (d : Dev) : Dev := if ballsSeen d then hostMod (fun h => { h with perst := true }) (hostReset true false false mid d) else d
/-- PERST_n is released: the link enters Detect, and the reset goes on until it completes (19 R437). [log entry 30 DEDUCED] -/
def perstRelease (d : Dev) : Dev := if ballsSeen d then hostMod (fun h => { h with perst := false }) d else d

/-- The reset completes: the link is up, retrained at a rate and width where it was down, and the two windows stand at their reset values.
 [log entry 30 DEDUCED] -/
def fnResetDone (rate width : Nat) (d : Dev) : Dev :=
  if d.host.fnReset && !d.host.perst then
    let d := if d.host.linkUp then d else pcieMod (fun c => { c with rate := rate, width := width }) d
    hostNotes (hostMod (fun h => { h with fnReset := false, linkUp := true, resetBy := 0 }) d)
  else d

/-- A function-level reset has reached its bound (R108). -/
def fnResetBound (d : Dev) : Dev := if d.host.fnReset && d.host.resetBy != 0 && due d.host.resetBy d then fnResetDone 0 0 d else d

/-- The function enters D3hot (R108). [log entries 15 PRESUMED, 30 DEDUCED] -/
def d3Enter (d : Dev) : Dev := if cfgOpen d then hostMod (fun h => { h with d3 := true }) d else d
/-- The function returns to D0 from D3hot, by a reset. [log entries 15 PRESUMED, 30 DEDUCED] -/
def d3Leave (d : Dev) : Dev := if d.host.d3 && cfgOpen d then hostReset false true false none d else d
/-- Bus Master Enable is cleared (R102, R104). [log entry 15 PRESUMED] -/
def masterOff (d : Dev) : Dev := if cfgOpen d then hostMod (fun h => { h with bme := false }) d else d
/-- Bus Master Enable is set: held entries and pending messages go out (R102, R104). [log entry 15 PRESUMED] -/
def masterOn (d : Dev) : Dev := if cfgOpen d then outRun (flushPba (hostMod (fun h => { h with bme := true }) d)) else d

/-- MSI-X Message Control (R104): Enable and Function Mask. [log entry 15 PRESUMED] -/
def msixControl (en mask : Bool) (d : Dev) : Dev := flushPba (hostMod (fun h => { h with msixEn := en, fnMask := mask }) d)

/-- A control write of the resizable BAR capability: a new BAR4 size of 2^k bytes, 1 GiB to 256 GiB; base address bits below it then read 0 (R88, R89).
 [log entry 31 DEDUCED] -/
def bar4Resize (k : Nat) (d : Dev) : Dev :=
  if within k 30 38 && cfgOpen d then { d with host := { d.host with bar4 := k, bar4Base := d.host.bar4Base / 2 ^ k * 2 ^ k } } else d

/-- A configuration request for the doubleword at `off`: a write of the bytes that `be` enables, or with none enabled a read. Message Control, Bus Master
Enable, the power state, a function-level reset and the BAR4 size act at once; during a function reset the answer is Request Retry Status (R108).
 [log entry 15 PRESUMED] -/
def cfgRequest (off be v : Nat) (d : Dev) : Dev :=
  if !cfgOpen d then d
  else if be % 16 = 0 then emit (.cfg (cfgRead off d)) d
  else
    let w := cfgMix be (cfgRead off d) v
    match off with
    | 0x004 => let d := cfgStore off be v d; if bitOf w 2 == d.host.bme then d else if bitOf w 2 then masterOn d else masterOff d
    | 0x044 => if w % 4 = 3 then d3Enter d else if w % 4 = 0 then d3Leave d else d
    | 0x058 => let d := cfgStore off be v d; if bitOf w 15 then fnLevelReset none d else d
    | 0x0B0 => if bitOf be 3 then msixControl (bitOf w 31) (bitOf w 30) d else d
    | 0x160 => if bitOf be 1 then bar4Resize (bitsOf w 13 8 + 20) d else d
    | _ => cfgStore off be v d

/-! ### Nouns (R110) -/

def subState (n : Nat) (d : Dev) : Nat := let r := subRing n d; if !r.enable then 0 else if r.stopped then 2 else if !inMastering d then 3 else 1
def cplState (n : Nat) (d : Dev) : Nat := if !(cplRing n d).enable then 0 else if outPaused d then 3 else 1
def ringStateName : Nat → String | 0 => "disabled" | 1 => "running" | 2 => "stopped" | _ => "paused"

/-- A ring's line of `show inlet` (R110). [log entry 26 DESIGN CHOICE] -/
def inletLine (n : Nat) (d : Dev) : String :=
  let r := subRing n d
  "ring " ++ dec n ++ sp "state" (ringStateName (subState n d)) ++ spn "size" (ringSize r.log2) ++ sp "head" (hex0 4 (ptrIndex r.head)) ++ spn "cq" r.cq
    ++ spn "vector" r.vector

/-- A ring's line of `show outlet` (R110). [log entry 26 DESIGN CHOICE] -/
def outletLine (n : Nat) (d : Dev) : String :=
  let r := cplRing n d
  "ring " ++ dec n ++ sp "state" (ringStateName (cplState n d)) ++ spn "size" (ringSize r.log2) ++ sp "tail" (hex0 4 (ptrIndex r.tail)) ++ spn "held" r.held.length
    ++ spn "vector" r.vector ++ spn "count" r.count ++ spn "time" r.time

def ringLines (f : Nat → Dev → String) (ring : Option Nat) (d : Dev) : List String :=
  match ring with | some n => [f n d] | none => (List.range 256).map fun n => f n d

def showRings (r : BRef) (f : Nat → Dev → String) (ring : Option Nat) (d : Dev) : Dev :=
  bcmd r (fun d => if 256 ≤ ring.getD 0 then err r "range" [] d else ok r (ringLines f ring d) d) d

/-- `set inlet ring N enable 0|1`. -/
def setInlet (r : BRef) (n en : Nat) (d : Dev) : Dev :=
  bcmd r (fun d => if 256 ≤ n ∨ 1 < en then err r "range" [] d else if en = 1 then err r "denied" [inletLine n d] d else ok r [] (subDisable n d)) d

def showBacklog (r : BRef) (d : Dev) : Dev := bcmd r (fun d => ok r [backlogLine d] d) d

/-- `set outlet ring N count C time T`. -/
def setOutlet (r : BRef) (n c t : Nat) (d : Dev) : Dev :=
  bcmd r (fun d => if 256 ≤ n ∨ !within c 1 255 ∨ 16777215 < t then err r "range" [] d else ok r [] (cplSet n { cplRing n d with count := c, time := t } d)) d

/-- `fetch outlet ring N [wait]`. -/
def fetchOutlet (r : BRef) (n : Nat) (wait : Bool) (d : Dev) : Dev :=
  bcmd r (fun d =>
    if 256 ≤ n then err r "range" [] d
    else if asleep 2 d || !(cplRing n d).enable then err r "denied" [backlogLine d] d
    else if d.host.fetchRing.isSome then err r "busy" [backlogLine d] d
    else
      let go := fun (d : Dev) => fetchRun { d with host := { d.host with fetchRing := some n, lastFetch := n } }
      if wait then go (bwait r (.other 2) d) else let d := go d; ok r [backlogLine d] d) d

/-! ### The two windows (R109) -/

def inlRegRead (off : Nat) (d : Dev) : RegR :=
  if 0x10000 ≤ off ∧ off < 0x12000 then
    let n := (off - 0x10000) / 32
    let r := subRing n d
    match off % 32 with
    | 0 => rval r.baseLo.toNat d | 4 => rval r.baseHi.toNat d
    | 8 => rval (at' (b2n r.enable) 31 + at' (r.log2 % 16) 24 + at' r.cq 16 + r.vector) d
    | 12 => rval r.head d
    | 16 => rval (subState n d) d
    | _ => none
  else if 0x80000 ≤ off ∧ off < 0x80400 then rval 0 d
  else match off with
    | 0x00 => rnote 1 d | 0x04 => rnoteEn 1 d
    | 0x08 => rcnt 16 d | 0x0C => rcnt 17 d | 0x10 => rcnt 18 d
    | _ => none

def inlRegWrite (off v : Nat) (d : Dev) : Option Dev :=
  if 0x10000 ≤ off ∧ off < 0x12000 then
    let n := (off - 0x10000) / 32
    match off % 32 with
    | 0 => some (subBase n 0 v d) | 4 => some (subBase n 1 v d)
    | 8 => some (subCtl n v d)
    | _ => (inlRegRead off d).map fun _ => d
  else if 0x80000 ≤ off ∧ off < 0x80400 then some (doorbell ((off - 0x80000) / 4) v d)
  else match off with
    | 0x00 => wnote 1 7 v d | 0x04 => wnoteEn 1 7 v d
    | _ => (inlRegRead off d).map fun _ => d

def outRegRead (off : Nat) (d : Dev) : RegR :=
  if 0x10000 ≤ off ∧ off < 0x12000 then
    let n := (off - 0x10000) / 32
    let r := cplRing n d
    match off % 32 with
    | 0 => rval r.baseLo.toNat d | 4 => rval r.baseHi.toNat d
    | 8 => rval (at' (b2n r.enable) 31 + at' (r.log2 % 16) 24 + r.vector) d
    | 12 => rval (at' r.count 24 + r.time) d
    | 16 => rval r.tail d
    | 20 => rval (at' (min r.held.length 65535) 16 + cplState n d) d
    | _ => none
  else if 0x80000 ≤ off ∧ off < 0x80400 then let r := cplRing ((off - 0x80000) / 4) d; rval r.head d
  else match off with
    | 0x00 => rnote 2 d | 0x04 => rnoteEn 2 d
    | 0x08 => rcnt 32 d | 0x0C => rcnt 33 d | 0x10 => rcnt 34 d | 0x14 => rcnt 35 d
    | 0x18 => rval (orphans d).length d
    | 0x1C => rval 0 d
    | 0x20 => rval (at' (b2n d.host.fetchRing.isSome) 31 + d.host.fetchRing.getD d.host.lastFetch) d
    | _ => none

def outRegWrite (off v : Nat) (d : Dev) : Option Dev :=
  if 0x10000 ≤ off ∧ off < 0x12000 then
    let n := (off - 0x10000) / 32
    match off % 32 with
    | 0 => some (cplBaseWrite n 0 v d) | 4 => some (cplBaseWrite n 1 v d)
    | 8 => some (cplCtl n v d)
    | 12 => some (cplMod n v d)
    | _ => (outRegRead off d).map fun _ => d
  else if 0x80000 ≤ off ∧ off < 0x80400 then some (cplHead ((off - 0x80000) / 4) v d)
  else match off with
    | 0x00 => wnote 2 15 v d | 0x04 => wnoteEn 2 15 v d
    | 0x1C => some (bklFetch v d)
    | _ => (outRegRead off d).map fun _ => d

/-! ### Attestation (R106) -/

/-- Codes of SPDM requests and their responses are DSP0274's. [log entry 16 PRESUMED] -/
def spdmError : Nat := 0x7F

/-- 48 or 96 bytes that the spec does not give: of a certificate chain, a signature. [log entries 5 DESIGN CHOICE, 16 PRESUMED] -/
def openBytes (n : Nat) (d : Dev) : List Byte × Dev := let (v, d) := draw d; (toBe n v, d)

/-- The digests a GET_MEASUREMENTS request of operation `op` is answered with. [log entry 6 DESIGN CHOICE] -/
def measures (op : Nat) (d : Dev) : List Byte :=
  if op = 0 then [6]
  else if op = 0xFF then (List.range 6).flatMap fun i => BitVec.ofNat 8 (i + 1) :: measure (i + 1) d
  else BitVec.ofNat 8 op :: measure op d

/-- Part of the certificate chain of slot 0 that a GET_CERTIFICATE request names by offset and length: the portion's length, what remains, and the bytes. -/
def certPart (q : List Byte) (d : Dev) : List Byte :=
  let c := Sys2Proof.Config.certChain d.fuse.romver
  let o := fieldLe q 4 2
  let n := min (fieldLe q 6 2) (c.length - o)
  toLe 2 n ++ toLe 2 (c.length - o - n) ++ slice c o n

/-- The response to an SPDM request: its code and body. A request other than GET_VERSION is of version 1.2 or 1.3. [log entry 16 PRESUMED] -/
def spdmAnswer (q : List Byte) (d : Dev) : Nat × List Byte × Dev :=
  let v := fieldLe q 0 1
  if fieldLe q 1 1 ≠ 0x84 ∧ v ≠ 0x12 ∧ v ≠ 0x13 then (spdmError, [], d)
  else match fieldLe q 1 1 with
  | 0x84 => (0x04, [2, 0x12, 0x13], d)
  | 0xE1 => (0x61, toLe 4 0x16, d)
  | 0xE3 => if bitOf (fieldLe q 8 4) 7 && bitOf (fieldLe q 12 4) 1 then (0x63, toLe 4 4 ++ toLe 4 0x80 ++ toLe 4 2, d) else (spdmError, [], d)
  | 0x81 => (0x01, 1 :: sha384 (Sys2Proof.Config.certChain d.fuse.romver), d)
  | 0x82 => if fieldLe q 2 1 % 16 = 0 then (0x02, certPart q d, d) else (spdmError, [], d)
  | 0x83 => if fieldLe q 2 1 % 16 = 0 then (let (b, d) := openBytes 96 d; (0x03, b, d)) else (spdmError, [], d)
  | 0xE0 =>
    let op := fieldLe q 3 1
    if op = 0 ∨ op = 0xFF ∨ op < 7 then
      let m := measures op d
      if bitOf (fieldLe q 2 1) 0 then (let (b, d) := openBytes 96 d; (0x60, m ++ b, d)) else (0x60, m, d)
    else (spdmError, [], d)
  | _ => (spdmError, [], d)

/-- DOE Discovery: the protocol of an index, and the next index. [log entry 16 PRESUMED] -/
def doeDiscovery (q : List Byte) : List Byte :=
  match fieldLe q 0 1 with
  | 0 => [1, 0, 0, 1]
  | 1 => [1, 0, 1, 0]
  | _ => [0xFF, 0xFF, 0, 0]

/-- An object arrives through DOE, DOE Discovery or CMA/SPDM: its response leaves, and waits to be read. [log entry 16 PRESUMED] -/
def spdmRequest (discovery : Bool) (q : List Byte) (d : Dev) : Dev :=
  if !cfgOpen d then d
  else
    let (c, b, d) := if discovery then (0, doeDiscovery q, d) else spdmAnswer q d
    emit (.doe c b) (hostMod (fun h => { h with doeOpen := some (BitVec.ofNat 8 c :: b) }) d)

def doeAbort (d : Dev) : Dev := hostMod (fun h => { h with doeOpen := none }) d

end Sys2Proof.Machine
end

