-- ==== Sys2Proof/Machine/SluCmds.lean ====
section
/-!
DEFINITION. Machine/SluCmds.lean: what reaches a Sluice from its ports and from software (06): words, reads, drops, the stall bound, pointer
mismatches, settings, and the sluice noun; and the Sluice status window.
-/
namespace Sys2Proof.Machine

/-- A port of an assigned Sluice whose unit serves. -/
def sluPort (n u : Nat) (d : Dev) : Bool := sluOk d.fuse.variant n && userves u d

/-- A packet's first word in Sluice 76 + j carries where the switch sends it, which the spec does not place in it: a free value. [log entry 5 DESIGN CHOICE] -/
def jettyWord (n : Nat) (first : Bool) (d0 d : Dev) : Dev :=
  if first && decide (76 ≤ n) && decide (n < 140) && decide ((slu n d0).words.length < (slu n d).words.length) then
    let (x, d) := draw d
    let p : JPkt := { dest := x % 65536, src := d.jetty.node, cls := x / 65536 % 4, data := [] }
    sluMod n (fun s => { s with words := s.words.dropLast ++ (s.words.drop (s.words.length - 1)).map fun w => { w with jm := metaOf p } }) d
  else d

/-- A 69th word of a packet in Sluice 76 + j is a framing error (16 R346). -/
def jettyLong (n : Nat) (first bad : Bool) (d : Dev) : Bool :=
  let s := slu n d
  decide (76 ≤ n) && decide (n < 140) && !first && s.opened && !s.absorb && !bad && decide (68 ≤ s.openN)

/-- A producer port writes a word (R112, R115). -/
def portWrite (n : Nat) (data : List Byte) (first last : Bool) (valid : Nat) (bad : Bool) (d : Dev) : Dev :=
  if sluPort n (sluProducer n) d then
    if jettyLong n first bad d then jettyGerr (raise 7 1 (sluBad n d))
    else jettyWord n first d (sluWrite n data first last valid bad d)
  else d

/-- A consumer port reads (R116): a completed read's word leaves the block's Sluice, and is shown. -/
def portRead (n : Nat) (d : Dev) : Dev :=
  if sluPort n (sluConsumer n) d then
    match sluRead n d with
    | (some r, d) => emit (.sluice r.data r.first r.last r.still r.abort r.valid) d
    | (none, d) => d
  else d

/-- A consumer port drops the rest of its packet (R121). -/
def portDrop (n : Nat) (d : Dev) : Dev := if sluPort n (sluConsumer n) d then sluDrop n d else d

/-- A packet open without progress for SLU_STALL turns bad (R119). -/
def sluStall (n : Nat) (d : Dev) : Dev :=
  let s := slu n d
  if sluOk d.fuse.variant n && s.opened && due (s.lastAt + d.slu.stall) d then raise 7 3 (sluBad n d) else d

/-- The duplicated pointers of a Sluice disagree (R126): it is reset from the next tick on. -/
def sluMismatch (n : Nat) (d : Dev) : Dev :=
  if sluOk d.fuse.variant n then
    let d := sluMod n (fun s => { s with resetT := 9 }) (raise 7 0 d)
    let d := { d with slu := { d.slu with ptrLast := n } }
    if n = 0 ∨ n = 1 ∨ n = 140 ∨ n = 141 then aerCorrected d else d
  else d

/-- The last tick of the reset has passed: the producer's remaining words are absorbed. -/
def sluResetEnd (n : Nat) (d : Dev) : Dev :=
  if (slu n d).resetT = 1 then sluMod n (fun s => { s with resetT := 0, absorb := s.absorb || s.opened }) d else d

/-! ### Settings (R123, R127) -/

/-- Settings of a Sluice as software gives them. -/
structure SluSet where
  cap : Nat
  res : Nat
  ct  : Nat
  ovf : Bool
  deriving DecidableEq, Repr

def sluSettings (s : Sluice) : SluSet := { cap := s.cap, res := s.res, ct := s.ct, ovf := s.ovf }

/-- The conditions of R123. -/
def sluSetOk (n : Nat) (x : SluSet) (d : Dev) : Bool :=
  let s := slu n d
  let all := sluAll d.fuse.variant
  let resOf := fun (m : Nat) => if m = n then x.res else (slu m d).res
  let capOf := fun (m : Nat) => if m = n then x.cap else (slu m d).cap
  decide (x.res ≤ x.cap) && decide (1 ≤ x.res) && decide (x.res ≤ 32)
    && (if x.ct = 0 then decide (17 ≤ x.cap) else decide (x.ct + 1 ≤ 64 * x.cap))
    && (decide (x.cap ≤ 1024) || x.ovf) && (x.ovf == s.ovf || n == 142)
    && decide (all.foldl (fun (a m : Nat) => a + resOf m) 0 ≤ 896)
    && decide ((all.filter fun m => sluClass m == 3 && decide (resOf m < capOf m)).length ≤ 192)
    && (!(decide (4 ≤ n) && decide (n < 12)) || (x.cap == s.cap && x.res == s.res))
    && (decide (x.res ≤ s.res) || decide (x.res - s.res ≤ poolFree d))
    && (x.res == s.res || s.words.isEmpty)

/-- Put settings in force. -/
def sluSetPut (n : Nat) (x : SluSet) (d : Dev) : Dev := sluMod n (fun s => { s with cap := x.cap, res := x.res, ct := x.ct, ovf := x.ovf }) d

/-- Marks: LO less than HI. -/
def sluMarkOk (hi lo : Nat) : Bool := decide (lo < hi) && decide (hi ≤ 65535)

/-- CT and CAP fit the fields of SLU_CFGn and SLU_CAPn. -/
def sluSetFits (x : SluSet) : Bool := decide (x.ct < 1024) && decide (x.cap < 1048576)

/-- SLU_CFGn. -/
def sluCfgWrite (n v : Nat) (d : Dev) : Dev :=
  let s := slu n d
  let x := { sluSettings s with res := bitsOf v 21 16, ct := bitsOf v 9 0, ovf := if n = 142 then bitOf v 29 else s.ovf }
  if sluSetOk n x d then setEn (1000 + n) (BitVec.ofNat 8 (2 * bitsOf v 31 31 + 4 * bitsOf v 30 30)) (sluSetPut n x d) else badacc d

/-- SLU_CAPn. -/
def sluCapWrite (n v : Nat) (d : Dev) : Dev :=
  let x := { sluSettings (slu n d) with cap := bitsOf v 19 0 }
  if sluSetOk n x d then sluSetPut n x d else badacc d

/-- SLU_MARKn. -/
def sluMarkWrite (n v : Nat) (d : Dev) : Dev :=
  if sluMarkOk (v / 65536) (v % 65536) then sluMod n (fun s => { s with hi := v / 65536, lo := v % 65536 }) d else badacc d

/-- A write of SLU_CFGn, or of SLU_CAPn, of an assigned Sluice (R123). -/
def sluConfig (n : Nat) (cap : Bool) (v : W32) (d : Dev) : Dev :=
  if sluOk d.fuse.variant n then (if cap then sluCapWrite n v.toNat d else sluCfgWrite n v.toNat d) else badacc d

/-! ### The sluice noun (R134) -/

def sluListLine (n : Nat) (d : Dev) : String :=
  "sluice " ++ dec n ++ " " ++ dec (sluProducer n) ++ ">" ++ dec (sluConsumer n) ++ " class " ++ dec (sluClass n) ++ " occ " ++ dec (sluOcc n d)
    ++ " cap " ++ dec (slu n d).cap ++ " level " ++ dec (b2n (slu n d).level)

def sluShowLine (n : Nat) (d : Dev) : String :=
  let s := slu n d
  let b := noteGet (1000 + n) d
  let f := fun (k : String) (v : Nat) => " " ++ k ++ " " ++ dec v
  "sluice " ++ dec n ++ f "prod" (sluProducer n) ++ f "cons" (sluConsumer n) ++ f "class" (sluClass n) ++ f "boundary" (b2n (sluBoundary n)) ++ f "cap" s.cap
    ++ f "res" s.res ++ f "ct" s.ct ++ f "hi" s.hi ++ f "lo" s.lo ++ f "occ" s.words.length ++ f "level" (b2n s.level) ++ f "up" (b2n (b.en.getLsbD 1))
    ++ f "down" (b2n (b.en.getLsbD 2)) ++ f "cup" (b2n (b.bits.getLsbD 1)) ++ f "cdown" (b2n (b.bits.getLsbD 2)) ++ f "cross" (ctrVal 255 (kSlu n 3) d)
    ++ f "rewind" (ctrVal 65535 (kSlu n 0) d) ++ f "drop" (ctrVal 65535 (kSlu n 1) d) ++ f "abort" (ctrVal 65535 (kSlu n 2) d)

/-- Why a Sluice number cannot be named: unassigned, or of an ABSENT unit. -/
def sluNameErr (n : Nat) (d : Dev) : Option String :=
  if !sluListed n then some "range" else if sluOk d.fuse.variant n then none else some "absent"

/-- `list sluice`. -/
def listSluice (r : BRef) (d : Dev) : Dev := bcmd r (fun d => ok r ((sluAll d.fuse.variant).map fun n => sluListLine n d) d) d

/-- `show sluice N`. -/
def showSluice (r : BRef) (n : Nat) (d : Dev) : Dev :=
  bcmd r (fun d => match sluNameErr n d with | some e => err r e [] d | none => ok r [sluShowLine n d] d) d

/-- `set sluice N …`: all given values as one change. -/
def setSluice (r : BRef) (n : Nat) (cap res ct hi lo : Option Nat) (up down : Option Bool) (d : Dev) : Dev :=
  bcmd r (fun d =>
    match sluNameErr n d with
    | some e => err r e [] d
    | none =>
      let s := slu n d
      if 4 ≤ n ∧ n < 12 ∧ (cap.isSome ∨ res.isSome) then err r "denied" [] d
      else if res.isSome ∧ ¬ s.words.isEmpty then err r "busy" [] d
      else
        let x := { sluSettings s with cap := cap.getD s.cap, res := res.getD s.res, ct := ct.getD s.ct }
        let h := hi.getD s.hi
        let l := lo.getD s.lo
        if sluSetFits x ∧ sluSetOk n x d ∧ sluMarkOk h l then
          let e := (noteGet (1000 + n) d).en
          let en := 2 * b2n (up.getD (e.getLsbD 1)) + 4 * b2n (down.getD (e.getLsbD 2))
          ok r [] (setEn (1000 + n) (BitVec.ofNat 8 en) (sluMod n (fun s => { s with hi := h, lo := l }) (sluSetPut n x d)))
        else err r "range" [] d) d

/-- Clear a counter. -/
def ctrZero (k : Nat) (d : Dev) : Dev := let c := ctrGet k d; ctrSet k { c with old := 0 } d

/-- `clear sluice N`. -/
def clearSluice (r : BRef) (n : Nat) (d : Dev) : Dev :=
  bcmd r (fun d =>
    match sluNameErr n d with
    | some e => err r e [] d
    | none => ok r [] (forN 4 (fun i d => ctrZero (kSlu n i) d) (clearBits (1000 + n) 6 d))) d

/-! ### The Sluice status window (R133) -/

/-- SLU_PENDk. -/
def sluPend (k : Nat) (d : Dev) : Nat := (List.range 32).foldl (fun a i => if notePend (1000 + 32 * k + i) d then a + 2 ^ i else a) 0

/-- SLU_MAPn. -/
def sluMap (n : Nat) : Nat := at' (b2n (sluBoundary n)) 23 + at' (sluClass n) 21 + at' (sluProducer n) 14 + at' (sluConsumer n) 7 + 1

def sluRegRead (off : Nat) (d : Dev) : RegR :=
  if off < 0x10000 then
    match off with
    | 0x00 => rnote 7 d
    | 0x04 => rnoteEn 7 d
    | 0x08 => rcnt 112 d | 0x0C => rcnt 113 d | 0x10 => rcnt 114 d | 0x14 => rcnt 115 d
    | 0x18 => rval (poolFree d) d
    | 0x1C => rval (ovfUse d) d
    | 0x20 => rval d.slu.stall d
    | 0x24 => rval d.slu.ptrLast d
    | _ => if 0x40 ≤ off ∧ off < 0x60 then rval (sluPend ((off - 0x40) / 4) d) d else none
  else
    let n := (off - 0x10000) / 64
    if !sluOk d.fuse.variant n then none
    else
      let s := slu n d
      let b := noteGet (1000 + n) d
      match off % 64 with
      | 0x00 => rval (at' (b2n (b.en.getLsbD 1)) 31 + at' (b2n (b.en.getLsbD 2)) 30 + at' (b2n s.ovf) 29 + at' s.res 16 + s.ct) d
      | 0x04 => rval s.cap d
      | 0x08 => rval (at' s.hi 16 + s.lo) d
      | 0x0C => let (x, d) := ctrRc 255 (kSlu n 3) d; rval (at' x 8 + (b.bits.toNat &&& 6) + b2n s.level) d
      | 0x10 => rval s.words.length d
      | 0x14 => rval (sluMap n) d
      | 0x18 => rcnt (kSlu n 0) d | 0x1C => rcnt (kSlu n 1) d | 0x20 => rcnt (kSlu n 2) d
      | _ => none

def sluRegWrite (off v : Nat) (d : Dev) : Option Dev :=
  if off < 0x10000 then
    match off with
    | 0x00 => wnote 7 15 v d
    | 0x04 => wnoteEn 7 15 v d
    | 0x08 => wro d | 0x0C => wro d | 0x10 => wro d | 0x14 => wro d | 0x18 => wro d | 0x1C => wro d | 0x24 => wro d
    | 0x20 => wif (decide (92160 ≤ v) && decide (v ≤ 92160000)) (fun d => { d with slu := { d.slu with stall := v } }) d
    | _ => if 0x40 ≤ off ∧ off < 0x60 then wro d else none
  else
    let n := (off - 0x10000) / 64
    if !sluOk d.fuse.variant n then none
    else match off % 64 with
      | 0x00 => some (sluCfgWrite n v d)
      | 0x04 => some (sluCapWrite n v d)
      | 0x08 => some (sluMarkWrite n v d)
      | 0x0C => some (clearBits (1000 + n) (BitVec.ofNat 8 (v % 8 &&& 6)) d)
      | 0x10 => wro d | 0x14 => wro d | 0x18 => wro d | 0x1C => wro d | 0x20 => wro d
      | _ => none

end Sys2Proof.Machine
end

