-- ==== Sys2Proof/Machine/UnitCmds.lean ====
section
/-!
DEFINITION. Machine/UnitCmds.lean: the unit noun (03 R58) and the Unit Directory window (R55 to R57).
-/
namespace Sys2Proof.Machine

/-- A state name in lower case. -/
def stateOfName (t : String) : Option UState :=
  [UState.absent, .off, .ice, .waking, .ready, .draining, .faulted, .updating].find? fun s => (uStateName s).toLower == t

/-- `list unit [state S]`. -/
def listUnit (r : BRef) (st : Option String) (d : Dev) : Dev :=
  bcmd r (fun d =>
    let all := (List.range 100).filter uAssigned
    match st with
    | none => ok r (all.map fun n => unitListLine n d) d
    | some t => match stateOfName t with
      | none => err r "range" [] d
      | some s => ok r ((all.filter fun n => ustate n d == s).map fun n => unitListLine n d) d) d

/-- `show unit N`. -/
def showUnit (r : BRef) (n : Nat) (d : Dev) : Dev :=
  bcmd r (fun d => if uAssigned n then ok r [unitShowLine n d] d else err r "range" [] d) d

/-- `on`, `off` and `reset unit N [gen G] [wait]`. -/
def unitLine (r : BRef) (a n : Nat) (gen : Option Nat) (wait : Bool) (d : Dev) : Dev := settle (bcmd r (unitCmd r a n gen wait none) d)

/-- A request through UDIR_REQ. -/
def udirWord (act unit gen tag : Nat) : Nat := at' (gen % 65536) 16 + at' (tag % 16) 12 + at' act 8 + unit % 128

def udirReq (act unit gen tag : Nat) (d : Dev) : Dev := udirWrite (udirWord act unit gen tag) d

/-! ### The window -/

/-- 1s written clear bits of UDIR_CHGMAPk, but for those set in this tick (02 R31). -/
def chgClear (k v : Nat) (d : Dev) : Dev :=
  foldSt ((List.range 32).filter fun i => bitOf v i && !tabGet (fun _ => false) d.udir.chgset (32 * k + i)) (fun i d =>
    { d with udir := { d.udir with chgmap := tabSet (fun _ => false) d.udir.chgmap (32 * k + i) false } }) d

def chgRead (k : Nat) (d : Dev) : Nat :=
  (List.range 32).foldl (fun a i => if tabGet (fun _ => false) d.udir.chgmap (32 * k + i) then a + 2 ^ i else a) 0

/-- UDIR_UNITn. -/
def unitReg (n : Nat) (d : Dev) : Nat :=
  let e := uent n d
  let pend := match e.pend with | some a => a.code | none => 0
  if !uAssigned n then 0
  else at' e.gen.toNat 16 + at' e.cause.code 12 + at' pend 8 + at' (b2n (dataReq n)) 7 + at' (b2n !(uPresent d.fuse.variant n)) 6 + 32 + e.state.code

/-- The bound registers of unit n take writes (R57). -/
def boundHas (n : Nat) (d : Dev) : Bool := uPresent d.fuse.variant n && n != 0 && n != 98

def boundWrite (drain : Bool) (n v : Nat) (d : Dev) : Dev :=
  if boundHas n d && within v 9216 92160000 then
    if drain then { d with udir := { d.udir with drain := tabSet drainDef d.udir.drain n v } }
    else { d with udir := { d.udir with wake := tabSet wakeDef d.udir.wake n v } }
  else badacc d

def udirRegRead (off : Nat) (d : Dev) : RegR :=
  if 0x100 ≤ off ∧ off < 0x300 then rval (unitReg ((off - 0x100) / 4) d) d
  else if 0x300 ≤ off ∧ off < 0x500 then rval (drainBound ((off - 0x300) / 4) d) d
  else if 0x500 ≤ off ∧ off < 0x700 then rval (wakeBound ((off - 0x500) / 4) d) d
  else if 0x20 ≤ off ∧ off < 0x30 then rval (chgRead ((off - 0x20) / 4) d) d
  else match off with
    | 0x00 => rval 0 d
    | 0x04 => rval d.udir.resp.toNat d
    | 0x08 => rnote 0 d | 0x0C => rnoteEn 0 d
    | 0x10 => rcnt 0 d | 0x14 => rcnt 1 d
    | _ => none

def udirRegWrite (off v : Nat) (d : Dev) : Option Dev :=
  if 0x300 ≤ off ∧ off < 0x500 then some (boundWrite true ((off - 0x300) / 4) v d)
  else if 0x500 ≤ off ∧ off < 0x700 then some (boundWrite false ((off - 0x500) / 4) v d)
  else if 0x20 ≤ off ∧ off < 0x30 then some (chgClear ((off - 0x20) / 4) v d)
  else match off with
    | 0x00 => some (settle (udirWrite v d))
    | 0x08 => wnote 0 3 v d | 0x0C => wnoteEn 0 3 v d
    | _ => (udirRegRead off d).map fun _ => d

end Sys2Proof.Machine
end

