-- ==== Sys2Proof/Machine/WellCmds.lean ====
section
/-!
DEFINITION. Machine/WellCmds.lean: the audio noun (15 R337) and the Wellhead window (R336).
-/
namespace Sys2Proof.Machine

/-- A register access of the Wellhead on a variant without it is discarded and counted (03 R54). -/
def wellReg (f : Dev → Dev) (d : Dev) : Dev := if wellHere d then f d else badacc d

/-! ### Register fields -/

/-- A map as written takes its place; the inputs it names power up where the listen state powers them (R319). -/
def wellMapSet (c : Nat) (x : WChan) (d : Dev) : Dev :=
  wellMod (fun w => wPower (now d) { w with map := tabSet (fun _ => {}) w.map c x }) d

/-- RATE, FLEN and STREAM of WELL_CFG. -/
def wellForm (rate flen stream : Nat) (d : Dev) : Dev := wellMod (fun w => { w with rate := rate, flen := flen, stream := stream }) d

/-- A LISTEN value a write takes (R325). -/
def listenOk (v : Nat) (d : Dev) : Bool := decide (v < 3) && (v != 1 || hasRipple d.well)

/-- A write of WELL_CFG (R336). [log entry 47 DEDUCED] -/
def wellCfgWrite (v : Nat) (d : Dev) : Dev :=
  let l := bitsOf v 5 4
  if listenOk l d then listenWrite l (lmicWrite (bitsOf v 10 8) (wellForm (bitsOf v 1 0) (bitsOf v 2 2) (bitsOf v 27 16) d)) else badacc d

def wellChmapWrite (v : Nat) (d : Dev) : Dev :=
  wellMod (fun w => wPower (now d) (forN 8 (fun c w =>
    { w with map := tabSet (fun _ => {}) w.map c { en := bitOf v (4 * c + 3), inp := bitsOf v (4 * c + 2) (4 * c) } }) w)) d

def wellInWrite (n gain bias : Nat) (d : Dev) : Dev :=
  if 28 < gain ∨ 2 < bias then badacc d else wellMod (fun w => wInSet n { wIn n w with gain := gain, bias := bias } w) d

def wellBiasWrite (v : Nat) (d : Dev) : Dev :=
  if 10 < bitsOf v 3 0 ∨ 10 < bitsOf v 11 8 then badacc d
  else wellMod (fun w => { w with supA := wSupplyWrite (bitsOf v 3 0) (bitOf v 16) w.supA, supB := wSupplyWrite (bitsOf v 11 8) (bitOf v 17) w.supB }) d

def wellSeep2Write (v : Nat) (d : Dev) : Dev :=
  if bitsOf v 19 16 = 0 ∨ bitsOf v 31 24 = 0 then badacc d
  else wellMod (fun w => { w with zmin := bitsOf v 7 0, zmax := bitsOf v 15 8, ntrig := bitsOf v 19 16, hang := bitsOf v 31 24 }) d

def wellRctlWrite (v : Nat) (d : Dev) : Dev :=
  if bitsOf v 7 0 = 0 then badacc d else wellMod (fun w => { w with rtime := bitsOf v 7 0, whang := bitsOf v 23 8 }) d

def wellTtlWrite (v : Nat) (d : Dev) : Dev := if within v 1000 1000000 then wellMod (fun w => { w with openttl := v }) d else badacc d

/-- The base of the audio area, written while it is disabled (R333, 05 R92). -/
def wellAbaseWrite (hi : Bool) (v : Nat) (d : Dev) : Dev :=
  if d.well.aEn then badacc d
  else if hi then wellMod (fun w => { w with abaseHi := BitVec.ofNat 32 v }) d
  else wellMod (fun w => { w with abaseLo := BitVec.ofNat 32 (v / 16384 * 16384) }) d

/-- WELL_ACTL, under the enable rules of a ring (R333, 05 R92). -/
def wellActlWrite (v : Nat) (d : Dev) : Dev :=
  let en := bitOf v 31
  let l := bitsOf v 27 24
  let cq := bitsOf v 7 0
  let w := d.well
  if l < 4 ∨ 12 < l then badacc d
  else if w.aEn then (if l ≠ w.aL ∨ cq ≠ w.aCq then badacc d else wellSet { w with aEn := en } d)
  else if en ∧ ¬ (cplRing cq d).enable then badacc (wellSet { w with aL := l, aCq := cq } d)
  else wellSet { w with aEn := en, aL := l, aCq := cq } d

/-- WELL_CTL: DRAIN in bit 0, FORGET in bit 1. -/
def wellCtlWrite (v : Nat) (d : Dev) : Dev :=
  let d := if bitOf v 0 then (wellDrainAsk d).2 else d
  if bitOf v 1 then wellForget d else d

/-! ### The window -/

/-- WELL_CFG with this value of LISTEN. -/
def wellCfgWord (listen : Nat) (w : Well) : Nat :=
  at' w.stream 16 + at' (if hasRipple w then wpRfset w.pack else 0) 12 + at' w.lmic 8 + at' listen 4 + at' w.flen 2 + w.rate

def listenWord (v : Nat) (d : Dev) : Nat := wellCfgWord (v % 4) d.well

def wellRegRead (off : Nat) (d : Dev) : RegR :=
  let w := d.well
  if 0x100 ≤ off ∧ off < 0x120 then let i := wIn ((off - 0x100) / 4) w; rval (at' i.bias 8 + i.gain) d
  else match off with
    | 0x00 => rnote 30 d | 0x04 => rnoteEn 30 d
    | 0x08 => rcnt 480 d | 0x0C => rcnt 481 d | 0x10 => rcnt 482 d | 0x14 => rcnt 483 d | 0x18 => rcnt 484 d | 0x1C => rcnt 485 d | 0x20 => rcnt 486 d
    | 0x24 => rval (wellCfgWord w.listen w) d
    | 0x28 => rval ((List.range 8).foldl (fun a c => a + at' (at' (b2n (wMap c w).en) 3 + (wMap c w).inp) (4 * c)) 0) d
    | 0x2C => rval (at' (b2n w.supB.flt) 21 + at' (b2n w.supA.flt) 20 + at' (b2n w.supB.on) 17 + at' (b2n w.supA.on) 16 + at' w.supB.v 8 + w.supA.v) d
    | 0x30 => rval w.ethr d
    | 0x34 => rval (at' w.hang 24 + at' w.ntrig 16 + at' w.zmax 8 + w.zmin) d
    | 0x38 => rval w.rthr.toNat d
    | 0x3C => rval (at' w.whang 8 + w.rtime) d
    | 0x40 => rval w.openttl d
    | 0x44 => rval 0 d
    | 0x48 => rval (at' w.ring.length 16 + at' ((List.range 8).foldl (fun a n => a + at' (b2n (wIn n w).powered) n) 0) 8 + at' (b2n w.gate) 3 + w.lstate.code) d
    | 0x4C => rval (at' (b2n !w.pack.isEmpty) 31 + at' (wpNfset w.pack) 24 + (if hasRipple w then wpMacs w.pack else 0)) d
    | 0x50 => rval w.abaseLo.toNat d
    | 0x54 => rval w.abaseHi.toNat d
    | 0x58 => rval (at' (b2n w.aEn) 31 + at' w.aL 24 + w.aCq) d
    | _ => none

def wellRegWrite (off v : Nat) (d : Dev) : Option Dev :=
  if 0x100 ≤ off ∧ off < 0x120 ∧ off % 4 = 0 then some (wellInWrite ((off - 0x100) / 4) (bitsOf v 4 0) (bitsOf v 9 8) d)
  else match off with
    | 0x00 => wnote 30 127 v d | 0x04 => wnoteEn 30 127 v d
    | 0x24 => some (wellCfgWrite v d) | 0x28 => some (wellChmapWrite v d) | 0x2C => some (wellBiasWrite v d)
    | 0x30 => some (wellMod (fun w => { w with ethr := v }) d)
    | 0x34 => some (wellSeep2Write v d)
    | 0x38 => some (wellMod (fun w => { w with rthr := BitVec.ofNat 32 v }) d)
    | 0x3C => some (wellRctlWrite v d) | 0x40 => some (wellTtlWrite v d) | 0x44 => some (wellCtlWrite v d)
    | 0x50 => some (wellAbaseWrite false v d) | 0x54 => some (wellAbaseWrite true v d) | 0x58 => some (wellActlWrite v d)
    | _ => (wellRegRead off d).map fun _ => d

/-! ### The noun (R337) -/

/-- A command of the audio noun: absent on a variant without the Wellhead, before anything else. [log entry 47 DEDUCED] -/
def audio (r : BRef) (f : Dev → Dev) (d : Dev) : Dev := bcmd r (fun d => if wellHere d then f d else err r "absent" [] d) d

/-- The words for the listen state. [log entry 26 DESIGN CHOICE] -/
def lstateName : LState → String
  | .off => "OFF" | .seep => "SEEP" | .ripple => "RIPPLE" | .opened => "OPENED" | .awake => "AWAKE" | .capture => "CAPTURE"
def rateName : Nat → String | 0 => "16k" | 1 => "24k" | 2 => "32k" | _ => "48k"
def listenName : Nat → String | 0 => "off" | 1 => "wake" | _ => "capture"
def biasName : Nat → String | 0 => "none" | 1 => "a" | _ => "b"

/-- The line of `show audio` (R337). [log entry 26 DESIGN CHOICE] -/
def audioLine (d : Dev) : String :=
  let w := d.well
  "audio state " ++ lstateName w.lstate ++ spn "gate" (b2n w.gate) ++ sp "listen" (listenName w.listen) ++ spn "mic" w.lmic ++ sp "rate" (rateName w.rate)
    ++ sp "flen" (if w.flen = 0 then "10ms" else "20ms") ++ spn "stream" w.stream ++ spn "ring" w.ring.length ++ spn "pack" (b2n !w.pack.isEmpty)
    ++ spn "wakes" (ctrVal 65535 480 d) ++ spn "rejects" (ctrVal 65535 481 d) ++ spn "denied" (ctrVal 65535 482 d)

def inLine (n : Nat) (w : Well) : String :=
  let i := wIn n w
  "in " ++ dec n ++ sp "gain" (decP 1 (15 * i.gain) ++ "dB") ++ sp "bias" (biasName i.bias) ++ spn "powered" (b2n i.powered)

def supLine (name : String) (s : WSupply) (on : Bool) : String :=
  "bias " ++ name ++ sp "volts" (decP 1 (18 + s.v)) ++ spn "on" (b2n on) ++ spn "fault" (b2n s.flt)

/-- A channel's line of `show audio` (R337). [log entry 26 DESIGN CHOICE] -/
def chanLine (c : Nat) (w : Well) : String := if (wMap c w).en then "chan " ++ dec c ++ spn "in" (wMap c w).inp else "chan " ++ dec c ++ " off"

/-- `show audio`. -/
def showAudio (r : BRef) (d : Dev) : Dev :=
  audio r (fun d =>
    let w := d.well
    ok r ([audioLine d] ++ ((List.range 8).map fun n => inLine n w) ++ [supLine "A" w.supA (wSupplyOn 1 w), supLine "B" w.supB (wSupplyOn 2 w)]
      ++ (List.range 8).map fun c => chanLine c w) d) d

/-- `set audio [rate] [flen] [listen] [mic] [stream]`: WELL_CFG with the fields it names. [log entry 47 DEDUCED] -/
def setAudio (r : BRef) (rate flen listen mic stream : Option Nat) (d : Dev) : Dev :=
  audio r (fun d =>
    let w := d.well
    if 4 ≤ rate.getD 0 ∨ 2 ≤ flen.getD 0 ∨ 3 ≤ listen.getD 0 ∨ 8 ≤ mic.getD 0 ∨ 4096 ≤ stream.getD 0 then err r "range" [] d
    else if listenOk (listen.getD 0) d = false then err r "denied" [audioLine d] d
    else
      let d := lmicWrite (mic.getD w.lmic) (wellForm (rate.getD w.rate) (flen.getD w.flen) (stream.getD w.stream) d)
      ok r [] (match listen with | some l => listenWrite l d | none => d)) d

/-- `set audio in N [gain G] [bias a/b/none]`; the gain in tenths of a dB. [log entry 47 DEDUCED] -/
def setAudioIn (r : BRef) (n : Nat) (gain bias : Option Nat) (d : Dev) : Dev :=
  audio r (fun d =>
    if 8 ≤ n ∨ 420 < gain.getD 0 ∨ gain.getD 0 % 15 ≠ 0 ∨ 3 ≤ bias.getD 0 then err r "range" [] d
    else
      let i := wIn n d.well
      ok r [] (wellInWrite n (match gain with | some g => g / 15 | none => i.gain) (bias.getD i.bias) d)) d

/-- `set audio bias a/b [volts V] [on/off]`; the voltage in tenths of a volt. -/
def setAudioBias (r : BRef) (b : Bool) (volts : Option Nat) (on : Option Bool) (d : Dev) : Dev :=
  audio r (fun d =>
    if !within (volts.getD 18) 18 28 then err r "range" [] d
    else
      let f := fun (s : WSupply) => wSupplyWrite (match volts with | some v => v - 18 | none => s.v) (on.getD s.on) s
      ok r [] (wellMod (fun w => if b then { w with supB := f w.supB } else { w with supA := f w.supA }) d)) d

/-- `set audio chan C in N/off`: one map change (R319). [log entry 25 DEDUCED] -/
def setAudioChan (r : BRef) (c : Nat) (n : Option Nat) (d : Dev) : Dev :=
  audio r (fun d =>
    if 8 ≤ c ∨ 8 ≤ n.getD 0 then err r "range" [] d
    else ok r [] (wellMapSet c (match n with | some n => { en := true, inp := n } | none => { wMap c d.well with en := false }) d)) d

/-- `set audio seep`. -/
def setAudioSeep (r : BRef) (ethr zmin zmax ntrig hang : Option Nat) (d : Dev) : Dev :=
  audio r (fun d =>
    let w := d.well
    if 4294967296 ≤ ethr.getD 0 ∨ 256 ≤ zmin.getD 0 ∨ 256 ≤ zmax.getD 0 ∨ !within (ntrig.getD 1) 1 15 ∨ !within (hang.getD 1) 1 255 then err r "range" [] d
    else ok r [] (wellSet { w with ethr := ethr.getD w.ethr, zmin := zmin.getD w.zmin, zmax := zmax.getD w.zmax, ntrig := ntrig.getD w.ntrig,
                                   hang := hang.getD w.hang } d)) d

/-- `set audio ripple`; the threshold as its 32-bit word, ttl in gauge units. -/
def setAudioRipple (r : BRef) (thr time whang ttl : Option Nat) (d : Dev) : Dev :=
  audio r (fun d =>
    let w := d.well
    let us := ttl.map (· / 9216)
    if 4294967296 ≤ thr.getD 0 ∨ !within (time.getD 1) 1 255 ∨ 65536 ≤ whang.getD 0 ∨ ttl.getD 0 % 9216 ≠ 0 ∨ !within (us.getD 1000) 1000 1000000 then
      err r "range" [] d
    else ok r [] (wellSet { w with rthr := match thr with | some t => BitVec.ofNat 32 t | none => w.rthr, rtime := time.getD w.rtime,
                                   whang := whang.getD w.whang, openttl := us.getD w.openttl } d)) d

/-- `set audio pack image N [wait]`: a load by UPDATE (R335). -/
def setAudioPack (r : BRef) (n : Nat) (wait : Bool) (d : Dev) : Dev :=
  if wellHere d then loadLine r 30 0 1 0 (.image n) false wait d else audio r (fun d => d) d

/-- `set audio drain` (R332). -/
def setAudioDrain (r : BRef) (d : Dev) : Dev :=
  audio r (fun d => let (no, d) := wellDrainAsk d; if no then err r "denied" [audioLine d] d else ok r [] d) d

/-- `forget audio`. -/
def forgetAudio (r : BRef) (d : Dev) : Dev := audio r (fun d => ok r [] (audioForget d)) d

end Sys2Proof.Machine
end

