-- ==== Sys2Proof/Machine/BipolLines.lean ====
section
/-!
DEFINITION. Machine/BipolLines.lean: the session nouns (04 R84), and the lines of every noun (R86): from the arguments of a line to the command it runs.
-/
namespace Sys2Proof.Machine

/-- What a line of a known verb and noun does: none where the arguments are refused first. -/
abbrev Line := Pv (BRef → Dev → Dev)

/-! ### Session nouns (R84) -/

/-- Table 4-7: nouns with their verbs. -/
def nouns : List (String × List String) :=
  [("unit", ["list", "show", "on", "off", "reset"]), ("route", ["list", "show", "set", "bind", "commit"]), ("weir", ["show", "set"]),
   ("sluice", ["list", "show", "set", "clear"]), ("inlet", ["show", "set"]), ("outlet", ["show", "set", "fetch"]), ("reed", ["show", "set", "load"]),
   ("shoal", ["show", "load"]), ("tarn", ["show", "set", "load"]), ("basin", ["show", "set"])]
  ++ [("long", ["show", "load", "start", "stop"]), ("mere", ["show", "read"]), ("siphon", ["show", "copy"]), ("hbm", ["show", "set"]),
   ("audio", ["show", "set", "forget"]), ("link", ["list", "show", "up", "down", "key"]), ("ferry", ["show", "set", "start", "stop"]),
   ("thermo", ["show", "set"]), ("ice", ["show", "enter", "leave"]), ("ledger", ["show", "set", "fetch"])]
  ++ [("nv", ["show", "read"]), ("firmware", ["show", "load", "select", "accept"]), ("seal", ["show"]), ("gauge", ["show"]),
   ("log", ["show", "follow", "quiet", "clear"]), ("help", ["show"]), ("typed", ["mode"]), ("machine", ["mode"]), ("baud", ["mode"])]

/-- Table 4-7 offers the verb for the noun. -/
def offered (verb noun : String) : Bool := nouns.any fun n => n.1 == noun && n.2.contains verb

/-- A change of mode (R68): refused while another command is outstanding. The response has the form of the mode it was asked in; typed mode
then prompts. [log entry 25 DEDUCED] -/
def modeChange (r : BRef) (machine crc : Bool) (d : Dev) : Dev :=
  let s := sess r.sid d
  if s.outst.any fun o => o.tag != r.tag then err r "busy" [] d
  else
    let ls := respLines r (some r.tag) none [] d
    let ls := if s.machine then ls
      else ls.filterMap fun l => if l.text == prompt then none else some { l with ends := some r.tag }
    let ls := if machine then ls else ls ++ [{ text := prompt }]
    say r.sid ls (sessSet r.sid { s with machine := machine, crc := machine && crc, lines := if s.machine == machine then s.lines else 0 } d)

/-- `mode typed`: over the mailbox and over Jetty denied (R79, R83). -/
def modeTyped (r : BRef) (d : Dev) : Dev :=
  bcmd r (fun d => if r.sid ≠ 0 then err r "denied" [] d else modeChange r false false d) d

/-- `mode machine [crc]`: over Jetty denied. [log entry 25 DEDUCED] -/
def modeMachine (r : BRef) (crc : Bool) (d : Dev) : Dev :=
  bcmd r (fun d => if 2 ≤ r.sid then err r "denied" [] d else modeChange r true crc d) d

/-- The rates of R76. -/
def bauds : List Nat := [115200, 230400, 460800, 921600, 1000000, 1500000, 2000000, 3000000]

/-- `mode baud N`, in force after the last byte of the `ok` line. [log entry 25 DEDUCED] -/
def modeBaud (r : BRef) (n : Nat) (d : Dev) : Dev :=
  bcmd r (fun d =>
    if !bauds.contains n then err r "range" [] d
    else if r.sid ≠ 0 then err r "denied" [] d
    else
      let ls := respLines r (some r.tag) none [] d
      sayNext 0 (match ls with | l :: t => { l with baud := some n } :: t | [] => []) d) d

/-- `show gauge`. -/
def showGauge (r : BRef) (d : Dev) : Dev :=
  bcmd r (fun d => ok r ["gauge " ++ hexGrouped 16 (now d) ++ " step " ++ stepText d.clk ++ " gu-per-tick " ++ dec d.clk.gu] d) d

/-- `show log [count N]`. -/
def showLog (r : BRef) (n : Option Nat) (d : Dev) : Dev :=
  bcmd r (fun d =>
    let k := n.getD 16
    if within k 1 4096 then ok r ((d.bip.log.drop (d.bip.log.length - k)).map logLine) d else err r "range" [] d) d

/-- `follow log [level L]`: levels 0 info, 1 warn, 2 fault. -/
def followLog (r : BRef) (l : Option Nat) (d : Dev) : Dev :=
  bcmd r (fun d =>
    match l.getD 1 with
    | 0 => ok r [] (sessSet r.sid { sess r.sid d with follow := some .info } d)
    | 1 => ok r [] (sessSet r.sid { sess r.sid d with follow := some .warn } d)
    | 2 => ok r [] (sessSet r.sid { sess r.sid d with follow := some .fault } d)
    | _ => err r "range" [] d) d

/-- `quiet log`. -/
def quietLog (r : BRef) (d : Dev) : Dev := bcmd r (fun d => ok r [] (sessSet r.sid { sess r.sid d with follow := none } d)) d

/-- `clear log`. -/
def clearLog (r : BRef) (d : Dev) : Dev := bcmd r (fun d => ok r [] { d with bip := { d.bip with log := [] } }) d

/-- `show help [noun]`. [log entry 26 DESIGN CHOICE] -/
def showHelp (r : BRef) (n : Option String) (d : Dev) : Dev :=
  bcmd r (fun d =>
    match n with
    | none => ok r (nouns.map (·.1)) d
    | some t => match nouns.find? fun x => x.1 == t with
      | some x => ok r [x.1 ++ ": " ++ spaced x.2] d
      | none => err r "unknown" [] d) d

/-- A noun of Table 4-7; another is unknown (R62). -/
def valNoun (t : String) : Pv String := ⟨if nouns.any fun n => n.1 == t then 0 else 2, t⟩

/-! ### The lines of the nouns -/

/-- A line without arguments. -/
def bare (ts : List String) (f : BRef → Dev → Dev) : Line := (readArgs 0 noOpt [] ts).run f

/-- A line with one optional argument or keyword. -/
def opt1 (ts : List String) (k : String) (f : BRef → Option Nat → Dev → Dev) : Line :=
  let a := readArgs 0 noOpt [(k, 1)] ts
  (a.run fun v r => f r v).on (a.key k valInt)

def val01 (t : String) : Pv Bool := let x := valInt t; if x.v < 2 then x.conv (· == 1) else ⟨firstErr x.e 3, false⟩
def valOn (t : String) : Pv Bool := (valOnOff t).conv (· == 1)
def valAb (t : String) : Pv Bool := (valWord [("a", 0), ("b", 1)] t).conv (· == 1)
/-- A number, or a word that stands for none. -/
def valOr (w : String) (t : String) : Pv (Option Nat) := if t = w then good none else (valInt t).conv some

/-- A machine-mode line without the generation it must carry. -/
def needs (mach : Bool) (a : Args) (k : String) : Args := if mach && !a.has k then { a with e := firstErr a.e 1 } else a

def unitLines (mach : Bool) (verb : String) (ts : List String) : Option Line :=
  let act := fun (n : Nat) =>
    let a := needs mach (readArgs 1 noOpt [("gen", 1), ("wait", 0)] ts) "gen"
    (((a.run fun u g w r => unitLine r n u g w).on (a.arg 0 valInt)).on (a.key "gen" valGen)).on (a.flag "wait")
  match verb with
  | "list" => let a := readArgs 0 noOpt [("state", 1)] ts; some ((a.run fun s r => listUnit r s).on (a.key "state" valName))
  | "show" => let a := readArgs 1 noOpt [] ts; some ((a.run fun n r => showUnit r n).on (a.arg 0 valInt))
  | "on" => some (act 1)
  | "off" => some (act 2)
  | "reset" => some (act 3)
  | _ => none

/-- `slotJ I.S`. -/
def valSlot (t : String) : Pv (Nat × Nat) :=
  let l := t.toList
  let a := l.takeWhile (· != '.')
  match intForm a, l.drop a.length with
  | some i, '.' :: b => match intForm b with | some s => good (i, s) | none => ⟨1, (0, 0)⟩
  | _, _ => ⟨1, (0, 0)⟩

def routeSlots (a : Args) : Pv (List (Nat × Nat × Nat)) :=
  (List.range 4).foldl (fun l j =>
    match (a.key ("slot" ++ dec j) valSlot) with
    | ⟨e, some (i, s)⟩ => ⟨firstErr l.e e, l.v ++ [(j, i, s)]⟩
    | ⟨e, none⟩ => l.also e) (good [])

def valMask (t : String) : Pv Nat := if t = "off" then good 256 else let x := valInt t; if x.v < 256 then x else ⟨firstErr x.e 3, 257⟩

def kindWords : List (String × Nat) := [("none", 0), ("reed", 1), ("shoal", 2), ("tarn", 3), ("basin", 4), ("well", 5), ("combine", 6)]
def ruleWords : List (String × Nat) := [("worst", 0), ("kofn", 1), ("all", 2), ("first", 3)]

def routeSetLine (ts : List String) : Line :=
  if ts.contains "stage" then
    let a := readArgs 1 noOpt ([("stage", 1), ("kind", 1), ("table", 1), ("cores", 1), ("rule", 1), ("inputs", 1), ("k", 1), ("stop", 1)]
      ++ [("slot0", 1), ("slot1", 1), ("slot2", 1), ("slot3", 1)]) ts
    ((((((((((a.run fun n i k t c u p kk st sl r => setRouteStage r n i k t c u p kk st sl).on (a.arg 0 valInt)).on (a.must "stage" valInt)).on
      (a.must "kind" (valWord kindWords))).on (a.key "table" valInt)).on (a.key "cores" valInt)).on (a.key "rule" (valWord ruleWords))).on
      (a.key "inputs" valInt)).on (a.key "k" valInt)).on (a.key "stop" valInt)).on (routeSlots a)
  else
    let a := readArgs 1 noOpt ([("valid", 1), ("deadline", 1), ("mode", 1), ("dlv", 1), ("amend", 1), ("window", 1), ("absent", 1), ("prio", 1)]
      ++ [("empty", 1), ("dirs", 1), ("mask", 1), ("stages", 1)]) ts
    ((((((((((((a.run fun n vd dl md dv am wi ab pr em di mk sg r => setRoute r n vd dl md dv am wi ab pr em di mk sg).on (a.arg 0 valInt)).on
      (a.key "valid" valInt)).on (a.key "deadline" valTime)).on (a.key "mode" (valWord [("stillwater", 0), ("early", 1)]))).on
      (a.key "dlv" (valWord [("pass", 0), ("block", 1)]))).on (a.key "amend" valInt)).on (a.key "window" valTime)).on
      (a.key "absent" (valWord [("skip", 0), ("hold", 1)]))).on (a.key "prio" valInt)).on
      (a.key "empty" (valWord [("pass", 0), ("block", 1), ("hold", 2)]))).on (a.key "dirs" (valWord [("req", 1), ("ans", 2), ("both", 3)]))).on
      (a.key "mask" valMask) |>.on (a.key "stages" valInt)

def routeLines (mach : Bool) (verb : String) (ts : List String) : Option Line :=
  match verb with
  | "list" => some (bare ts listRoute)
  | "show" => let a := readArgs 1 noOpt [("staged", 0)] ts; some (((a.run fun n s r => showRoute r n s).on (a.arg 0 valInt)).on (a.flag "staged"))
  | "set" => some (routeSetLine ts)
  | "commit" => let a := needs mach (readArgs 1 noOpt [("epoch", 1), ("wait", 0)] ts) "epoch"
    some ((((a.run fun n e w r => commitRoute r n e w).on (a.arg 0 valInt)).on (a.key "epoch" valInt)).on (a.flag "wait"))
  | "bind" => let a := readArgs 1 noOpt [("stream", 1), ("dir", 1)] ts
    some ((((a.run fun n s w r => bindRoute r n s (w == 1)).on (a.arg 0 (valOr "none"))).on (a.must "stream" valInt)).on
      (a.must "dir" (valWord [("req", 0), ("ans", 1)])))
  | _ => none

def weirLines (verb : String) (ts : List String) : Option Line :=
  match verb with
  | "show" => some (bare ts showWeir)
  | "set" => let a := readArgs 0 noOpt [("early-off", 1)] ts; some ((a.run fun x r => setWeir r x).on (a.must "early-off" valInt))
  | _ => none

def sluiceLines (verb : String) (ts : List String) : Option Line :=
  match verb with
  | "list" => some (bare ts listSluice)
  | "show" => let a := readArgs 1 noOpt [] ts; some ((a.run fun n r => showSluice r n).on (a.arg 0 valInt))
  | "clear" => let a := readArgs 1 noOpt [] ts; some ((a.run fun n r => clearSluice r n).on (a.arg 0 valInt))
  | "set" => let a := readArgs 1 noOpt [("cap", 1), ("res", 1), ("ct", 1), ("hi", 1), ("lo", 1), ("up", 1), ("down", 1)] ts
    some ((((((((a.run fun n c e t h l u w r => setSluice r n c e t h l u w).on (a.arg 0 valInt)).on (a.key "cap" valInt)).on (a.key "res" valInt)).on
      (a.key "ct" valInt)).on (a.key "hi" valInt)).on (a.key "lo" valInt)).on (a.key "up" val01) |>.on (a.key "down" val01))
  | _ => none

def inletLines (verb : String) (ts : List String) : Option Line :=
  match verb with
  | "show" => some (opt1 ts "ring" fun r => showRings r inletLine)
  | "set" => let a := readArgs 0 noOpt [("ring", 1), ("enable", 1)] ts
    some (((a.run fun n e r => setInlet r n e).on (a.must "ring" valInt)).on (a.must "enable" valInt))
  | _ => none

def outletLines (verb : String) (ts : List String) : Option Line :=
  match verb with
  | "show" => if ts.contains "backlog" then some ((readArgs 0 noOpt [("backlog", 0)] ts).run showBacklog) else some (opt1 ts "ring" fun r => showRings r outletLine)
  | "set" => let a := readArgs 0 noOpt [("ring", 1), ("count", 1), ("time", 1)] ts
    some ((((a.run fun n c t r => setOutlet r n c t).on (a.must "ring" valInt)).on (a.must "count" valInt)).on (a.must "time" valInt))
  | "fetch" => let a := readArgs 0 noOpt [("ring", 1), ("wait", 0)] ts
    some (((a.run fun n w r => fetchOutlet r n w).on (a.must "ring" valInt)).on (a.flag "wait"))
  | _ => none

/-- Where a load comes from: exactly one of `image N` and `mere A`. -/
def srcArg (a : Args) : Pv LoadSrc :=
  match a.key "image" valInt, a.key "mere" valInt with
  | ⟨e, some n⟩, ⟨_, none⟩ => ⟨e, .image n⟩
  | ⟨_, none⟩, ⟨e, some x⟩ => ⟨e, .mere x⟩
  | _, _ => ⟨1, .image 0⟩

/-- `load … slot S image N|mere A [replace] [wait]`. -/
def slotLoad (ts : List String) (f : BRef → Nat → LoadSrc → Bool → Bool → Dev → Dev) : Line :=
  let a := readArgs 0 noOpt [("slot", 1), ("image", 1), ("mere", 1), ("replace", 0), ("wait", 0)] ts
  ((((a.run fun k s p w r => f r k s p w).on (a.must "slot" valInt)).on (srcArg a)).on (a.flag "replace")).on (a.flag "wait")

/-- `set … slot S empty`. -/
def slotEmptyLine (ts : List String) (f : BRef → Nat → Dev → Dev) : Line :=
  let a := readArgs 0 noOpt [("slot", 1), ("empty", 0)] ts
  ((a.run fun k r => f r k).on (a.must "slot" valInt)).also (if a.has "empty" then 0 else 1)

def reedLines (verb : String) (ts : List String) : Option Line :=
  match verb with
  | "show" => some (opt1 ts "slot" showReed)
  | "load" => some (slotLoad ts fun r k s p w => loadLine r 4 k 8 0 s p w)
  | "set" =>
    if ts.contains "stream" then
      let a := readArgs 0 noOpt [("stream", 1), ("flush", 0)] ts
      some (((a.run fun n r => setReedFlush r n).on (a.must "stream" valInt)).also (if a.has "flush" then 0 else 1))
    else some (slotEmptyLine ts setReedEmpty)
  | _ => none

def shoalLines (verb : String) (ts : List String) : Option Line :=
  match verb with
  | "show" => some (opt1 ts "slot" showShoal)
  | "load" => some (slotLoad ts fun r k s p w => loadLine r 5 k 4 0 s p w)
  | _ => none

def tarnLines (verb : String) (ts : List String) : Option Line :=
  match verb with
  | "show" => some (opt1 ts "slot" showTarn)
  | "load" => some (slotLoad ts fun r k s p w => loadLine r 6 k 4 0 s p w)
  | "set" => some (slotEmptyLine ts setTarnEmpty)
  | _ => none

/-- A line with one optional number. -/
def optNum (ts : List String) (f : BRef → Option Nat → Dev → Dev) : Line :=
  let a := readArgs 0 numOpt [] ts
  (a.run fun v r => f r v).on (a.argOpt 0 valInt)

def basinLines (verb : String) (ts : List String) : Option Line :=
  match verb with
  | "show" => some (optNum ts showBasin)
  | "set" => let a := readArgs 1 noOpt [("group", 1)] ts
    some (((a.run fun b g r => setBasinGroup r b g).on (a.arg 0 valInt)).on (a.must "group" (valOr "none")))
  | _ => none

def longLines (verb : String) (ts : List String) : Option Line :=
  let stop := fun (b : Bool) => let a := readArgs 0 noOpt [("prog", 1)] ts; (a.run fun p r => longStop r p b).on (a.must "prog" valInt)
  match verb with
  | "show" =>
    if ts.contains "prog" then
      let a := readArgs 1 noOpt [("prog", 1)] ts
      some (((a.run fun c p r => showLong r (some c) (some p)).on (a.arg 0 valInt)).on (a.must "prog" valInt))
    else some (optNum ts fun r c => showLong r c none)
  | "load" => let a := readArgs 0 noOpt [("prog", 1), ("image", 1), ("mere", 1), ("cores", 1), ("replace", 0), ("wait", 0)] ts
    some (((((a.run fun p s c x w r => loadLine r 16 p 16 c s x w).on (a.must "prog" valInt)).on (srcArg a)).on (a.must "cores" valInt)).on
      (a.flag "replace") |>.on (a.flag "wait"))
  | "stop" => some (stop true)
  | "start" => some (stop false)
  | _ => none

/-- `read … A [length N]`. -/
def readLine (ts : List String) (f : BRef → Nat → Option Nat → Dev → Dev) : Line :=
  let a := readArgs 1 noOpt [("length", 1)] ts
  ((a.run fun x n r => f r x n).on (a.arg 0 valInt)).on (a.key "length" valSize)

def mereLines (verb : String) (ts : List String) : Option Line :=
  match verb with
  | "show" => some (bare ts showMere)
  | "read" => some (readLine ts readMere)
  | _ => none

/-- `SP:A`: the space (0 mere, 1 hbm, 2 a Basin, 3 sluice), the Basin and the address. -/
def valSpace (t : String) : Pv (Nat × Nat × Nat) :=
  let l := t.toList
  let s := l.takeWhile (· != ':')
  let sp := String.ofList s
  let a := match l.drop s.length with | ':' :: x => valInt (String.ofList x) | _ => ⟨1, 0⟩
  if sp = "mere" then a.conv fun x => (0, 0, x)
  else if sp = "hbm" then a.conv fun x => (1, 0, x)
  else if sp = "sluice" then a.conv fun x => (3, 0, x)
  else if String.ofList (s.take 5) = "basin" then
    match (if s.length = 5 then none else digits 10 (s.drop 5)) with
    | some b => a.conv fun x => (2, b, x)
    | none => ⟨1, (2, 0, 0)⟩
  else ⟨firstErr a.e 3, (0, 0, 0)⟩

/-- A stride: 64 bits in two's complement. -/
def valStride (t : String) : Pv Int := let x := valSize t; if x.v < 2 ^ 64 then x.conv (sgn 64) else ⟨firstErr x.e 3, 0⟩

def siphonLines (verb : String) (ts : List String) : Option Line :=
  match verb with
  | "show" => some (bare ts showSiphon)
  | "copy" => let a := readArgs 0 noOpt [("src", 1), ("dst", 1), ("len", 1), ("rows", 1), ("sstride", 1), ("dstride", 1), ("wait", 0)] ts
    some (((((((a.run fun (x y : Nat × Nat × Nat) l n p q w r => copySiphon r x.1 x.2.1 x.2.2 y.1 y.2.1 y.2.2 l n p q w).on (a.must "src" valSpace)).on
      (a.must "dst" valSpace)).on (a.must "len" valSize)).on (a.key "rows" valInt)).on (a.key "sstride" valStride)).on (a.key "dstride" valStride)
      |>.on (a.flag "wait"))
  | _ => none

def hbmLines (verb : String) (ts : List String) : Option Line :=
  match verb with
  | "show" => some (opt1 ts "stack" showHbm)
  | "set" =>
    if ts.contains "repair" then
      let a := readArgs 0 noOpt [("repair", 1)] ts
      some ((a.run fun x r => setHbmRepair r x).on (a.must "repair" valInt))
    else
      let a := readArgs 0 noOpt [("ledger", 1), ("sessions", 1)] ts
      some (((a.run fun l s r => setHbmLedger r l s).on (a.must "ledger" valGiB)).on (a.must "sessions" valGiB))
  | _ => none

def audioSet (ts : List String) : Line :=
  match ts with
  | "in" :: _ =>
    let a := readArgs 0 noOpt [("in", 1), ("gain", 1), ("bias", 1)] ts
    (((a.run fun n g b r => setAudioIn r n g b).on (a.must "in" valInt)).on (a.key "gain" valTenths)).on
      (a.key "bias" (valWord [("none", 0), ("a", 1), ("b", 2)]))
  | "bias" :: _ =>
    let a := readArgs 0 noOpt [("bias", 1), ("volts", 1), ("on", 0), ("off", 0)] ts
    ((((a.run fun b v o r => setAudioBias r b v o).on (a.must "bias" valAb)).on (a.key "volts" valTenths)).on
      (good (if a.has "on" then some true else if a.has "off" then some false else none))).also (if a.has "on" && a.has "off" then 1 else 0)
  | "chan" :: _ =>
    let a := readArgs 0 noOpt [("chan", 1), ("in", 1), ("off", 0)] ts
    (((a.run fun c n r => setAudioChan r c n).on (a.must "chan" valInt)).on
      (if a.has "off" then good none else a.must "in" (valOr "off"))).also (if a.has "off" && a.has "in" then 1 else 0)
  | "seep" :: us =>
    let a := readArgs 0 noOpt [("ethr", 1), ("zmin", 1), ("zmax", 1), ("ntrig", 1), ("hang", 1)] us
    (((((a.run fun e z y n h r => setAudioSeep r e z y n h).on (a.key "ethr" valInt)).on (a.key "zmin" valInt)).on (a.key "zmax" valInt)).on
      (a.key "ntrig" valInt)).on (a.key "hang" valInt)
  | "ripple" :: us =>
    let a := readArgs 0 noOpt [("thr", 1), ("time", 1), ("whang", 1), ("ttl", 1)] us
    ((((a.run fun x t w l r => setAudioRipple r x t w l).on (a.key "thr" valF32)).on (a.key "time" valInt)).on (a.key "whang" valInt)).on (a.key "ttl" valTime)
  | "pack" :: us =>
    let a := readArgs 0 noOpt [("image", 1), ("wait", 0)] us
    ((a.run fun n w r => setAudioPack r n w).on (a.must "image" valInt)).on (a.flag "wait")
  | "drain" :: us => bare us setAudioDrain
  | _ =>
    let a := readArgs 0 noOpt [("rate", 1), ("flen", 1), ("listen", 1), ("mic", 1), ("stream", 1)] ts
    (((((a.run fun x f l m s r => setAudio r x f l m s).on (a.key "rate" (valWord [("16k", 0), ("24k", 1), ("32k", 2), ("48k", 3)]))).on
      (a.key "flen" (valWord [("10ms", 0), ("20ms", 1)]))).on (a.key "listen" (valWord [("off", 0), ("wake", 1), ("capture", 2)]))).on
      (a.key "mic" valInt)).on (a.key "stream" valInt)

def audioLines (verb : String) (ts : List String) : Option Line :=
  match verb with
  | "show" => some (bare ts showAudio)
  | "set" => some (audioSet ts)
  | "forget" => some (bare ts forgetAudio)
  | _ => none

def keyLine (ts : List String) : Line :=
  let a := readArgs 1 noOpt [("slot", 1), ("clear", 1), ("use", 1), ("k0", 1), ("k1", 1), ("k2", 1), ("k3", 1)] ts
  let ks := ["k0", "k1", "k2", "k3"]
  if a.has "clear" then
    (((a.run fun j k r => keyLinkClear r j k).on (a.arg 0 valInt)).on (a.must "clear" valInt)).also (if a.kw.length = 1 then 0 else 1)
  else if a.has "use" then
    (((a.run fun j k r => keyLinkUse r j k).on (a.arg 0 valInt)).on (a.must "use" valInt)).also (if a.kw.length = 1 then 0 else 1)
  else
    let v := fun (i : Nat) => a.must (ks.getD i "") valInt
    ((((((a.run fun j k p q x y r => keyLinkSlot r j k (p, q, x, y)).on (a.arg 0 valInt)).on (a.must "slot" valInt)).on (v 0)).on (v 1)).on (v 2)).on (v 3)

def linkLines (mach : Bool) (verb : String) (ts : List String) : Option Line :=
  match verb with
  | "list" => some (bare ts listLink)
  | "show" =>
    if ts.contains "route" then
      let a := readArgs 0 noOpt [("route", 1)] ts
      some ((a.run fun n r => showLinkRoute r n).on (a.must "route" valInt))
    else
      let a := readArgs 1 noOpt [] ts
      some ((a.run fun j r => showLink r j).on (a.arg 0 valInt))
  | "up" => let a := needs mach (readArgs 1 noOpt [("enc", 1), ("gen", 1), ("wait", 0)] ts) "gen"
    some (((((a.run fun j e g w r => upLink r j e g w).on (a.arg 0 valInt)).on (a.key "enc" valOn)).on (a.key "gen" valGen)).on (a.flag "wait"))
  | "down" => let a := needs mach (readArgs 1 noOpt [("gen", 1), ("wait", 0)] ts) "gen"
    some ((((a.run fun j g w r => downLink r j g w).on (a.arg 0 valInt)).on (a.key "gen" valGen)).on (a.flag "wait"))
  | "key" => some (keyLine ts)
  | _ => none

def ferryLines (verb : String) (ts : List String) : Option Line :=
  match verb with
  | "show" => some (bare ts showFerry)
  | "start" => some (bare ts fun r => runFerry r true)
  | "stop" => some (bare ts fun r => runFerry r false)
  | "set" =>
    if ts.contains "own" then
      let a := readArgs 0 noOpt [("own", 1), ("slot", 1), ("hbm", 1), ("len", 1)] ts
      some (((((a.run fun k n x l r => setFerryOwn r k n x l).on (a.must "own" valInt)).on (a.must "slot" valInt)).on (a.must "hbm" valInt)).on
        (a.must "len" valSize))
    else
      let a := readArgs 0 noOpt [("ring", 1), ("index", 1), ("stops", 1), ("slots", 1), ("next", 1), ("revb", 1), ("hold", 1)] ts
      some ((((((((a.run fun x i n s e b h r => setFerry r x i n s e b h).on (a.key "ring" valInt)).on (a.key "index" valInt)).on (a.key "stops" valInt)).on
        (a.key "slots" valInt)).on (a.key "next" valInt)).on (a.key "revb" valTime)).on (a.key "hold" valTime))
  | _ => none

def thermoLines (verb : String) (ts : List String) : Option Line :=
  match verb with
  | "show" => some (bare ts showThermo)
  | "set" =>
    let a := readArgs 0 noOpt ([("plimit", 1), ("rungmax", 1), ("deferprio", 1), ("eweight", 1), ("urgent", 1), ("efirst", 1)]
      ++ [("ecost", 2), ("iceauto", 1), ("iceidle", 1), ("icewait", 1), ("icewake", 1)]) ts
    let ec : Pv (Option (Nat × Nat)) := match a.kw.find? fun x => x.1 == "ecost" with
      | some (_, [e, n]) => ((good fun (x y : Nat) => some (x, y)).on (valInt e)).on (valInt n)
      | _ => good none
    some ((((((((((((a.run fun p u f w g e c x y z v r => setThermo r ⟨p, u, f, w, g, e, c, x, y, z, v⟩).on (a.key "plimit" valInt)).on
      (a.key "rungmax" valInt)).on (a.key "deferprio" valInt)).on (a.key "eweight" valTime)).on (a.key "urgent" valTime)).on
      (a.key "efirst" valInt)).on ec).on (a.key "iceauto" valInt)).on (a.key "iceidle" valTime)).on (a.key "icewait" valTime)).on
      (a.key "icewake" valTime))
  | _ => none

/-- A line with nothing but an optional `wait`. -/
def waitLine (ts : List String) (f : BRef → Bool → Dev → Dev) : Line :=
  let a := readArgs 0 noOpt [("wait", 0)] ts
  (a.run fun w r => f r w).on (a.flag "wait")

def iceLines (verb : String) (ts : List String) : Option Line :=
  match verb with
  | "show" => some (bare ts showIce)
  | "enter" => some (waitLine ts enterIce)
  | "leave" => some (waitLine ts leaveIce)
  | _ => none

def ledgerLines (verb : String) (ts : List String) : Option Line :=
  match verb with
  | "show" =>
    if ts.isEmpty then some (bare ts showLedger)
    else let a := readArgs 0 noOpt [("lidx", 1)] ts; some ((a.run fun l r => showLidx r l).on (a.must "lidx" valInt))
  | "set" => let a := readArgs 0 noOpt [("maxreplay", 1), ("mirror", 1), ("peer", 1), ("serve", 1), ("ttl", 1), ("mirto", 1)] ts
    some (((((((a.run fun m i p s t o r => setLedger r m i p s t o).on (a.key "maxreplay" valInt)).on (a.key "mirror" valOn)).on
      (a.key "peer" (valOr "none"))).on (a.key "serve" valInt)).on (a.key "ttl" valTime)).on (a.key "mirto" valTime))
  | "fetch" => let a := readArgs 0 noOpt [("mirror", 0), ("wait", 0)] ts
    some (((a.run fun w r => fetchLedger r w).on (a.flag "wait")).also (if a.has "mirror" then 0 else 1))
  | _ => none

def nvLines (verb : String) (ts : List String) : Option Line :=
  match verb with
  | "show" => some (bare ts showNv)
  | "read" => some (readLine ts readNv)
  | _ => none

/-- Which of `shore` and `kernel` a line names. -/
def slotName (a : Args) : Pv Bool := if a.has "kernel" then (if a.has "shore" then ⟨1, false⟩ else good true) else if a.has "shore" then good false else ⟨1, false⟩

def firmwareLines (verb : String) (ts : List String) : Option Line :=
  match verb with
  | "show" => if ts.isEmpty then some (bare ts showFirmware)
    else let a := readArgs 0 noOpt [("images", 0)] ts; some (a.run showImages)
  | "load" =>
    if ts.contains "image" then
      let a := readArgs 0 noOpt [("image", 1), ("mere", 1), ("hbm", 1), ("wait", 0)] ts
      some (((((a.run fun n h x w r => loadFirmImage r n h x w).on (a.must "image" valInt)).on (a.flag "hbm")).on
        (if a.has "hbm" then a.must "hbm" valInt else a.must "mere" valInt) |>.on (a.flag "wait")).also (if a.has "hbm" && a.has "mere" then 1 else 0))
    else if ts.contains "config" then
      let a := readArgs 0 noOpt [("config", 0), ("mere", 1), ("length", 1), ("wait", 0)] ts
      some ((((a.run fun x l w r => loadFirmConfig r x l w).on (a.must "mere" valInt)).on (a.must "length" valSize)).on (a.flag "wait"))
    else
      let a := readArgs 0 noOpt [("shore", 0), ("kernel", 0), ("mere", 1), ("wait", 0)] ts
      some ((((a.run fun k x w r => loadFirmSlot r k x w).on (slotName a)).on (a.must "mere" valInt)).on (a.flag "wait"))
  | "select" =>
    let c := fun (a : Args) => if a.has "a" == a.has "b" then (⟨1, false⟩ : Pv Bool) else good (a.has "b")
    if ts.contains "image" then
      let a := readArgs 0 noOpt [("image", 1), ("a", 0), ("b", 0)] ts
      some (((a.run fun n b r => selectImage r n b).on (a.must "image" valInt)).on (c a))
    else
      let a := readArgs 0 noOpt [("shore", 0), ("kernel", 0), ("a", 0), ("b", 0)] ts
      some (((a.run fun k b r => selectSlot r k b).on (slotName a)).on (c a))
  | "accept" => some (bare ts acceptFirmware)
  | _ => none

def logLines (verb : String) (ts : List String) : Option Line :=
  match verb with
  | "show" => some (opt1 ts "count" showLog)
  | "follow" => let a := readArgs 0 noOpt [("level", 1)] ts
    some ((a.run fun l r => followLog r l).on (a.key "level" (valWord [("info", 0), ("warn", 1), ("fault", 2)])))
  | "quiet" => some (bare ts quietLog)
  | "clear" => some (bare ts clearLog)
  | _ => none

/-- The line of a verb and a noun with its arguments; none: unknown. `mach`: in machine mode. [log entry 24 DEDUCED] -/
def lineOf (mach : Bool) (verb noun : String) (ts : List String) : Option Line :=
  if !offered verb noun then none
  else match noun with
    | "unit" => unitLines mach verb ts
    | "route" => routeLines mach verb ts
    | "weir" => weirLines verb ts
    | "sluice" => sluiceLines verb ts
    | "inlet" => inletLines verb ts
    | "outlet" => outletLines verb ts
    | "reed" => reedLines verb ts
    | "shoal" => shoalLines verb ts
    | "tarn" => tarnLines verb ts
    | "basin" => basinLines verb ts
    | "long" => longLines verb ts
    | "mere" => mereLines verb ts
    | "siphon" => siphonLines verb ts
    | "hbm" => hbmLines verb ts
    | "audio" => audioLines verb ts
    | "link" => linkLines mach verb ts
    | "ferry" => ferryLines verb ts
    | "thermo" => thermoLines verb ts
    | "ice" => iceLines verb ts
    | "ledger" => ledgerLines verb ts
    | "nv" => nvLines verb ts
    | "firmware" => firmwareLines verb ts
    | "seal" => some (bare ts showSeal)
    | "gauge" => some (bare ts showGauge)
    | "log" => logLines verb ts
    | "help" => let a := readArgs 0 (fun _ => true) [] ts; some ((a.run fun n r => showHelp r n).on (a.argOpt 0 valNoun))
    | "typed" => some (bare ts modeTyped)
    | "machine" => let a := readArgs 0 noOpt [("crc", 0)] ts; some ((a.run fun c r => modeMachine r c).on (a.flag "crc"))
    | "baud" => let a := readArgs 1 noOpt [] ts; some ((a.run fun n r => modeBaud r n).on (a.arg 0 valInt))
    | _ => none

end Sys2Proof.Machine
end

