-- ==== Sys2Proof/Machine/BipolCmds.lean ====
section
/-!
DEFINITION. Machine/BipolCmds.lean: the Shore agent taking lines (04 R60 to R75), the UART (R66, R76 to R78), the mailbox (R79, R80) and the Jetty
transport (R81 to R83).
-/
namespace Sys2Proof.Machine

/-! ### Other nodes (R81) -/

/-- The lines of a response from another node, each with the node before it; typed mode drops the end line and prompts. [log entry 27 DEDUCED] -/
def remoteLines (r : BRef) (node : Nat) (body : List String) (d : Dev) : List OutLine :=
  let s := sess r.sid d
  let mk := fun t => { text := sessLine r.sid s ("@" ++ dec node ++ " " ++ t), line := s.oline : OutLine }
  let tg := if r.tag = "" then "" else " #" ++ r.tag
  if s.machine then body.map mk ++ [{ mk ("end" ++ tg) with ends := some r.tag }]
  else body.map mk ++ [{ text := prompt, ends := some r.tag }]

/-- A remote command's refusal, in the form of a line from its node. [log entry 27 DEDUCED] -/
def remoteWord (r : BRef) (w : String) : String := spaced (["err"] ++ (if r.tag = "" then [] else ["#" ++ r.tag]) ++ [w])

/-- A remote command ends with an error. [log entry 27 DEDUCED] -/
def remoteErr (r : BRef) (node : Nat) (w : String) (d : Dev) : Dev := say r.sid (remoteLines r node [remoteWord r w] d) d

/-- A line for another node goes out as a Bipol message; a node the routing table does not hold is refused at once (R83). [log entry 24 DEDUCED] -/
def remoteSend (r : BRef) (node : Nat) (text : List Char) (d : Dev) : Dev :=
  bcmd r (fun d =>
    if !rtValid (routeWord node d.jetty) then sayNext r.sid (remoteLines r node [remoteWord r "noroute"] d) d
    else
      let n := (sess r.sid d).lines
      let m : BipolMsg := { dest := node, src := d.jetty.node, type := 1, hops := 32, session := r.sid, line := n, text := textBytes (String.ofList text) }
      bwait r (.remote node) { d with bip := { d.bip with
        mgmt := d.bip.mgmt ++ [m], remote := d.bip.remote ++ [{ sid := r.sid, tag := r.tag, node := node, line := n, heard := now d }] } }) d

/-! ### Taking a line (R60 to R75) -/

/-- A node element (Table 4-2): its number, or 1 for a malformed one and 3 for a number that is no node ID. [log entry 24 DEDUCED] -/
def nodeElem (t : String) : Pv Nat :=
  match t.toList.drop 1 with
  | '0' :: 'x' :: h => match digits 16 h with
    | some v => if within h.length 1 4 then good v else ⟨1, 0⟩
    | none => ⟨1, 0⟩
  | l => if l.isEmpty then ⟨1, 0⟩ else match digits 10 l with
    | some v => if v < 65536 then good v else ⟨3, v⟩
    | none => ⟨1, 0⟩

/-- Elements out of place: a node, a tag or a check after the verb. [log entry 24 DEDUCED] -/
def strayElem (t : String) : Bool := match t.toList.head? with | some c => c == '@' || c == '#' || c == '*' | none => false

/-- A refusal for the form of the line (R62): its command was never outstanding. [log entry 24 DEDUCED] -/
def formErr (r : BRef) (e : Nat) (d : Dev) : Dev := sayNext r.sid (respLines r none (some (if e = 1 then "syntax" else "unknown")) [] d) d

/-- A parsed line: the errors of its form first, then the command (R73). [log entry 24 DEDUCED] -/
def runTokens (i : Nat) (bad : Bool) (text : List Char) (ts : List String) (d : Dev) : Dev :=
  let s := sess i d
  let hasNode := match ts with | t :: _ => t.toList.head? == some '@' | [] => false
  let node : Pv Nat := if hasNode then nodeElem (ts.headD "") else good d.jetty.node
  let us := if hasNode then ts.drop 1 else ts
  let hasTag := match us with | t :: _ => t.toList.head? == some '#' | [] => false
  let tag := if hasTag then String.ofList ((us.headD "").toList.drop 1) else ""
  let vs := if hasTag then us.drop 1 else us
  let badTag := hasTag && !tagForm tag
  let r : BRef := { sid := i, tag := if badTag then "" else tag }
  if s.machine && (!hasTag || badTag) then lineRefused i "syntax" (countLine i d)
  else
    let e0 := if bad || badTag || node.e == 1 || decide (vs.length < 2) || vs.any strayElem then 1 else 0
    match vs with
    | verb :: noun :: args =>
      match lineOf s.machine verb noun args with
      | none => formErr r (firstErr e0 2) (countLine i d)
      | some l =>
        let e := firstErr e0 l.e
        if e = 1 ∨ e = 2 then formErr r e (countLine i d)
        else if node.e = 0 ∧ node.v ≠ d.jetty.node then
          if e = 3 ∧ rtValid (routeWord node.v d.jetty) then bcmd r (fun d => err r "range" [] d) d else remoteSend r node.v text d
        else if e = 3 ∨ node.e = 3 then bcmd r (fun d => err r "range" [] d) d
        else l.v r d
    | _ => formErr r 1 (countLine i d)

/-- One line of session i, without its terminator; `bad`: it held something that fails it with syntax. The spec does not say whether the check
code of a line with a tab covers the tab or the space it is read as: here the space (R64). Nor does it say whether a line that is too long or has
a bad byte is still a comment where it begins with a semicolon: here it is (R61). [log entry 65 DESIGN CHOICE] -/
def takeLine (i : Nat) (raw : List Byte) (bad : Bool) (d : Dev) : Dev :=
  let s := sess i d
  if !(bipServed d && s.live) then d
  else
    let cs := (raw.take 1024).map fun b => if b = 9 then ' ' else Char.ofNat b.toNat
    let bad := bad || decide (1024 < raw.length) || cs.any fun c => !within c.toNat 0x20 0x7E
    let t := stripR (stripL cs)
    if t.isEmpty || t.head? == some ';' then d
    else
      let go := fun (u : List Char) (x : Bool) => let (q, ts) := tokens u; runTokens i (bad || x || q) t ts d
      match checkOf t with
      | .code c v => if crc8 (textBytes (String.ofList c)) = BitVec.ofNat 8 v then go c false else lineRefused i "crc" (countLine i d)
      | .none => if s.crc then lineRefused i "crc" (countLine i d) else go t false
      | .bad => if s.crc then lineRefused i "crc" (countLine i d) else go t true

/-! ### The UART (R60, R66, R76 to R78) -/

/-- What typed mode echoes. -/
def echo (on : Bool) (b : List Byte) (d : Dev) : Dev := if on then say 0 [{ text := bytesText b }] d else d

def uartSet (f : Session → Session) (d : Dev) : Dev := sessSet 0 (f (sess 0 d)) d

/-- The line of the UART session is complete. -/
def uartTake (d : Dev) : Dev :=
  let s := sess 0 d
  takeLine 0 s.part s.bad (sessSet 0 { s with part := [], bad := false } d)

/-- One byte of input that a command does not hold up; none: a character with a framing error. Whether a byte beyond the 1,024th of a line is
echoed the spec does not say: here it is, as itself (R66). [log entry 65 DESIGN CHOICE] -/
def uartInput (on : Bool) (x : Option Byte) (d : Dev) : Dev :=
  let s := sess 0 d
  match x with
  | none => sessSet 0 { s with bad := true } d
  | some b =>
    if !s.machine && s.skip != 0 then sessSet 0 { s with skip := s.skip - 1 } d
    else if b = 10 ∧ s.cr then sessSet 0 { s with cr := false } d
    else
      let d := sessSet 0 { s with cr := b == 13 } d
      let add := fun (d : Dev) => uartSet (fun s => if s.part.length < 1024 then { s with part := s.part ++ [b] } else { s with bad := true }) d
      if b = 13 ∨ b = 10 then uartTake (if s.machine then d else echo on [13, 10] d)
      else if s.machine then add d
      else if b = 8 ∨ b = 0x7F then
        if s.part.isEmpty then echo on [7] d else echo on [8, 32, 8] (uartSet (fun s => { s with part := s.part.dropLast }) d)
      else if b = 0x15 then
        let d := echo on [13, 10] (uartSet (fun s => { s with part := [], bad := false }) d)
        if on then say 0 [{ text := prompt }] d else d
      else if b = 3 then uartSet (fun s => { s with part := [], bad := false }) d
      else if b = 0x1B then uartSet (fun s => { s with skip := 2 }) d
      else if b.toNat < 0x20 ∧ b ≠ 9 then echo on [7] d
      else echo on [b] (add d)

/-- Bytes of these kinds are echoed when they are typed; editing keys and other controls take effect, and are echoed, when they are read. [log entry 25 DEDUCED] -/
def echoedAhead (x : Option Byte) : Bool := match x with | some b => decide (0x20 ≤ b.toNat) && b != 0x7F || b == 9 || b == 13 || b == 10 | none => true

/-- Read the bytes that were typed while a command ran, until the next command runs (R66). -/
def aheadN : Nat → Dev → Dev
  | 0, d => d
  | n + 1, d =>
    let s := sess 0 d
    match s.ahead with
    | [] => d
    | x :: xs => if s.live && (s.machine || s.outst.isEmpty) then aheadN n (uartInput (!echoedAhead x) x (sessSet 0 { s with ahead := xs } d)) else d

/-- What was typed ahead is taken as far as no command holds it up (R66). [log entry 25 DEDUCED] -/
def aheadFeed (d : Dev) : Dev := aheadN (sess 0 d).ahead.length d

/-- What a waiting command shows when its wait is cancelled (R67). -/
def waitBody (o : WaitObj) (d : Dev) : List String :=
  match o with
  | .unit n => [unitShowLine n d]
  | .commit r => [commitLine r d]
  | .slot u k => loadLines u k (match d.loads.find? fun j => j.unit == u && j.slot == k with | some j => j.cores | none => 1) d
  | .siphon _ => [siphonLine d]
  | .other 2 => [backlogLine d]
  | .other 3 => [iceLine d]
  | .other 4 => [iceLine d]
  | .other 5 => [ledgerLine d]
  | .other 6 => [nvLine d]
  | _ => []

/-- Ctrl-C while a command waits: `err cancel` and the object's state. A wait at another node is cancelled there. -/
def cancelWait (r : BRef) (o : WaitObj) (d : Dev) : Dev :=
  match o with
  | .remote node =>
    match d.bip.remote.find? fun c => c.sid == r.sid && c.tag == r.tag with
    | none => d
    | some c =>
      let m : BipolMsg := { dest := node, src := d.jetty.node, type := 4, hops := 32, session := r.sid, line := c.line, text := [] }
      { d with bip := { d.bip with mgmt := d.bip.mgmt ++ [m] } }
  | .output => d
  | o => err r "cancel" (waitBody o d) d

/-- A byte arrives on the UART; none: with a framing error (R77). While a command runs, typed mode echoes and holds it. The spec leaves open
whether Ctrl-C that ends a wait discards what was typed ahead (here it is kept, R66), and what becomes of characters between a break and its end
prompt (here they are dropped, R78). [log entry 65 DESIGN CHOICE] -/
def uartArrive (x : Option Byte) (d : Dev) : Dev :=
  let d := if x.isNone then bump kUartErr d else d
  let s := sess 0 d
  if !bipServed d || !s.live || d.bip.inBreak then d
  else if !s.machine && (!s.outst.isEmpty || !s.ahead.isEmpty) then
    match x == some 3, s.outst.find? fun o => o.obj != .output with
    | true, some o => cancelWait { sid := 0, tag := o.tag } o.obj d
    | _, _ =>
      if 1024 ≤ s.ahead.length then echo true [7] d
      else
        let twin := x == some 10 && s.ahead.getLast? == some (some 13)
        let e := match x with
          | some b => if twin || !echoedAhead x then [] else if b = 13 ∨ b = 10 then [13, 10] else [b]
          | none => []
        echo (!e.isEmpty) e (uartSet (fun s => { s with ahead := s.ahead ++ [x] }) d)
  else uartInput true x d

/-- A byte arrives on the UART; `bad`: with a framing error (R77). [log entry 25 DEDUCED] -/
def uartByte (b : Nat) (bad : Bool) (d : Dev) : Dev := settle (aheadFeed (uartArrive (if bad then none else some (BitVec.ofNat 8 b)) d))

/-- A break (R78): the session ends; typed mode at 115,200 baud. Whether output that is already in the buffer is discarded the spec does not
say: here it is kept and sent after the break. [log entry 65 DESIGN CHOICE] -/
def uartBreak (d : Dev) : Dev :=
  sessSet 0 (freshSess 0) (dropRemote 0 { d with bip := { d.bip with baud := 115200, newBaud := [], inBreak := true } })

/-- The receive line has been high for 100 µs after a break. -/
def breakEnd (d : Dev) : Dev :=
  if d.bip.inBreak then say 0 [{ text := prompt }] { d with bip := { d.bip with inBreak := false } } else d

/-- The first `n` bytes of the output buffer leave on the UART; a rate that waited for them is in force after them (R76). -/
def uartSent (n : Nat) (d : Dev) : Dev :=
  let n := min n d.bip.uartOut.length
  if n = 0 then d
  else
    let b := d.bip
    let b := { b with uartOut := b.uartOut.drop n, baud := (b.newBaud.filter (fun x => decide (x.1 ≤ n))).foldl (fun _ x => x.2) b.baud,
                      newBaud := (b.newBaud.filter fun x => decide (n < x.1)).map fun x => (x.1 - n, x.2) }
    emit (.uart (d.bip.uartOut.take n)) { d with bip := b }

/-- Room returns (R77, R79): `n` bytes leave the UART's output buffer; what a session holds back goes on. [log entry 28 DESIGN CHOICE] -/
def roomResume (i n : Nat) (d : Dev) : Dev := settle (aheadFeed (pump i (if i = 0 then uartSent n d else d)))

/-! ### The mailbox (R79, R80) -/

/-- Bytes of the command ring from a pointer on. -/
def cmdBytes (b : Bipol) (p n : Nat) : List Byte := (List.range n).map fun i => tabGet (fun _ => (0 : Byte)) b.cmdRing ((p + i) % 4096)

/-- The lines of what ends with an LF: a CR is a terminator too, and CR LF counts as one (R60). [log entry 25 DEDUCED] -/
def crLines (l : List Byte) : List (List Byte) :=
  let l := if l.getLast? == some 13 then l.dropLast else l
  let (done, cur) := l.foldl (fun (a : List (List Byte) × List Byte) b => if b = 13 then (a.1 ++ [a.2], []) else (a.1, a.2 ++ [b])) ([], [])
  done ++ [cur]

/-- Take the complete lines of the command ring. -/
def mailN : Nat → Dev → Dev
  | 0, d => d
  | n + 1, d =>
    let b := d.bip
    let bs := cmdBytes b b.ctail ((b.chead + 8192 - b.ctail) % 8192)
    let l := bs.takeWhile (· != 10)
    if l.length = bs.length then d
    else
      let d := raise 200 1 { d with bip := { b with ctail := (b.ctail + l.length + 1) % 8192 } }
      mailN n (foldSt (crLines l) (fun l d => takeLine 1 l false d) d)

/-- A write of GLB_BIP_CHEAD. A UART line of the same tick is taken first (R75). [log entries 28 DESIGN CHOICE, 60 DEDUCED] -/
def cheadWrite (v : Nat) (d : Dev) : Dev :=
  let v := v % 8192
  if 4096 < (v + 8192 - d.bip.ctail) % 8192 then raise 200 2 d
  else
    let d := { d with bip := { d.bip with chead := v } }
    if bipServed d && !d.bip.uartNext then settle (mailN 4096 d) else d

/-- Lines of the command ring that gave way to a UART line of their tick (R75). -/
def mailTake (d : Dev) : Dev := if bipServed d then mailN 4096 d else d

/-- A write of GLB_BIP_RTAIL. [log entry 28 DESIGN CHOICE] -/
def rtailWrite (v : Nat) (d : Dev) : Dev :=
  let v := v % 131072
  if rspUsed d.bip < (d.bip.rhead + 131072 - v) % 131072 then raise 200 2 d
  else settle (pump 1 { d with bip := { d.bip with rtail := v } })

/-- Software puts a line and its LF into the command ring and advances CHEAD past it. [log entry 25 DEDUCED] -/
def mailLine (l : List Byte) (d : Dev) : Dev :=
  let n := l.length + 1
  if 4096 < (d.bip.chead + 8192 - d.bip.ctail) % 8192 + n then raise 200 2 d
  else
    let ring := (List.range n).foldl (fun m i => tabSet (fun _ => (0 : Byte)) m ((d.bip.chead + i) % 4096) (l.getD i 10)) d.bip.cmdRing
    cheadWrite (d.bip.chead + n) { d with bip := { d.bip with cmdRing := ring } }

/-! ### Jetty messages (R82, R83) -/

def msgBytes (m : BipolMsg) : List Byte :=
  toLe 2 m.dest ++ toLe 2 m.src ++ toLe 1 m.type ++ toLe 1 m.hops ++ toLe 2 m.session ++ toLe 4 m.line ++ toLe 2 m.text.length ++ [0, 0] ++ m.text

def msgOf (b : List Byte) : BipolMsg :=
  { dest := fieldLe b 0 2, src := fieldLe b 2 2, type := fieldLe b 4 1, hops := fieldLe b 5 1, session := fieldLe b 6 2, line := fieldLe b 8 4,
    text := slice b 16 (fieldLe b 12 2) }

/-- The checks of R82. A message shorter than its LENGTH says is malformed too. -/
def msgOk (b : List Byte) : Bool :=
  let t := fieldLe b 4 1
  let n := fieldLe b 12 2
  decide (16 ≤ b.length) && within t 1 5 && (decide (4 ≤ t) || within n 1 1024) && fieldLe b 14 2 == 0 && decide (16 + n ≤ b.length)

/-- The inbound session of an origin, else the lowest that is free. [log entry 27 DEDUCED] -/
def inboundOf (src session : Nat) (d : Dev) : Option Nat :=
  let is := (List.range 16).map (· + 2)
  match is.find? fun i => (sess i d).live && (sess i d).node == src && (sess i d).origin == session with
  | some i => some i
  | none => is.find? fun i => !(sess i d).live

/-- A command line from another node: it runs in an inbound session. The 17th session is refused. -/
def inboundLine (m : BipolMsg) (d : Dev) : Dev :=
  match inboundOf m.src m.session d with
  | none =>
    let tg := match (m.text.map fun b => Char.ofNat b.toNat) |> tokens |>.2 |>.find? fun t => t.toList.head? == some '#' with
      | some t => if tagForm (String.ofList (t.toList.drop 1)) then t else "#?"
      | none => "#?"
    let mk := fun t => { dest := m.src, src := d.jetty.node, type := 2, hops := 32, session := m.session, line := m.line, text := textBytes t : BipolMsg }
    { d with bip := { d.bip with mgmt := d.bip.mgmt ++ [mk ("err " ++ tg ++ " full"), mk ("end " ++ tg)] } }
  | some i =>
    let s := sess i d
    let s := if s.live then s else { freshSess i with node := m.src, origin := m.session, lastEnd := now d }
    let s := { s with oline := m.line, keepAt := if s.outst.isEmpty then now d else s.keepAt }
    takeLine i m.text false (sessSet i s d)

/-- A line of a response to a command of this node; the end line releases it whole (R71). [log entry 27 DEDUCED] -/
def remoteLine (m : BipolMsg) (d : Dev) : Dev :=
  match d.bip.remote.find? fun c => c.sid == m.session && c.node == m.src && c.line == m.line with
  | none => d
  | some c =>
    let r : BRef := { sid := c.sid, tag := c.tag }
    if m.text.take 5 = textBytes "end #" then
      let d := { d with bip := { d.bip with remote := d.bip.remote.filter (· != c) } }
      if waitsFor r (.remote c.node) d then say r.sid (remoteLines r c.node c.got d) d else d
    else
      let c' := { c with heard := now d, got := c.got ++ [bytesText m.text] }
      { d with bip := { d.bip with remote := d.bip.remote.map fun x => if x == c then c' else x } }

/-- An event line that a session follows at another node. [log entry 27 DEDUCED] -/
def remoteEvent (m : BipolMsg) (d : Dev) : Dev :=
  let s := sess m.session d
  if s.live then
    pump m.session (sessSet m.session (if s.events.length < 256 then { s with events := s.events ++ ["@" ++ dec m.src ++ " " ++ bytesText m.text] }
      else { s with lost := s.lost + 1 }) d)
  else d

/-- A cancel from the origin ends the wait it names. [log entry 27 DEDUCED] -/
def remoteCancel (m : BipolMsg) (d : Dev) : Dev :=
  foldSt (List.range 16) (fun k d =>
    let i := k + 2
    let s := sess i d
    if s.live && s.node == m.src && s.origin == m.session then
      match s.outst.find? fun o => o.line == m.line && o.obj != .output with
      | some o => cancelWait { sid := i, tag := o.tag } o.obj d
      | none => d
    else d) d

/-- A keep-alive: the node still holds commands of the session. -/
def remoteAlive (m : BipolMsg) (d : Dev) : Dev :=
  { d with bip := { d.bip with remote := d.bip.remote.map fun c => if c.sid == m.session && c.node == m.src then { c with heard := now d } else c } }

/-- A Bipol message is taken (R82): one for another node goes on as it is, with HOPS decremented. [log entry 27 DEDUCED] -/
def takeMessage (b : List Byte) (d : Dev) : Dev :=
  let m := msgOf b
  if m.dest ≠ d.jetty.node ∧ 16 ≤ b.length then
    if m.hops ≤ 1 then d
    else { d with bip := { d.bip with mgmt := d.bip.mgmt ++ [{ m with hops := m.hops - 1, raw := some (b.take 5 ++ toLe 1 (m.hops - 1) ++ b.drop 6) }] } }
  else if !bipServed d || !msgOk b then jettyGerr d
  else settle (match m.type with
    | 1 => inboundLine m d
    | 2 => remoteLine m d
    | 3 => remoteEvent m d
    | 4 => remoteCancel m d
    | _ => remoteAlive m d)

/-- A message joins those of its tick by ascending source node (R75). -/
def mgmtInsert (b : List Byte) : List (List Byte) → List (List Byte)
  | [] => [b]
  | x :: xs => if fieldLe b 2 2 < fieldLe x 2 2 then b :: x :: xs else x :: mgmtInsert b xs

/-- A Bipol message arrives. It waits for the end of the tick where lines of its tick may go before it (R75). [log entry 60 DEDUCED] -/
def bipolMessage (b : List Byte) (d : Dev) : Dev :=
  if d.bip.lineNext || !d.jetty.mgmtIn.isEmpty then jettyMod (fun y => { y with mgmtIn := y.mgmtIn ++ [b] }) d else takeMessage b d

/-- The messages of this tick that the management class has delivered, by ascending source node (R75). -/
def mgmtRun (d : Dev) : Dev :=
  let ms := d.jetty.mgmtIn.foldl (fun l b => mgmtInsert b l) []
  foldSt ms takeMessage (jettyMod (fun y => { y with mgmtIn := [] }) d)

/-- LINE_TERMINATOR: the bytes of a line and its terminator arrive in session i: on the UART byte by byte, with its editing; through the
command ring; or as the text of a message, which waits where lines of its tick may go before it (R75). -/
def lineTerminator (i : Nat) (l : List Byte) (d : Dev) : Dev :=
  if i = 0 then settle (aheadFeed (uartArrive (some 10) (foldSt l (fun b d => uartArrive (some b) d) d)))
  else if i = 1 then mailLine l d
  else
    let s := sess i d
    if s.live && within l.length 1 1024 && (d.bip.lineNext || !d.jetty.mgmtIn.isEmpty) then
      bipolMessage (msgBytes { dest := d.jetty.node, src := s.node, type := 1, hops := 32, session := s.origin, line := s.oline, text := l }) d
    else settle (takeLine i l false d)

/-- The messages that wait leave as packets of class MGMT. [log entry 27 DEDUCED] -/
def mgmtSend (d : Dev) : Dev :=
  foldSt d.bip.mgmt (fun m d => jettySend (jpkt m.dest m.src 1 0 ((headWord 0 0 false false 0 noLidx).take 12 ++ m.raw.getD (msgBytes m))) d)
    { d with bip := { d.bip with mgmt := [] } }

/-- An inbound session that holds commands sends a keep-alive each 9,216,000 gu (R81). [log entry 27 DEDUCED] -/
def keepAlive (i : Nat) (d : Dev) : Dev :=
  let s := sess i d
  match s.outst with
  | [] => d
  | o :: _ =>
    if decide (2 ≤ i) && s.live && due (s.keepAt + 9216000) d then
      let m : BipolMsg := { dest := s.node, src := d.jetty.node, type := 5, hops := 32, session := s.origin, line := o.line, text := [] }
      sessSet i { s with keepAt := now d } { d with bip := { d.bip with mgmt := d.bip.mgmt ++ [m] } }
    else d

/-- A remote command 92,160,000 gu after the last response line or keep-alive (R81). [log entry 27 DEDUCED] -/
def remoteTimeout (r : BRef) (d : Dev) : Dev :=
  match d.bip.remote.find? fun c => c.sid == r.sid && c.tag == r.tag && due (c.heard + 92160000) d with
  | none => d
  | some c =>
    let d := { d with bip := { d.bip with remote := d.bip.remote.filter (· != c) } }
    if waitsFor r (.remote c.node) d then remoteErr r c.node "timeout" d else d

/-- An inbound session with nothing outstanding closes 92,160,000 gu after its last end line (R83). [log entry 27 DEDUCED] -/
def inboundClose (i : Nat) (d : Dev) : Dev :=
  let s := sess i d
  if decide (2 ≤ i) && decide (i < 18) && s.live && s.outst.isEmpty && s.outq.isEmpty && due (s.lastEnd + 92160000) d then sessSet i {} (dropRemote i d) else d

/-! ### The mailbox window (R80) -/

def mailRegRead (off : Nat) (d : Dev) : RegR :=
  if 0x1000 ≤ off ∧ off < 0x2000 then rval (ofLe (memRead 0 d.bip.cmdRing (off - 0x1000) 4)) d
  else if 0x10000 ≤ off ∧ off < 0x20000 then rval (ofLe (memRead 0 d.bip.rspRing (off - 0x10000) 4)) d
  else match off with
    | 0x00 => rval 0 d
    | 0x10 => rval d.bip.chead d
    | 0x14 => rval d.bip.ctail d
    | 0x18 => rval d.bip.rhead d
    | 0x1C => rval d.bip.rtail d
    | 0x20 => rnote 200 d
    | 0x24 => rnoteEn 200 d
    | 0x28 => rcnt (16 * 200) d
    | 0x2C => rcnt (16 * 200 + 1) d
    | 0x30 => rcnt (16 * 200 + 2) d
    | 0x34 => rcnt kUartErr d
    | _ => none

def mailRegWrite (off v : Nat) (d : Dev) : Option Dev :=
  if 0x1000 ≤ off ∧ off < 0x2000 then some { d with bip := { d.bip with cmdRing := memWrite 0 d.bip.cmdRing (off - 0x1000) (toLe 4 v) } }
  else match off with
    | 0x00 => some (if v % 2 = 1 then endMailbox d else d)
    | 0x10 => some (cheadWrite v d)
    | 0x1C => some (rtailWrite v d)
    | 0x20 => wnote 200 7 v d
    | 0x24 => wnoteEn 200 7 v d
    | _ => (mailRegRead off d).map fun _ => d

end Sys2Proof.Machine
end

