-- ==== Sys2Proof/Machine/CmdBip.lean ====
section
/-!
DEFINITION. Machine/CmdBip.lean: Bipol: the UART, the mailbox, the Jetty transport and the session nouns (04).
-/
namespace Sys2Proof.Machine

/-- UART_BYTE (R66). A character arrives on the UART; `bad`: with a framing error. -/
def execUartByte (b : Nat) (bad : Bool) (s : State) : Host.Outcome State Fault Refusal :=
  runLive (fun d => if ballsSeen d then uartByte b bad d else d) s

/-- LINE_TERMINATOR (R75). The bytes of a line that have not arrived yet, and its terminator: on the UART (session 0), through the command ring (1), or in a message (2 to 17). -/
def execLineTerminator (sid : Nat) (line : List Byte) (s : State) : Host.Outcome State Fault Refusal :=
  runHost (fun d => if ballsSeen d || sid != 0 then lineTerminator sid line d else d) s

/-- CTRL_C (R67). Ctrl-C arrives on the UART. -/
def execCtrlC (s : State) : Host.Outcome State Fault Refusal :=
  runLive (fun d => if ballsSeen d then uartByte 3 false d else d) s

/-- UART_BREAK (R78). The receive line has been low for 1 ms. -/
def execUartBreak (s : State) : Host.Outcome State Fault Refusal :=
  runLive (fun d => if ballsSeen d then uartBreak d else d) s

/-- BREAK_END_PROMPT (R78). The receive line has been high for 100 µs after a break; no effect without one. -/
def execBreakEndPrompt (s : State) : Host.Outcome State Fault Refusal :=
  runLive (breakEnd) s

/-- OUTPUT_ROOM_RESUME (R77). `n` bytes leave the output buffer of the UART session (0), and what session `sid` holds back goes on where it has room. -/
def execOutputRoomResume (sid : Nat) (n : Nat) (s : State) : Host.Outcome State Fault Refusal :=
  runLive (roomResume sid n) s

/-- MODE_TYPED (R84). `mode typed`. -/
def execModeTyped (r : BRef) (s : State) : Host.Outcome State Fault Refusal :=
  runLive (modeTyped r) s

/-- MODE_MACHINE (R68). `mode machine [crc]`. -/
def execModeMachine (r : BRef) (crc : Bool) (s : State) : Host.Outcome State Fault Refusal :=
  runLive (modeMachine r crc) s

/-- MODE_BAUD (R76). `mode baud N`. -/
def execModeBaud (r : BRef) (n : Nat) (s : State) : Host.Outcome State Fault Refusal :=
  runLive (modeBaud r n) s

/-- SHOW_GAUGE (R84). `show gauge`. -/
def execShowGauge (r : BRef) (s : State) : Host.Outcome State Fault Refusal :=
  runLive (showGauge r) s

/-- SHOW_LOG (R84). `show log [count N]`. -/
def execShowLog (r : BRef) (n : Option Nat) (s : State) : Host.Outcome State Fault Refusal :=
  runLive (showLog r n) s

/-- FOLLOW_LOG (R85). `follow log [level L]`; 0 info, 1 warn, 2 fault. -/
def execFollowLog (r : BRef) (l : Option Nat) (s : State) : Host.Outcome State Fault Refusal :=
  runLive (followLog r l) s

/-- QUIET_LOG (R84). `quiet log`. -/
def execQuietLog (r : BRef) (s : State) : Host.Outcome State Fault Refusal :=
  runLive (quietLog r) s

/-- CLEAR_LOG (R84). `clear log`. -/
def execClearLog (r : BRef) (s : State) : Host.Outcome State Fault Refusal :=
  runLive (clearLog r) s

/-- SHOW_HELP (R84). `show help [noun]`. -/
def execShowHelp (r : BRef) (noun : Option String) (s : State) : Host.Outcome State Fault Refusal :=
  runLive (showHelp r noun) s

/-- MAILBOX_CHEAD_WRITE (R79). A write of GLB_BIP_CHEAD. -/
def execMailboxCheadWrite (v : Nat) (s : State) : Host.Outcome State Fault Refusal :=
  runHost (fun d => hostReg 0x1300010 v (cheadWrite v) d) s

/-- MAILBOX_RTAIL_WRITE (R79). A write of GLB_BIP_RTAIL. -/
def execMailboxRtailWrite (v : Nat) (s : State) : Host.Outcome State Fault Refusal :=
  runLive (fun d => hostReg 0x130001C v (rtailWrite v) d) s

/-- MAILBOX_SESSION_END (R80). A write of 1 to GLB_BIP_CTL SESSION_END. -/
def execMailboxSessionEnd (s : State) : Host.Outcome State Fault Refusal :=
  runLive (fun d => hostReg 0x1300000 1 endMailbox d) s

/-- BIPOL_MESSAGE_RECEIVE (R82). A Bipol message of these bytes arrives. -/
def execBipolMessageReceive (m : List Byte) (s : State) : Host.Outcome State Fault Refusal :=
  runHost (bipolMessage m) s

/-- KEEPALIVE_SEND (R81). Inbound session `i` sends its keep-alive; no effect before 1 ms. -/
def execKeepaliveSend (i : Nat) (s : State) : Host.Outcome State Fault Refusal :=
  runLive (keepAlive i) s

/-- REMOTE_TIMEOUT (R81). Nothing has come for the remote command for 10 ms; no effect before that. -/
def execRemoteTimeout (r : BRef) (s : State) : Host.Outcome State Fault Refusal :=
  runLive (remoteTimeout r) s

/-- INBOUND_SESSION_CLOSE (R83). Inbound session `i` closes 10 ms after its last end line; no effect before that. -/
def execInboundSessionClose (i : Nat) (s : State) : Host.Outcome State Fault Refusal :=
  runLive (inboundClose i) s

end Sys2Proof.Machine
end

