-- ==== Sys2Proof/Machine/CmdBoot.lean ====
section
/-!
DEFINITION. Machine/CmdBoot.lean: power, resets, trips, boot and the flash (19, 20).
-/
namespace Sys2Proof.Machine

/-- POWER_ON (R436). The whole boot runs, to READY or recovery; no effect while PWR_GOOD is high already. `vrOk`: the regulator reads as R464 requires; `hbmBad`: stacks that fail training; `sfdp`: the octal DTR rate in MHz the flash lists, 0 none; `g`: the Gauge at which the boot has finished. -/
def execPowerOn (vrOk : Bool) (hbmBad : Nat) (sfdp : Nat) (g : Nat) (s : State) : Host.Outcome State Fault Refusal :=
  runAny (powerOn vrOk hbmBad sfdp g) s

/-- WARM_RESET (R459). SYS_RST_n is released after an assertion and the whole boot runs, `g` gauge units long; `refOk`: REF24 is within limits; the rest as for POWER_ON. -/
def execWarmReset (vrOk : Bool) (refOk : Bool) (hbmBad : Nat) (sfdp : Nat) (g : Nat) (s : State) : Host.Outcome State Fault Refusal :=
  runAny (warmReset vrOk refOk hbmBad sfdp g) s

/-- POWER_DOWN (R458). PWR_GOOD stays low for 25 reference periods. -/
def execPowerDown (s : State) : Host.Outcome State Fault Refusal :=
  runAny (powerDown) s

/-- REF24_LOSS (R461). The monitor finds REF24 missing or out of range. -/
def execRef24Loss (s : State) : Host.Outcome State Fault Refusal :=
  runAny (ref24Loss) s

/-- FIRMWARE_TRIP (R421). A sensor has two samples of 110 °C or more; no effect before that. -/
def execFirmwareTrip (s : State) : Host.Outcome State Fault Refusal :=
  runAny (firmwareTrip) s

/-- HARDWARE_TRIP (R422). The comparators of the sensors in this bit map are at 120 °C. -/
def execHardwareTrip (sensors : Nat) (s : State) : Host.Outcome State Fault Refusal :=
  runAny (hardwareTrip sensors) s

/-- VR_ALERT (R464). VR_ALERT_n falls; STATUS_WORD reads `w`. -/
def execVrAlert (w : Nat) (s : State) : Host.Outcome State Fault Refusal :=
  runLive (vrAlert w) s

/-- NV_RECORD_WRITE (R419). Shore firmware writes a record of a kind as it now stands. -/
def execNvRecordWrite (kind : Nat) (s : State) : Host.Outcome State Fault Refusal :=
  runLive (nvRecordWrite kind) s

/-- NV_PAGE_COMPLETE (R419). The flash operation under way completes, or the flash reports it failed. -/
def execNvPageComplete (good : Bool) (s : State) : Host.Outcome State Fault Refusal :=
  runLive (fun d => if ballsSeen d then nvPage good d else d) s

/-- EVENT_RECORD_FLUSH (R423). Shore firmware writes the collected EVENT entries, if a second has passed. -/
def execEventRecordFlush (s : State) : Host.Outcome State Fault Refusal :=
  runLive (eventFlush) s

/-- RECOVERY_GO (R432). A write of BOOT_RECOVER GO; no effect outside recovery. `hbmBad`: stacks that fail training. -/
def execRecoveryGo (hbmBad : Nat) (s : State) : Host.Outcome State Fault Refusal :=
  runLive (recoveryGo hbmBad) s

/-- SHOW_NV (R445). `show nv`. -/
def execShowNv (r : BRef) (s : State) : Host.Outcome State Fault Refusal :=
  runLive (showNv r) s

/-- READ_NV (R445). `read nv A [length N]`. -/
def execReadNv (r : BRef) (a : Nat) (len : Option Nat) (s : State) : Host.Outcome State Fault Refusal :=
  runLive (readNv r a len) s

/-- SHOW_FIRMWARE (R445). `show firmware`. -/
def execShowFirmware (r : BRef) (s : State) : Host.Outcome State Fault Refusal :=
  runLive (showFirmware r) s

/-- SHOW_FIRMWARE_IMAGES (R445). `show firmware images`. -/
def execShowFirmwareImages (r : BRef) (s : State) : Host.Outcome State Fault Refusal :=
  runLive (showImages r) s

/-- LOAD_FIRMWARE_SLOT (R434). `load firmware shore|kernel mere A [wait]`. -/
def execLoadFirmwareSlot (r : BRef) (kernel : Bool) (a : Nat) (wait : Bool) (s : State) : Host.Outcome State Fault Refusal :=
  runLive (loadFirmSlot r kernel a wait) s

/-- LOAD_FIRMWARE_IMAGE (R433). `load firmware image N mere|hbm A [wait]`. -/
def execLoadFirmwareImage (r : BRef) (n : Nat) (hbm : Bool) (a : Nat) (wait : Bool) (s : State) : Host.Outcome State Fault Refusal :=
  runLive (loadFirmImage r n hbm a wait) s

/-- LOAD_FIRMWARE_CONFIG (R435). `load firmware config mere A length L [wait]`. -/
def execLoadFirmwareConfig (r : BRef) (a : Nat) (len : Nat) (wait : Bool) (s : State) : Host.Outcome State Fault Refusal :=
  runLive (loadFirmConfig r a len wait) s

/-- SELECT_FIRMWARE_SLOT (R431). `select firmware shore|kernel a|b`. -/
def execSelectFirmwareSlot (r : BRef) (kernel : Bool) (toB : Bool) (s : State) : Host.Outcome State Fault Refusal :=
  runLive (selectSlot r kernel toB) s

/-- SELECT_FIRMWARE_IMAGE (R445). `select firmware image N a|b`. -/
def execSelectFirmwareImage (r : BRef) (n : Nat) (toB : Bool) (s : State) : Host.Outcome State Fault Refusal :=
  runLive (selectImage r n toB) s

/-- ACCEPT_FIRMWARE (R430). `accept firmware`. -/
def execAcceptFirmware (r : BRef) (s : State) : Host.Outcome State Fault Refusal :=
  runLive (acceptFirmware r) s

/-- SHOW_SEAL (R445). `show seal`. -/
def execShowSeal (r : BRef) (s : State) : Host.Outcome State Fault Refusal :=
  runLive (showSeal r) s

/-- POWER_REMOVAL (R387). The board removes the supplies. -/
def execPowerRemoval (s : State) : Host.Outcome State Fault Refusal :=
  runAny (powerRemoval) s

end Sys2Proof.Machine
end

