-- ==== Sys2Proof/Machine/CmdEng.lean ====
section
/-!
DEFINITION. Machine/CmdEng.lean: commands at Reedbed (08), Shoal (09) and Sieve/Tarn (10).
-/
namespace Sys2Proof.Machine

/-- REED_REQUEST_ITEM (R170). Reedbed takes the text request at the front of Sluice 143 and makes its reply (R160 to R171, R182). -/
def execReedRequestItem (s : State) : Host.Outcome State Fault Refusal :=
  runLive (reedItem [1]) s

/-- REED_ANSWER_CHUNK (R173). Reedbed takes the answer chunk at the front of Sluice 143 (R172, R173, R175, R176). -/
def execReedAnswerChunk (s : State) : Host.Outcome State Fault Refusal :=
  runLive (reedItem [2]) s

/-- REED_MARKER (R174). Reedbed takes the end-of-answer marker at the front of Sluice 143 (R174 to R176). -/
def execReedMarker (s : State) : Host.Outcome State Fault Refusal :=
  runLive (reedItem [6]) s

/-- REED_REPLY_OPEN (R475). The first waiting reply opens on Sluice 144 once the open one has committed (R475). -/
def execReedReplyOpen (s : State) : Host.Outcome State Fault Refusal :=
  runLive (reedOpen) s

/-- SHOW_REED (R184). `show reed [slot S]`. -/
def execShowReed (r : BRef) (k : Option Nat) (s : State) : Host.Outcome State Fault Refusal :=
  runLive (showReed r k) s

/-- LOAD_REED (R179). `load reed slot S …` (R179, R184). -/
def execLoadReed (r : BRef) (k : Nat) (src : LoadSrc) (replace : Bool) (wait : Bool) (s : State) : Host.Outcome State Fault Refusal :=
  runLive (loadLine r 4 k 8 0 src replace wait) s

/-- SET_REED_SLOT_EMPTY (R184). `set reed slot S empty`. -/
def execSetReedSlotEmpty (r : BRef) (k : Nat) (s : State) : Host.Outcome State Fault Refusal :=
  runLive (setReedEmpty r k) s

/-- SET_REED_STREAM_FLUSH (R184). `set reed stream N flush`. -/
def execSetReedStreamFlush (r : BRef) (n : Nat) (s : State) : Host.Outcome State Fault Refusal :=
  runLive (setReedFlush r n) s

/-- ENGINE_RELOAD_AFTER_ON (R180). The Shore agent loads what CONFIG names into the empty slots of unit `u`, READY after an ON outside boot (R180, R200, R220; 12 R273). -/
def execEngineReloadAfterOn (u : Nat) (s : State) : Host.Outcome State Fault Refusal :=
  runLive (engineReload u) s

/-- SLOT_LOAD_COMPLETE (R179). A load into slot `k` of engine `u` (16: the cores) that is not in use has been read and checked, and the slot holds the new pack (R179, R199, R220; 12 R272). -/
def execSlotLoadComplete (u : Nat) (k : Nat) (s : State) : Host.Outcome State Fault Refusal :=
  runLive (slotLoadComplete u k) s

/-- SHOAL_TAKE_ITEM (R185). The lowest free scanner takes the packet at the front of Sluice 145 (R185, R186). -/
def execShoalTakeItem (s : State) : Host.Outcome State Fault Refusal :=
  runLive (shoalTake) s

/-- SHOAL_SCAN_COMPLETE (R194). Scanner `i` commits the reply of its item (R190 to R195). -/
def execShoalScanComplete (i : Nat) (s : State) : Host.Outcome State Fault Refusal :=
  runLive (shoalDone i) s

/-- SHOW_SHOAL (R202). `show shoal [slot S]`. -/
def execShowShoal (r : BRef) (k : Option Nat) (s : State) : Host.Outcome State Fault Refusal :=
  runLive (showShoal r k) s

/-- LOAD_SHOAL (R199). `load shoal slot S …` (R198, R199, R202). -/
def execLoadShoal (r : BRef) (k : Nat) (src : LoadSrc) (replace : Bool) (wait : Bool) (s : State) : Host.Outcome State Fault Refusal :=
  runLive (loadLine r 5 k 4 0 src replace wait) s

/-- TARN_ROW_SIEVE (R207). The Sieve takes the row at the front of Sluice 147 and runs its profile (R203 to R207). -/
def execTarnRowSieve (s : State) : Host.Outcome State Fault Refusal :=
  runLive (tarnSieve) s

/-- TARN_ROW_ENTER_WALK (R211). The finished row enters the walk when fewer than 16 rows are in it (R211). -/
def execTarnRowEnterWalk (s : State) : Host.Outcome State Fault Refusal :=
  runLive (tarnEnter) s

/-- TARN_LANE_TAKE_TREE (R211). A free lane walks the lowest undealt tree of the oldest row (R208 to R212). -/
def execTarnLaneTakeTree (s : State) : Host.Outcome State Fault Refusal :=
  runLive (tarnLane) s

/-- TARN_REPLY (R215). The reply of the oldest finished row commits (R213 to R215). -/
def execTarnReply (s : State) : Host.Outcome State Fault Refusal :=
  runLive (tarnReply) s

/-- SHOW_TARN (R223). `show tarn [slot S]`. -/
def execShowTarn (r : BRef) (k : Option Nat) (s : State) : Host.Outcome State Fault Refusal :=
  runLive (showTarn r k) s

/-- LOAD_TARN (R219). `load tarn slot S …` (R219, R220, R223). -/
def execLoadTarn (r : BRef) (k : Nat) (src : LoadSrc) (replace : Bool) (wait : Bool) (s : State) : Host.Outcome State Fault Refusal :=
  runLive (loadLine r 6 k 4 0 src replace wait) s

/-- SET_TARN_SLOT_EMPTY (R223). `set tarn slot S empty`. -/
def execSetTarnSlotEmpty (r : BRef) (k : Nat) (s : State) : Host.Outcome State Fault Refusal :=
  runLive (setTarnEmpty r k) s

end Sys2Proof.Machine
end

