-- ==== Sys2Proof/Machine/CmdHost.lean ====
section
/-!
DEFINITION. Machine/CmdHost.lean: the host function: rings, backlog, resets, mastering, attestation (05).
-/
namespace Sys2Proof.Machine

/-- PERST_ASSERT (R460). PERST_n is low for 25 reference periods; `mid`: the record whose release is under way, and the TLPs of its payload write that have left. -/
def execPerstAssert (mid : Option (Nat × Nat)) (s : State) : Host.Outcome State Fault Refusal :=
  runLive (perstAssert mid) s

/-- PERST_DEASSERT (R437). PERST_n is released. -/
def execPerstDeassert (s : State) : Host.Outcome State Fault Refusal :=
  runLive (perstRelease) s

/-- FUNCTION_LEVEL_RESET (R108). A function-level reset starts; `mid`: the record whose release is under way, and the TLPs of its payload write that have left. -/
def execFunctionLevelReset (mid : Option (Nat × Nat)) (s : State) : Host.Outcome State Fault Refusal :=
  runLive (fnLevelReset mid) s

/-- HOT_RESET (R108). A hot reset or a link down; `mid`: the record whose release is under way, and the TLPs of its payload write that have left. -/
def execHotReset (mid : Option (Nat × Nat)) (s : State) : Host.Outcome State Fault Refusal :=
  runLive (hotReset mid) s

/-- D3HOT_ENTRY (R102). The function enters D3hot. -/
def execD3hotEntry (s : State) : Host.Outcome State Fault Refusal :=
  runLive (d3Enter) s

/-- D3HOT_TO_D0 (R108). The function returns from D3hot to D0. -/
def execD3hotToD0 (s : State) : Host.Outcome State Fault Refusal :=
  runLive (d3Leave) s

/-- MASTERING_PAUSE (R102). Bus Master Enable is cleared. -/
def execMasteringPause (s : State) : Host.Outcome State Fault Refusal :=
  runLive (masterOff) s

/-- MASTERING_RESUME (R102). Bus Master Enable is set. -/
def execMasteringResume (s : State) : Host.Outcome State Fault Refusal :=
  runLive (masterOn) s

/-- RING_ENABLE (R92). A write of INL_RCTLn (`sub`) or OUT_CCTLn. -/
def execRingEnable (sub : Bool) (n : Nat) (v : Nat) (s : State) : Host.Outcome State Fault Refusal :=
  runLive (fun d => hostReg ((if sub then 0x210008 else 0x310008) + 32 * n) v (if sub then subCtl n v else cplCtl n v) d) s

/-- DOORBELL (R94). A write of INL_DBn. -/
def execDoorbell (n : Nat) (v : Nat) (s : State) : Host.Outcome State Fault Refusal :=
  runLive (fun d => hostReg (0x280000 + 4 * n) v (doorbell n v) d) s

/-- DESCRIPTOR_ADMIT (R95). The Inlet takes the next descriptor in round-robin order: `b`, the 64 bytes host memory holds there; `payload`, what the read of SRC_ADDR returned, none where it is not here. No effect where no ring has one, or nothing can be admitted in this tick. -/
def execDescriptorAdmit (b : List Byte) (payload : Option (List Byte)) (s : State) : Host.Outcome State Fault Refusal :=
  runLive (descAdmit b payload) s

/-- HOST_READ_FAIL (R97). The read of the next descriptor of ring n (x 0), or of the payload of record x − 1, fails: 0 Unsupported Request, 1 Completer Abort, 2 poisoned, 3 timed out. -/
def execHostReadFail (n : Nat) (x : Nat) (kind : Nat) (s : State) : Host.Outcome State Fault Refusal :=
  runLive (readFail n x kind) s

/-- HOST_READ_RETRY (R97). The retry of a failed read runs, 921,600 gu later: it succeeds with the descriptor or the payload, or fails again. No effect before that. A payload read that is under way and has not failed succeeds. -/
def execHostReadRetry (n : Nat) (x : Nat) (kind : Nat) (good : Bool) (b : List Byte) (payload : Option (List Byte)) (s : State) : Host.Outcome State Fault Refusal :=
  runLive (readRetry n x kind good b payload) s

/-- COMPLETION_HEAD_WRITE (R101). A write of OUT_CDBn. -/
def execCompletionHeadWrite (c : Nat) (v : Nat) (s : State) : Host.Outcome State Fault Refusal :=
  runLive (fun d => hostReg (0x380000 + 4 * c) v (cplHead c v) d) s

/-- BACKLOG_FETCH (R103). A write of OUT_BKL_FETCH. -/
def execBacklogFetch (v : Nat) (s : State) : Host.Outcome State Fault Refusal :=
  runLive (fun d => hostReg 0x30001C v (bklFetch v) d) s

/-- COMPLETION_TIMER_MESSAGE (R105). TIME has passed since the first entry without a message; no effect before that. -/
def execCompletionTimerMessage (c : Nat) (s : State) : Host.Outcome State Fault Refusal :=
  runLive (cplTimer c) s

/-- SPDM_REQUEST (R106). An object arrives through DOE and is answered: CMA/SPDM, or with `disc` DOE Discovery. -/
def execSpdmRequest (disc : Bool) (q : List Byte) (s : State) : Host.Outcome State Fault Refusal :=
  runLive (spdmRequest disc q) s

/-- DOE_ABORT (R106). A DOE Abort. -/
def execDoeAbort (s : State) : Host.Outcome State Fault Refusal :=
  runLive (doeAbort) s

/-- SHOW_INLET (R110). `show inlet [ring N]`. -/
def execShowInlet (r : BRef) (ring : Option Nat) (s : State) : Host.Outcome State Fault Refusal :=
  runLive (showRings r inletLine ring) s

/-- SET_INLET (R110). `set inlet ring N enable 0|1`. -/
def execSetInlet (r : BRef) (n : Nat) (en : Nat) (s : State) : Host.Outcome State Fault Refusal :=
  runLive (setInlet r n en) s

/-- SHOW_OUTLET (R110). `show outlet [ring N]`. -/
def execShowOutlet (r : BRef) (ring : Option Nat) (s : State) : Host.Outcome State Fault Refusal :=
  runLive (showRings r outletLine ring) s

/-- SHOW_OUTLET_BACKLOG (R110). `show outlet backlog`. -/
def execShowOutletBacklog (r : BRef) (s : State) : Host.Outcome State Fault Refusal :=
  runLive (showBacklog r) s

/-- SET_OUTLET (R110). `set outlet ring N count C time T`. -/
def execSetOutlet (r : BRef) (n : Nat) (c : Nat) (t : Nat) (s : State) : Host.Outcome State Fault Refusal :=
  runLive (setOutlet r n c t) s

/-- FETCH_OUTLET (R110). `fetch outlet ring N [wait]`. -/
def execFetchOutlet (r : BRef) (n : Nat) (wait : Bool) (s : State) : Host.Outcome State Fault Refusal :=
  runLive (fetchOutlet r n wait) s

/-- FUNCTION_RESET_COMPLETE (R108). A reset of the host function completes, its link trained at a rate and width; no effect where none is under way or PERST_n is low. -/
def execFunctionResetComplete (rate : Nat) (width : Nat) (s : State) : Host.Outcome State Fault Refusal :=
  runLive (fnResetDone rate width) s

/-- FUNCTION_MASK_WRITE (R104). A configuration write of the doubleword at `off` with byte enables `be`: at 0x0B0, MSI-X Message Control with the function mask; with no byte enabled, a read. -/
def execFunctionMaskWrite (off : Nat) (be : Nat) (v : Nat) (s : State) : Host.Outcome State Fault Refusal :=
  runLive (cfgRequest off be v) s

end Sys2Proof.Machine
end

