-- ==== Sys2Proof/Machine/CmdJetty.lean ====
section
/-!
DEFINITION. Machine/CmdJetty.lean: commands of the Jetty links and the Ferry (16).
-/
namespace Sys2Proof.Machine

/-- LINK_TRAIN_DONE (R340). All four lanes of link j are equalised (R340). -/
def execLinkTrainDone (j : Nat) (s : State) : Host.Outcome State Fault Refusal :=
  runLive (fun d => linkTrained j d) s

/-- LINK_ALIGN_LOCK (R340). FEC and alignment lock are held on all lanes of link j (R340). -/
def execLinkAlignLock (j : Nat) (s : State) : Host.Outcome State Fault Refusal :=
  runLive (fun d => linkAligned j d) s

/-- HELLO_SEND (R341). Link j sends its HELLO frame every 9,216 gu (R341); nothing before that. -/
def execHelloSend (j : Nat) (s : State) : Host.Outcome State Fault Refusal :=
  runLive (fun d => helloSend j d) s

/-- HELLO_FRAME_RECEIVE (R341). The bytes of a HELLO frame arrive on link j (R341). -/
def execHelloFrameReceive (j : Nat) (b : List Byte) (s : State) : Host.Outcome State Fault Refusal :=
  runLive (fun d => settle (helloReceive j b d)) s

/-- KEY_FRAME_RECEIVE (R356). The bytes of a KEY frame arrive on link j (R356). -/
def execKeyFrameReceive (j : Nat) (b : List Byte) (s : State) : Host.Outcome State Fault Refusal :=
  runLive (fun d => settle (keyReceive j b d)) s

/-- KEY_RESEND (R356). Link j repeats its KEY frame every 92,160 gu (R356); nothing before that. -/
def execKeyResend (j : Nat) (s : State) : Host.Outcome State Fault Refusal :=
  runLive (fun d => settle (keyResend j d)) s

/-- FRAME_RECEIVE (R344). The bytes of a frame arrive on link j; fec: its codeword was uncorrectable (R343, R344). -/
def execFrameReceive (j : Nat) (fec : Bool) (b : List Byte) (s : State) : Host.Outcome State Fault Refusal :=
  runLive (fun d => settle (frameReceive j fec b d)) s

/-- ACK_TIMER (R344). Link j returns ACKSEQ at least every 9,216 gu (R344). -/
def execAckTimer (j : Nat) (s : State) : Host.Outcome State Fault Refusal :=
  runLive (fun d => ackTimer j d) s

/-- REPLAY_TIMEOUT (R344). 18,432 gu pass without an advance while frames are unacknowledged (R344). -/
def execReplayTimeout (j : Nat) (s : State) : Host.Outcome State Fault Refusal :=
  runLive (fun d => replayTimeout j d) s

/-- LINK_FAILURE (R345). Link j has replayed a frame 16 times, or lost alignment lock for 92,160 gu (R345). -/
def execLinkFailure (j : Nat) (lock : Bool) (s : State) : Host.Outcome State Fault Refusal :=
  runLive (fun d => settle (linkFailure j lock d)) s

/-- LINK_AUTO_RESET (R345). With LCFG AUTO the Shore agent resets link j 92,160,000 gu after it faulted (R345). -/
def execLinkAutoReset (j : Nat) (s : State) : Host.Outcome State Fault Refusal :=
  runLive (fun d => settle (linkAutoReset j d)) s

/-- JETTY_TRANSMIT_GRANT (R348). Transmitter j grants a waiting packet by the 16-slot schedule (R346, R348). -/
def execJettyTransmitGrant (j : Nat) (s : State) : Host.Outcome State Fault Refusal :=
  runLive (fun d => settle (transmitGrant j d)) s

/-- JETTY_ROUTE_WRITE (R351). A write of JETTY_ROUTEn (R349 to R352). -/
def execJettyRouteWrite (n : Nat) (v : Nat) (s : State) : Host.Outcome State Fault Refusal :=
  runLive (fun d => hostReg (0xE80000 + 4 * n) v (fun d => settle (routeWrite n v d)) d) s

/-- JETTY_TRUNK_WRITE (R350). A write of one half of JETTY_TRUNKt (R350, R352). -/
def execJettyTrunkWrite (t : Nat) (hi : Bool) (v : Nat) (s : State) : Host.Outcome State Fault Refusal :=
  runLive (fun d => hostReg (0xE40100 + 8 * t + (if hi then 4 else 0)) v (fun d => settle (trunkWrite t hi v d)) d) s

/-- DRAIN_MARKER_RECEIVE (R351). A DRAIN marker at the head of a receive lane of link j is served (R351, R353). -/
def execDrainMarkerReceive (j : Nat) (vl : Nat) (s : State) : Host.Outcome State Fault Refusal :=
  runLive (fun d => settle (markerReceive j vl d)) s

/-- DRAINACK_RECEIVE (R351). A DRAINACK at the head of a receive lane of link j is served (R351). -/
def execDrainackReceive (j : Nat) (vl : Nat) (s : State) : Host.Outcome State Fault Refusal :=
  runLive (fun d => settle (drainackReceive j vl d)) s

/-- FENCE_TIMEOUT (R351). The fence of destination n stays unacknowledged for 9,216,000 gu (R351); nothing before that. -/
def execFenceTimeout (n : Nat) (s : State) : Host.Outcome State Fault Refusal :=
  runLive (fun d => settle (fenceTimeout n d)) s

/-- KEY_WORD_WRITE (R367). A write of JETTY_KEYk_w of link j (R355, R367). -/
def execKeyWordWrite (j : Nat) (k : Nat) (w : Nat) (v : Nat) (s : State) : Host.Outcome State Fault Refusal :=
  runLive (fun d => hostReg (0xE00040 + 4096 * j + 32 * k + 4 * w) v (linkReg j (keyWordWrite j k w (BitVec.ofNat 32 v))) d) s

/-- KEY_CLEAR (R367). KCTL CLRk of link j is written 1 (R355). -/
def execKeyClear (j : Nat) (k : Nat) (s : State) : Host.Outcome State Fault Refusal :=
  runLive (linkReg j (keyClear j k)) s

/-- KEY_USE (R357). KCTL USE of link j is written 1 with slot k (R357). -/
def execKeyUse (j : Nat) (k : Nat) (s : State) : Host.Outcome State Fault Refusal :=
  runLive (fun d => settle (linkReg j (keyUse j k) d)) s

/-- MEM_REQUEST (R358). The memory server answers the oldest MEM request delivered; lent: Shore firmware has lent its page to the requester (R358). -/
def execMemRequest (lent : Bool) (s : State) : Host.Outcome State Fault Refusal :=
  runLive (fun d => memServe lent d) s

/-- MEMTO_EXPIRY (R359). A MEM request has stayed unanswered for JETTY_MEMTO gu (R359); nothing before that. -/
def execMemtoExpiry (tag : Nat) (s : State) : Host.Outcome State Fault Refusal :=
  runLive (fun d => settle (memtoExpiry tag d)) s

/-- FERRY_TOKEN_RECEIVE (R361). The bytes of a token packet reach this stop (R361, R363). -/
def execFerryTokenReceive (b : List Byte) (s : State) : Host.Outcome State Fault Refusal :=
  runLive (ferryArrive true b) s

/-- FERRY_BLOCK_RECEIVE (R363). The bytes of a block packet reach this stop (R360, R362, R363). -/
def execFerryBlockReceive (b : List Byte) (s : State) : Host.Outcome State Fault Refusal :=
  runLive (ferryArrive false b) s

/-- FERRY_BLOCK_FORWARD (R362). The block in hand longest is forwarded to NEXT, or absorbed where NEXT owns it (R361, R362). -/
def execFerryBlockForward (absorb : Bool) (s : State) : Host.Outcome State Fault Refusal :=
  runLive (fun d => settle (ferryForward absorb d)) s

/-- FERRY_OPEN_TIMEOUT (R364). Block 0 of the slot core c waits for has not come within FERRY_REVB (R364). -/
def execFerryOpenTimeout (c : Nat) (s : State) : Host.Outcome State Fault Refusal :=
  runLive (fun d => settle (ferryOpenTimeout c d)) s

/-- FERRY_BREAK (R365). The token has not returned to stop 0, or nothing has arrived here, for 2 x REVB (R365). -/
def execFerryBreak (s : State) : Host.Outcome State Fault Refusal :=
  runLive (fun d => settle (ferryBreak d)) s

/-- LIST_LINK (R369). `list link`. -/
def execListLink (r : BRef) (s : State) : Host.Outcome State Fault Refusal :=
  runLive (listLink r) s

/-- SHOW_LINK (R369). `show link N`. -/
def execShowLink (r : BRef) (j : Nat) (s : State) : Host.Outcome State Fault Refusal :=
  runLive (showLink r j) s

/-- SHOW_LINK_ROUTE (R369). `show link route D`. -/
def execShowLinkRoute (r : BRef) (n : Nat) (s : State) : Host.Outcome State Fault Refusal :=
  runLive (showLinkRoute r n) s

/-- UP_LINK (R369). `up link N [enc on/off] [gen G] [wait]`. -/
def execUpLink (r : BRef) (j : Nat) (enc : Option Bool) (gen : Option Nat) (wait : Bool) (s : State) : Host.Outcome State Fault Refusal :=
  runLive (upLink r j enc gen wait) s

/-- DOWN_LINK (R369). `down link N [gen G] [wait]`. -/
def execDownLink (r : BRef) (j : Nat) (gen : Option Nat) (wait : Bool) (s : State) : Host.Outcome State Fault Refusal :=
  runLive (downLink r j gen wait) s

/-- KEY_LINK_SLOT (R369). `key link N slot S k0 K k1 K k2 K k3 K`, the lowest first. -/
def execKeyLinkSlot (r : BRef) (j : Nat) (k : Nat) (k0 : Nat) (k1 : Nat) (k2 : Nat) (k3 : Nat) (s : State) : Host.Outcome State Fault Refusal :=
  runLive (keyLinkSlot r j k (k0, k1, k2, k3)) s

/-- KEY_LINK_CLEAR (R369). `key link N clear S`. -/
def execKeyLinkClear (r : BRef) (j : Nat) (k : Nat) (s : State) : Host.Outcome State Fault Refusal :=
  runLive (keyLinkClear r j k) s

/-- KEY_LINK_USE (R369). `key link N use S`. -/
def execKeyLinkUse (r : BRef) (j : Nat) (k : Nat) (s : State) : Host.Outcome State Fault Refusal :=
  runLive (keyLinkUse r j k) s

/-- SHOW_FERRY (R370). `show ferry`. -/
def execShowFerry (r : BRef) (s : State) : Host.Outcome State Fault Refusal :=
  runLive (showFerry r) s

/-- SET_FERRY (R370). `set ferry [ring R] [index I] [stops N] [slots S] [next X] [revb T] [hold T]`, times in gu. -/
def execSetFerry (r : BRef) (ring : Option Nat) (index : Option Nat) (stops : Option Nat) (slots : Option Nat) (next : Option Nat) (revb : Option Nat) (hold : Option Nat) (s : State) : Host.Outcome State Fault Refusal :=
  runLive (setFerry r ring index stops slots next revb hold) s

/-- SET_FERRY_OWN (R370). `set ferry own K slot S hbm A len L`. -/
def execSetFerryOwn (r : BRef) (k : Nat) (n : Nat) (a : Nat) (l : Nat) (s : State) : Host.Outcome State Fault Refusal :=
  runLive (setFerryOwn r k n a l) s

/-- START_FERRY (R370). `start ferry`. -/
def execStartFerry (r : BRef) (s : State) : Host.Outcome State Fault Refusal :=
  runLive (runFerry r true) s

/-- STOP_FERRY (R370). `stop ferry`. -/
def execStopFerry (r : BRef) (s : State) : Host.Outcome State Fault Refusal :=
  runLive (runFerry r false) s

end Sys2Proof.Machine
end

