-- ==== Sys2Proof/Machine/CmdLedg.lean ====
section
/-!
DEFINITION. Machine/CmdLedg.lean: commands of the Ledger (18).
-/
namespace Sys2Proof.Machine

/-- ORPHAN_EXPIRY (R407). The orphaned entry of record l is older than LEDG_ORPHTTL and is dropped (R407); nothing before that. -/
def execOrphanExpiry (l : Nat) (s : State) : Host.Outcome State Fault Refusal :=
  runLive (fun d => orphanExpiry l d) s

/-- MIRROR_PACKET_RECEIVE (R410). The Ledger serves the mirror write or retirement (OP 0, 3) at the front of Sluice 167 (R410). -/
def execMirrorPacketReceive (s : State) : Host.Outcome State Fault Refusal :=
  runLive (fun d => mirrorReceive d) s

/-- MIRROR_ACK (R410). The Ledger takes the acknowledgement or refusal (OP 1, 2) at the front of Sluice 167 (R410). -/
def execMirrorAck (s : State) : Host.Outcome State Fault Refusal :=
  runLive (fun d => mirrorAck d) s

/-- MIRROR_TIMEOUT (R410). The mirror write of sequence number q is unacknowledged after LEDG_MIRTO (R410); nothing before that. -/
def execMirrorTimeout (q : Nat) (s : State) : Host.Outcome State Fault Refusal :=
  runLive (fun d => mirrorTimeout q d) s

/-- MIRROR_FETCH_REQUEST (R411). The Ledger serves the fetch request (OP 5) at the front of Sluice 167 (R411). -/
def execMirrorFetchRequest (s : State) : Host.Outcome State Fault Refusal :=
  runLive (fun d => fetchRequest d) s

/-- MIRROR_FETCH_DATA (R411). The Ledger takes the fetch data or its end (OP 4, 6) at the front of Sluice 167 (R411, R412). -/
def execMirrorFetchData (s : State) : Host.Outcome State Fault Refusal :=
  runLive (fun d => settle (fetchData d)) s

/-- MIRROR_FETCH_TIMEOUT (R411). A fetch stays unanswered for 92,160,000 gu (R411); nothing before that. -/
def execMirrorFetchTimeout (s : State) : Host.Outcome State Fault Refusal :=
  runLive (fun d => fetchTimeout d) s

/-- LEDGER_CFG_WRITE (R408). A write of LEDG_CFG (R408, R414). -/
def execLedgerCfgWrite (v : Nat) (s : State) : Host.Outcome State Fault Refusal :=
  runLive (fun d => hostReg 0x1100024 v (ledgCfgWrite v) d) s

/-- LEDGER_PEER_WRITE (R408). A write of LEDG_PEER (R408, R414). -/
def execLedgerPeerWrite (v : Nat) (s : State) : Host.Outcome State Fault Refusal :=
  runLive (fun d => hostReg 0x1100028 v (ledgPeerWrite v) d) s

/-- SHOW_LEDGER (R415). `show ledger`. -/
def execShowLedger (r : BRef) (s : State) : Host.Outcome State Fault Refusal :=
  runLive (showLedger r) s

/-- SHOW_LEDGER_LIDX (R415). `show ledger lidx N`. -/
def execShowLedgerLidx (r : BRef) (l : Nat) (s : State) : Host.Outcome State Fault Refusal :=
  runLive (showLidx r l) s

/-- SET_LEDGER (R415). `set ledger [maxreplay N] [mirror on/off] [peer N/none] [serve 0/1] [ttl T] [mirto T]`, times in gu. -/
def execSetLedger (r : BRef) (maxreplay : Option Nat) (mirror : Option Bool) (peer : Option (Option Nat)) (serve : Option Nat) (ttl : Option Nat) (mirto : Option Nat) (s : State) : Host.Outcome State Fault Refusal :=
  runLive (setLedger r maxreplay mirror peer serve ttl mirto) s

/-- FETCH_LEDGER_MIRROR (R411). `fetch ledger mirror [wait]` (R411). -/
def execFetchLedgerMirror (r : BRef) (wait : Bool) (s : State) : Host.Outcome State Fault Refusal :=
  runLive (fetchLedger r wait) s

end Sys2Proof.Machine
end

