-- ==== Sys2Proof/Machine/CmdLongI.lean ====
section
/-!
DEFINITION. Machine/CmdLongI.lean: the instructions of the Longavel cores, one slot of a word each (13). A word is its slots in any order: `more` is set on all but the last, with which the word issues.
-/
namespace Sys2Proof.Machine

/-- BR (R277). Slot 0: branches by `off` words when the condition holds (R277, R278). -/
def execBr (c : Nat) (sl : Nat) (gp : Nat) (gs : Bool) (res : Bool) (off : Int) (more : Bool) (err : Nat) (s : State) : Host.Outcome State Fault Refusal :=
  runLive (longCmd c ⟨sl, gp, gs, res, .ctl .br 0 off⟩ more err) s

/-- JR (R277). Slot 0: branches to the code offset in g[A]. -/
def execJr (c : Nat) (sl : Nat) (gp : Nat) (gs : Bool) (res : Bool) (a : Nat) (more : Bool) (err : Nat) (s : State) : Host.Outcome State Fault Refusal :=
  runLive (longCmd c ⟨sl, gp, gs, res, .ctl .jr a 0⟩ more err) s

/-- CALL (R277). Slot 0: g31 takes the return offset, then as BR. -/
def execCall (c : Nat) (sl : Nat) (gp : Nat) (gs : Bool) (res : Bool) (off : Int) (more : Bool) (err : Nat) (s : State) : Host.Outcome State Fault Refusal :=
  runLive (longCmd c ⟨sl, gp, gs, res, .ctl .call 0 off⟩ more err) s

/-- RET (R267). Slot 0: returns to the kernel with status g1, and the batch's replies commit (12 R267, R269). -/
def execRet (c : Nat) (sl : Nat) (gp : Nat) (gs : Bool) (res : Bool) (more : Bool) (err : Nat) (s : State) : Host.Outcome State Fault Refusal :=
  runLive (longCmd c ⟨sl, gp, gs, res, .ctl .ret 0 0⟩ more err) s

/-- ERET (R277). Slot 0, kernel only: enters program mode at the chosen entry. -/
def execEret (c : Nat) (sl : Nat) (gp : Nat) (gs : Bool) (res : Bool) (more : Bool) (err : Nat) (s : State) : Host.Outcome State Fault Refusal :=
  runLive (longCmd c ⟨sl, gp, gs, res, .ctl .eret 0 0⟩ more err) s

/-- ADD (R280). Scalar, format R (R279 to R281). -/
def execAdd (c : Nat) (sl : Nat) (gp : Nat) (gs : Bool) (res : Bool) (d : Nat) (a : Nat) (b : Nat) (more : Bool) (err : Nat) (s : State) : Host.Outcome State Fault Refusal :=
  runLive (longCmd c ⟨sl, gp, gs, res, .sr .add d a b 0⟩ more err) s

/-- SUB (R280). Scalar, format R (R279 to R281). -/
def execSub (c : Nat) (sl : Nat) (gp : Nat) (gs : Bool) (res : Bool) (d : Nat) (a : Nat) (b : Nat) (more : Bool) (err : Nat) (s : State) : Host.Outcome State Fault Refusal :=
  runLive (longCmd c ⟨sl, gp, gs, res, .sr .sub d a b 0⟩ more err) s

/-- AND (R280). Scalar, format R (R279 to R281). -/
def execAndG (c : Nat) (sl : Nat) (gp : Nat) (gs : Bool) (res : Bool) (d : Nat) (a : Nat) (b : Nat) (more : Bool) (err : Nat) (s : State) : Host.Outcome State Fault Refusal :=
  runLive (longCmd c ⟨sl, gp, gs, res, .sr .and d a b 0⟩ more err) s

/-- OR (R280). Scalar, format R (R279 to R281). -/
def execOrG (c : Nat) (sl : Nat) (gp : Nat) (gs : Bool) (res : Bool) (d : Nat) (a : Nat) (b : Nat) (more : Bool) (err : Nat) (s : State) : Host.Outcome State Fault Refusal :=
  runLive (longCmd c ⟨sl, gp, gs, res, .sr .or d a b 0⟩ more err) s

/-- XOR (R280). Scalar, format R (R279 to R281). -/
def execXor (c : Nat) (sl : Nat) (gp : Nat) (gs : Bool) (res : Bool) (d : Nat) (a : Nat) (b : Nat) (more : Bool) (err : Nat) (s : State) : Host.Outcome State Fault Refusal :=
  runLive (longCmd c ⟨sl, gp, gs, res, .sr .xor d a b 0⟩ more err) s

/-- SHL (R280). Scalar, format R (R279 to R281). -/
def execShl (c : Nat) (sl : Nat) (gp : Nat) (gs : Bool) (res : Bool) (d : Nat) (a : Nat) (b : Nat) (more : Bool) (err : Nat) (s : State) : Host.Outcome State Fault Refusal :=
  runLive (longCmd c ⟨sl, gp, gs, res, .sr .shl d a b 0⟩ more err) s

/-- SHR (R280). Scalar, format R (R279 to R281). -/
def execShr (c : Nat) (sl : Nat) (gp : Nat) (gs : Bool) (res : Bool) (d : Nat) (a : Nat) (b : Nat) (more : Bool) (err : Nat) (s : State) : Host.Outcome State Fault Refusal :=
  runLive (longCmd c ⟨sl, gp, gs, res, .sr .shr d a b 0⟩ more err) s

/-- SAR (R280). Scalar, format R (R279 to R281). -/
def execSar (c : Nat) (sl : Nat) (gp : Nat) (gs : Bool) (res : Bool) (d : Nat) (a : Nat) (b : Nat) (more : Bool) (err : Nat) (s : State) : Host.Outcome State Fault Refusal :=
  runLive (longCmd c ⟨sl, gp, gs, res, .sr .sar d a b 0⟩ more err) s

/-- MIN (R280). Scalar, format R (R279 to R281). -/
def execMinG (c : Nat) (sl : Nat) (gp : Nat) (gs : Bool) (res : Bool) (d : Nat) (a : Nat) (b : Nat) (more : Bool) (err : Nat) (s : State) : Host.Outcome State Fault Refusal :=
  runLive (longCmd c ⟨sl, gp, gs, res, .sr .min d a b 0⟩ more err) s

/-- MAX (R280). Scalar, format R (R279 to R281). -/
def execMaxG (c : Nat) (sl : Nat) (gp : Nat) (gs : Bool) (res : Bool) (d : Nat) (a : Nat) (b : Nat) (more : Bool) (err : Nat) (s : State) : Host.Outcome State Fault Refusal :=
  runLive (longCmd c ⟨sl, gp, gs, res, .sr .max d a b 0⟩ more err) s

/-- MINU (R280). Scalar, format R (R279 to R281). -/
def execMinu (c : Nat) (sl : Nat) (gp : Nat) (gs : Bool) (res : Bool) (d : Nat) (a : Nat) (b : Nat) (more : Bool) (err : Nat) (s : State) : Host.Outcome State Fault Refusal :=
  runLive (longCmd c ⟨sl, gp, gs, res, .sr .minu d a b 0⟩ more err) s

/-- MAXU (R280). Scalar, format R (R279 to R281). -/
def execMaxu (c : Nat) (sl : Nat) (gp : Nat) (gs : Bool) (res : Bool) (d : Nat) (a : Nat) (b : Nat) (more : Bool) (err : Nat) (s : State) : Host.Outcome State Fault Refusal :=
  runLive (longCmd c ⟨sl, gp, gs, res, .sr .maxu d a b 0⟩ more err) s

/-- MUL (R280). Scalar, format R (R279 to R281). -/
def execMul (c : Nat) (sl : Nat) (gp : Nat) (gs : Bool) (res : Bool) (d : Nat) (a : Nat) (b : Nat) (more : Bool) (err : Nat) (s : State) : Host.Outcome State Fault Refusal :=
  runLive (longCmd c ⟨sl, gp, gs, res, .sr .mul d a b 0⟩ more err) s

/-- MULH (R280). Scalar, format R (R279 to R281). -/
def execMulh (c : Nat) (sl : Nat) (gp : Nat) (gs : Bool) (res : Bool) (d : Nat) (a : Nat) (b : Nat) (more : Bool) (err : Nat) (s : State) : Host.Outcome State Fault Refusal :=
  runLive (longCmd c ⟨sl, gp, gs, res, .sr .mulh d a b 0⟩ more err) s

/-- MULHU (R280). Scalar, format R (R279 to R281). -/
def execMulhu (c : Nat) (sl : Nat) (gp : Nat) (gs : Bool) (res : Bool) (d : Nat) (a : Nat) (b : Nat) (more : Bool) (err : Nat) (s : State) : Host.Outcome State Fault Refusal :=
  runLive (longCmd c ⟨sl, gp, gs, res, .sr .mulhu d a b 0⟩ more err) s

/-- DIV (R281). Scalar, format R (R279 to R281). -/
def execDiv (c : Nat) (sl : Nat) (gp : Nat) (gs : Bool) (res : Bool) (d : Nat) (a : Nat) (b : Nat) (more : Bool) (err : Nat) (s : State) : Host.Outcome State Fault Refusal :=
  runLive (longCmd c ⟨sl, gp, gs, res, .sr .div d a b 0⟩ more err) s

/-- DIVU (R281). Scalar, format R (R279 to R281). -/
def execDivu (c : Nat) (sl : Nat) (gp : Nat) (gs : Bool) (res : Bool) (d : Nat) (a : Nat) (b : Nat) (more : Bool) (err : Nat) (s : State) : Host.Outcome State Fault Refusal :=
  runLive (longCmd c ⟨sl, gp, gs, res, .sr .divu d a b 0⟩ more err) s

/-- REM (R281). Scalar, format R (R279 to R281). -/
def execRem (c : Nat) (sl : Nat) (gp : Nat) (gs : Bool) (res : Bool) (d : Nat) (a : Nat) (b : Nat) (more : Bool) (err : Nat) (s : State) : Host.Outcome State Fault Refusal :=
  runLive (longCmd c ⟨sl, gp, gs, res, .sr .rem d a b 0⟩ more err) s

/-- REMU (R281). Scalar, format R (R279 to R281). -/
def execRemu (c : Nat) (sl : Nat) (gp : Nat) (gs : Bool) (res : Bool) (d : Nat) (a : Nat) (b : Nat) (more : Bool) (err : Nat) (s : State) : Host.Outcome State Fault Refusal :=
  runLive (longCmd c ⟨sl, gp, gs, res, .sr .remu d a b 0⟩ more err) s

/-- CMPEQ (R280). Scalar, format R (R279 to R281). -/
def execCmpeq (c : Nat) (sl : Nat) (gp : Nat) (gs : Bool) (res : Bool) (d : Nat) (a : Nat) (b : Nat) (more : Bool) (err : Nat) (s : State) : Host.Outcome State Fault Refusal :=
  runLive (longCmd c ⟨sl, gp, gs, res, .sr .cmpeq d a b 0⟩ more err) s

/-- CMPNE (R280). Scalar, format R (R279 to R281). -/
def execCmpne (c : Nat) (sl : Nat) (gp : Nat) (gs : Bool) (res : Bool) (d : Nat) (a : Nat) (b : Nat) (more : Bool) (err : Nat) (s : State) : Host.Outcome State Fault Refusal :=
  runLive (longCmd c ⟨sl, gp, gs, res, .sr .cmpne d a b 0⟩ more err) s

/-- CMPLT (R280). Scalar, format R (R279 to R281). -/
def execCmplt (c : Nat) (sl : Nat) (gp : Nat) (gs : Bool) (res : Bool) (d : Nat) (a : Nat) (b : Nat) (more : Bool) (err : Nat) (s : State) : Host.Outcome State Fault Refusal :=
  runLive (longCmd c ⟨sl, gp, gs, res, .sr .cmplt d a b 0⟩ more err) s

/-- CMPLTU (R280). Scalar, format R (R279 to R281). -/
def execCmpltu (c : Nat) (sl : Nat) (gp : Nat) (gs : Bool) (res : Bool) (d : Nat) (a : Nat) (b : Nat) (more : Bool) (err : Nat) (s : State) : Host.Outcome State Fault Refusal :=
  runLive (longCmd c ⟨sl, gp, gs, res, .sr .cmpltu d a b 0⟩ more err) s

/-- CMPLE (R280). Scalar, format R (R279 to R281). -/
def execCmple (c : Nat) (sl : Nat) (gp : Nat) (gs : Bool) (res : Bool) (d : Nat) (a : Nat) (b : Nat) (more : Bool) (err : Nat) (s : State) : Host.Outcome State Fault Refusal :=
  runLive (longCmd c ⟨sl, gp, gs, res, .sr .cmple d a b 0⟩ more err) s

/-- CMPLEU (R280). Scalar, format R (R279 to R281). -/
def execCmpleu (c : Nat) (sl : Nat) (gp : Nat) (gs : Bool) (res : Bool) (d : Nat) (a : Nat) (b : Nat) (more : Bool) (err : Nat) (s : State) : Host.Outcome State Fault Refusal :=
  runLive (longCmd c ⟨sl, gp, gs, res, .sr .cmpleu d a b 0⟩ more err) s

/-- PAND (R280). Scalar, format R (R279 to R281). -/
def execPand (c : Nat) (sl : Nat) (gp : Nat) (gs : Bool) (res : Bool) (d : Nat) (a : Nat) (b : Nat) (more : Bool) (err : Nat) (s : State) : Host.Outcome State Fault Refusal :=
  runLive (longCmd c ⟨sl, gp, gs, res, .sr .pand d a b 0⟩ more err) s

/-- POR (R280). Scalar, format R (R279 to R281). -/
def execPor (c : Nat) (sl : Nat) (gp : Nat) (gs : Bool) (res : Bool) (d : Nat) (a : Nat) (b : Nat) (more : Bool) (err : Nat) (s : State) : Host.Outcome State Fault Refusal :=
  runLive (longCmd c ⟨sl, gp, gs, res, .sr .por d a b 0⟩ more err) s

/-- PXOR (R280). Scalar, format R (R279 to R281). -/
def execPxor (c : Nat) (sl : Nat) (gp : Nat) (gs : Bool) (res : Bool) (d : Nat) (a : Nat) (b : Nat) (more : Bool) (err : Nat) (s : State) : Host.Outcome State Fault Refusal :=
  runLive (longCmd c ⟨sl, gp, gs, res, .sr .pxor d a b 0⟩ more err) s

/-- PANDN (R280). Scalar, format R (R279 to R281). -/
def execPandn (c : Nat) (sl : Nat) (gp : Nat) (gs : Bool) (res : Bool) (d : Nat) (a : Nat) (b : Nat) (more : Bool) (err : Nat) (s : State) : Host.Outcome State Fault Refusal :=
  runLive (longCmd c ⟨sl, gp, gs, res, .sr .pandn d a b 0⟩ more err) s

/-- SEL (R280). Scalar, format R: g[A] or g[B] by p[C]. -/
def execSel (c : Nat) (sl : Nat) (gp : Nat) (gs : Bool) (res : Bool) (d : Nat) (a : Nat) (b : Nat) (x : Nat) (more : Bool) (err : Nat) (s : State) : Host.Outcome State Fault Refusal :=
  runLive (longCmd c ⟨sl, gp, gs, res, .sr .sel d a b x⟩ more err) s

/-- POPC (R280). Scalar, format R with B zero. -/
def execPopc (c : Nat) (sl : Nat) (gp : Nat) (gs : Bool) (res : Bool) (d : Nat) (a : Nat) (more : Bool) (err : Nat) (s : State) : Host.Outcome State Fault Refusal :=
  runLive (longCmd c ⟨sl, gp, gs, res, .sr .popc d a 0 0⟩ more err) s

/-- CLZ (R280). Scalar, format R with B zero. -/
def execClz (c : Nat) (sl : Nat) (gp : Nat) (gs : Bool) (res : Bool) (d : Nat) (a : Nat) (more : Bool) (err : Nat) (s : State) : Host.Outcome State Fault Refusal :=
  runLive (longCmd c ⟨sl, gp, gs, res, .sr .clz d a 0 0⟩ more err) s

/-- ADDI (R280). Scalar, format I. -/
def execAddi (c : Nat) (sl : Nat) (gp : Nat) (gs : Bool) (res : Bool) (d : Nat) (a : Nat) (imm : Int) (more : Bool) (err : Nat) (s : State) : Host.Outcome State Fault Refusal :=
  runLive (longCmd c ⟨sl, gp, gs, res, .si .addi d a imm⟩ more err) s

/-- ANDI (R280). Scalar, format I. -/
def execAndi (c : Nat) (sl : Nat) (gp : Nat) (gs : Bool) (res : Bool) (d : Nat) (a : Nat) (imm : Int) (more : Bool) (err : Nat) (s : State) : Host.Outcome State Fault Refusal :=
  runLive (longCmd c ⟨sl, gp, gs, res, .si .andi d a imm⟩ more err) s

/-- ORI (R280). Scalar, format I. -/
def execOri (c : Nat) (sl : Nat) (gp : Nat) (gs : Bool) (res : Bool) (d : Nat) (a : Nat) (imm : Int) (more : Bool) (err : Nat) (s : State) : Host.Outcome State Fault Refusal :=
  runLive (longCmd c ⟨sl, gp, gs, res, .si .ori d a imm⟩ more err) s

/-- XORI (R280). Scalar, format I. -/
def execXori (c : Nat) (sl : Nat) (gp : Nat) (gs : Bool) (res : Bool) (d : Nat) (a : Nat) (imm : Int) (more : Bool) (err : Nat) (s : State) : Host.Outcome State Fault Refusal :=
  runLive (longCmd c ⟨sl, gp, gs, res, .si .xori d a imm⟩ more err) s

/-- SHLI (R280). Scalar, format I. -/
def execShli (c : Nat) (sl : Nat) (gp : Nat) (gs : Bool) (res : Bool) (d : Nat) (a : Nat) (imm : Int) (more : Bool) (err : Nat) (s : State) : Host.Outcome State Fault Refusal :=
  runLive (longCmd c ⟨sl, gp, gs, res, .si .shli d a imm⟩ more err) s

/-- SHRI (R280). Scalar, format I. -/
def execShri (c : Nat) (sl : Nat) (gp : Nat) (gs : Bool) (res : Bool) (d : Nat) (a : Nat) (imm : Int) (more : Bool) (err : Nat) (s : State) : Host.Outcome State Fault Refusal :=
  runLive (longCmd c ⟨sl, gp, gs, res, .si .shri d a imm⟩ more err) s

/-- SARI (R280). Scalar, format I. -/
def execSari (c : Nat) (sl : Nat) (gp : Nat) (gs : Bool) (res : Bool) (d : Nat) (a : Nat) (imm : Int) (more : Bool) (err : Nat) (s : State) : Host.Outcome State Fault Refusal :=
  runLive (longCmd c ⟨sl, gp, gs, res, .si .sari d a imm⟩ more err) s

/-- CMPEQI (R280). Scalar, format I. -/
def execCmpeqi (c : Nat) (sl : Nat) (gp : Nat) (gs : Bool) (res : Bool) (d : Nat) (a : Nat) (imm : Int) (more : Bool) (err : Nat) (s : State) : Host.Outcome State Fault Refusal :=
  runLive (longCmd c ⟨sl, gp, gs, res, .si .cmpeqi d a imm⟩ more err) s

/-- CMPLTI (R280). Scalar, format I. -/
def execCmplti (c : Nat) (sl : Nat) (gp : Nat) (gs : Bool) (res : Bool) (d : Nat) (a : Nat) (imm : Int) (more : Bool) (err : Nat) (s : State) : Host.Outcome State Fault Refusal :=
  runLive (longCmd c ⟨sl, gp, gs, res, .si .cmplti d a imm⟩ more err) s

/-- CMPLTUI (R280). Scalar, format I. -/
def execCmpltui (c : Nat) (sl : Nat) (gp : Nat) (gs : Bool) (res : Bool) (d : Nat) (a : Nat) (imm : Int) (more : Bool) (err : Nat) (s : State) : Host.Outcome State Fault Refusal :=
  runLive (longCmd c ⟨sl, gp, gs, res, .si .cmpltui d a imm⟩ more err) s

/-- MOVI (R280). Scalar, format L. -/
def execMovi (c : Nat) (sl : Nat) (gp : Nat) (gs : Bool) (res : Bool) (d : Nat) (imm : Int) (more : Bool) (err : Nat) (s : State) : Host.Outcome State Fault Refusal :=
  runLive (longCmd c ⟨sl, gp, gs, res, .movi d imm⟩ more err) s

/-- MOVH (R280). Scalar, format L: the high 17 bits of g[D]. -/
def execMovh (c : Nat) (sl : Nat) (gp : Nat) (gs : Bool) (res : Bool) (d : Nat) (hi : Nat) (more : Bool) (err : Nat) (s : State) : Host.Outcome State Fault Refusal :=
  runLive (longCmd c ⟨sl, gp, gs, res, .movh d hi⟩ more err) s

/-- MFK (R281). Reads control register K (12 R253). -/
def execMfk (c : Nat) (sl : Nat) (gp : Nat) (gs : Bool) (res : Bool) (g : Nat) (k : Nat) (more : Bool) (err : Nat) (s : State) : Host.Outcome State Fault Refusal :=
  runLive (longCmd c ⟨sl, gp, gs, res, .mfk g k⟩ more err) s

/-- MTK (R281). Writes control register K, kernel only (12 R253). -/
def execMtk (c : Nat) (sl : Nat) (gp : Nat) (gs : Bool) (res : Bool) (g : Nat) (k : Nat) (more : Bool) (err : Nat) (s : State) : Host.Outcome State Fault Refusal :=
  runLive (longCmd c ⟨sl, gp, gs, res, .mtk g k⟩ more err) s

/-- LDB (R282). Slot 3, format M: the access at g[A] + OFF (R282, R283; 12 R255, R257). `err`: a memory error it meets, 1 corrected, 2 not. -/
def execLdb (c : Nat) (sl : Nat) (gp : Nat) (gs : Bool) (res : Bool) (t : Nat) (a : Nat) (off : Int) (more : Bool) (err : Nat) (s : State) : Host.Outcome State Fault Refusal :=
  runLive (longCmd c ⟨sl, gp, gs, res, .mem .ldb t a 0 off⟩ more err) s

/-- LDBU (R282). Slot 3, format M: the access at g[A] + OFF (R282, R283; 12 R255, R257). `err`: a memory error it meets, 1 corrected, 2 not. -/
def execLdbu (c : Nat) (sl : Nat) (gp : Nat) (gs : Bool) (res : Bool) (t : Nat) (a : Nat) (off : Int) (more : Bool) (err : Nat) (s : State) : Host.Outcome State Fault Refusal :=
  runLive (longCmd c ⟨sl, gp, gs, res, .mem .ldbu t a 0 off⟩ more err) s

/-- LDH (R282). Slot 3, format M: the access at g[A] + OFF (R282, R283; 12 R255, R257). `err`: a memory error it meets, 1 corrected, 2 not. -/
def execLdh (c : Nat) (sl : Nat) (gp : Nat) (gs : Bool) (res : Bool) (t : Nat) (a : Nat) (off : Int) (more : Bool) (err : Nat) (s : State) : Host.Outcome State Fault Refusal :=
  runLive (longCmd c ⟨sl, gp, gs, res, .mem .ldh t a 0 off⟩ more err) s

/-- LDHU (R282). Slot 3, format M: the access at g[A] + OFF (R282, R283; 12 R255, R257). `err`: a memory error it meets, 1 corrected, 2 not. -/
def execLdhu (c : Nat) (sl : Nat) (gp : Nat) (gs : Bool) (res : Bool) (t : Nat) (a : Nat) (off : Int) (more : Bool) (err : Nat) (s : State) : Host.Outcome State Fault Refusal :=
  runLive (longCmd c ⟨sl, gp, gs, res, .mem .ldhu t a 0 off⟩ more err) s

/-- LDW (R282). Slot 3, format M: the access at g[A] + OFF (R282, R283; 12 R255, R257). `err`: a memory error it meets, 1 corrected, 2 not. -/
def execLdw (c : Nat) (sl : Nat) (gp : Nat) (gs : Bool) (res : Bool) (t : Nat) (a : Nat) (off : Int) (more : Bool) (err : Nat) (s : State) : Host.Outcome State Fault Refusal :=
  runLive (longCmd c ⟨sl, gp, gs, res, .mem .ldw t a 0 off⟩ more err) s

/-- LDWU (R282). Slot 3, format M: the access at g[A] + OFF (R282, R283; 12 R255, R257). `err`: a memory error it meets, 1 corrected, 2 not. -/
def execLdwu (c : Nat) (sl : Nat) (gp : Nat) (gs : Bool) (res : Bool) (t : Nat) (a : Nat) (off : Int) (more : Bool) (err : Nat) (s : State) : Host.Outcome State Fault Refusal :=
  runLive (longCmd c ⟨sl, gp, gs, res, .mem .ldwu t a 0 off⟩ more err) s

/-- LDD (R282). Slot 3, format M: the access at g[A] + OFF (R282, R283; 12 R255, R257). `err`: a memory error it meets, 1 corrected, 2 not. -/
def execLdd (c : Nat) (sl : Nat) (gp : Nat) (gs : Bool) (res : Bool) (t : Nat) (a : Nat) (off : Int) (more : Bool) (err : Nat) (s : State) : Host.Outcome State Fault Refusal :=
  runLive (longCmd c ⟨sl, gp, gs, res, .mem .ldd t a 0 off⟩ more err) s

/-- STB (R282). Slot 3, format M: the access at g[A] + OFF (R282, R283; 12 R255, R257). `err`: a memory error it meets, 1 corrected, 2 not. -/
def execStb (c : Nat) (sl : Nat) (gp : Nat) (gs : Bool) (res : Bool) (t : Nat) (a : Nat) (off : Int) (more : Bool) (err : Nat) (s : State) : Host.Outcome State Fault Refusal :=
  runLive (longCmd c ⟨sl, gp, gs, res, .mem .stb t a 0 off⟩ more err) s

/-- STH (R282). Slot 3, format M: the access at g[A] + OFF (R282, R283; 12 R255, R257). `err`: a memory error it meets, 1 corrected, 2 not. -/
def execSth (c : Nat) (sl : Nat) (gp : Nat) (gs : Bool) (res : Bool) (t : Nat) (a : Nat) (off : Int) (more : Bool) (err : Nat) (s : State) : Host.Outcome State Fault Refusal :=
  runLive (longCmd c ⟨sl, gp, gs, res, .mem .sth t a 0 off⟩ more err) s

/-- STW (R282). Slot 3, format M: the access at g[A] + OFF (R282, R283; 12 R255, R257). `err`: a memory error it meets, 1 corrected, 2 not. -/
def execStw (c : Nat) (sl : Nat) (gp : Nat) (gs : Bool) (res : Bool) (t : Nat) (a : Nat) (off : Int) (more : Bool) (err : Nat) (s : State) : Host.Outcome State Fault Refusal :=
  runLive (longCmd c ⟨sl, gp, gs, res, .mem .stw t a 0 off⟩ more err) s

/-- STD (R282). Slot 3, format M: the access at g[A] + OFF (R282, R283; 12 R255, R257). `err`: a memory error it meets, 1 corrected, 2 not. -/
def execStd (c : Nat) (sl : Nat) (gp : Nat) (gs : Bool) (res : Bool) (t : Nat) (a : Nat) (off : Int) (more : Bool) (err : Nat) (s : State) : Host.Outcome State Fault Refusal :=
  runLive (longCmd c ⟨sl, gp, gs, res, .mem .std t a 0 off⟩ more err) s

/-- VLD (R282). Slot 3, format M: the access at g[A] + OFF (R282, R283; 12 R255, R257). `err`: a memory error it meets, 1 corrected, 2 not. -/
def execVld (c : Nat) (sl : Nat) (gp : Nat) (gs : Bool) (res : Bool) (t : Nat) (a : Nat) (off : Int) (more : Bool) (err : Nat) (s : State) : Host.Outcome State Fault Refusal :=
  runLive (longCmd c ⟨sl, gp, gs, res, .mem .vld t a 0 off⟩ more err) s

/-- VST (R282). Slot 3, format M: the access at g[A] + OFF (R282, R283; 12 R255, R257). `err`: a memory error it meets, 1 corrected, 2 not. -/
def execVst (c : Nat) (sl : Nat) (gp : Nat) (gs : Bool) (res : Bool) (t : Nat) (a : Nat) (off : Int) (more : Bool) (err : Nat) (s : State) : Host.Outcome State Fault Refusal :=
  runLive (longCmd c ⟨sl, gp, gs, res, .mem .vst t a 0 off⟩ more err) s

/-- TLD (R283). Slot 3, format M: the access at g[A] + OFF (R282, R283; 12 R255, R257). `err`: a memory error it meets, 1 corrected, 2 not. -/
def execTld (c : Nat) (sl : Nat) (gp : Nat) (gs : Bool) (res : Bool) (t : Nat) (a : Nat) (off : Int) (more : Bool) (err : Nat) (s : State) : Host.Outcome State Fault Refusal :=
  runLive (longCmd c ⟨sl, gp, gs, res, .mem .tld t a 0 off⟩ more err) s

/-- TST (R283). Slot 3, format M: the access at g[A] + OFF (R282, R283; 12 R255, R257). `err`: a memory error it meets, 1 corrected, 2 not. -/
def execTst (c : Nat) (sl : Nat) (gp : Nat) (gs : Bool) (res : Bool) (t : Nat) (a : Nat) (off : Int) (more : Bool) (err : Nat) (s : State) : Host.Outcome State Fault Refusal :=
  runLive (longCmd c ⟨sl, gp, gs, res, .mem .tst t a 0 off⟩ more err) s

/-- VLD64 (R283). Slot 3, format M, one 64-byte segment. -/
def execVld64 (c : Nat) (sl : Nat) (gp : Nat) (gs : Bool) (res : Bool) (t : Nat) (a : Nat) (seg : Nat) (off : Int) (more : Bool) (err : Nat) (s : State) : Host.Outcome State Fault Refusal :=
  runLive (longCmd c ⟨sl, gp, gs, res, .mem .vld64 t a seg off⟩ more err) s

/-- VST64 (R282). Slot 3, format M, one 64-byte segment. -/
def execVst64 (c : Nat) (sl : Nat) (gp : Nat) (gs : Bool) (res : Bool) (t : Nat) (a : Nat) (seg : Nat) (off : Int) (more : Bool) (err : Nat) (s : State) : Host.Outcome State Fault Refusal :=
  runLive (longCmd c ⟨sl, gp, gs, res, .mem .vst64 t a seg off⟩ more err) s

/-- VADD (R284). Vector slot, format V (R284, R285). -/
def execVadd (c : Nat) (sl : Nat) (gp : Nat) (gs : Bool) (res : Bool) (d : Nat) (a : Nat) (b : Nat) (cc : Nat) (w : Nat) (g : Nat) (imm : Nat) (more : Bool) (err : Nat) (s : State) : Host.Outcome State Fault Refusal :=
  runLive (longCmd c ⟨sl, gp, gs, res, .vec .vadd d a b cc w g imm⟩ more err) s

/-- VSUB (R284). Vector slot, format V (R284, R285). -/
def execVsub (c : Nat) (sl : Nat) (gp : Nat) (gs : Bool) (res : Bool) (d : Nat) (a : Nat) (b : Nat) (cc : Nat) (w : Nat) (g : Nat) (imm : Nat) (more : Bool) (err : Nat) (s : State) : Host.Outcome State Fault Refusal :=
  runLive (longCmd c ⟨sl, gp, gs, res, .vec .vsub d a b cc w g imm⟩ more err) s

/-- VADDS (R284). Vector slot, format V (R284, R285). -/
def execVadds (c : Nat) (sl : Nat) (gp : Nat) (gs : Bool) (res : Bool) (d : Nat) (a : Nat) (b : Nat) (cc : Nat) (w : Nat) (g : Nat) (imm : Nat) (more : Bool) (err : Nat) (s : State) : Host.Outcome State Fault Refusal :=
  runLive (longCmd c ⟨sl, gp, gs, res, .vec .vadds d a b cc w g imm⟩ more err) s

/-- VSUBS (R284). Vector slot, format V (R284, R285). -/
def execVsubs (c : Nat) (sl : Nat) (gp : Nat) (gs : Bool) (res : Bool) (d : Nat) (a : Nat) (b : Nat) (cc : Nat) (w : Nat) (g : Nat) (imm : Nat) (more : Bool) (err : Nat) (s : State) : Host.Outcome State Fault Refusal :=
  runLive (longCmd c ⟨sl, gp, gs, res, .vec .vsubs d a b cc w g imm⟩ more err) s

/-- VMIN (R284). Vector slot, format V (R284, R285). -/
def execVmin (c : Nat) (sl : Nat) (gp : Nat) (gs : Bool) (res : Bool) (d : Nat) (a : Nat) (b : Nat) (cc : Nat) (w : Nat) (g : Nat) (imm : Nat) (more : Bool) (err : Nat) (s : State) : Host.Outcome State Fault Refusal :=
  runLive (longCmd c ⟨sl, gp, gs, res, .vec .vmin d a b cc w g imm⟩ more err) s

/-- VMAX (R284). Vector slot, format V (R284, R285). -/
def execVmax (c : Nat) (sl : Nat) (gp : Nat) (gs : Bool) (res : Bool) (d : Nat) (a : Nat) (b : Nat) (cc : Nat) (w : Nat) (g : Nat) (imm : Nat) (more : Bool) (err : Nat) (s : State) : Host.Outcome State Fault Refusal :=
  runLive (longCmd c ⟨sl, gp, gs, res, .vec .vmax d a b cc w g imm⟩ more err) s

/-- VAND (R284). Vector slot, format V (R284, R285). -/
def execVand (c : Nat) (sl : Nat) (gp : Nat) (gs : Bool) (res : Bool) (d : Nat) (a : Nat) (b : Nat) (cc : Nat) (w : Nat) (g : Nat) (imm : Nat) (more : Bool) (err : Nat) (s : State) : Host.Outcome State Fault Refusal :=
  runLive (longCmd c ⟨sl, gp, gs, res, .vec .vand d a b cc w g imm⟩ more err) s

/-- VOR (R284). Vector slot, format V (R284, R285). -/
def execVor (c : Nat) (sl : Nat) (gp : Nat) (gs : Bool) (res : Bool) (d : Nat) (a : Nat) (b : Nat) (cc : Nat) (w : Nat) (g : Nat) (imm : Nat) (more : Bool) (err : Nat) (s : State) : Host.Outcome State Fault Refusal :=
  runLive (longCmd c ⟨sl, gp, gs, res, .vec .vor d a b cc w g imm⟩ more err) s

/-- VXOR (R284). Vector slot, format V (R284, R285). -/
def execVxor (c : Nat) (sl : Nat) (gp : Nat) (gs : Bool) (res : Bool) (d : Nat) (a : Nat) (b : Nat) (cc : Nat) (w : Nat) (g : Nat) (imm : Nat) (more : Bool) (err : Nat) (s : State) : Host.Outcome State Fault Refusal :=
  runLive (longCmd c ⟨sl, gp, gs, res, .vec .vxor d a b cc w g imm⟩ more err) s

/-- VSHL (R284). Vector slot, format V (R284, R285). -/
def execVshl (c : Nat) (sl : Nat) (gp : Nat) (gs : Bool) (res : Bool) (d : Nat) (a : Nat) (b : Nat) (cc : Nat) (w : Nat) (g : Nat) (imm : Nat) (more : Bool) (err : Nat) (s : State) : Host.Outcome State Fault Refusal :=
  runLive (longCmd c ⟨sl, gp, gs, res, .vec .vshl d a b cc w g imm⟩ more err) s

/-- VSHR (R284). Vector slot, format V (R284, R285). -/
def execVshr (c : Nat) (sl : Nat) (gp : Nat) (gs : Bool) (res : Bool) (d : Nat) (a : Nat) (b : Nat) (cc : Nat) (w : Nat) (g : Nat) (imm : Nat) (more : Bool) (err : Nat) (s : State) : Host.Outcome State Fault Refusal :=
  runLive (longCmd c ⟨sl, gp, gs, res, .vec .vshr d a b cc w g imm⟩ more err) s

/-- VSAR (R284). Vector slot, format V (R284, R285). -/
def execVsar (c : Nat) (sl : Nat) (gp : Nat) (gs : Bool) (res : Bool) (d : Nat) (a : Nat) (b : Nat) (cc : Nat) (w : Nat) (g : Nat) (imm : Nat) (more : Bool) (err : Nat) (s : State) : Host.Outcome State Fault Refusal :=
  runLive (longCmd c ⟨sl, gp, gs, res, .vec .vsar d a b cc w g imm⟩ more err) s

/-- VCMPEQ (R284). Vector slot, format V (R284, R285). -/
def execVcmpeq (c : Nat) (sl : Nat) (gp : Nat) (gs : Bool) (res : Bool) (d : Nat) (a : Nat) (b : Nat) (cc : Nat) (w : Nat) (g : Nat) (imm : Nat) (more : Bool) (err : Nat) (s : State) : Host.Outcome State Fault Refusal :=
  runLive (longCmd c ⟨sl, gp, gs, res, .vec .vcmpeq d a b cc w g imm⟩ more err) s

/-- VCMPLT (R284). Vector slot, format V (R284, R285). -/
def execVcmplt (c : Nat) (sl : Nat) (gp : Nat) (gs : Bool) (res : Bool) (d : Nat) (a : Nat) (b : Nat) (cc : Nat) (w : Nat) (g : Nat) (imm : Nat) (more : Bool) (err : Nat) (s : State) : Host.Outcome State Fault Refusal :=
  runLive (longCmd c ⟨sl, gp, gs, res, .vec .vcmplt d a b cc w g imm⟩ more err) s

/-- VCMPLTU (R284). Vector slot, format V (R284, R285). -/
def execVcmpltu (c : Nat) (sl : Nat) (gp : Nat) (gs : Bool) (res : Bool) (d : Nat) (a : Nat) (b : Nat) (cc : Nat) (w : Nat) (g : Nat) (imm : Nat) (more : Bool) (err : Nat) (s : State) : Host.Outcome State Fault Refusal :=
  runLive (longCmd c ⟨sl, gp, gs, res, .vec .vcmpltu d a b cc w g imm⟩ more err) s

/-- VSEL (R284). Vector slot, format V (R284, R285). -/
def execVsel (c : Nat) (sl : Nat) (gp : Nat) (gs : Bool) (res : Bool) (d : Nat) (a : Nat) (b : Nat) (cc : Nat) (w : Nat) (g : Nat) (imm : Nat) (more : Bool) (err : Nat) (s : State) : Host.Outcome State Fault Refusal :=
  runLive (longCmd c ⟨sl, gp, gs, res, .vec .vsel d a b cc w g imm⟩ more err) s

/-- VBCAST (R284). Vector slot, format V (R284, R285). -/
def execVbcast (c : Nat) (sl : Nat) (gp : Nat) (gs : Bool) (res : Bool) (d : Nat) (a : Nat) (b : Nat) (cc : Nat) (w : Nat) (g : Nat) (imm : Nat) (more : Bool) (err : Nat) (s : State) : Host.Outcome State Fault Refusal :=
  runLive (longCmd c ⟨sl, gp, gs, res, .vec .vbcast d a b cc w g imm⟩ more err) s

/-- VGET (R284). Vector slot, format V (R284, R285). -/
def execVget (c : Nat) (sl : Nat) (gp : Nat) (gs : Bool) (res : Bool) (d : Nat) (a : Nat) (b : Nat) (cc : Nat) (w : Nat) (g : Nat) (imm : Nat) (more : Bool) (err : Nat) (s : State) : Host.Outcome State Fault Refusal :=
  runLive (longCmd c ⟨sl, gp, gs, res, .vec .vget d a b cc w g imm⟩ more err) s

/-- VPUT (R284). Vector slot, format V (R284, R285). -/
def execVput (c : Nat) (sl : Nat) (gp : Nat) (gs : Bool) (res : Bool) (d : Nat) (a : Nat) (b : Nat) (cc : Nat) (w : Nat) (g : Nat) (imm : Nat) (more : Bool) (err : Nat) (s : State) : Host.Outcome State Fault Refusal :=
  runLive (longCmd c ⟨sl, gp, gs, res, .vec .vput d a b cc w g imm⟩ more err) s

/-- VMUL (R284). Vector slot, format V (R284, R285). -/
def execVmul (c : Nat) (sl : Nat) (gp : Nat) (gs : Bool) (res : Bool) (d : Nat) (a : Nat) (b : Nat) (cc : Nat) (w : Nat) (g : Nat) (imm : Nat) (more : Bool) (err : Nat) (s : State) : Host.Outcome State Fault Refusal :=
  runLive (longCmd c ⟨sl, gp, gs, res, .vec .vmul d a b cc w g imm⟩ more err) s

/-- VADDF (R285). Vector slot, format V (R284, R285). -/
def execVaddf (c : Nat) (sl : Nat) (gp : Nat) (gs : Bool) (res : Bool) (d : Nat) (a : Nat) (b : Nat) (cc : Nat) (w : Nat) (g : Nat) (imm : Nat) (more : Bool) (err : Nat) (s : State) : Host.Outcome State Fault Refusal :=
  runLive (longCmd c ⟨sl, gp, gs, res, .vec .vaddf d a b cc w g imm⟩ more err) s

/-- VSUBF (R285). Vector slot, format V (R284, R285). -/
def execVsubf (c : Nat) (sl : Nat) (gp : Nat) (gs : Bool) (res : Bool) (d : Nat) (a : Nat) (b : Nat) (cc : Nat) (w : Nat) (g : Nat) (imm : Nat) (more : Bool) (err : Nat) (s : State) : Host.Outcome State Fault Refusal :=
  runLive (longCmd c ⟨sl, gp, gs, res, .vec .vsubf d a b cc w g imm⟩ more err) s

/-- VMULF (R285). Vector slot, format V (R284, R285). -/
def execVmulf (c : Nat) (sl : Nat) (gp : Nat) (gs : Bool) (res : Bool) (d : Nat) (a : Nat) (b : Nat) (cc : Nat) (w : Nat) (g : Nat) (imm : Nat) (more : Bool) (err : Nat) (s : State) : Host.Outcome State Fault Refusal :=
  runLive (longCmd c ⟨sl, gp, gs, res, .vec .vmulf d a b cc w g imm⟩ more err) s

/-- VMINF (R285). Vector slot, format V (R284, R285). -/
def execVminf (c : Nat) (sl : Nat) (gp : Nat) (gs : Bool) (res : Bool) (d : Nat) (a : Nat) (b : Nat) (cc : Nat) (w : Nat) (g : Nat) (imm : Nat) (more : Bool) (err : Nat) (s : State) : Host.Outcome State Fault Refusal :=
  runLive (longCmd c ⟨sl, gp, gs, res, .vec .vminf d a b cc w g imm⟩ more err) s

/-- VMAXF (R285). Vector slot, format V (R284, R285). -/
def execVmaxf (c : Nat) (sl : Nat) (gp : Nat) (gs : Bool) (res : Bool) (d : Nat) (a : Nat) (b : Nat) (cc : Nat) (w : Nat) (g : Nat) (imm : Nat) (more : Bool) (err : Nat) (s : State) : Host.Outcome State Fault Refusal :=
  runLive (longCmd c ⟨sl, gp, gs, res, .vec .vmaxf d a b cc w g imm⟩ more err) s

/-- VCMPLTF (R285). Vector slot, format V (R284, R285). -/
def execVcmpltf (c : Nat) (sl : Nat) (gp : Nat) (gs : Bool) (res : Bool) (d : Nat) (a : Nat) (b : Nat) (cc : Nat) (w : Nat) (g : Nat) (imm : Nat) (more : Bool) (err : Nat) (s : State) : Host.Outcome State Fault Refusal :=
  runLive (longCmd c ⟨sl, gp, gs, res, .vec .vcmpltf d a b cc w g imm⟩ more err) s

/-- VCMPEQF (R285). Vector slot, format V (R284, R285). -/
def execVcmpeqf (c : Nat) (sl : Nat) (gp : Nat) (gs : Bool) (res : Bool) (d : Nat) (a : Nat) (b : Nat) (cc : Nat) (w : Nat) (g : Nat) (imm : Nat) (more : Bool) (err : Nat) (s : State) : Host.Outcome State Fault Refusal :=
  runLive (longCmd c ⟨sl, gp, gs, res, .vec .vcmpeqf d a b cc w g imm⟩ more err) s

/-- VCVTIF (R285). Vector slot, format V (R284, R285). -/
def execVcvtif (c : Nat) (sl : Nat) (gp : Nat) (gs : Bool) (res : Bool) (d : Nat) (a : Nat) (b : Nat) (cc : Nat) (w : Nat) (g : Nat) (imm : Nat) (more : Bool) (err : Nat) (s : State) : Host.Outcome State Fault Refusal :=
  runLive (longCmd c ⟨sl, gp, gs, res, .vec .vcvtif d a b cc w g imm⟩ more err) s

/-- VCVTFI (R285). Vector slot, format V (R284, R285). -/
def execVcvtfi (c : Nat) (sl : Nat) (gp : Nat) (gs : Bool) (res : Bool) (d : Nat) (a : Nat) (b : Nat) (cc : Nat) (w : Nat) (g : Nat) (imm : Nat) (more : Bool) (err : Nat) (s : State) : Host.Outcome State Fault Refusal :=
  runLive (longCmd c ⟨sl, gp, gs, res, .vec .vcvtfi d a b cc w g imm⟩ more err) s

/-- VPACKS (R285). Vector slot, format V (R284, R285). -/
def execVpacks (c : Nat) (sl : Nat) (gp : Nat) (gs : Bool) (res : Bool) (d : Nat) (a : Nat) (b : Nat) (cc : Nat) (w : Nat) (g : Nat) (imm : Nat) (more : Bool) (err : Nat) (s : State) : Host.Outcome State Fault Refusal :=
  runLive (longCmd c ⟨sl, gp, gs, res, .vec .vpacks d a b cc w g imm⟩ more err) s

/-- VPACKF (R285). Vector slot, format V (R284, R285). -/
def execVpackf (c : Nat) (sl : Nat) (gp : Nat) (gs : Bool) (res : Bool) (d : Nat) (a : Nat) (b : Nat) (cc : Nat) (w : Nat) (g : Nat) (imm : Nat) (more : Bool) (err : Nat) (s : State) : Host.Outcome State Fault Refusal :=
  runLive (longCmd c ⟨sl, gp, gs, res, .vec .vpackf d a b cc w g imm⟩ more err) s

/-- VPACKB (R285). Vector slot, format V (R284, R285). -/
def execVpackb (c : Nat) (sl : Nat) (gp : Nat) (gs : Bool) (res : Bool) (d : Nat) (a : Nat) (b : Nat) (cc : Nat) (w : Nat) (g : Nat) (imm : Nat) (more : Bool) (err : Nat) (s : State) : Host.Outcome State Fault Refusal :=
  runLive (longCmd c ⟨sl, gp, gs, res, .vec .vpackb d a b cc w g imm⟩ more err) s

/-- VUNPK (R285). Vector slot, format V (R284, R285). -/
def execVunpk (c : Nat) (sl : Nat) (gp : Nat) (gs : Bool) (res : Bool) (d : Nat) (a : Nat) (b : Nat) (cc : Nat) (w : Nat) (g : Nat) (imm : Nat) (more : Bool) (err : Nat) (s : State) : Host.Outcome State Fault Refusal :=
  runLive (longCmd c ⟨sl, gp, gs, res, .vec .vunpk d a b cc w g imm⟩ more err) s

/-- VUNPKF (R285). Vector slot, format V (R284, R285). -/
def execVunpkf (c : Nat) (sl : Nat) (gp : Nat) (gs : Bool) (res : Bool) (d : Nat) (a : Nat) (b : Nat) (cc : Nat) (w : Nat) (g : Nat) (imm : Nat) (more : Bool) (err : Nat) (s : State) : Host.Outcome State Fault Refusal :=
  runLive (longCmd c ⟨sl, gp, gs, res, .vec .vunpkf d a b cc w g imm⟩ more err) s

/-- VUNPKB (R285). Vector slot, format V (R284, R285). -/
def execVunpkb (c : Nat) (sl : Nat) (gp : Nat) (gs : Bool) (res : Bool) (d : Nat) (a : Nat) (b : Nat) (cc : Nat) (w : Nat) (g : Nat) (imm : Nat) (more : Bool) (err : Nat) (s : State) : Host.Outcome State Fault Refusal :=
  runLive (longCmd c ⟨sl, gp, gs, res, .vec .vunpkb d a b cc w g imm⟩ more err) s

/-- VRCP (R285). Vector slot, format V (R284, R285). -/
def execVrcp (c : Nat) (sl : Nat) (gp : Nat) (gs : Bool) (res : Bool) (d : Nat) (a : Nat) (b : Nat) (cc : Nat) (w : Nat) (g : Nat) (imm : Nat) (more : Bool) (err : Nat) (s : State) : Host.Outcome State Fault Refusal :=
  runLive (longCmd c ⟨sl, gp, gs, res, .vec .vrcp d a b cc w g imm⟩ more err) s

/-- VSQRT (R285). Vector slot, format V (R284, R285). -/
def execVsqrt (c : Nat) (sl : Nat) (gp : Nat) (gs : Bool) (res : Bool) (d : Nat) (a : Nat) (b : Nat) (cc : Nat) (w : Nat) (g : Nat) (imm : Nat) (more : Bool) (err : Nat) (s : State) : Host.Outcome State Fault Refusal :=
  runLive (longCmd c ⟨sl, gp, gs, res, .vec .vsqrt d a b cc w g imm⟩ more err) s

/-- VEXP (R285). Vector slot, format V (R284, R285). -/
def execVexp (c : Nat) (sl : Nat) (gp : Nat) (gs : Bool) (res : Bool) (d : Nat) (a : Nat) (b : Nat) (cc : Nat) (w : Nat) (g : Nat) (imm : Nat) (more : Bool) (err : Nat) (s : State) : Host.Outcome State Fault Refusal :=
  runLive (longCmd c ⟨sl, gp, gs, res, .vec .vexp d a b cc w g imm⟩ more err) s

/-- VRSUM (R285). Vector slot, format V (R284, R285). -/
def execVrsum (c : Nat) (sl : Nat) (gp : Nat) (gs : Bool) (res : Bool) (d : Nat) (a : Nat) (b : Nat) (cc : Nat) (w : Nat) (g : Nat) (imm : Nat) (more : Bool) (err : Nat) (s : State) : Host.Outcome State Fault Refusal :=
  runLive (longCmd c ⟨sl, gp, gs, res, .vec .vrsum d a b cc w g imm⟩ more err) s

/-- VRMAX (R285). Vector slot, format V (R284, R285). -/
def execVrmax (c : Nat) (sl : Nat) (gp : Nat) (gs : Bool) (res : Bool) (d : Nat) (a : Nat) (b : Nat) (cc : Nat) (w : Nat) (g : Nat) (imm : Nat) (more : Bool) (err : Nat) (s : State) : Host.Outcome State Fault Refusal :=
  runLive (longCmd c ⟨sl, gp, gs, res, .vec .vrmax d a b cc w g imm⟩ more err) s

/-- VRSUMF (R285). Vector slot, format V (R284, R285). -/
def execVrsumf (c : Nat) (sl : Nat) (gp : Nat) (gs : Bool) (res : Bool) (d : Nat) (a : Nat) (b : Nat) (cc : Nat) (w : Nat) (g : Nat) (imm : Nat) (more : Bool) (err : Nat) (s : State) : Host.Outcome State Fault Refusal :=
  runLive (longCmd c ⟨sl, gp, gs, res, .vec .vrsumf d a b cc w g imm⟩ more err) s

/-- VRMAXF (R285). Vector slot, format V (R284, R285). -/
def execVrmaxf (c : Nat) (sl : Nat) (gp : Nat) (gs : Bool) (res : Bool) (d : Nat) (a : Nat) (b : Nat) (cc : Nat) (w : Nat) (g : Nat) (imm : Nat) (more : Bool) (err : Nat) (s : State) : Host.Outcome State Fault Refusal :=
  runLive (longCmd c ⟨sl, gp, gs, res, .vec .vrmaxf d a b cc w g imm⟩ more err) s

/-- TACC (R286). Slot 6: ACC (R286; 11 R226). -/
def execTacc (c : Nat) (sl : Nat) (gp : Nat) (gs : Bool) (res : Bool) (bank : Nat) (t : Nat) (td : Nat) (init : Bool) (type : Bool) (ncol : Nat) (more : Bool) (err : Nat) (s : State) : Host.Outcome State Fault Refusal :=
  runLive (longCmd c ⟨sl, gp, gs, res, .tacc bank t td init type ncol⟩ more err) s

/-- TMAC (R286). Slot 6: MAC of tile A with the stream on handle H (R286; 11 R229, R230). -/
def execTmac (c : Nat) (sl : Nat) (gp : Nat) (gs : Bool) (res : Bool) (bank : Nat) (a : Nat) (h : Nat) (more : Bool) (err : Nat) (s : State) : Host.Outcome State Fault Refusal :=
  runLive (longCmd c ⟨sl, gp, gs, res, .tmac bank a h⟩ more err) s

/-- TDRN (R286). Slot 6: DRAIN to tile D (R286; 11 R232). -/
def execTdrn (c : Nat) (sl : Nat) (gp : Nat) (gs : Bool) (res : Bool) (bank : Nat) (t : Nat) (dfmt : Nat) (gm : Nat) (gf : Nat) (more : Bool) (err : Nat) (s : State) : Host.Outcome State Fault Refusal :=
  runLive (longCmd c ⟨sl, gp, gs, res, .tdrn bank t dfmt gm gf⟩ more err) s

/-- TWAIT (R256). Slot 6: waits until every issued tile operation has finished (12 R256). -/
def execTwait (c : Nat) (sl : Nat) (gp : Nat) (gs : Bool) (res : Bool) (more : Bool) (err : Nat) (s : State) : Host.Outcome State Fault Refusal :=
  runLive (longCmd c ⟨sl, gp, gs, res, .twait⟩ more err) s

/-- TSET (R286). Slot 6: writes one field of a tile descriptor (R286). -/
def execTset (c : Nat) (sl : Nat) (gp : Nat) (gs : Bool) (res : Bool) (t : Nat) (field : Nat) (g : Nat) (more : Bool) (err : Nat) (s : State) : Host.Outcome State Fault Refusal :=
  runLive (longCmd c ⟨sl, gp, gs, res, .tset t field g⟩ more err) s

/-- SOPEN (R290). Slot 7: opens a stream on a handle (R289, R290; 11 R235, R242). -/
def execSopen (c : Nat) (sl : Nat) (gp : Nat) (gs : Bool) (res : Bool) (h : Nat) (src : Nat) (grp : Bool) (a : Nat) (b : Nat) (lay : Nat) (ncol : Nat) (more : Bool) (err : Nat) (s : State) : Host.Outcome State Fault Refusal :=
  runLive (longCmd c ⟨sl, gp, gs, res, .sopen h src grp a b lay ncol⟩ more err) s

/-- SCLOSE (R289). Slot 7: ends a handle's stream no TMAC has named (R289). -/
def execSclose (c : Nat) (sl : Nat) (gp : Nat) (gs : Bool) (res : Bool) (h : Nat) (more : Bool) (err : Nat) (s : State) : Host.Outcome State Fault Refusal :=
  runLive (longCmd c ⟨sl, gp, gs, res, .sclose h⟩ more err) s

/-- SLRD (R289). Slot 7: reads a Sluice word (R289; 12 R261). -/
def execSlrd (c : Nat) (sl : Nat) (gp : Nat) (gs : Bool) (res : Bool) (v : Nat) (seg : Nat) (g : Nat) (idx : Nat) (more : Bool) (err : Nat) (s : State) : Host.Outcome State Fault Refusal :=
  runLive (longCmd c ⟨sl, gp, gs, res, .slrd v seg g idx⟩ more err) s

/-- SLWR (R291). Slot 7: writes a Sluice word (R289, R291). -/
def execSlwr (c : Nat) (sl : Nat) (gp : Nat) (gs : Bool) (res : Bool) (v : Nat) (seg : Nat) (idx : Nat) (first : Bool) (last : Bool) (valid : Nat) (more : Bool) (err : Nat) (s : State) : Host.Outcome State Fault Refusal :=
  runLive (longCmd c ⟨sl, gp, gs, res, .slwr v seg idx first last valid⟩ more err) s

/-- SLWAIT (R262). Slot 7: waits for a packet, or g[G] gu (12 R262). -/
def execSlwait (c : Nat) (sl : Nat) (gp : Nat) (gs : Bool) (res : Bool) (g : Nat) (idx : Nat) (more : Bool) (err : Nat) (s : State) : Host.Outcome State Fault Refusal :=
  runLive (longCmd c ⟨sl, gp, gs, res, .slwait g idx⟩ more err) s

/-- SLDROP (R289). Slot 7: DROP (R289). -/
def execSldrop (c : Nat) (sl : Nat) (gp : Nat) (gs : Bool) (res : Bool) (idx : Nat) (more : Bool) (err : Nat) (s : State) : Host.Outcome State Fault Refusal :=
  runLive (longCmd c ⟨sl, gp, gs, res, .sldrop idx⟩ more err) s

/-- SINIT (R292). Slot 7: opens a session (R292). -/
def execSinit (c : Nat) (sl : Nat) (gp : Nat) (gs : Bool) (res : Bool) (a : Nat) (b : Nat) (more : Bool) (err : Nat) (s : State) : Host.Outcome State Fault Refusal :=
  runLive (longCmd c ⟨sl, gp, gs, res, .sinit a b⟩ more err) s

/-- SAPP (R292). Slot 7: appends rows to a session (R292; 11 R240). -/
def execSapp (c : Nat) (sl : Nat) (gp : Nat) (gs : Bool) (res : Bool) (a : Nat) (b : Nat) (n : Nat) (more : Bool) (err : Nat) (s : State) : Host.Outcome State Fault Refusal :=
  runLive (longCmd c ⟨sl, gp, gs, res, .sapp a b n⟩ more err) s

/-- SFREE (R292). Slot 7: frees a session's pages (R292). -/
def execSfree (c : Nat) (sl : Nat) (gp : Nat) (gs : Bool) (res : Bool) (a : Nat) (more : Bool) (err : Nat) (s : State) : Host.Outcome State Fault Refusal :=
  runLive (longCmd c ⟨sl, gp, gs, res, .sfree a⟩ more err) s

end Sys2Proof.Machine
end

