-- ==== Sys2Proof/Machine/RegMap.lean ====
section
/-!
DEFINITION. Machine/RegMap.lean: BAR0 (05 Table 5-3): the global window (02 R34, R35), the MSI-X structures (05 R104), and host accesses of every
size (02 R27 to R30).
-/
namespace Sys2Proof.Machine

/-! ### The global window -/

/-- GLB_ISUMk or GLB_IMASKk from the bits of its sources. -/
def bits32 (k : Nat) (p : Nat → Bool) : Nat := (List.range 32).foldl (fun a i => if p (32 * k + i) then a + 2 ^ i else a) 0

def imaskBit (s : Nat) (d : Dev) : Bool := tabGet (fun _ => false) d.imask s

/-- GLB_GAUGE_LO read by requester `q` (0 the host): bits [63:32] go into its holding register. [log entry 21 DEDUCED] -/
def gaugeLo (q : Nat) (d : Dev) : Nat × Dev :=
  (now d % 4294967296, { d with hold := tabSet (fun _ => 0) d.hold q (BitVec.ofNat 32 (now d / 4294967296)) })

/-- A write of GLB_IMASKk: a bit cleared while PEND is 1 raises one message for its source (R35). -/
def imaskWrite (k v : Nat) (d : Dev) : Dev :=
  foldSt (List.range 32) (fun i d =>
    let s := 32 * k + i
    let was := imaskBit s d
    let d := { d with imask := tabSet (fun _ => false) d.imask s (bitOf v i) }
    if was && !bitOf v i && isumBit s d then sendMsix (512 + s) d else d) d

def glbRegRead (off : Nat) (d : Dev) : RegR :=
  let f := d.fuse
  if 0x100 ≤ off ∧ off < 0x110 then rval (bits32 ((off - 0x100) / 4) fun s => isumBit s d) d
  else if 0x110 ≤ off ∧ off < 0x120 then rval (bits32 ((off - 0x110) / 4) fun s => imaskBit s d) d
  else match off with
    | 0x00 => rval (at' 0x4847 16 + at' (f.letter % 16) 12 + at' (f.digit % 16) 8 + varCode f.variant) d
    | 0x04 => rval (at' (d.clk.gu % 256) 8 + d.clk.code) d
    | 0x08 => some (gaugeLo 0 d)
    | 0x0C => rval (tabGet (fun _ => (0 : W32)) d.hold 0).toNat d
    | 0x10 => some (ctrRc 0xFFFF kBadacc d)
    | _ => none

def glbRegWrite (off v : Nat) (d : Dev) : Option Dev :=
  if 0x110 ≤ off ∧ off < 0x120 then some (imaskWrite ((off - 0x110) / 4) v d)
  else if off = 0x08 then some d
  else if off = 0x10 then some d
  else (glbRegRead off d).map fun _ => d

/-! ### MSI-X (R104) -/

/-- The table: four words a vector, the last with its mask bit. [log entry 15 PRESUMED] -/
def msixRead (off : Nat) (d : Dev) : RegR :=
  if off < 0x8000 then rval (tabGet vecDef d.host.vecTab (off / 4)).toNat d
  else if 0x10000 ≤ off ∧ off < 0x10100 then rval (bits32 ((off - 0x10000) / 4) fun v => tabGet (fun _ => false) d.host.pba v) d
  else none

/-- A write in the MSI-X table's or PBA's window (R104): the table takes it, the PBA does not. [log entry 15 PRESUMED] -/
def msixWrite (off v : Nat) (d : Dev) : Option Dev :=
  if off < 0x8000 then
    let k := off / 4
    let v := if k % 4 = 3 then v % 2 else if k % 4 = 0 then v / 4 * 4 else v
    some (flushPba { d with host := { d.host with vecTab := tabSet vecDef d.host.vecTab k (BitVec.ofNat 32 v) } })
  else (msixRead off d).map fun _ => d

/-! ### The windows (Table 5-3) -/

/-- A unit's registers: an ABSENT unit's are as unassigned offsets (03 R54). [log entry 20 DEDUCED] -/
def ifHere {α : Type} (u : Nat) (d : Dev) (x : Option α) : Option α := if uPresent d.fuse.variant u then x else none

/-- Read the register at BAR0 offset `a`. [log entry 20 DEDUCED] -/
def regRead (a : Nat) (d : Dev) : RegR :=
  let off := a % 0x100000
  match a / 0x100000 with
  | 0 => glbRegRead off d
  | 1 => udirRegRead off d
  | 2 => inlRegRead off d
  | 3 => outRegRead off d
  | 4 => sluRegRead off d
  | 5 => weirRegRead off d
  | 6 => reedRegRead off d
  | 7 => shoalRegRead off d
  | 8 => tarnRegRead off d
  | 9 => if off < 0x80000 then ifHere (8 + off / 0x10000) d (basinRegRead (off / 0x10000) (off % 0x10000) d) else none
  | 10 => if off < 0x80000 then ifHere (16 + off / 0x10000) d (longRegRead (off / 0x10000) (off % 0x10000) d) else none
  | 11 => memRegRead off d
  | 12 => hbmRegRead off d
  | 13 => ifHere 30 d (wellRegRead off d)
  | 14 => jettyRegRead off d
  | 15 => ferryRegRead off d
  | 16 => thermRegRead off d
  | 17 => ledgRegRead off d
  | 18 => bootRegRead off d
  | 19 => mailRegRead off d
  | 20 => msixRead off d
  | _ => none

/-- Write the register at BAR0 offset `a`. [log entry 20 DEDUCED] -/
def regWrite (a v : Nat) (d : Dev) : Option Dev :=
  let off := a % 0x100000
  match a / 0x100000 with
  | 0 => glbRegWrite off v d
  | 1 => udirRegWrite off v d
  | 2 => inlRegWrite off v d
  | 3 => outRegWrite off v d
  | 4 => sluRegWrite off v d
  | 5 => weirRegWrite off v d
  | 6 => reedRegWrite off v d
  | 7 => shoalRegWrite off v d
  | 8 => tarnRegWrite off v d
  | 9 => if off < 0x80000 then ifHere (8 + off / 0x10000) d (basinRegWrite (off / 0x10000) (off % 0x10000) v d) else none
  | 10 => if off < 0x80000 then ifHere (16 + off / 0x10000) d (longRegWrite (off / 0x10000) (off % 0x10000) v d) else none
  | 11 => memRegWrite off v d
  | 12 => hbmRegWrite off v d
  | 13 => ifHere 30 d (wellRegWrite off v d)
  | 14 => jettyRegWrite off v d
  | 15 => ferryRegWrite off v d
  | 16 => thermRegWrite off v d
  | 17 => ledgRegWrite off v d
  | 18 => bootRegWrite off v d
  | 19 => mailRegWrite off v d
  | 20 => msixWrite off v d
  | _ => none

/-! ### Accesses (R28, R29) -/

/-- Read `n` registers from offset `a` up; an unassigned one reads zero and is counted. -/
def readRegs : Nat → Nat → Dev → List W32 × Dev
  | _, 0, d => ([], d)
  | a, n + 1, d =>
    let (v, d) := match regRead a d with | some x => x | none => (0, badacc d)
    let (vs, d) := readRegs (a + 4) n d
    (BitVec.ofNat 32 v :: vs, d)

/-- The host reaches BAR0: PERST_n is released and no function reset runs. [log entry 22 DEDUCED] -/
def hostReaches (d : Dev) : Bool := !d.host.perst && !d.host.fnReset

/-- A host read of `n` bytes of BAR0: every register touched is read whole. [log entry 22 DEDUCED] -/
def bar0Read (a n : Nat) (d : Dev) : Dev :=
  if n = 0 || decide (0x4000000 < a + n) || !hostReaches d then d
  else
    let (vs, d) := readRegs (a / 4 * 4) ((a + n - 1) / 4 + 1 - a / 4) d
    emit (.regs vs) d

/-- One register of a write: an unassigned one is counted. -/
def writeOne (a v : Nat) (d : Dev) : Dev := match regWrite a v d with | some d => d | none => badacc d

/-- A host write of `n` bytes of BAR0 with byte enables `be`: taken where it is 4 aligned bytes, or 8, all enabled. [log entry 22 DEDUCED] -/
def bar0Write (a n be v : Nat) (d : Dev) : Dev :=
  if n = 0 || decide (0x4000000 < a + n) || !hostReaches d then d
  else if n = 4 ∧ a % 4 = 0 ∧ be % 16 = 15 then settle (writeOne a (v % 4294967296) d)
  else if n = 8 ∧ a % 8 = 0 ∧ be % 256 = 255 then settle (writeOne (a + 4) (v / 4294967296 % 4294967296) (writeOne a (v % 4294967296) d))
  else badacc d

/-- A read of the Gauge by requester `q` (0 the host): GLB_GAUGE_HI where `hi`, which its holding register supplies; else GLB_GAUGE_LO, or, `wide`,
both by one aligned 8-byte read (R24). [log entry 21 DEDUCED] -/
def gaugeRead (q : Nat) (wide hi : Bool) (d : Dev) : Dev :=
  if q = 0 then (if hi then bar0Read 12 4 d else bar0Read 8 (if wide then 8 else 4) d)
  else if hi then emit (.regs [tabGet (fun _ => (0 : W32)) d.hold q]) d
  else
    let (v, d) := gaugeLo q d
    emit (.regs (BitVec.ofNat 32 v :: (if wide then [tabGet (fun _ => (0 : W32)) d.hold q] else []))) d

/-! ### Order (R30; 05 R90) -/

/-- A host access takes effect. -/
def hostAct (x : HostAcc) (d : Dev) : Dev :=
  match x with
  | .read a n => bar0Read a n d
  | .write a n be v => bar0Write a n be v d
  | .mem bar a n data pois err => hostMemory bar a n data pois err d

/-- A host access is received. -/
def hostAccess (x : HostAcc) (d : Dev) : Dev := hostDo x (hostAct x) d

/-- The accesses that wait take effect in their order, up to one that must wait again. -/
def accRunN : Nat → Dev → Dev
  | 0, d => d
  | n + 1, d =>
    match d.host.acc with
    | [] => d
    | x :: xs =>
      let d := hostAct x { d with host := { d.host with acc := [] } }
      if d.host.acc.isEmpty then accRunN n { d with host := { d.host with acc := xs } }
      else { d with host := { d.host with acc := d.host.acc ++ xs } }

/-- Host accesses that wait take effect, in the order of their receipt, until one must wait again (R30; 05 R90). [log entry 58 DEDUCED] -/
def accRun (d : Dev) : Dev := accRunN d.host.acc.length d

end Sys2Proof.Machine
end

