-- ==== Sys2Proof/Machine/CmdMem.lean ====
section
/-!
DEFINITION. Machine/CmdMem.lean: commands of Mere, the Siphon and the HBM stacks (14), and host accesses to BAR2 and BAR4 (05).
-/
namespace Sys2Proof.Machine

/-- MERE_REFRESH (R297). Bank b refreshes one row at its Gauge value (R297); nothing at another. -/
def execMereRefresh (b : Nat) (s : State) : Host.Outcome State Fault Refusal :=
  runLive (fun d => mereRefresh b d) s

/-- MERE_PATROL (R298). The patrol reads word w of bank b; kind: 0 good, 1 a single-bit error, 2 a double-bit error (R298). -/
def execMerePatrol (b : Nat) (w : Nat) (kind : Nat) (s : State) : Host.Outcome State Fault Refusal :=
  runLive (fun d => merePatrol b w kind d) s

/-- SIPHON_JOB (R301). The Siphon takes the next job of core c, of the siphon noun (c = 8) or of service Sluice 240 + c − 9, where its turn it is, checks it (R299, R301), and has written so many bytes of it (R302); `errs`: memory errors its reads meet, address and kind. -/
def execSiphonJob (c : Nat) (written : Nat) (errs : List (Nat × Nat)) (s : State) : Host.Outcome State Fault Refusal :=
  runLive (fun d => settle (siphonJob c written errs d)) s

/-- SIPHON_COMPLETION (R303). Job i in progress ends and its completion commits (R303, R304). -/
def execSiphonCompletion (i : Nat) (s : State) : Host.Outcome State Fault Refusal :=
  runLive (fun d => settle (siphonComplete i d)) s

/-- SIPHON_ABORT_REPORT (R305). After a reset the READY Siphon commits an ABORTED completion before it takes any new job (R305). -/
def execSiphonAbortReport (s : State) : Host.Outcome State Fault Refusal :=
  runLive (fun d => settle (siphonAbortReport d)) s

/-- SHOW_MERE (R311). `show mere`. -/
def execShowMere (r : BRef) (s : State) : Host.Outcome State Fault Refusal :=
  runLive (showMere r) s

/-- READ_MERE (R311). `read mere A [length N]`. -/
def execReadMere (r : BRef) (a : Nat) (len : Option Nat) (s : State) : Host.Outcome State Fault Refusal :=
  runLive (readMere r a len) s

/-- SHOW_SIPHON (R311). `show siphon`. -/
def execShowSiphon (r : BRef) (s : State) : Host.Outcome State Fault Refusal :=
  runLive (showSiphon r) s

/-- COPY_SIPHON (R311). `copy siphon src SP:A dst SP:A len L [rows R] [sstride S] [dstride D] [wait]`; spaces 0 mere, 1 hbm, 2 basin, 3 sluice. -/
def execCopySiphon (r : BRef) (ssp : Nat) (sb : Nat) (src : Nat) (dsp : Nat) (db : Nat) (dst : Nat) (len : Nat) (rows : Option Nat) (ss : Option Int) (ds : Option Int) (wait : Bool) (s : State) : Host.Outcome State Fault Refusal :=
  runLive (copySiphon r ssp sb src dsp db dst len rows ss ds wait) s

/-- SHOW_HBM (R311). `show hbm [stack H]`. -/
def execShowHbm (r : BRef) (h : Option Nat) (s : State) : Host.Outcome State Fault Refusal :=
  runLive (showHbm r h) s

/-- SET_HBM_LEDGER (R308). `set hbm ledger L sessions S` (R308). -/
def execSetHbmLedger (r : BRef) (l : Nat) (n : Nat) (s : State) : Host.Outcome State Fault Refusal :=
  runLive (setHbmLedger r l n) s

/-- SET_HBM_REPAIR (R309). `set hbm repair A` (R309). -/
def execSetHbmRepair (r : BRef) (a : Nat) (s : State) : Host.Outcome State Fault Refusal :=
  runLive (setHbmRepair r a) s

/-- HOST_MEMORY_ACCESS (R90). A host read of n bytes at a (no data), or a write of data, poisoned or not; e: the read meets a corrected (1) or uncorrectable (2) error, or a second parity failure (3); in BAR2 or BAR4 (R89 to R91, 14 R296). -/
def execHostMemoryAccess (bar : Nat) (a : Nat) (n : Nat) (data : Option (List Byte)) (pois : Bool) (e : Nat) (s : State) : Host.Outcome State Fault Refusal :=
  runLive (hostAccess (.mem bar a n data pois e)) s

/-- BAR4_RESIZE (R89). A control write of the resizable BAR capability sets the BAR4 size to 2^k bytes, 1 GiB to 256 GiB (R88, R89). -/
def execBar4Resize (k : Nat) (s : State) : Host.Outcome State Fault Refusal :=
  runLive (bar4Resize k) s

end Sys2Proof.Machine
end

