-- ==== Sys2Proof/Machine/CmdReg.lean ====
section
/-!
DEFINITION. Machine/CmdReg.lean: host accesses of BAR0 (02).
-/
namespace Sys2Proof.Machine

/-- GAUGE_LO_READ (R24). Requester `q` (0 the host) reads GLB_GAUGE_LO; `wide`: by an 8-byte read, which returns GLB_GAUGE_HI too; `hi`: the GLB_GAUGE_HI read that follows. -/
def execGaugeLoRead (q : Nat) (wide : Bool) (hi : Bool) (s : State) : Host.Outcome State Fault Refusal :=
  runLive (fun d => if q = 0 then hostDo (if hi then .read 12 4 else .read 8 (if wide then 8 else 4)) (gaugeRead q wide hi) d else gaugeRead q wide hi d) s

/-- RC_FIELD_READ (R32). A host read of `n` bytes at BAR0 offset `a`, with the read side effects of every register it touches. -/
def execRcFieldRead (a : Nat) (n : Nat) (s : State) : Host.Outcome State Fault Refusal :=
  runLive (hostAccess (.read a n)) s

/-- UNASSIGNED_READ (R28). A host read of `n` bytes at BAR0 offset `a`; each unassigned register touched reads zero and is counted. -/
def execUnassignedRead (a : Nat) (n : Nat) (s : State) : Host.Outcome State Fault Refusal :=
  runLive (hostAccess (.read a n)) s

/-- REGISTER_WRITE (R29). A host write of `n` bytes `v` at BAR0 offset `a` with byte enables `be`. -/
def execRegisterWrite (a : Nat) (n : Nat) (be : Nat) (v : Nat) (s : State) : Host.Outcome State Fault Refusal :=
  runHost (hostAccess (.write a n be v)) s

/-- IMASK_WRITE (R35). A write of GLB_IMASKk. -/
def execImaskWrite (k : Nat) (v : Nat) (s : State) : Host.Outcome State Fault Refusal :=
  runLive (fun d => hostReg (0x110 + 4 * k) v (fun d => if hostReaches d then imaskWrite k v d else d) d) s

end Sys2Proof.Machine
end

