-- ==== Sys2Proof/Machine/CmdSlu.lean ====
section
/-!
DEFINITION. Machine/CmdSlu.lean: commands at the Sluices (06).
-/
namespace Sys2Proof.Machine

/-- SLUICE_WORD_WRITE (R115). The producer port of Sluice n offers one word with its sideband; it commits at the end of the tick (R112 to R118, R122). -/
def execSluiceWordWrite (n : Nat) (data : List Byte) (first : Bool) (last : Bool) (valid : Nat) (bad : Bool) (s : State) : Host.Outcome State Fault Refusal :=
  runLive (portWrite n data first last valid bad) s

/-- SLUICE_READ (R116). The consumer port of Sluice n reads: the next word, a still word or an abort marker (R116, R120). -/
def execSluiceRead (n : Nat) (s : State) : Host.Outcome State Fault Refusal :=
  runLive (portRead n) s

/-- SLUICE_DROP (R121). The consumer of Sluice n discards the rest of the packet it has started (R121). -/
def execSluiceDrop (n : Nat) (s : State) : Host.Outcome State Fault Refusal :=
  runLive (portDrop n) s

/-- SLUICE_STALL_EXPIRY (R119). A packet open in Sluice n without progress for SLU_STALL turns bad; nothing where the bound has not passed. -/
def execSluiceStallExpiry (n : Nat) (s : State) : Host.Outcome State Fault Refusal :=
  runLive (sluStall n) s

/-- POINTER_MISMATCH (R126). The duplicated pointers of Sluice n disagree; its 8-tick reset starts in the next tick. -/
def execPointerMismatch (n : Nat) (s : State) : Host.Outcome State Fault Refusal :=
  runLive (sluMismatch n) s

/-- SLUICE_RESET_END (R126). The last tick of the reset of Sluice n has passed; the rest of its open packet is absorbed. -/
def execSluiceResetEnd (n : Nat) (s : State) : Host.Outcome State Fault Refusal :=
  runLive (sluResetEnd n) s

/-- POOL_GRANT (R129). The frame pool grants one frame, or an overflow frame (R129 to R131). -/
def execPoolGrant (s : State) : Host.Outcome State Fault Refusal :=
  runLive (poolGrant) s

/-- SLUICE_CONFIG_WRITE (R123). A write of SLU_CFGn, or of SLU_CAPn where cap is set. -/
def execSluiceConfigWrite (n : Nat) (cap : Bool) (v : W32) (s : State) : Host.Outcome State Fault Refusal :=
  runLive (fun d => hostReg (0x410000 + 64 * n + (if cap then 4 else 0)) v.toNat (sluConfig n cap v) d) s

/-- LIST_SLUICE (R134). `list sluice`. -/
def execListSluice (r : BRef) (s : State) : Host.Outcome State Fault Refusal :=
  runLive (listSluice r) s

/-- SHOW_SLUICE (R134). `show sluice N`. -/
def execShowSluice (r : BRef) (n : Nat) (s : State) : Host.Outcome State Fault Refusal :=
  runLive (showSluice r n) s

/-- SET_SLUICE (R134). `set sluice N …`. -/
def execSetSluice (r : BRef) (n : Nat) (cap : Option Nat) (res : Option Nat) (ct : Option Nat) (hi : Option Nat) (lo : Option Nat) (up : Option Bool) (down : Option Bool) (s : State) : Host.Outcome State Fault Refusal :=
  runLive (setSluice r n cap res ct hi lo up down) s

/-- CLEAR_SLUICE (R134). `clear sluice N`. -/
def execClearSluice (r : BRef) (n : Nat) (s : State) : Host.Outcome State Fault Refusal :=
  runLive (clearSluice r n) s

end Sys2Proof.Machine
end

