-- ==== Sys2Proof/Machine/CmdTap.lean ====
section
/-!
DEFINITION. Machine/CmdTap.lean: the IEEE 1149.1 port (20 R469).
-/
namespace Sys2Proof.Machine

/-- EXTEST (R469). EXTEST is selected and a scan leaves `cells` in the boundary register; `levels` are what it captured. -/
def execExtest (levels : Nat) (cells : Nat) (s : State) : Host.Outcome State Fault Refusal :=
  runAny (tapScan 0 levels cells) s

/-- SAMPLE_PRELOAD (R469). SAMPLE/PRELOAD is selected and a scan leaves `cells` in the boundary register; `levels` are what it captured. -/
def execSamplePreload (levels : Nat) (cells : Nat) (s : State) : Host.Outcome State Fault Refusal :=
  runAny (tapScan 1 levels cells) s

/-- IDCODE (R469). IDCODE is selected and the identification register leaves. -/
def execIdcode (s : State) : Host.Outcome State Fault Refusal :=
  runAny (tapIdcode) s

/-- BYPASS (R443). The code of BYPASS, or one that the port does not offer, is selected and `n` bits pass through. -/
def execBypass (code : Nat) (n : Nat) (bits : Nat) (s : State) : Host.Outcome State Fault Refusal :=
  runAny (tapBypass code n bits) s

/-- TRST_RESET (R469). TRST_n is low for 100 ns. -/
def execTrstReset (s : State) : Host.Outcome State Fault Refusal :=
  runAny (tapReset) s

end Sys2Proof.Machine
end

