-- ==== Sys2Proof/Machine/CmdTherm.lean ====
section
/-!
DEFINITION. Machine/CmdTherm.lean: commands of the Thermocline and Ice (17).
-/
namespace Sys2Proof.Machine

/-- SENSOR_SAMPLE (R372). Sensor n gives a sample in units of 0.25 C, or misses it (R371, R372). -/
def execSensorSample (n : Nat) (x : Option Int) (s : State) : Host.Outcome State Fault Refusal :=
  runLive (fun d => sensorSample n x d) s

/-- LAYER_BOUNDARY (R377). The layer ends with em uJ drawn and the rung of the next is set; ack: the regulator acknowledges a VDD_CORE write (R371 to R378, 20 R466). -/
def execLayerBoundary (em : Nat) (ack : Bool) (s : State) : Host.Outcome State Fault Refusal :=
  runLive (fun d => settle (layerBoundary em ack d)) s

/-- STEP_RAISE_SWITCH (R378). VDD_CORE has settled for a higher step (R378); nothing before that. -/
def execStepRaiseSwitch (s : State) : Host.Outcome State Fault Refusal :=
  runLive (fun d => stepRaiseSwitch d) s

/-- ENTER_ICE (R389). `enter ice [wait]`. -/
def execEnterIce (r : BRef) (wait : Bool) (s : State) : Host.Outcome State Fault Refusal :=
  runLive (enterIce r wait) s

/-- THERM_ICE_ENTER (R389). THERM_ICE ENTER is written 1 (R389). -/
def execThermIceEnter (s : State) : Host.Outcome State Fault Refusal :=
  runLive (fun d => settle (iceRegWrite (1 + 4 * b2n d.therm.auto) d)) s

/-- ICE_AUTO_IDLE (R389). With AUTO the part has been idle for THERM_ICEIDLE (R389); nothing before that. -/
def execIceAutoIdle (s : State) : Host.Outcome State Fault Refusal :=
  runLive (fun d => settle (iceAutoIdle d)) s

/-- ICE_QUIESCED (R389). The part is quiet and the Thermocline asks the next unit to go to ICE (R389). -/
def execIceQuiesced (s : State) : Host.Outcome State Fault Refusal :=
  runLive (fun d => settle (iceQuiesced d)) s

/-- ICE_UNITS_IN_ICE (R389). Every requested unit is in ICE and VDD_CORE is lowered (R389). -/
def execIceUnitsInIce (s : State) : Host.Outcome State Fault Refusal :=
  runLive (fun d => settle (iceAllIn d)) s

/-- ICE_PLL_BYPASS (R389). 460,800 gu later the PLL is bypassed at the next aligned tick end (R389); nothing before that. -/
def execIcePllBypass (s : State) : Host.Outcome State Fault Refusal :=
  runLive (fun d => icePllBypass d) s

/-- ICE_WAIT_EXPIRY (R393). THERM_ICEWAIT expires before the part is quiet (R393); nothing before that. -/
def execIceWaitExpiry (s : State) : Host.Outcome State Fault Refusal :=
  runLive (fun d => settle (iceWaitExpiry d)) s

/-- LEAVE_ICE (R391). `leave ice [wait]`. -/
def execLeaveIce (r : BRef) (wait : Bool) (s : State) : Host.Outcome State Fault Refusal :=
  runLive (leaveIce r wait) s

/-- THERM_ICE_LEAVE (R391). THERM_ICE LEAVE is written 1 (R391, R393). -/
def execThermIceLeave (s : State) : Host.Outcome State Fault Refusal :=
  runLive (fun d => settle (iceRegWrite (2 + 4 * b2n d.therm.auto) d)) s

/-- ICE_WAKE_TIMER (R391). THERM_ICEWAKE has elapsed in Ice (R391); nothing before that. -/
def execIceWakeTimer (s : State) : Host.Outcome State Fault Refusal :=
  runLive (fun d => settle (iceWakeTimer d)) s

/-- ICE_EXIT (R392). The exit begins: the PLL is powered and VDD_CORE raised (R392). -/
def execIceExit (s : State) : Host.Outcome State Fault Refusal :=
  runLive (fun d => settle (iceExit d)) s

/-- ICE_EXIT_CLOCK_SWITCH (R392). The PLL has locked and CCLK is to switch; then the units are called back, one in a tick (R392). -/
def execIceExitClockSwitch (s : State) : Host.Outcome State Fault Refusal :=
  runLive (fun d => settle (iceExitSwitch d)) s

/-- ICE_ABANDON_VOLTAGE_SETTLED (R393). VDD_CORE has settled for an abandoned entry and the first EXIT is issued (R393); nothing before that. -/
def execIceAbandonVoltageSettled (s : State) : Host.Outcome State Fault Refusal :=
  runLive (fun d => settle (iceAbandonSettled d)) s

/-- SHOW_THERMO (R395). `show thermo`. -/
def execShowThermo (r : BRef) (s : State) : Host.Outcome State Fault Refusal :=
  runLive (showThermo r) s

/-- SET_THERMO (R395). `set thermo` with the values it names, times in gu. -/
def execSetThermo (r : BRef) (plimit : Option Nat) (rungmax : Option Nat) (deferprio : Option Nat) (eweight : Option Nat) (urgent : Option Nat) (efirst : Option Nat) (ecost : Option (Nat × Nat)) (iceauto : Option Nat) (iceidle : Option Nat) (icewait : Option Nat) (icewake : Option Nat) (s : State) : Host.Outcome State Fault Refusal :=
  runLive (setThermo r ⟨plimit, rungmax, deferprio, eweight, urgent, efirst, ecost, iceauto, iceidle, icewait, icewake⟩) s

/-- SHOW_ICE (R395). `show ice`. -/
def execShowIce (r : BRef) (s : State) : Host.Outcome State Fault Refusal :=
  runLive (showIce r) s

end Sys2Proof.Machine
end

