-- ==== Sys2Proof/Machine/CmdUnit.lean ====
section
/-!
DEFINITION. Machine/CmdUnit.lean: commands at the Unit Directory (03).
-/
namespace Sys2Proof.Machine

/-- UDIR_ON (R44). A write of UDIR_REQ with action ON: the checks of Table 3-4 in order (R44, R45, R55, R56). -/
def execUdirOn (unit : Nat) (gen : Nat) (tag : Nat) (s : State) : Host.Outcome State Fault Refusal :=
  runHost (fun d => hostReg 0x100000 (udirWord 1 unit gen tag) (fun d => settle (udirReq 1 unit gen tag d)) d) s

/-- UDIR_OFF (R44). A write of UDIR_REQ with action OFF: the checks of Table 3-4 in order (R44, R45, R55, R56). -/
def execUdirOff (unit : Nat) (gen : Nat) (tag : Nat) (s : State) : Host.Outcome State Fault Refusal :=
  runHost (fun d => hostReg 0x100000 (udirWord 2 unit gen tag) (fun d => settle (udirReq 2 unit gen tag d)) d) s

/-- UDIR_RESET (R44). A write of UDIR_REQ with action RESET: the checks of Table 3-4 in order (R44, R45, R55, R56). -/
def execUdirReset (unit : Nat) (gen : Nat) (tag : Nat) (s : State) : Host.Outcome State Fault Refusal :=
  runHost (fun d => hostReg 0x100000 (udirWord 3 unit gen tag) (fun d => settle (udirReq 3 unit gen tag d)) d) s

/-- UDIR_UPDATE (R37). A write of UDIR_REQ with action UPDATE: the checks of Table 3-4 in order (R44, R45, R55, R56). -/
def execUdirUpdate (unit : Nat) (gen : Nat) (tag : Nat) (s : State) : Host.Outcome State Fault Refusal :=
  runHost (fun d => hostReg 0x100000 (udirWord 4 unit gen tag) (fun d => settle (udirReq 4 unit gen tag d)) d) s

/-- UDIR_REQUEST_RETRY (R44). Requests that passed every check in a tick in which another was accepted are evaluated afresh (R44). -/
def execUdirRequestRetry (s : State) : Host.Outcome State Fault Refusal :=
  runLive (fun d => settle (dirRetry d)) s

/-- UNIT_ACK (R46). Unit n acknowledges the accepted transition (R40, R46). -/
def execUnitAck (n : Nat) (s : State) : Host.Outcome State Fault Refusal :=
  runLive (fun d => settle (dirAck n d)) s

/-- ACK_BOUND_EXPIRY (R46). Unit n has not acknowledged within 4 ticks (R46); nothing before that. -/
def execAckBoundExpiry (n : Nat) (s : State) : Host.Outcome State Fault Refusal :=
  runLive (fun d => settle (ackExpiry n d)) s

/-- DRAIN_COMPLETE (R48). The last accepted request of DRAINING unit n has committed (R48); `ack`: the unit acknowledges the move at once (R46). -/
def execDrainComplete (n : Nat) (ack : Bool) (s : State) : Host.Outcome State Fault Refusal :=
  runLive (fun d => settle (drainComplete n ack d)) s

/-- DRAIN_BOUND_EXPIRY (R48). The drain bound of unit n expires (R48, R49); nothing before that; `ack`: the unit acknowledges the move at once (R46). -/
def execDrainBoundExpiry (n : Nat) (ack : Bool) (s : State) : Host.Outcome State Fault Refusal :=
  runLive (fun d => settle (drainExpiry n ack d)) s

/-- WAKE_COMPLETE (R46). WAKING unit n is READY (R46, R47). -/
def execWakeComplete (n : Nat) (s : State) : Host.Outcome State Fault Refusal :=
  runLive (fun d => settle (wakeComplete n d)) s

/-- WAKE_BOUND_EXPIRY (R40). The wake bound of unit n expires (R40, R46); nothing before that. -/
def execWakeBoundExpiry (n : Nat) (s : State) : Host.Outcome State Fault Refusal :=
  runLive (fun d => settle (wakeExpiry n d)) s

/-- UNIT_FAULT (R51). An uncorrectable fault of unit n (R51). -/
def execUnitFault (n : Nat) (s : State) : Host.Outcome State Fault Refusal :=
  runLive (fun d => settle (unitFault n d)) s

/-- LOAD_COMPLETE (R474). The load of UPDATING unit n completes and verifies (R474); `ack`: the unit acknowledges WAKING at once (R46). -/
def execLoadComplete (n : Nat) (ack : Bool) (s : State) : Host.Outcome State Fault Refusal :=
  runLive (fun d => settle (loadComplete n ack d)) s

/-- LOAD_FAIL (R474). The load of UPDATING unit n fails (R474). -/
def execLoadFail (n : Nat) (s : State) : Host.Outcome State Fault Refusal :=
  runLive (fun d => settle (loadFail n d)) s

/-- LIST_UNIT (R58). `list unit [state S]`. -/
def execListUnit (r : BRef) (state : Option String) (s : State) : Host.Outcome State Fault Refusal :=
  runLive (listUnit r state) s

/-- SHOW_UNIT (R58). `show unit N`. -/
def execShowUnit (r : BRef) (n : Nat) (s : State) : Host.Outcome State Fault Refusal :=
  runLive (showUnit r n) s

/-- ON_UNIT (R58). `on unit N [gen G] [wait]`. -/
def execOnUnit (r : BRef) (n : Nat) (gen : Option Nat) (wait : Bool) (s : State) : Host.Outcome State Fault Refusal :=
  runLive (unitLine r 1 n gen wait) s

/-- OFF_UNIT (R58). `off unit N [gen G] [wait]`. -/
def execOffUnit (r : BRef) (n : Nat) (gen : Option Nat) (wait : Bool) (s : State) : Host.Outcome State Fault Refusal :=
  runLive (unitLine r 2 n gen wait) s

/-- RESET_UNIT (R58). `reset unit N [gen G] [wait]`. -/
def execResetUnit (r : BRef) (n : Nat) (gen : Option Nat) (wait : Bool) (s : State) : Host.Outcome State Fault Refusal :=
  runLive (unitLine r 3 n gen wait) s

end Sys2Proof.Machine
end

