-- ==== Sys2Proof/Machine/CmdWeir.lean ====
section
/-!
DEFINITION. Machine/CmdWeir.lean: commands at the Weir and its routes (07), and the replay of a marked stage (18 R404).
-/
namespace Sys2Proof.Machine

/-- ROUTE_COMMIT (R145). A write of WEIR_COMMIT: the staging copy is checked and becomes a new epoch, or the commit is refused (R145 to R147). -/
def execRouteCommit (v : W32) (s : State) : Host.Outcome State Fault Refusal :=
  runHost (fun d => hostReg 0x50001C v.toNat (weirCommit v) d) s

/-- COMMIT_WAIT_RETIRE (R159). The first held commit of a route tries again once the older epoch has retired (R147, R159). -/
def execCommitWaitRetire (route : Nat) (s : State) : Host.Outcome State Fault Refusal :=
  runLive (commitWaitRetire route) s

/-- BIND_WRITE (R148). A write of WEIR_BINDs: the stream's routes for items admitted in later ticks (R148). -/
def execBindWrite (stream : Nat) (v : W32) (s : State) : Host.Outcome State Fault Refusal :=
  runLive (fun d => hostReg (0x540000 + 4 * stream) v.toNat (bindWrite stream v) d) s

/-- STAGE_DISPATCH (R137). The Weir dispatches stage `i` of the item of record `l`, or applies the policy for an absent stage (R136, R137; 03 R39, R52). -/
def execStageDispatch (l : Nat) (i : Nat) (s : State) : Host.Outcome State Fault Refusal :=
  runLive (stageDispatch l i) s

/-- HELD_STAGE_RESUME (R52). A stage held under HOLD_TO_DEADLINE runs once its unit is READY (03 R52). -/
def execHeldStageResume (l : Nat) (i : Nat) (s : State) : Host.Outcome State Fault Refusal :=
  runLive (stageResume l i) s

/-- STAGE_REPLY (R138). The Weir consumes the packet at the front of reply Sluice `n` (R138; 03 R50). -/
def execStageReply (n : Nat) (s : State) : Host.Outcome State Fault Refusal :=
  runLive (stageReply n) s

/-- COMBINE_FINISH (R137). The Combine at stage `i` finishes 10 ticks after its inputs are in (R137, R139 to R142); nothing before that. -/
def execCombineFinish (l : Nat) (i : Nat) (s : State) : Host.Outcome State Fault Refusal :=
  runLive (combineFinish l i) s

/-- DEADLINE_RELEASE (R151). Release of the item of record `l` at its deadline (R151). -/
def execDeadlineRelease (l : Nat) (s : State) : Host.Outcome State Fault Refusal :=
  runLive (deadlineRelease l) s

/-- EARLY_RELEASE (R151). Release of an in-time Early item 10 ticks after it is ready and after its predecessor (R151). -/
def execEarlyRelease (l : Nat) (s : State) : Host.Outcome State Fault Refusal :=
  runLive (earlyRelease l) s

/-- AMENDMENT_POST (R153). The amended record of a late item (R153). -/
def execAmendmentPost (l : Nat) (s : State) : Host.Outcome State Fault Refusal :=
  runLive (amendPost l) s

/-- AMEND_WINDOW_CLOSE (R153). The amendment window of a late item closes (R153). -/
def execAmendWindowClose (l : Nat) (s : State) : Host.Outcome State Fault Refusal :=
  runLive (amendClose l) s

/-- LIST_ROUTE (R159). `list route`. -/
def execListRoute (r : BRef) (s : State) : Host.Outcome State Fault Refusal :=
  runLive (listRoute r) s

/-- SHOW_ROUTE (R159). `show route R [staged]`. -/
def execShowRoute (r : BRef) (n : Nat) (staged : Bool) (s : State) : Host.Outcome State Fault Refusal :=
  runLive (showRoute r n staged) s

/-- SET_ROUTE (R159). `set route R …`: the header fields given; `dirs` 1 req, 2 ans, 3 both, `maskb` 256 off. -/
def execSetRoute (r : BRef) (n : Nat) (valid : Option Nat) (deadline : Option Nat) (early : Option Nat) (dlv : Option Nat) (amend : Option Nat) (window : Option Nat) (hold : Option Nat) (prio : Option Nat) (emptyv : Option Nat) (dirs : Option Nat) (maskb : Option Nat) (stages : Option Nat) (s : State) : Host.Outcome State Fault Refusal :=
  runLive (setRoute r n valid deadline early dlv amend window hold prio emptyv dirs maskb stages) s

/-- SET_ROUTE_STAGE (R159). `set route R stage I kind K …`; `slots` gives each `slotJ I.S` as J, I and S. -/
def execSetRouteStage (r : BRef) (n : Nat) (i : Nat) (kind : Nat) (table : Option Nat) (cores : Option Nat) (rule : Option Nat) (inputs : Option Nat) (k : Option Nat) (stop : Option Nat) (slots : List (Nat × Nat × Nat)) (s : State) : Host.Outcome State Fault Refusal :=
  runLive (setRouteStage r n i kind table cores rule inputs k stop slots) s

/-- COMMIT_ROUTE (R159). `commit route R epoch E [wait]`. -/
def execCommitRoute (r : BRef) (n : Nat) (epoch : Option Nat) (wait : Bool) (s : State) : Host.Outcome State Fault Refusal :=
  runLive (commitRoute r n epoch wait) s

/-- BIND_ROUTE (R159). `bind route R stream S dir req/ans`; no route is `none`. -/
def execBindRoute (r : BRef) (route : Option Nat) (stream : Nat) (ans : Bool) (s : State) : Host.Outcome State Fault Refusal :=
  runLive (bindRoute r route stream ans) s

/-- SHOW_WEIR (R159). `show weir`. -/
def execShowWeir (r : BRef) (s : State) : Host.Outcome State Fault Refusal :=
  runLive (showWeir r) s

/-- SET_WEIR (R152). `set weir early-off X` (R152). -/
def execSetWeir (r : BRef) (x : Nat) (s : State) : Host.Outcome State Fault Refusal :=
  runLive (setWeir r x) s

/-- REPLAY_DISPATCH (R404). A stage marked for replay is dispatched again once its unit is READY; or, with a payload, the payload of a REFETCH has been read again. -/
def execReplayDispatch (l : Nat) (i : Nat) (payload : Option (List Byte)) (s : State) : Host.Outcome State Fault Refusal :=
  runLive (replayOrRefetch l i payload) s

end Sys2Proof.Machine
end

