-- ==== Sys2Proof/Machine/CmdWell.lean ====
section
/-!
DEFINITION. Machine/CmdWell.lean: commands of the Wellhead (15).
-/
namespace Sys2Proof.Machine

/-- BIAS_OVERLOAD (R314). A load above 4 mA on supply A (k = 1) or B (k = 2) has lasted 100 us (R314). -/
def execBiasOverload (k : Nat) (s : State) : Host.Outcome State Fault Refusal :=
  runLive (fun d => biasOverload k d) s

/-- INPUT_RAMP_END (R315). Input n reaches full operation 2 ms after power-up (R315); nothing before that. -/
def execInputRampEnd (n : Nat) (s : State) : Host.Outcome State Fault Refusal :=
  runLive (fun d => inputRampEnd n d) s

/-- WELL_FRAME_BOUNDARY (R318). The frame in progress ends with what the decimators of its channels have computed, x, in units of 2⁻¹⁶ of a sample step (R316, R317), and pending changes take effect (R318 to R320). -/
def execWellFrameBoundary (x : List (List Int)) (s : State) : Host.Outcome State Fault Refusal :=
  runLive (fun d => frameBoundary x d) s

/-- SEEP_HOP (R326). A 10 ms hop of the listen input ends; x: what its decimator has computed, in units of 2⁻¹⁶ of a sample step (R326, R327). -/
def execSeepHop (x : List Int) (s : State) : Host.Outcome State Fault Refusal :=
  runLive (fun d => seepHop x d) s

/-- SEEP_TRIGGER (R325). NTRIG consecutive active hops make LSTATE RIPPLE (R325). -/
def execSeepTrigger (s : State) : Host.Outcome State Fault Refusal :=
  runLive (fun d => seepTrigger d) s

/-- HANG_ZEROISE (R326). HANG consecutive inactive hops in SEEP zeroise the ring (R326). -/
def execHangZeroise (s : State) : Host.Outcome State Fault Refusal :=
  runLive (fun d => hangZeroise d) s

/-- RIPPLE_EVALUATION (R327). Ripple evaluates its model over the feature history; a score at or above RTHR is a wake (R327, R328). -/
def execRippleEvaluation (s : State) : Host.Outcome State Fault Refusal :=
  runLive (fun d => rippleEval d) s

/-- RIPPLE_TIMEOUT (R325). RTIME hops in RIPPLE without acceptance (R325). -/
def execRippleTimeout (s : State) : Host.Outcome State Fault Refusal :=
  runLive (fun d => rippleTimeout d) s

/-- WAKE_DRAIN_START (R328). The drain of the ring starts once the unit is READY (R328). -/
def execWakeDrainStart (s : State) : Host.Outcome State Fault Refusal :=
  runLive (fun d => drainStart d) s

/-- DRAIN_FRAME_EMIT (R328). The drain commits its next frame, at most one per 8 ticks (R328). -/
def execDrainFrameEmit (s : State) : Host.Outcome State Fault Refusal :=
  runLive (fun d => drainEmit d) s

/-- WELL_FRAME_ADMIT (R329). The Weir admits the frame at the front of Sluice 165, or discards it (R329, R333). -/
def execWellFrameAdmit (s : State) : Host.Outcome State Fault Refusal :=
  runLive (fun d => settle (frameAdmit d)) s

/-- WAKE_DECISION (R330). The verdict released for the LASTPRE frame decides the wake (R330). -/
def execWakeDecision (s : State) : Host.Outcome State Fault Refusal :=
  runLive (fun d => wakeDecision d) s

/-- WHANG_EXPIRY (R325). WHANG consecutive inactive hops in AWAKE (R325). -/
def execWhangExpiry (s : State) : Host.Outcome State Fault Refusal :=
  runLive (fun d => whangExpiry d) s

/-- OPENTTL_EXPIRY (R330). LASTPRE has not been released by OPENTTL after the wake (R330); nothing before that. -/
def execOpenttlExpiry (s : State) : Host.Outcome State Fault Refusal :=
  runLive (fun d => openTtlExpiry d) s

/-- FRAME_STAGE_FEATURES (R324). The feature engine replies for stage i of the item of record l (R321 to R324). -/
def execFrameStageFeatures (l : Nat) (i : Nat) (s : State) : Host.Outcome State Fault Refusal :=
  runLive (fun d => settle (frameStage l i d)) s

/-- LISTEN_WRITE (R325). A write of WELL_CFG LISTEN (R325, R331). -/
def execListenWrite (v : Nat) (s : State) : Host.Outcome State Fault Refusal :=
  runLive (fun d => hostReg 0xD00024 (listenWord v d) (fun d => wellReg (listenWrite v) d) d) s

/-- WELL_CTL_DRAIN (R332). WELL_CTL DRAIN is written 1 (R332). -/
def execWellCtlDrain (s : State) : Host.Outcome State Fault Refusal :=
  runLive (fun d => hostReg 0xD00044 1 (fun d => wellReg (wellCtlWrite 1) d) d) s

/-- WELL_CTL_FORGET (R331). WELL_CTL FORGET is written 1 (R331). -/
def execWellCtlForget (s : State) : Host.Outcome State Fault Refusal :=
  runLive (fun d => hostReg 0xD00044 2 (fun d => wellReg (wellCtlWrite 2) d) d) s

/-- SHOW_AUDIO (R337). `show audio`. -/
def execShowAudio (r : BRef) (s : State) : Host.Outcome State Fault Refusal :=
  runLive (showAudio r) s

/-- SET_AUDIO (R337). `set audio [rate] [flen] [listen] [mic M] [stream S]`, by register codes. -/
def execSetAudio (r : BRef) (rate : Option Nat) (flen : Option Nat) (listen : Option Nat) (mic : Option Nat) (stream : Option Nat) (s : State) : Host.Outcome State Fault Refusal :=
  runLive (setAudio r rate flen listen mic stream) s

/-- SET_AUDIO_IN (R337). `set audio in N [gain G] [bias a/b/none]`; the gain in tenths of a dB, bias 0 none, 1 a, 2 b. -/
def execSetAudioIn (r : BRef) (n : Nat) (gain : Option Nat) (bias : Option Nat) (s : State) : Host.Outcome State Fault Refusal :=
  runLive (setAudioIn r n gain bias) s

/-- SET_AUDIO_BIAS (R337). `set audio bias a/b [volts V] [on/off]`; the voltage in tenths of a volt. -/
def execSetAudioBias (r : BRef) (b : Bool) (volts : Option Nat) (on : Option Bool) (s : State) : Host.Outcome State Fault Refusal :=
  runLive (setAudioBias r b volts on) s

/-- SET_AUDIO_CHAN (R337). `set audio chan C in N/off`. -/
def execSetAudioChan (r : BRef) (c : Nat) (n : Option Nat) (s : State) : Host.Outcome State Fault Refusal :=
  runLive (setAudioChan r c n) s

/-- SET_AUDIO_SEEP (R337). `set audio seep [ethr E] [zmin Z] [zmax Z] [ntrig N] [hang H]`. -/
def execSetAudioSeep (r : BRef) (ethr : Option Nat) (zmin : Option Nat) (zmax : Option Nat) (ntrig : Option Nat) (hang : Option Nat) (s : State) : Host.Outcome State Fault Refusal :=
  runLive (setAudioSeep r ethr zmin zmax ntrig hang) s

/-- SET_AUDIO_RIPPLE (R337). `set audio ripple [thr T] [time N] [whang N] [ttl T]`; the threshold as its 32-bit word, ttl in gauge units. -/
def execSetAudioRipple (r : BRef) (thr : Option Nat) (time : Option Nat) (whang : Option Nat) (ttl : Option Nat) (s : State) : Host.Outcome State Fault Refusal :=
  runLive (setAudioRipple r thr time whang ttl) s

/-- SET_AUDIO_PACK (R335). `set audio pack image N [wait]` (R335). -/
def execSetAudioPack (r : BRef) (n : Nat) (wait : Bool) (s : State) : Host.Outcome State Fault Refusal :=
  runLive (setAudioPack r n wait) s

/-- SET_AUDIO_DRAIN (R332). `set audio drain` (R332). -/
def execSetAudioDrain (r : BRef) (s : State) : Host.Outcome State Fault Refusal :=
  runLive (setAudioDrain r) s

/-- FORGET_AUDIO (R331). `forget audio` (R331). -/
def execForgetAudio (r : BRef) (s : State) : Host.Outcome State Fault Refusal :=
  runLive (forgetAudio r) s

end Sys2Proof.Machine
end

