-- ==== Sys2Proof/Machine/Dispatch.lean ====
section
/-!
DEFINITION. Machine/Dispatch.lean: one arm for each command.
-/
namespace Sys2Proof.Machine

def exec (i : Instr) (s : State) : Host.Outcome State Fault Refusal :=
  match i with
  | .powerOn vrOk hbmBad sfdp g => Sys2Proof.Machine.execPowerOn vrOk hbmBad sfdp g s
  | .warmReset vrOk refOk hbmBad sfdp g => Sys2Proof.Machine.execWarmReset vrOk refOk hbmBad sfdp g s
  | .powerDown => Sys2Proof.Machine.execPowerDown s
  | .perstAssert mid => Sys2Proof.Machine.execPerstAssert mid s
  | .perstDeassert => Sys2Proof.Machine.execPerstDeassert s
  | .ref24Loss => Sys2Proof.Machine.execRef24Loss s
  | .firmwareTrip => Sys2Proof.Machine.execFirmwareTrip s
  | .hardwareTrip sensors => Sys2Proof.Machine.execHardwareTrip sensors s
  | .vrAlert w => Sys2Proof.Machine.execVrAlert w s
  | .functionLevelReset mid => Sys2Proof.Machine.execFunctionLevelReset mid s
  | .hotReset mid => Sys2Proof.Machine.execHotReset mid s
  | .d3hotEntry => Sys2Proof.Machine.execD3hotEntry s
  | .d3hotToD0 => Sys2Proof.Machine.execD3hotToD0 s
  | .masteringPause => Sys2Proof.Machine.execMasteringPause s
  | .masteringResume => Sys2Proof.Machine.execMasteringResume s
  | .gaugeLoRead q wide hi => Sys2Proof.Machine.execGaugeLoRead q wide hi s
  | .rcFieldRead a n => Sys2Proof.Machine.execRcFieldRead a n s
  | .unassignedRead a n => Sys2Proof.Machine.execUnassignedRead a n s
  | .registerWrite a n be v => Sys2Proof.Machine.execRegisterWrite a n be v s
  | .imaskWrite k v => Sys2Proof.Machine.execImaskWrite k v s
  | .hostMemoryAccess bar a n data pois e => Sys2Proof.Machine.execHostMemoryAccess bar a n data pois e s
  | .bar4Resize k => Sys2Proof.Machine.execBar4Resize k s
  | .udirOn unit gen tag => Sys2Proof.Machine.execUdirOn unit gen tag s
  | .udirOff unit gen tag => Sys2Proof.Machine.execUdirOff unit gen tag s
  | .udirReset unit gen tag => Sys2Proof.Machine.execUdirReset unit gen tag s
  | .udirUpdate unit gen tag => Sys2Proof.Machine.execUdirUpdate unit gen tag s
  | .udirRequestRetry => Sys2Proof.Machine.execUdirRequestRetry s
  | .unitAck n => Sys2Proof.Machine.execUnitAck n s
  | .ackBoundExpiry n => Sys2Proof.Machine.execAckBoundExpiry n s
  | .drainComplete n ack => Sys2Proof.Machine.execDrainComplete n ack s
  | .drainBoundExpiry n ack => Sys2Proof.Machine.execDrainBoundExpiry n ack s
  | .wakeComplete n => Sys2Proof.Machine.execWakeComplete n s
  | .wakeBoundExpiry n => Sys2Proof.Machine.execWakeBoundExpiry n s
  | .unitFault n => Sys2Proof.Machine.execUnitFault n s
  | .loadComplete n ack => Sys2Proof.Machine.execLoadComplete n ack s
  | .loadFail n => Sys2Proof.Machine.execLoadFail n s
  | .listUnit r state => Sys2Proof.Machine.execListUnit r state s
  | .showUnit r n => Sys2Proof.Machine.execShowUnit r n s
  | .onUnit r n gen wait => Sys2Proof.Machine.execOnUnit r n gen wait s
  | .offUnit r n gen wait => Sys2Proof.Machine.execOffUnit r n gen wait s
  | .resetUnit r n gen wait => Sys2Proof.Machine.execResetUnit r n gen wait s
  | .uartByte b bad => Sys2Proof.Machine.execUartByte b bad s
  | .lineTerminator sid line => Sys2Proof.Machine.execLineTerminator sid line s
  | .ctrlC => Sys2Proof.Machine.execCtrlC s
  | .uartBreak => Sys2Proof.Machine.execUartBreak s
  | .breakEndPrompt => Sys2Proof.Machine.execBreakEndPrompt s
  | .outputRoomResume sid n => Sys2Proof.Machine.execOutputRoomResume sid n s
  | .modeTyped r => Sys2Proof.Machine.execModeTyped r s
  | .modeMachine r crc => Sys2Proof.Machine.execModeMachine r crc s
  | .modeBaud r n => Sys2Proof.Machine.execModeBaud r n s
  | .showGauge r => Sys2Proof.Machine.execShowGauge r s
  | .showLog r n => Sys2Proof.Machine.execShowLog r n s
  | .followLog r l => Sys2Proof.Machine.execFollowLog r l s
  | .quietLog r => Sys2Proof.Machine.execQuietLog r s
  | .clearLog r => Sys2Proof.Machine.execClearLog r s
  | .showHelp r noun => Sys2Proof.Machine.execShowHelp r noun s
  | .mailboxCheadWrite v => Sys2Proof.Machine.execMailboxCheadWrite v s
  | .mailboxRtailWrite v => Sys2Proof.Machine.execMailboxRtailWrite v s
  | .mailboxSessionEnd => Sys2Proof.Machine.execMailboxSessionEnd s
  | .bipolMessageReceive m => Sys2Proof.Machine.execBipolMessageReceive m s
  | .keepaliveSend ix => Sys2Proof.Machine.execKeepaliveSend ix s
  | .remoteTimeout r => Sys2Proof.Machine.execRemoteTimeout r s
  | .inboundSessionClose ix => Sys2Proof.Machine.execInboundSessionClose ix s
  | .ringEnable sub n v => Sys2Proof.Machine.execRingEnable sub n v s
  | .doorbell n v => Sys2Proof.Machine.execDoorbell n v s
  | .descriptorAdmit b payload => Sys2Proof.Machine.execDescriptorAdmit b payload s
  | .hostReadFail n x kind => Sys2Proof.Machine.execHostReadFail n x kind s
  | .hostReadRetry n x kind good b payload => Sys2Proof.Machine.execHostReadRetry n x kind good b payload s
  | .completionHeadWrite c v => Sys2Proof.Machine.execCompletionHeadWrite c v s
  | .backlogFetch v => Sys2Proof.Machine.execBacklogFetch v s
  | .completionTimerMessage c => Sys2Proof.Machine.execCompletionTimerMessage c s
  | .spdmRequest disc q => Sys2Proof.Machine.execSpdmRequest disc q s
  | .doeAbort => Sys2Proof.Machine.execDoeAbort s
  | .showInlet r ring => Sys2Proof.Machine.execShowInlet r ring s
  | .setInlet r n en => Sys2Proof.Machine.execSetInlet r n en s
  | .showOutlet r ring => Sys2Proof.Machine.execShowOutlet r ring s
  | .showOutletBacklog r => Sys2Proof.Machine.execShowOutletBacklog r s
  | .setOutlet r n c t => Sys2Proof.Machine.execSetOutlet r n c t s
  | .fetchOutlet r n wait => Sys2Proof.Machine.execFetchOutlet r n wait s
  | .sluiceWordWrite n data first last valid bad => Sys2Proof.Machine.execSluiceWordWrite n data first last valid bad s
  | .sluiceRead n => Sys2Proof.Machine.execSluiceRead n s
  | .sluiceDrop n => Sys2Proof.Machine.execSluiceDrop n s
  | .sluiceStallExpiry n => Sys2Proof.Machine.execSluiceStallExpiry n s
  | .pointerMismatch n => Sys2Proof.Machine.execPointerMismatch n s
  | .sluiceResetEnd n => Sys2Proof.Machine.execSluiceResetEnd n s
  | .poolGrant => Sys2Proof.Machine.execPoolGrant s
  | .sluiceConfigWrite n cap v => Sys2Proof.Machine.execSluiceConfigWrite n cap v s
  | .listSluice r => Sys2Proof.Machine.execListSluice r s
  | .showSluice r n => Sys2Proof.Machine.execShowSluice r n s
  | .setSluice r n cap res ct hi lo up down => Sys2Proof.Machine.execSetSluice r n cap res ct hi lo up down s
  | .clearSluice r n => Sys2Proof.Machine.execClearSluice r n s
  | .routeCommit v => Sys2Proof.Machine.execRouteCommit v s
  | .commitWaitRetire route => Sys2Proof.Machine.execCommitWaitRetire route s
  | .bindWrite stream v => Sys2Proof.Machine.execBindWrite stream v s
  | .stageDispatch l ix => Sys2Proof.Machine.execStageDispatch l ix s
  | .heldStageResume l ix => Sys2Proof.Machine.execHeldStageResume l ix s
  | .stageReply n => Sys2Proof.Machine.execStageReply n s
  | .combineFinish l ix => Sys2Proof.Machine.execCombineFinish l ix s
  | .deadlineRelease l => Sys2Proof.Machine.execDeadlineRelease l s
  | .earlyRelease l => Sys2Proof.Machine.execEarlyRelease l s
  | .amendmentPost l => Sys2Proof.Machine.execAmendmentPost l s
  | .amendWindowClose l => Sys2Proof.Machine.execAmendWindowClose l s
  | .listRoute r => Sys2Proof.Machine.execListRoute r s
  | .showRoute r n staged => Sys2Proof.Machine.execShowRoute r n staged s
  | .setRoute r n valid deadline early dlv amend window hold prio emptyv dirs maskb stages => Sys2Proof.Machine.execSetRoute r n valid deadline early dlv amend window hold prio emptyv dirs maskb stages s
  | .setRouteStage r n ix kind table cores rule inputs k stop slots => Sys2Proof.Machine.execSetRouteStage r n ix kind table cores rule inputs k stop slots s
  | .commitRoute r n epoch wait => Sys2Proof.Machine.execCommitRoute r n epoch wait s
  | .bindRoute r route stream ans => Sys2Proof.Machine.execBindRoute r route stream ans s
  | .showWeir r => Sys2Proof.Machine.execShowWeir r s
  | .setWeir r x => Sys2Proof.Machine.execSetWeir r x s
  | .reedRequestItem => Sys2Proof.Machine.execReedRequestItem s
  | .reedAnswerChunk => Sys2Proof.Machine.execReedAnswerChunk s
  | .reedMarker => Sys2Proof.Machine.execReedMarker s
  | .reedReplyOpen => Sys2Proof.Machine.execReedReplyOpen s
  | .showReed r k => Sys2Proof.Machine.execShowReed r k s
  | .loadReed r k src replace wait => Sys2Proof.Machine.execLoadReed r k src replace wait s
  | .setReedSlotEmpty r k => Sys2Proof.Machine.execSetReedSlotEmpty r k s
  | .setReedStreamFlush r n => Sys2Proof.Machine.execSetReedStreamFlush r n s
  | .engineReloadAfterOn u => Sys2Proof.Machine.execEngineReloadAfterOn u s
  | .shoalTakeItem => Sys2Proof.Machine.execShoalTakeItem s
  | .shoalScanComplete ix => Sys2Proof.Machine.execShoalScanComplete ix s
  | .showShoal r k => Sys2Proof.Machine.execShowShoal r k s
  | .loadShoal r k src replace wait => Sys2Proof.Machine.execLoadShoal r k src replace wait s
  | .tarnRowSieve => Sys2Proof.Machine.execTarnRowSieve s
  | .tarnRowEnterWalk => Sys2Proof.Machine.execTarnRowEnterWalk s
  | .tarnLaneTakeTree => Sys2Proof.Machine.execTarnLaneTakeTree s
  | .tarnReply => Sys2Proof.Machine.execTarnReply s
  | .showTarn r k => Sys2Proof.Machine.execShowTarn r k s
  | .loadTarn r k src replace wait => Sys2Proof.Machine.execLoadTarn r k src replace wait s
  | .setTarnSlotEmpty r k => Sys2Proof.Machine.execSetTarnSlotEmpty r k s
  | .basinMacStart b ix => Sys2Proof.Machine.execBasinMacStart b ix s
  | .basinOpComplete b ix ce ue hue par => Sys2Proof.Machine.execBasinOpComplete b ix ce ue hue par s
  | .groupBlockFetch g ue => Sys2Proof.Machine.execGroupBlockFetch g ue s
  | .basinPatrol b w kind => Sys2Proof.Machine.execBasinPatrol b w kind s
  | .showBasin r b => Sys2Proof.Machine.execShowBasin r b s
  | .setBasinGroup r b g => Sys2Proof.Machine.execSetBasinGroup r b g s
  | .setBasinGroupNone r b => Sys2Proof.Machine.execSetBasinGroupNone r b s
  | .kernelRequestRead c => Sys2Proof.Machine.execKernelRequestRead c s
  | .batchCloseTimer c => Sys2Proof.Machine.execBatchCloseTimer c s
  | .dispatchEvaluate drawn => Sys2Proof.Machine.execDispatchEvaluate drawn s
  | .dispatchGrant c => Sys2Proof.Machine.execDispatchGrant c s
  | .budgetExpiry c => Sys2Proof.Machine.execBudgetExpiry c s
  | .slwaitTimeout c => Sys2Proof.Machine.execSlwaitTimeout c s
  | .queueOpComplete c remote errs => Sys2Proof.Machine.execQueueOpComplete c remote errs s
  | .showLong r c => Sys2Proof.Machine.execShowLong r c s
  | .showLongProg r c p => Sys2Proof.Machine.execShowLongProg r c p s
  | .loadLong r p src cores replace wait => Sys2Proof.Machine.execLoadLong r p src cores replace wait s
  | .stopLong r p => Sys2Proof.Machine.execStopLong r p s
  | .startLong r p => Sys2Proof.Machine.execStartLong r p s
  | .br c sl gp gs res off more err => Sys2Proof.Machine.execBr c sl gp gs res off more err s
  | .jr c sl gp gs res a more err => Sys2Proof.Machine.execJr c sl gp gs res a more err s
  | .call c sl gp gs res off more err => Sys2Proof.Machine.execCall c sl gp gs res off more err s
  | .ret c sl gp gs res more err => Sys2Proof.Machine.execRet c sl gp gs res more err s
  | .eret c sl gp gs res more err => Sys2Proof.Machine.execEret c sl gp gs res more err s
  | .add c sl gp gs res d a b more err => Sys2Proof.Machine.execAdd c sl gp gs res d a b more err s
  | .sub c sl gp gs res d a b more err => Sys2Proof.Machine.execSub c sl gp gs res d a b more err s
  | .andG c sl gp gs res d a b more err => Sys2Proof.Machine.execAndG c sl gp gs res d a b more err s
  | .orG c sl gp gs res d a b more err => Sys2Proof.Machine.execOrG c sl gp gs res d a b more err s
  | .xor c sl gp gs res d a b more err => Sys2Proof.Machine.execXor c sl gp gs res d a b more err s
  | .shl c sl gp gs res d a b more err => Sys2Proof.Machine.execShl c sl gp gs res d a b more err s
  | .shr c sl gp gs res d a b more err => Sys2Proof.Machine.execShr c sl gp gs res d a b more err s
  | .sar c sl gp gs res d a b more err => Sys2Proof.Machine.execSar c sl gp gs res d a b more err s
  | .minG c sl gp gs res d a b more err => Sys2Proof.Machine.execMinG c sl gp gs res d a b more err s
  | .maxG c sl gp gs res d a b more err => Sys2Proof.Machine.execMaxG c sl gp gs res d a b more err s
  | .minu c sl gp gs res d a b more err => Sys2Proof.Machine.execMinu c sl gp gs res d a b more err s
  | .maxu c sl gp gs res d a b more err => Sys2Proof.Machine.execMaxu c sl gp gs res d a b more err s
  | .sel c sl gp gs res d a b x more err => Sys2Proof.Machine.execSel c sl gp gs res d a b x more err s
  | .popc c sl gp gs res d a more err => Sys2Proof.Machine.execPopc c sl gp gs res d a more err s
  | .clz c sl gp gs res d a more err => Sys2Proof.Machine.execClz c sl gp gs res d a more err s
  | .mul c sl gp gs res d a b more err => Sys2Proof.Machine.execMul c sl gp gs res d a b more err s
  | .mulh c sl gp gs res d a b more err => Sys2Proof.Machine.execMulh c sl gp gs res d a b more err s
  | .mulhu c sl gp gs res d a b more err => Sys2Proof.Machine.execMulhu c sl gp gs res d a b more err s
  | .div c sl gp gs res d a b more err => Sys2Proof.Machine.execDiv c sl gp gs res d a b more err s
  | .divu c sl gp gs res d a b more err => Sys2Proof.Machine.execDivu c sl gp gs res d a b more err s
  | .rem c sl gp gs res d a b more err => Sys2Proof.Machine.execRem c sl gp gs res d a b more err s
  | .remu c sl gp gs res d a b more err => Sys2Proof.Machine.execRemu c sl gp gs res d a b more err s
  | .addi c sl gp gs res d a imm more err => Sys2Proof.Machine.execAddi c sl gp gs res d a imm more err s
  | .andi c sl gp gs res d a imm more err => Sys2Proof.Machine.execAndi c sl gp gs res d a imm more err s
  | .ori c sl gp gs res d a imm more err => Sys2Proof.Machine.execOri c sl gp gs res d a imm more err s
  | .xori c sl gp gs res d a imm more err => Sys2Proof.Machine.execXori c sl gp gs res d a imm more err s
  | .shli c sl gp gs res d a imm more err => Sys2Proof.Machine.execShli c sl gp gs res d a imm more err s
  | .shri c sl gp gs res d a imm more err => Sys2Proof.Machine.execShri c sl gp gs res d a imm more err s
  | .sari c sl gp gs res d a imm more err => Sys2Proof.Machine.execSari c sl gp gs res d a imm more err s
  | .cmpeq c sl gp gs res d a b more err => Sys2Proof.Machine.execCmpeq c sl gp gs res d a b more err s
  | .cmpne c sl gp gs res d a b more err => Sys2Proof.Machine.execCmpne c sl gp gs res d a b more err s
  | .cmplt c sl gp gs res d a b more err => Sys2Proof.Machine.execCmplt c sl gp gs res d a b more err s
  | .cmpltu c sl gp gs res d a b more err => Sys2Proof.Machine.execCmpltu c sl gp gs res d a b more err s
  | .cmple c sl gp gs res d a b more err => Sys2Proof.Machine.execCmple c sl gp gs res d a b more err s
  | .cmpleu c sl gp gs res d a b more err => Sys2Proof.Machine.execCmpleu c sl gp gs res d a b more err s
  | .cmpeqi c sl gp gs res d a imm more err => Sys2Proof.Machine.execCmpeqi c sl gp gs res d a imm more err s
  | .cmplti c sl gp gs res d a imm more err => Sys2Proof.Machine.execCmplti c sl gp gs res d a imm more err s
  | .cmpltui c sl gp gs res d a imm more err => Sys2Proof.Machine.execCmpltui c sl gp gs res d a imm more err s
  | .pand c sl gp gs res d a b more err => Sys2Proof.Machine.execPand c sl gp gs res d a b more err s
  | .por c sl gp gs res d a b more err => Sys2Proof.Machine.execPor c sl gp gs res d a b more err s
  | .pxor c sl gp gs res d a b more err => Sys2Proof.Machine.execPxor c sl gp gs res d a b more err s
  | .pandn c sl gp gs res d a b more err => Sys2Proof.Machine.execPandn c sl gp gs res d a b more err s
  | .movi c sl gp gs res d imm more err => Sys2Proof.Machine.execMovi c sl gp gs res d imm more err s
  | .movh c sl gp gs res d hi more err => Sys2Proof.Machine.execMovh c sl gp gs res d hi more err s
  | .mfk c sl gp gs res g k more err => Sys2Proof.Machine.execMfk c sl gp gs res g k more err s
  | .mtk c sl gp gs res g k more err => Sys2Proof.Machine.execMtk c sl gp gs res g k more err s
  | .ldb c sl gp gs res t a off more err => Sys2Proof.Machine.execLdb c sl gp gs res t a off more err s
  | .ldbu c sl gp gs res t a off more err => Sys2Proof.Machine.execLdbu c sl gp gs res t a off more err s
  | .ldh c sl gp gs res t a off more err => Sys2Proof.Machine.execLdh c sl gp gs res t a off more err s
  | .ldhu c sl gp gs res t a off more err => Sys2Proof.Machine.execLdhu c sl gp gs res t a off more err s
  | .ldw c sl gp gs res t a off more err => Sys2Proof.Machine.execLdw c sl gp gs res t a off more err s
  | .ldwu c sl gp gs res t a off more err => Sys2Proof.Machine.execLdwu c sl gp gs res t a off more err s
  | .ldd c sl gp gs res t a off more err => Sys2Proof.Machine.execLdd c sl gp gs res t a off more err s
  | .stb c sl gp gs res t a off more err => Sys2Proof.Machine.execStb c sl gp gs res t a off more err s
  | .sth c sl gp gs res t a off more err => Sys2Proof.Machine.execSth c sl gp gs res t a off more err s
  | .stw c sl gp gs res t a off more err => Sys2Proof.Machine.execStw c sl gp gs res t a off more err s
  | .std c sl gp gs res t a off more err => Sys2Proof.Machine.execStd c sl gp gs res t a off more err s
  | .vld64 c sl gp gs res t a seg off more err => Sys2Proof.Machine.execVld64 c sl gp gs res t a seg off more err s
  | .vld c sl gp gs res t a off more err => Sys2Proof.Machine.execVld c sl gp gs res t a off more err s
  | .vst64 c sl gp gs res t a seg off more err => Sys2Proof.Machine.execVst64 c sl gp gs res t a seg off more err s
  | .vst c sl gp gs res t a off more err => Sys2Proof.Machine.execVst c sl gp gs res t a off more err s
  | .tld c sl gp gs res t a off more err => Sys2Proof.Machine.execTld c sl gp gs res t a off more err s
  | .tst c sl gp gs res t a off more err => Sys2Proof.Machine.execTst c sl gp gs res t a off more err s
  | .vadd c sl gp gs res d a b cc w g imm more err => Sys2Proof.Machine.execVadd c sl gp gs res d a b cc w g imm more err s
  | .vsub c sl gp gs res d a b cc w g imm more err => Sys2Proof.Machine.execVsub c sl gp gs res d a b cc w g imm more err s
  | .vadds c sl gp gs res d a b cc w g imm more err => Sys2Proof.Machine.execVadds c sl gp gs res d a b cc w g imm more err s
  | .vsubs c sl gp gs res d a b cc w g imm more err => Sys2Proof.Machine.execVsubs c sl gp gs res d a b cc w g imm more err s
  | .vmin c sl gp gs res d a b cc w g imm more err => Sys2Proof.Machine.execVmin c sl gp gs res d a b cc w g imm more err s
  | .vmax c sl gp gs res d a b cc w g imm more err => Sys2Proof.Machine.execVmax c sl gp gs res d a b cc w g imm more err s
  | .vand c sl gp gs res d a b cc w g imm more err => Sys2Proof.Machine.execVand c sl gp gs res d a b cc w g imm more err s
  | .vor c sl gp gs res d a b cc w g imm more err => Sys2Proof.Machine.execVor c sl gp gs res d a b cc w g imm more err s
  | .vxor c sl gp gs res d a b cc w g imm more err => Sys2Proof.Machine.execVxor c sl gp gs res d a b cc w g imm more err s
  | .vshl c sl gp gs res d a b cc w g imm more err => Sys2Proof.Machine.execVshl c sl gp gs res d a b cc w g imm more err s
  | .vshr c sl gp gs res d a b cc w g imm more err => Sys2Proof.Machine.execVshr c sl gp gs res d a b cc w g imm more err s
  | .vsar c sl gp gs res d a b cc w g imm more err => Sys2Proof.Machine.execVsar c sl gp gs res d a b cc w g imm more err s
  | .vcmpeq c sl gp gs res d a b cc w g imm more err => Sys2Proof.Machine.execVcmpeq c sl gp gs res d a b cc w g imm more err s
  | .vcmplt c sl gp gs res d a b cc w g imm more err => Sys2Proof.Machine.execVcmplt c sl gp gs res d a b cc w g imm more err s
  | .vcmpltu c sl gp gs res d a b cc w g imm more err => Sys2Proof.Machine.execVcmpltu c sl gp gs res d a b cc w g imm more err s
  | .vsel c sl gp gs res d a b cc w g imm more err => Sys2Proof.Machine.execVsel c sl gp gs res d a b cc w g imm more err s
  | .vbcast c sl gp gs res d a b cc w g imm more err => Sys2Proof.Machine.execVbcast c sl gp gs res d a b cc w g imm more err s
  | .vget c sl gp gs res d a b cc w g imm more err => Sys2Proof.Machine.execVget c sl gp gs res d a b cc w g imm more err s
  | .vput c sl gp gs res d a b cc w g imm more err => Sys2Proof.Machine.execVput c sl gp gs res d a b cc w g imm more err s
  | .vmul c sl gp gs res d a b cc w g imm more err => Sys2Proof.Machine.execVmul c sl gp gs res d a b cc w g imm more err s
  | .vaddf c sl gp gs res d a b cc w g imm more err => Sys2Proof.Machine.execVaddf c sl gp gs res d a b cc w g imm more err s
  | .vsubf c sl gp gs res d a b cc w g imm more err => Sys2Proof.Machine.execVsubf c sl gp gs res d a b cc w g imm more err s
  | .vmulf c sl gp gs res d a b cc w g imm more err => Sys2Proof.Machine.execVmulf c sl gp gs res d a b cc w g imm more err s
  | .vminf c sl gp gs res d a b cc w g imm more err => Sys2Proof.Machine.execVminf c sl gp gs res d a b cc w g imm more err s
  | .vmaxf c sl gp gs res d a b cc w g imm more err => Sys2Proof.Machine.execVmaxf c sl gp gs res d a b cc w g imm more err s
  | .vcmpltf c sl gp gs res d a b cc w g imm more err => Sys2Proof.Machine.execVcmpltf c sl gp gs res d a b cc w g imm more err s
  | .vcmpeqf c sl gp gs res d a b cc w g imm more err => Sys2Proof.Machine.execVcmpeqf c sl gp gs res d a b cc w g imm more err s
  | .vcvtif c sl gp gs res d a b cc w g imm more err => Sys2Proof.Machine.execVcvtif c sl gp gs res d a b cc w g imm more err s
  | .vcvtfi c sl gp gs res d a b cc w g imm more err => Sys2Proof.Machine.execVcvtfi c sl gp gs res d a b cc w g imm more err s
  | .vpacks c sl gp gs res d a b cc w g imm more err => Sys2Proof.Machine.execVpacks c sl gp gs res d a b cc w g imm more err s
  | .vpackf c sl gp gs res d a b cc w g imm more err => Sys2Proof.Machine.execVpackf c sl gp gs res d a b cc w g imm more err s
  | .vpackb c sl gp gs res d a b cc w g imm more err => Sys2Proof.Machine.execVpackb c sl gp gs res d a b cc w g imm more err s
  | .vunpk c sl gp gs res d a b cc w g imm more err => Sys2Proof.Machine.execVunpk c sl gp gs res d a b cc w g imm more err s
  | .vunpkf c sl gp gs res d a b cc w g imm more err => Sys2Proof.Machine.execVunpkf c sl gp gs res d a b cc w g imm more err s
  | .vunpkb c sl gp gs res d a b cc w g imm more err => Sys2Proof.Machine.execVunpkb c sl gp gs res d a b cc w g imm more err s
  | .vrcp c sl gp gs res d a b cc w g imm more err => Sys2Proof.Machine.execVrcp c sl gp gs res d a b cc w g imm more err s
  | .vsqrt c sl gp gs res d a b cc w g imm more err => Sys2Proof.Machine.execVsqrt c sl gp gs res d a b cc w g imm more err s
  | .vexp c sl gp gs res d a b cc w g imm more err => Sys2Proof.Machine.execVexp c sl gp gs res d a b cc w g imm more err s
  | .vrsum c sl gp gs res d a b cc w g imm more err => Sys2Proof.Machine.execVrsum c sl gp gs res d a b cc w g imm more err s
  | .vrmax c sl gp gs res d a b cc w g imm more err => Sys2Proof.Machine.execVrmax c sl gp gs res d a b cc w g imm more err s
  | .vrsumf c sl gp gs res d a b cc w g imm more err => Sys2Proof.Machine.execVrsumf c sl gp gs res d a b cc w g imm more err s
  | .vrmaxf c sl gp gs res d a b cc w g imm more err => Sys2Proof.Machine.execVrmaxf c sl gp gs res d a b cc w g imm more err s
  | .tacc c sl gp gs res bank t td init type ncol more err => Sys2Proof.Machine.execTacc c sl gp gs res bank t td init type ncol more err s
  | .tmac c sl gp gs res bank a h more err => Sys2Proof.Machine.execTmac c sl gp gs res bank a h more err s
  | .tdrn c sl gp gs res bank t dfmt gm gf more err => Sys2Proof.Machine.execTdrn c sl gp gs res bank t dfmt gm gf more err s
  | .twait c sl gp gs res more err => Sys2Proof.Machine.execTwait c sl gp gs res more err s
  | .tset c sl gp gs res t field g more err => Sys2Proof.Machine.execTset c sl gp gs res t field g more err s
  | .sopen c sl gp gs res h src grp a b lay ncol more err => Sys2Proof.Machine.execSopen c sl gp gs res h src grp a b lay ncol more err s
  | .sclose c sl gp gs res h more err => Sys2Proof.Machine.execSclose c sl gp gs res h more err s
  | .slrd c sl gp gs res v seg g idx more err => Sys2Proof.Machine.execSlrd c sl gp gs res v seg g idx more err s
  | .slwr c sl gp gs res v seg idx first last valid more err => Sys2Proof.Machine.execSlwr c sl gp gs res v seg idx first last valid more err s
  | .slwait c sl gp gs res g idx more err => Sys2Proof.Machine.execSlwait c sl gp gs res g idx more err s
  | .sldrop c sl gp gs res idx more err => Sys2Proof.Machine.execSldrop c sl gp gs res idx more err s
  | .sinit c sl gp gs res a b more err => Sys2Proof.Machine.execSinit c sl gp gs res a b more err s
  | .sapp c sl gp gs res a b n more err => Sys2Proof.Machine.execSapp c sl gp gs res a b n more err s
  | .sfree c sl gp gs res a more err => Sys2Proof.Machine.execSfree c sl gp gs res a more err s
  | .mereRefresh b => Sys2Proof.Machine.execMereRefresh b s
  | .merePatrol b w kind => Sys2Proof.Machine.execMerePatrol b w kind s
  | .siphonJob c written errs => Sys2Proof.Machine.execSiphonJob c written errs s
  | .siphonCompletion ix => Sys2Proof.Machine.execSiphonCompletion ix s
  | .siphonAbortReport => Sys2Proof.Machine.execSiphonAbortReport s
  | .showMere r => Sys2Proof.Machine.execShowMere r s
  | .readMere r a len => Sys2Proof.Machine.execReadMere r a len s
  | .showSiphon r => Sys2Proof.Machine.execShowSiphon r s
  | .copySiphon r ssp sb src dsp db dst len rows ss ds wait => Sys2Proof.Machine.execCopySiphon r ssp sb src dsp db dst len rows ss ds wait s
  | .showHbm r h => Sys2Proof.Machine.execShowHbm r h s
  | .setHbmLedger r l n => Sys2Proof.Machine.execSetHbmLedger r l n s
  | .setHbmRepair r a => Sys2Proof.Machine.execSetHbmRepair r a s
  | .biasOverload k => Sys2Proof.Machine.execBiasOverload k s
  | .inputRampEnd n => Sys2Proof.Machine.execInputRampEnd n s
  | .wellFrameBoundary x => Sys2Proof.Machine.execWellFrameBoundary x s
  | .seepHop x => Sys2Proof.Machine.execSeepHop x s
  | .seepTrigger => Sys2Proof.Machine.execSeepTrigger s
  | .hangZeroise => Sys2Proof.Machine.execHangZeroise s
  | .rippleEvaluation => Sys2Proof.Machine.execRippleEvaluation s
  | .rippleTimeout => Sys2Proof.Machine.execRippleTimeout s
  | .wakeDrainStart => Sys2Proof.Machine.execWakeDrainStart s
  | .drainFrameEmit => Sys2Proof.Machine.execDrainFrameEmit s
  | .wellFrameAdmit => Sys2Proof.Machine.execWellFrameAdmit s
  | .wakeDecision => Sys2Proof.Machine.execWakeDecision s
  | .whangExpiry => Sys2Proof.Machine.execWhangExpiry s
  | .openttlExpiry => Sys2Proof.Machine.execOpenttlExpiry s
  | .frameStageFeatures l ix => Sys2Proof.Machine.execFrameStageFeatures l ix s
  | .listenWrite v => Sys2Proof.Machine.execListenWrite v s
  | .wellCtlDrain => Sys2Proof.Machine.execWellCtlDrain s
  | .wellCtlForget => Sys2Proof.Machine.execWellCtlForget s
  | .showAudio r => Sys2Proof.Machine.execShowAudio r s
  | .setAudio r rate flen listen mic stream => Sys2Proof.Machine.execSetAudio r rate flen listen mic stream s
  | .setAudioIn r n gain bias => Sys2Proof.Machine.execSetAudioIn r n gain bias s
  | .setAudioBias r b volts on => Sys2Proof.Machine.execSetAudioBias r b volts on s
  | .setAudioChan r c n => Sys2Proof.Machine.execSetAudioChan r c n s
  | .setAudioSeep r ethr zmin zmax ntrig hang => Sys2Proof.Machine.execSetAudioSeep r ethr zmin zmax ntrig hang s
  | .setAudioRipple r thr time whang ttl => Sys2Proof.Machine.execSetAudioRipple r thr time whang ttl s
  | .setAudioPack r n wait => Sys2Proof.Machine.execSetAudioPack r n wait s
  | .setAudioDrain r => Sys2Proof.Machine.execSetAudioDrain r s
  | .forgetAudio r => Sys2Proof.Machine.execForgetAudio r s
  | .linkTrainDone j => Sys2Proof.Machine.execLinkTrainDone j s
  | .linkAlignLock j => Sys2Proof.Machine.execLinkAlignLock j s
  | .helloSend j => Sys2Proof.Machine.execHelloSend j s
  | .helloFrameReceive j b => Sys2Proof.Machine.execHelloFrameReceive j b s
  | .keyFrameReceive j b => Sys2Proof.Machine.execKeyFrameReceive j b s
  | .keyResend j => Sys2Proof.Machine.execKeyResend j s
  | .frameReceive j fec b => Sys2Proof.Machine.execFrameReceive j fec b s
  | .ackTimer j => Sys2Proof.Machine.execAckTimer j s
  | .replayTimeout j => Sys2Proof.Machine.execReplayTimeout j s
  | .linkFailure j lock => Sys2Proof.Machine.execLinkFailure j lock s
  | .linkAutoReset j => Sys2Proof.Machine.execLinkAutoReset j s
  | .jettyTransmitGrant j => Sys2Proof.Machine.execJettyTransmitGrant j s
  | .jettyRouteWrite n v => Sys2Proof.Machine.execJettyRouteWrite n v s
  | .jettyTrunkWrite t hi v => Sys2Proof.Machine.execJettyTrunkWrite t hi v s
  | .drainMarkerReceive j vl => Sys2Proof.Machine.execDrainMarkerReceive j vl s
  | .drainackReceive j vl => Sys2Proof.Machine.execDrainackReceive j vl s
  | .fenceTimeout n => Sys2Proof.Machine.execFenceTimeout n s
  | .keyWordWrite j k w v => Sys2Proof.Machine.execKeyWordWrite j k w v s
  | .keyClear j k => Sys2Proof.Machine.execKeyClear j k s
  | .keyUse j k => Sys2Proof.Machine.execKeyUse j k s
  | .memRequest lent => Sys2Proof.Machine.execMemRequest lent s
  | .memtoExpiry tag => Sys2Proof.Machine.execMemtoExpiry tag s
  | .ferryTokenReceive b => Sys2Proof.Machine.execFerryTokenReceive b s
  | .ferryBlockReceive b => Sys2Proof.Machine.execFerryBlockReceive b s
  | .ferryBlockForward absorb => Sys2Proof.Machine.execFerryBlockForward absorb s
  | .ferryOpenTimeout c => Sys2Proof.Machine.execFerryOpenTimeout c s
  | .ferryBreak => Sys2Proof.Machine.execFerryBreak s
  | .listLink r => Sys2Proof.Machine.execListLink r s
  | .showLink r j => Sys2Proof.Machine.execShowLink r j s
  | .showLinkRoute r n => Sys2Proof.Machine.execShowLinkRoute r n s
  | .upLink r j enc gen wait => Sys2Proof.Machine.execUpLink r j enc gen wait s
  | .downLink r j gen wait => Sys2Proof.Machine.execDownLink r j gen wait s
  | .keyLinkSlot r j k k0 k1 k2 k3 => Sys2Proof.Machine.execKeyLinkSlot r j k k0 k1 k2 k3 s
  | .keyLinkClear r j k => Sys2Proof.Machine.execKeyLinkClear r j k s
  | .keyLinkUse r j k => Sys2Proof.Machine.execKeyLinkUse r j k s
  | .showFerry r => Sys2Proof.Machine.execShowFerry r s
  | .setFerry r ring index stops slots next revb hold => Sys2Proof.Machine.execSetFerry r ring index stops slots next revb hold s
  | .setFerryOwn r k n a l => Sys2Proof.Machine.execSetFerryOwn r k n a l s
  | .startFerry r => Sys2Proof.Machine.execStartFerry r s
  | .stopFerry r => Sys2Proof.Machine.execStopFerry r s
  | .sensorSample n x => Sys2Proof.Machine.execSensorSample n x s
  | .layerBoundary em ack => Sys2Proof.Machine.execLayerBoundary em ack s
  | .stepRaiseSwitch => Sys2Proof.Machine.execStepRaiseSwitch s
  | .enterIce r wait => Sys2Proof.Machine.execEnterIce r wait s
  | .thermIceEnter => Sys2Proof.Machine.execThermIceEnter s
  | .iceAutoIdle => Sys2Proof.Machine.execIceAutoIdle s
  | .iceQuiesced => Sys2Proof.Machine.execIceQuiesced s
  | .iceUnitsInIce => Sys2Proof.Machine.execIceUnitsInIce s
  | .icePllBypass => Sys2Proof.Machine.execIcePllBypass s
  | .iceWaitExpiry => Sys2Proof.Machine.execIceWaitExpiry s
  | .leaveIce r wait => Sys2Proof.Machine.execLeaveIce r wait s
  | .thermIceLeave => Sys2Proof.Machine.execThermIceLeave s
  | .iceWakeTimer => Sys2Proof.Machine.execIceWakeTimer s
  | .iceExit => Sys2Proof.Machine.execIceExit s
  | .iceExitClockSwitch => Sys2Proof.Machine.execIceExitClockSwitch s
  | .showThermo r => Sys2Proof.Machine.execShowThermo r s
  | .setThermo r plimit rungmax deferprio eweight urgent efirst ecost iceauto iceidle icewait icewake => Sys2Proof.Machine.execSetThermo r plimit rungmax deferprio eweight urgent efirst ecost iceauto iceidle icewait icewake s
  | .showIce r => Sys2Proof.Machine.execShowIce r s
  | .replayDispatch l ix payload => Sys2Proof.Machine.execReplayDispatch l ix payload s
  | .orphanExpiry l => Sys2Proof.Machine.execOrphanExpiry l s
  | .mirrorPacketReceive => Sys2Proof.Machine.execMirrorPacketReceive s
  | .mirrorAck => Sys2Proof.Machine.execMirrorAck s
  | .mirrorTimeout q => Sys2Proof.Machine.execMirrorTimeout q s
  | .mirrorFetchRequest => Sys2Proof.Machine.execMirrorFetchRequest s
  | .mirrorFetchData => Sys2Proof.Machine.execMirrorFetchData s
  | .mirrorFetchTimeout => Sys2Proof.Machine.execMirrorFetchTimeout s
  | .ledgerCfgWrite v => Sys2Proof.Machine.execLedgerCfgWrite v s
  | .ledgerPeerWrite v => Sys2Proof.Machine.execLedgerPeerWrite v s
  | .showLedger r => Sys2Proof.Machine.execShowLedger r s
  | .showLedgerLidx r l => Sys2Proof.Machine.execShowLedgerLidx r l s
  | .setLedger r maxreplay mirror peer serve ttl mirto => Sys2Proof.Machine.execSetLedger r maxreplay mirror peer serve ttl mirto s
  | .fetchLedgerMirror r wait => Sys2Proof.Machine.execFetchLedgerMirror r wait s
  | .nvRecordWrite kind => Sys2Proof.Machine.execNvRecordWrite kind s
  | .nvPageComplete good => Sys2Proof.Machine.execNvPageComplete good s
  | .eventRecordFlush => Sys2Proof.Machine.execEventRecordFlush s
  | .recoveryGo hbmBad => Sys2Proof.Machine.execRecoveryGo hbmBad s
  | .showNv r => Sys2Proof.Machine.execShowNv r s
  | .readNv r a len => Sys2Proof.Machine.execReadNv r a len s
  | .showFirmware r => Sys2Proof.Machine.execShowFirmware r s
  | .showFirmwareImages r => Sys2Proof.Machine.execShowFirmwareImages r s
  | .loadFirmwareSlot r kernel a wait => Sys2Proof.Machine.execLoadFirmwareSlot r kernel a wait s
  | .loadFirmwareImage r n hbm a wait => Sys2Proof.Machine.execLoadFirmwareImage r n hbm a wait s
  | .loadFirmwareConfig r a len wait => Sys2Proof.Machine.execLoadFirmwareConfig r a len wait s
  | .selectFirmwareSlot r kernel toB => Sys2Proof.Machine.execSelectFirmwareSlot r kernel toB s
  | .selectFirmwareImage r n toB => Sys2Proof.Machine.execSelectFirmwareImage r n toB s
  | .acceptFirmware r => Sys2Proof.Machine.execAcceptFirmware r s
  | .showSeal r => Sys2Proof.Machine.execShowSeal r s
  | .extest levels cells => Sys2Proof.Machine.execExtest levels cells s
  | .samplePreload levels cells => Sys2Proof.Machine.execSamplePreload levels cells s
  | .idcode => Sys2Proof.Machine.execIdcode s
  | .bypass code n bits => Sys2Proof.Machine.execBypass code n bits s
  | .trstReset => Sys2Proof.Machine.execTrstReset s
  | .powerRemoval => Sys2Proof.Machine.execPowerRemoval s
  | .functionResetComplete rate width => Sys2Proof.Machine.execFunctionResetComplete rate width s
  | .iceAbandonVoltageSettled => Sys2Proof.Machine.execIceAbandonVoltageSettled s
  | .functionMaskWrite off be v => Sys2Proof.Machine.execFunctionMaskWrite off be v s
  | .slotLoadComplete u k => Sys2Proof.Machine.execSlotLoadComplete u k s

end Sys2Proof.Machine
end

