-- ==== Sys2Proof/Machine/LongEnc.lean ====
section
/-!
DEFINITION. Machine/LongEnc.lean: the 64 bits of a slot of a Longavel word (13 R276 to R289): the instruction they encode, and the encoding of
an instruction. The commands name instructions by their fields, so no step reads a word.
-/
namespace Sys2Proof.Machine

/-! ### Opcodes -/

def ctlCode : CtlOp → Nat | .br => 0x01 | .jr => 0x02 | .call => 0x03 | .ret => 0x04 | .eret => 0x3F

def ctlOf : Nat → Option CtlOp
  | 0x01 => some .br | 0x02 => some .jr | 0x03 => some .call | 0x04 => some .ret | 0x3F => some .eret | _ => none

def srCode : SROp → Nat
  | .add => 0x01 | .sub => 0x02 | .and => 0x03 | .or => 0x04 | .xor => 0x05 | .shl => 0x06 | .shr => 0x07 | .sar => 0x08 | .min => 0x09
  | .max => 0x0A | .minu => 0x0B | .maxu => 0x0C | .sel => 0x0D | .popc => 0x0E | .clz => 0x0F | .mul => 0x10 | .mulh => 0x11 | .mulhu => 0x12
  | .div => 0x14 | .divu => 0x15 | .rem => 0x16 | .remu => 0x17 | .cmpeq => 0x30 | .cmpne => 0x31 | .cmplt => 0x32 | .cmpltu => 0x33
  | .cmple => 0x34 | .cmpleu => 0x35 | .pand => 0x40 | .por => 0x41 | .pxor => 0x42 | .pandn => 0x43

def srOf : Nat → Option SROp
  | 0x01 => some .add | 0x02 => some .sub | 0x03 => some .and | 0x04 => some .or | 0x05 => some .xor | 0x06 => some .shl | 0x07 => some .shr
  | 0x08 => some .sar | 0x09 => some .min | 0x0A => some .max | 0x0B => some .minu | 0x0C => some .maxu | 0x0D => some .sel | 0x0E => some .popc
  | 0x0F => some .clz | 0x10 => some .mul | 0x11 => some .mulh | 0x12 => some .mulhu | 0x14 => some .div | 0x15 => some .divu | 0x16 => some .rem
  | 0x17 => some .remu | 0x30 => some .cmpeq | 0x31 => some .cmpne | 0x32 => some .cmplt | 0x33 => some .cmpltu | 0x34 => some .cmple
  | 0x35 => some .cmpleu | 0x40 => some .pand | 0x41 => some .por | 0x42 => some .pxor | 0x43 => some .pandn | _ => none

def siCode : SIOp → Nat
  | .addi => 0x20 | .andi => 0x21 | .ori => 0x22 | .xori => 0x23 | .shli => 0x24 | .shri => 0x25 | .sari => 0x26 | .cmpeqi => 0x38
  | .cmplti => 0x39 | .cmpltui => 0x3A

def siOf : Nat → Option SIOp
  | 0x20 => some .addi | 0x21 => some .andi | 0x22 => some .ori | 0x23 => some .xori | 0x24 => some .shli | 0x25 => some .shri
  | 0x26 => some .sari | 0x38 => some .cmpeqi | 0x39 => some .cmplti | 0x3A => some .cmpltui | _ => none

def memCode : MOp → Nat
  | .ldb => 0x01 | .ldbu => 0x02 | .ldh => 0x03 | .ldhu => 0x04 | .ldw => 0x05 | .ldwu => 0x06 | .ldd => 0x07 | .stb => 0x08 | .sth => 0x09
  | .stw => 0x0A | .std => 0x0B | .vld64 => 0x10 | .vld => 0x11 | .vst64 => 0x12 | .vst => 0x13 | .tld => 0x18 | .tst => 0x19

def memOf : Nat → Option MOp
  | 0x01 => some .ldb | 0x02 => some .ldbu | 0x03 => some .ldh | 0x04 => some .ldhu | 0x05 => some .ldw | 0x06 => some .ldwu | 0x07 => some .ldd
  | 0x08 => some .stb | 0x09 => some .sth | 0x0A => some .stw | 0x0B => some .std | 0x10 => some .vld64 | 0x11 => some .vld | 0x12 => some .vst64
  | 0x13 => some .vst | 0x18 => some .tld | 0x19 => some .tst | _ => none

def vecCode : VOp → Nat
  | .vadd => 0x01 | .vsub => 0x02 | .vadds => 0x03 | .vsubs => 0x04 | .vmin => 0x05 | .vmax => 0x06 | .vand => 0x07 | .vor => 0x08 | .vxor => 0x09
  | .vshl => 0x0A | .vshr => 0x0B | .vsar => 0x0C | .vcmpeq => 0x0D | .vcmplt => 0x0E | .vcmpltu => 0x0F | .vsel => 0x10 | .vbcast => 0x11
  | .vget => 0x12 | .vput => 0x13 | .vmul => 0x20 | .vaddf => 0x22 | .vsubf => 0x23 | .vmulf => 0x24 | .vminf => 0x25 | .vmaxf => 0x26
  | .vcmpltf => 0x27 | .vcmpeqf => 0x28 | .vcvtif => 0x29 | .vcvtfi => 0x2A | .vpacks => 0x2B | .vpackf => 0x2C | .vpackb => 0x2D
  | .vunpk => 0x2E | .vunpkf => 0x2F | .vunpkb => 0x30 | .vrcp => 0x31 | .vsqrt => 0x32 | .vexp => 0x33 | .vrsum => 0x34 | .vrmax => 0x35
  | .vrsumf => 0x36 | .vrmaxf => 0x37

def vecOf : Nat → Option VOp
  | 0x01 => some .vadd | 0x02 => some .vsub | 0x03 => some .vadds | 0x04 => some .vsubs | 0x05 => some .vmin | 0x06 => some .vmax
  | 0x07 => some .vand | 0x08 => some .vor | 0x09 => some .vxor | 0x0A => some .vshl | 0x0B => some .vshr | 0x0C => some .vsar
  | 0x0D => some .vcmpeq | 0x0E => some .vcmplt | 0x0F => some .vcmpltu | 0x10 => some .vsel | 0x11 => some .vbcast | 0x12 => some .vget
  | 0x13 => some .vput | 0x20 => some .vmul | 0x22 => some .vaddf | 0x23 => some .vsubf | 0x24 => some .vmulf | 0x25 => some .vminf
  | 0x26 => some .vmaxf | 0x27 => some .vcmpltf | 0x28 => some .vcmpeqf | 0x29 => some .vcvtif | 0x2A => some .vcvtfi | 0x2B => some .vpacks
  | 0x2C => some .vpackf | 0x2D => some .vpackb | 0x2E => some .vunpk | 0x2F => some .vunpkf | 0x30 => some .vunpkb | 0x31 => some .vrcp
  | 0x32 => some .vsqrt | 0x33 => some .vexp | 0x34 => some .vrsum | 0x35 => some .vrmax | 0x36 => some .vrsumf | 0x37 => some .vrmaxf | _ => none

def lopCode : LOp → Nat
  | .ctl o _ _ => ctlCode o
  | .sr o .. => srCode o
  | .si o .. => siCode o
  | .movi .. => 0x48 | .movh .. => 0x49 | .mfk .. => 0x50 | .mtk .. => 0x51
  | .mem o .. => memCode o
  | .vec o .. => vecCode o
  | .tacc .. => 0x01 | .tmac .. => 0x02 | .tdrn .. => 0x03 | .twait => 0x04 | .tset .. => 0x05
  | .sopen .. => 0x01 | .sclose .. => 0x02 | .slrd .. => 0x08 | .slwr .. => 0x09 | .slwait .. => 0x0A | .sldrop .. => 0x0B
  | .sinit .. => 0x10 | .sapp .. => 0x11 | .sfree .. => 0x12

/-! ### Fields: bits [51:0] -/

/-- A field of `n` bits placed at bit `lo`. -/
def fld (v n lo : Nat) : Nat := v % 2 ^ n * 2 ^ lo

def lopBits : LOp → Nat
  | .ctl _ a off => fld a 5 47 + low 32 off
  | .sr _ d a b c => fld d 5 47 + fld a 5 42 + fld b 5 37 + fld c 3 34
  | .si _ d a imm => fld d 5 47 + fld a 5 42 + low 32 imm
  | .movi d imm => fld d 5 47 + low 47 imm
  | .movh d imm => fld d 5 47 + fld imm 17 0
  | .mfk g k => fld g 5 47 + fld k 6 41
  | .mtk g k => fld g 5 47 + fld k 6 41
  | .mem _ t a seg off => fld t 5 47 + fld a 5 42 + fld seg 3 39 + low 32 off
  | .vec _ d a b c w g imm => fld d 4 48 + fld a 4 44 + fld b 4 40 + fld c 4 36 + fld w 2 34 + fld g 5 29 + fld imm 16 0
  | .tacc bank t s init type ncol =>
    fld bank 1 51 + fld t 3 48 + fld s 3 45 + fld (b2n init) 1 44 + fld (b2n type) 1 43 + fld (ncol - 1) 9 33
  | .tmac bank a h => fld bank 1 51 + fld a 3 48 + fld h 2 46
  | .tdrn bank d dfmt gm gf => fld bank 1 51 + fld d 3 48 + fld dfmt 4 44 + fld gm 5 39 + fld gf 5 34
  | .twait => 0
  | .tset t field g => fld t 3 48 + fld field 3 45 + fld g 5 40
  | .sopen h src grp a b lay ncol =>
    fld h 2 50 + fld src 2 48 + fld (b2n grp) 1 47 + fld a 5 42 + fld b 5 37 + fld lay 1 36 + fld (ncol - 1) 9 27
  | .sclose h => fld h 2 50
  | .slrd v seg g idx => fld v 4 48 + fld seg 3 45 + fld g 5 40 + fld idx 4 36
  | .slwr v seg idx first last valid =>
    fld v 4 48 + fld seg 3 45 + fld idx 4 36 + fld (b2n first) 1 35 + fld (b2n last) 1 34 + fld valid 7 27
  | .slwait g idx => fld g 5 40 + fld idx 4 36
  | .sldrop idx => fld idx 4 36
  | .sinit a b => fld a 5 42 + fld b 5 37
  | .sapp a b n => fld a 5 42 + fld b 5 37 + fld (n - 1) 9 27
  | .sfree a => fld a 5 42

/-- The instruction that slot `n` reads from opcode `o` and fields `w`; none: the slot lists no such opcode. -/
def lopOf (n o w : Nat) : Option LOp :=
  let f := fun (hi lo : Nat) => bitsOf w hi lo
  match n with
  | 0 => (ctlOf o).map fun x => .ctl x (f 51 47) (sgn 32 (f 31 0))
  | 1 | 2 =>
    match srOf o, siOf o with
    | some x, _ => some (.sr x (f 51 47) (f 46 42) (f 41 37) (f 36 34))
    | none, some x => some (.si x (f 51 47) (f 46 42) (sgn 32 (f 31 0)))
    | none, none => match o with
      | 0x48 => some (.movi (f 51 47) (sgn 47 (f 46 0)))
      | 0x49 => some (.movh (f 51 47) (f 16 0))
      | 0x50 => some (.mfk (f 51 47) (f 46 41))
      | 0x51 => some (.mtk (f 51 47) (f 46 41))
      | _ => none
  | 3 => (memOf o).map fun x => .mem x (f 51 47) (f 46 42) (f 41 39) (sgn 32 (f 31 0))
  | 4 | 5 => (vecOf o).map fun x => .vec x (f 51 48) (f 47 44) (f 43 40) (f 39 36) (f 35 34) (f 33 29) (f 15 0)
  | 6 => match o with
    | 0x01 => some (.tacc (f 51 51) (f 50 48) (f 47 45) (f 44 44 == 1) (f 43 43 == 1) (f 41 33 + 1))
    | 0x02 => some (.tmac (f 51 51) (f 50 48) (f 47 46))
    | 0x03 => some (.tdrn (f 51 51) (f 50 48) (f 47 44) (f 43 39) (f 38 34))
    | 0x04 => some .twait
    | 0x05 => some (.tset (f 50 48) (f 47 45) (f 44 40))
    | _ => none
  | 7 => match o with
    | 0x01 => some (.sopen (f 51 50) (f 49 48) (f 47 47 == 1) (f 46 42) (f 41 37) (f 36 36) (f 35 27 + 1))
    | 0x02 => some (.sclose (f 51 50))
    | 0x08 => some (.slrd (f 51 48) (f 47 45) (f 44 40) (f 39 36))
    | 0x09 => some (.slwr (f 51 48) (f 47 45) (f 39 36) (f 35 35 == 1) (f 34 34 == 1) (f 33 27))
    | 0x0A => some (.slwait (f 44 40) (f 39 36))
    | 0x0B => some (.sldrop (f 39 36))
    | 0x10 => some (.sinit (f 46 42) (f 41 37))
    | 0x11 => some (.sapp (f 46 42) (f 41 37) (f 35 27 + 1))
    | 0x12 => some (.sfree (f 46 42))
    | _ => none
  | _ => none

/-! ### A slot's 64 bits -/

/-- What a slot holds: nothing, an instruction, or bits that encode none. -/
inductive SlotWord where
  | nop
  | instr (s : Slot)
  | illegal
  deriving DecidableEq, Repr

/-- Read slot `n` from its bits. A bit that must be zero and is not shows as `res`: the fields do not spell the bits. -/
def slotDecode (n w : Nat) : SlotWord :=
  if w = 0 then .nop
  else match lopOf n (bitsOf w 63 56) w with
    | none => .illegal
    | some op => .instr { slot := n, gp := bitsOf w 55 53, gs := bitOf w 52, res := lopBits op != w % 2 ^ 52, op := op }

/-- The bits of an instruction. -/
def slotEncode (s : Slot) : Nat := lopCode s.op * 2 ^ 56 + fld s.gp 3 53 + fld (b2n s.gs) 1 52 + lopBits s.op

/-- A slot as its bits can carry it: its kind in its slot, every field within its bits, no bit set that must be zero. -/
def slotLegal (s : Slot) : Bool := (lopSlots s.op).contains s.slot && lopFieldsOk s.op && decide (s.gp < 8) && !s.res

/-- The slots of a 512-bit word, lowest first (12 R248). -/
def wordDecode (w : Nat) : List SlotWord := (List.range 8).map fun n => slotDecode n (w / 2 ^ (64 * n) % 2 ^ 64)

end Sys2Proof.Machine
end

