-- ==== Sys2Proof/Machine/LongFetch.lean ====
section
/-!
DEFINITION. Machine/LongFetch.lean: the cores at work on their programs: the word at the pc is read from the program's code and issued, at most one
a tick (12 R248, R249, R254, R258).
-/
namespace Sys2Proof.Machine

/-- The slots of a word that hold an instruction. -/
def wordSlots (ws : List SlotWord) : List Slot := ws.filterMap fun w => match w with | .instr s => some s | _ => none

/-- The lowest slot whose bits encode no instruction that it carries. -/
def wordBadSlot (ws : List SlotWord) : Option Nat := findIdx ws.length fun n => ws[n]? == some .illegal

/-- A word that loads may meet a memory error, which no rule excludes: whether one does is a free value (R243; 14 R298). -/
def wordLoads (ss : List Slot) : Bool := ss.any fun s => match s.op with | .mem o _ _ _ _ => !memIsStore o | _ => false

/-- Issue a word as it stands in memory: bits that encode no instruction are ILLEGAL (R258). [log entry 41 DESIGN CHOICE] -/
def issueBits (c w : Nat) (d : Dev) : Dev :=
  let ws := wordDecode w
  match wordBadSlot ws with
  | none =>
    let ss := wordSlots ws
    if wordLoads ss then (let (v, d) := draw d; issueWord c (v % 3) ss d) else issueWord c 0 ss d
  | some n => longExc c 1 (match wordIllegal (wordSlots ws) with | some m => min m n | none => n) 0 (core c d).pc d

/-- Core c issues a word, at most one a tick (R254): the first that commands have given and that waits, or, in program mode, the word its pc names, if
nothing holds it: no operation waits (R293), and no slot of a word has been given by a command. A pc beyond the code raises ADDR (R260).
 [log entry 41 DESIGN CHOICE] -/
def coreFetch (c : Nat) (d : Dev) : Dev :=
  let k := core c d
  if !k.held.isEmpty then heldIssue c d
  else if !coreServes c d || !k.prog || coreWaits k || k.issued == k.ticks + 1 || k.kfault || !k.asm.isEmpty then d
  else if codeSize k ≤ k.pc then longExc c 4 0 k.pc k.pc d
  else issueBits c (fieldLe (runSlot k).code k.pc 64) d

end Sys2Proof.Machine
end

