-- ==== Sys2Proof/Machine/Tick.lean ====
section
/-!
DEFINITION. Machine/Tick.lean: one tick of CCLK, which passes while no command waits (DESIGN CHOICE): what falls due within the tick's span
(02 R23), the end of the tick, and the beginning of the next one. What takes a choice of the surroundings or of a pace the spec leaves open stays
a command.
-/
namespace Sys2Proof.Machine

/-- Do `f` for each key of a table as it stands. -/
def eachKey {α : Type} (t : Tab α) (f : Nat → Dev → Dev) (d : Dev) : Dev := foldSt (t.map (·.1)) f d

/-- Do `f` for 0 .. n−1 in order. -/
def eachLt (n : Nat) (f : Nat → Dev → Dev) (d : Dev) : Dev := foldSt (List.range n) f d

/-- Bounds of the Directory (03 R46, R48). -/
def dueUnits (d : Dev) : Dev := eachKey d.udir.ent (fun n d => wakeExpiry n (drainExpiry n true (ackExpiry n d))) d

/-- The stall bound of open packets (06 R119). -/
def dueSluices (d : Dev) : Dev := eachKey d.slu.s sluStall d

/-- Combines, release instants and amendment windows (07). -/
def dueItems (d : Dev) : Dev :=
  let d := eachKey d.weir.items (fun l d => eachLt 8 (combineFinish l) d) d
  let d := eachKey d.weir.items releaseOne d
  eachKey d.weir.items (fun l d => amendClose l (amendPost l d)) d

/-- Ledger and mirror bounds (18 R407, R410, R411). -/
def dueLedger (d : Dev) : Dev :=
  let d := foldSt ((d.ledger.recs.filter fun p => p.2.deliv == 2).map (·.1)) orphanExpiry d
  let d := foldSt (d.ledger.unacked.map (·.mseq)) mirrorTimeout d
  ledgWatch (fetchTimeout d)

/-- The Wellhead (15 R315, R326 to R332). -/
def dueWell (d : Dev) : Dev :=
  let d := frameDue (hopDue (eachLt 8 inputRampEnd d))
  drainEmit (drainEnd (drainStart (openTtlExpiry (wakeDecision (whangExpiry (rippleTimeout (rippleDue (hangZeroise (seepTrigger d)))))))))

/-- Links, fences, memory requests and the messages that wait (16). -/
def dueJetty (d : Dev) : Dev :=
  let d := eachKey d.jetty.link (fun j d => (linkFailure j false (replayTimeout j (ackTimer j (keyResend j (helloSend j d)))))) d
  let d := foldSt (d.jetty.fences.map (·.dest)) fenceTimeout d
  let d := foldSt (d.jetty.memreq.map (·.tag)) memtoExpiry d
  let d := eachKey d.jetty.link (fun j d => jettyTake 64 j d) d
  outboxRun (mgmtSend (mirrorFlush (mgmtRun (mailTake d))))

/-- The cores and the Ferry (12, 13, 16 R365). -/
def dueCores (d : Dev) : Dev :=
  let d := eachLt (nBasin d.fuse.variant) (fun c d => coreFetch c (tilesDone c (replyFlush c (batchTimer c (budgetExpiry c (ferryOpenTimeout c (slwaitTimeout c d))))))) d
  siphonAbortReport (ferryBreak (forN d.ferry.inHand.length (fun _ => ferryForwardDue) d))

/-- The dispatch scheduler and steps (17 R378, R381). -/
def dueTherm (d : Dev) : Dev :=
  let d := stepRaiseSwitch (layerDue d)
  if d.therm.evalNow || due (d.therm.lastEval + 92160) d then dispatchEval d else d

/-- Rings and Bipol sessions (05 R103, R105; 04 R66, R81, R83). -/
def dueHost (d : Dev) : Dev :=
  let d := outRun (eachKey d.host.cpl cplTimer (fnResetBound d))
  let d := foldSt d.bip.remote (fun c d => remoteTimeout { sid := c.sid, tag := c.tag } d) d
  aheadFeed (eachKey d.bip.sess (fun i d => inboundClose i (keepAlive i d)) d)

/-- The ticks of every core since its reset instant (12, k10). -/
def coreTicks (d : Dev) : Dev := eachLt (nBasin d.fuse.variant) (fun c d => coreMod c (fun k => { k with ticks := (k.ticks + 1) % 2 ^ 64 }) d) d

/-- The Basins of a tick: words reach their weight buffers, their arrays run, their patrols read, and group streams deliver and end (11);
the patrol of Mere reads (14 R298). -/
def basinsTick (d : Dev) : Dev :=
  let d := eachLt (nBasin d.fuse.variant) (fun b d => patrolTick b (basinTick b d)) d
  eachLt 16 merePatTick (eachKey d.gstr groupRun d)

/-- The end of a tick: the pool grants a frame, Sluice words are written and commit, epochs retire, and the clock changes where it may (06 R115, 07 R147, 02 R21); the Gauge advances by
the tick's own length (02 R22). [log entry 2 DESIGN CHOICE] -/
def tickEnd (d : Dev) : Dev :=
  let g := d.gauge + BitVec.ofNat 64 d.clk.gu
  let d := eachKey d.slu.s (fun n d => sluPump n (sluPull n d)) (poolGrant (holdSweep d))
  let d := eachKey d.slu.s (fun n d => sluEnd n (sluResetTick n d)) d
  let d := eachKey d.host.sub headPass (holdMark (intakeMark d))
  let d := weirRetire { d with slu := { d.slu with granted := false } }
  let d := clockTick (coreTicks (basinsTick (tarnTick d)))
  { d with gauge := g, tickN := d.tickN + 1 }

/-- An event counter's events of a tick join its count (02 R32). -/
def ctrFold (c : Ctr) : Ctr := { old := min 0xFFFFFFFF (c.old + c.fresh), fresh := 0 }

/-- What held for the tick that has ended holds no more. -/
def tickClear (d : Dev) : Dev :=
  { d with
    note := (d.note.map fun p => (p.1, { p.2 with sets := 0, msgd := 0 })).filter fun p => p.2 != {}
    ctr := (d.ctr.map fun p => (p.1, ctrFold p.2)).filter fun p => p.2 != {}
    udir := { d.udir with chgset := [], taken := false }
    host := { d.host with admitted := false }
    boot := { d.boot with unsealTick := false } }

/-- The next tick begins: what has waited for it is tried, and the Thermocline's requests come before the Shore agent's (03 R44; 17 R389 to
R393; 16 R345; 07 R147: the Shore agent's commits first; host accesses that
wait, 02 R30). [log entry 2 DESIGN CHOICE] -/
def tickStart (d : Dev) : Dev :=
  let d := iceTick (dirRetry (tickClear d))
  let d := eachKey d.jetty.link linkAutoReset d
  settle (accRun (commitsRun d))

/-- Payloads that have crossed the intake Sluice (05 R95). -/
def dueIntake (d : Dev) : Dev := forN (slu 140 d).words.length (fun _ => intakeTake) d

/-- What falls due within the span of the present tick. [log entry 2 DESIGN CHOICE] -/
def tickDue (d : Dev) : Dev :=
  let d := dueIntake d
  let d := dueLedger (dueItems (dueSluices (dueUnits (eachLt 16 mereRefresh d))))
  settle (dueHost (dueTherm (dueCores (dueJetty (dueWell d)))))

/-- One tick. None passes while CCLK is gated (19 R421, 20 R458), and where two samples of a sensor call for the firmware trip (17 R386), CCLK is
gated in place of it. [log entry 2 DESIGN CHOICE] -/
def tick (d : Dev) : Dev := whenRunning (fun d => let d := firmwareTrip d; if running d then tickStart (tickEnd (tickDue d)) else d) d

end Sys2Proof.Machine
end

