-- ==== Sys2Proof/Machine/Step.lean ====
section
/-!
DEFINITION. Machine/Step.lean: one step: the command at the front of the queue, or a tick of CCLK where none waits.
-/
namespace Sys2Proof.Machine

/-- The command at the front acts with the rest of the queue; on an empty queue one tick passes. [log entries 1 DESIGN CHOICE, 2 DESIGN CHOICE, 7 DESIGN CHOICE] -/
def step (s : State) : Host.Outcome State Fault Refusal :=
  match s.pending with
  | [] => .next { s with dev := tick s.dev }
  | i :: rest => exec i { s with pending := rest }

/-- The command a word spells is put at the front of the queue. [log entries 1 DESIGN CHOICE, 10 DESIGN CHOICE] -/
def State.withFetchWord (s : State) (nbits w : Nat) : State :=
  match Sys2Proof.decodeTableWord nbits w with
  | none => s
  | some i => { s with pending := i :: s.pending }

end Sys2Proof.Machine
end

