-- ==== Sys2Proof/WellFormed.lean ====
section
/-!
DEFINITION. WellFormed.lean: operands within the ranges their fields have in the spec. A command outside them cannot be written on the
hardware; the machine does not depend on it.
-/
namespace Sys2Proof

/-- Every operand fits the field the spec gives it. -/
def wellFormed (i : Instr) : Bool :=
  match i with
  | .powerOn _ hbmBad sfdp _ => decide (hbmBad < 16) && decide (sfdp ≤ 200)
  | .warmReset _ _ hbmBad sfdp _ => decide (hbmBad < 16) && decide (sfdp ≤ 200)
  | .powerDown => true
  | .perstAssert _ => true
  | .perstDeassert => true
  | .ref24Loss => true
  | .firmwareTrip => true
  | .hardwareTrip sensors => decide (0 < sensors) && decide (sensors < 256)
  | .vrAlert w => decide (w < 65536)
  | .functionLevelReset _ => true
  | .hotReset _ => true
  | .d3hotEntry => true
  | .d3hotToD0 => true
  | .masteringPause => true
  | .masteringResume => true
  | .gaugeLoRead _ _ _ => true
  | .rcFieldRead a n => decide (a < 67108864) && decide (0 < n)
  | .unassignedRead a n => decide (a < 67108864) && decide (0 < n)
  | .registerWrite a n _ _ => decide (a < 67108864) && decide (0 < n)
  | .imaskWrite k v => decide (k < 4) && decide (v < 4294967296)
  | .hostMemoryAccess bar _ _ _ _ _ => (bar == 2 || bar == 4)
  | .bar4Resize k => decide (30 ≤ k) && decide (k ≤ 38)
  | .udirOn unit gen tag => decide (unit < 128) && decide (gen < 65536) && decide (tag < 16)
  | .udirOff unit gen tag => decide (unit < 128) && decide (gen < 65536) && decide (tag < 16)
  | .udirReset unit gen tag => decide (unit < 128) && decide (gen < 65536) && decide (tag < 16)
  | .udirUpdate unit gen tag => decide (unit < 128) && decide (gen < 65536) && decide (tag < 16)
  | .udirRequestRetry => true
  | .unitAck n => decide (n < 100)
  | .ackBoundExpiry n => decide (n < 100)
  | .drainComplete n _ => decide (n < 100)
  | .drainBoundExpiry n _ => decide (n < 100)
  | .wakeComplete n => decide (n < 100)
  | .wakeBoundExpiry n => decide (n < 100)
  | .unitFault n => decide (n < 100)
  | .loadComplete n _ => decide (n < 100)
  | .loadFail n => decide (n < 100)
  | .listUnit _ _ => true
  | .showUnit _ _ => true
  | .onUnit _ _ _ _ => true
  | .offUnit _ _ _ _ => true
  | .resetUnit _ _ _ _ => true
  | .uartByte b _ => decide (b < 256)
  | .lineTerminator sid line => decide (sid < 18) && decide (line.length < 4096)
  | .ctrlC => true
  | .uartBreak => true
  | .breakEndPrompt => true
  | .outputRoomResume sid _ => decide (sid < 18)
  | .modeTyped _ => true
  | .modeMachine _ _ => true
  | .modeBaud _ _ => true
  | .showGauge _ => true
  | .showLog _ _ => true
  | .followLog _ _ => true
  | .quietLog _ => true
  | .clearLog _ => true
  | .showHelp _ _ => true
  | .mailboxCheadWrite v => decide (v < 8192)
  | .mailboxRtailWrite v => decide (v < 131072)
  | .mailboxSessionEnd => true
  | .bipolMessageReceive m => decide (m.length ≤ 1040)
  | .keepaliveSend i => decide (2 ≤ i) && decide (i < 18)
  | .remoteTimeout _ => true
  | .inboundSessionClose i => decide (2 ≤ i) && decide (i < 18)
  | .ringEnable _ n v => decide (n < 256) && decide (v < 4294967296)
  | .doorbell n v => decide (n < 256) && decide (v < 4294967296)
  | .descriptorAdmit b _ => decide (b.length = 64)
  | .hostReadFail n _ kind => decide (n < 256) && decide (kind < 4)
  | .hostReadRetry n _ kind _ _ _ => decide (n < 256) && decide (kind < 4)
  | .completionHeadWrite c v => decide (c < 256) && decide (v < 4294967296)
  | .backlogFetch v => decide (v < 4294967296)
  | .completionTimerMessage c => decide (c < 256)
  | .spdmRequest _ q => decide (4 ≤ q.length)
  | .doeAbort => true
  | .showInlet _ _ => true
  | .setInlet _ _ _ => true
  | .showOutlet _ _ => true
  | .showOutletBacklog _ => true
  | .setOutlet _ _ _ _ => true
  | .fetchOutlet _ _ _ => true
  | .sluiceWordWrite n data _ _ valid _ => decide (n < 256) && decide (data.length = 64) && decide (1 ≤ valid) && decide (valid ≤ 64)
  | .sluiceRead n => decide (n < 256)
  | .sluiceDrop n => decide (n < 256)
  | .sluiceStallExpiry n => decide (n < 256)
  | .pointerMismatch n => decide (n < 256)
  | .sluiceResetEnd n => decide (n < 256)
  | .poolGrant => true
  | .sluiceConfigWrite n _ _ => decide (n < 256)
  | .listSluice _ => true
  | .showSluice _ _ => true
  | .setSluice _ _ _ _ _ _ _ _ _ => true
  | .clearSluice _ _ => true
  | .routeCommit _ => true
  | .commitWaitRetire route => decide (route < 256)
  | .bindWrite stream _ => decide (stream < 4096)
  | .stageDispatch _ i => decide (i < 8)
  | .heldStageResume _ i => decide (i < 8)
  | .stageReply n => decide (n < 256)
  | .combineFinish _ i => decide (i < 8)
  | .deadlineRelease _ => true
  | .earlyRelease _ => true
  | .amendmentPost _ => true
  | .amendWindowClose _ => true
  | .listRoute _ => true
  | .showRoute _ _ _ => true
  | .setRoute _ _ _ _ _ _ _ _ _ _ _ _ _ _ => true
  | .setRouteStage _ _ _ _ _ _ _ _ _ _ _ => true
  | .commitRoute _ _ _ _ => true
  | .bindRoute _ _ _ _ => true
  | .showWeir _ => true
  | .setWeir _ _ => true
  | .reedRequestItem => true
  | .reedAnswerChunk => true
  | .reedMarker => true
  | .reedReplyOpen => true
  | .showReed _ _ => true
  | .loadReed _ _ _ _ _ => true
  | .setReedSlotEmpty _ _ => true
  | .setReedStreamFlush _ _ => true
  | .engineReloadAfterOn u => decide (u < 100)
  | .shoalTakeItem => true
  | .shoalScanComplete i => decide (i < 16)
  | .showShoal _ _ => true
  | .loadShoal _ _ _ _ _ => true
  | .tarnRowSieve => true
  | .tarnRowEnterWalk => true
  | .tarnLaneTakeTree => true
  | .tarnReply => true
  | .showTarn _ _ => true
  | .loadTarn _ _ _ _ _ => true
  | .setTarnSlotEmpty _ _ => true
  | .basinMacStart b _ => decide (b < 8)
  | .basinOpComplete b _ _ _ _ _ => decide (b < 8)
  | .groupBlockFetch g _ => decide (g < 16)
  | .basinPatrol b w kind => decide (b < 8) && decide (w < 131072) && decide (kind < 3)
  | .showBasin _ _ => true
  | .setBasinGroup _ _ _ => true
  | .setBasinGroupNone _ _ => true
  | .kernelRequestRead c => decide (c < 8)
  | .batchCloseTimer c => decide (c < 8)
  | .dispatchEvaluate _ => true
  | .dispatchGrant c => decide (c < 8)
  | .budgetExpiry c => decide (c < 8)
  | .slwaitTimeout c => decide (c < 8)
  | .queueOpComplete c _ _ => decide (c < 8)
  | .showLong _ _ => true
  | .showLongProg _ _ _ => true
  | .loadLong _ _ _ _ _ _ => true
  | .stopLong _ _ => true
  | .startLong _ _ => true
  | .br c sl gp _ _ _ _ err => decide (c < 8) && decide (sl < 8) && decide (gp < 8) && decide (err < 3)
  | .jr c sl gp _ _ a _ err => decide (c < 8) && decide (sl < 8) && decide (gp < 8) && decide (err < 3) && decide (a < 32)
  | .call c sl gp _ _ _ _ err => decide (c < 8) && decide (sl < 8) && decide (gp < 8) && decide (err < 3)
  | .ret c sl gp _ _ _ err => decide (c < 8) && decide (sl < 8) && decide (gp < 8) && decide (err < 3)
  | .eret c sl gp _ _ _ err => decide (c < 8) && decide (sl < 8) && decide (gp < 8) && decide (err < 3)
  | .add c sl gp _ _ d a b _ err => decide (c < 8) && decide (sl < 8) && decide (gp < 8) && decide (err < 3) && decide (d < 32) && decide (a < 32) && decide (b < 32)
  | .sub c sl gp _ _ d a b _ err => decide (c < 8) && decide (sl < 8) && decide (gp < 8) && decide (err < 3) && decide (d < 32) && decide (a < 32) && decide (b < 32)
  | .andG c sl gp _ _ d a b _ err => decide (c < 8) && decide (sl < 8) && decide (gp < 8) && decide (err < 3) && decide (d < 32) && decide (a < 32) && decide (b < 32)
  | .orG c sl gp _ _ d a b _ err => decide (c < 8) && decide (sl < 8) && decide (gp < 8) && decide (err < 3) && decide (d < 32) && decide (a < 32) && decide (b < 32)
  | .xor c sl gp _ _ d a b _ err => decide (c < 8) && decide (sl < 8) && decide (gp < 8) && decide (err < 3) && decide (d < 32) && decide (a < 32) && decide (b < 32)
  | .shl c sl gp _ _ d a b _ err => decide (c < 8) && decide (sl < 8) && decide (gp < 8) && decide (err < 3) && decide (d < 32) && decide (a < 32) && decide (b < 32)
  | .shr c sl gp _ _ d a b _ err => decide (c < 8) && decide (sl < 8) && decide (gp < 8) && decide (err < 3) && decide (d < 32) && decide (a < 32) && decide (b < 32)
  | .sar c sl gp _ _ d a b _ err => decide (c < 8) && decide (sl < 8) && decide (gp < 8) && decide (err < 3) && decide (d < 32) && decide (a < 32) && decide (b < 32)
  | .minG c sl gp _ _ d a b _ err => decide (c < 8) && decide (sl < 8) && decide (gp < 8) && decide (err < 3) && decide (d < 32) && decide (a < 32) && decide (b < 32)
  | .maxG c sl gp _ _ d a b _ err => decide (c < 8) && decide (sl < 8) && decide (gp < 8) && decide (err < 3) && decide (d < 32) && decide (a < 32) && decide (b < 32)
  | .minu c sl gp _ _ d a b _ err => decide (c < 8) && decide (sl < 8) && decide (gp < 8) && decide (err < 3) && decide (d < 32) && decide (a < 32) && decide (b < 32)
  | .maxu c sl gp _ _ d a b _ err => decide (c < 8) && decide (sl < 8) && decide (gp < 8) && decide (err < 3) && decide (d < 32) && decide (a < 32) && decide (b < 32)
  | .sel c sl gp _ _ d a b x _ err => decide (c < 8) && decide (sl < 8) && decide (gp < 8) && decide (err < 3) && decide (d < 32) && decide (a < 32) && decide (b < 32) && decide (x < 8)
  | .popc c sl gp _ _ d a _ err => decide (c < 8) && decide (sl < 8) && decide (gp < 8) && decide (err < 3) && decide (d < 32) && decide (a < 32)
  | .clz c sl gp _ _ d a _ err => decide (c < 8) && decide (sl < 8) && decide (gp < 8) && decide (err < 3) && decide (d < 32) && decide (a < 32)
  | .mul c sl gp _ _ d a b _ err => decide (c < 8) && decide (sl < 8) && decide (gp < 8) && decide (err < 3) && decide (d < 32) && decide (a < 32) && decide (b < 32)
  | .mulh c sl gp _ _ d a b _ err => decide (c < 8) && decide (sl < 8) && decide (gp < 8) && decide (err < 3) && decide (d < 32) && decide (a < 32) && decide (b < 32)
  | .mulhu c sl gp _ _ d a b _ err => decide (c < 8) && decide (sl < 8) && decide (gp < 8) && decide (err < 3) && decide (d < 32) && decide (a < 32) && decide (b < 32)
  | .div c sl gp _ _ d a b _ err => decide (c < 8) && decide (sl < 8) && decide (gp < 8) && decide (err < 3) && decide (d < 32) && decide (a < 32) && decide (b < 32)
  | .divu c sl gp _ _ d a b _ err => decide (c < 8) && decide (sl < 8) && decide (gp < 8) && decide (err < 3) && decide (d < 32) && decide (a < 32) && decide (b < 32)
  | .rem c sl gp _ _ d a b _ err => decide (c < 8) && decide (sl < 8) && decide (gp < 8) && decide (err < 3) && decide (d < 32) && decide (a < 32) && decide (b < 32)
  | .remu c sl gp _ _ d a b _ err => decide (c < 8) && decide (sl < 8) && decide (gp < 8) && decide (err < 3) && decide (d < 32) && decide (a < 32) && decide (b < 32)
  | .addi c sl gp _ _ d a _ _ err => decide (c < 8) && decide (sl < 8) && decide (gp < 8) && decide (err < 3) && decide (d < 32) && decide (a < 32)
  | .andi c sl gp _ _ d a _ _ err => decide (c < 8) && decide (sl < 8) && decide (gp < 8) && decide (err < 3) && decide (d < 32) && decide (a < 32)
  | .ori c sl gp _ _ d a _ _ err => decide (c < 8) && decide (sl < 8) && decide (gp < 8) && decide (err < 3) && decide (d < 32) && decide (a < 32)
  | .xori c sl gp _ _ d a _ _ err => decide (c < 8) && decide (sl < 8) && decide (gp < 8) && decide (err < 3) && decide (d < 32) && decide (a < 32)
  | .shli c sl gp _ _ d a _ _ err => decide (c < 8) && decide (sl < 8) && decide (gp < 8) && decide (err < 3) && decide (d < 32) && decide (a < 32)
  | .shri c sl gp _ _ d a _ _ err => decide (c < 8) && decide (sl < 8) && decide (gp < 8) && decide (err < 3) && decide (d < 32) && decide (a < 32)
  | .sari c sl gp _ _ d a _ _ err => decide (c < 8) && decide (sl < 8) && decide (gp < 8) && decide (err < 3) && decide (d < 32) && decide (a < 32)
  | .cmpeq c sl gp _ _ d a b _ err => decide (c < 8) && decide (sl < 8) && decide (gp < 8) && decide (err < 3) && decide (d < 32) && decide (a < 32) && decide (b < 32)
  | .cmpne c sl gp _ _ d a b _ err => decide (c < 8) && decide (sl < 8) && decide (gp < 8) && decide (err < 3) && decide (d < 32) && decide (a < 32) && decide (b < 32)
  | .cmplt c sl gp _ _ d a b _ err => decide (c < 8) && decide (sl < 8) && decide (gp < 8) && decide (err < 3) && decide (d < 32) && decide (a < 32) && decide (b < 32)
  | .cmpltu c sl gp _ _ d a b _ err => decide (c < 8) && decide (sl < 8) && decide (gp < 8) && decide (err < 3) && decide (d < 32) && decide (a < 32) && decide (b < 32)
  | .cmple c sl gp _ _ d a b _ err => decide (c < 8) && decide (sl < 8) && decide (gp < 8) && decide (err < 3) && decide (d < 32) && decide (a < 32) && decide (b < 32)
  | .cmpleu c sl gp _ _ d a b _ err => decide (c < 8) && decide (sl < 8) && decide (gp < 8) && decide (err < 3) && decide (d < 32) && decide (a < 32) && decide (b < 32)
  | .cmpeqi c sl gp _ _ d a _ _ err => decide (c < 8) && decide (sl < 8) && decide (gp < 8) && decide (err < 3) && decide (d < 32) && decide (a < 32)
  | .cmplti c sl gp _ _ d a _ _ err => decide (c < 8) && decide (sl < 8) && decide (gp < 8) && decide (err < 3) && decide (d < 32) && decide (a < 32)
  | .cmpltui c sl gp _ _ d a _ _ err => decide (c < 8) && decide (sl < 8) && decide (gp < 8) && decide (err < 3) && decide (d < 32) && decide (a < 32)
  | .pand c sl gp _ _ d a b _ err => decide (c < 8) && decide (sl < 8) && decide (gp < 8) && decide (err < 3) && decide (d < 32) && decide (a < 32) && decide (b < 32)
  | .por c sl gp _ _ d a b _ err => decide (c < 8) && decide (sl < 8) && decide (gp < 8) && decide (err < 3) && decide (d < 32) && decide (a < 32) && decide (b < 32)
  | .pxor c sl gp _ _ d a b _ err => decide (c < 8) && decide (sl < 8) && decide (gp < 8) && decide (err < 3) && decide (d < 32) && decide (a < 32) && decide (b < 32)
  | .pandn c sl gp _ _ d a b _ err => decide (c < 8) && decide (sl < 8) && decide (gp < 8) && decide (err < 3) && decide (d < 32) && decide (a < 32) && decide (b < 32)
  | .movi c sl gp _ _ d _ _ err => decide (c < 8) && decide (sl < 8) && decide (gp < 8) && decide (err < 3) && decide (d < 32)
  | .movh c sl gp _ _ d hi _ err => decide (c < 8) && decide (sl < 8) && decide (gp < 8) && decide (err < 3) && decide (d < 32) && decide (hi < 140737488355328)
  | .mfk c sl gp _ _ g k _ err => decide (c < 8) && decide (sl < 8) && decide (gp < 8) && decide (err < 3) && decide (g < 32) && decide (k < 64)
  | .mtk c sl gp _ _ g k _ err => decide (c < 8) && decide (sl < 8) && decide (gp < 8) && decide (err < 3) && decide (g < 32) && decide (k < 64)
  | .ldb c sl gp _ _ t a _ _ err => decide (c < 8) && decide (sl < 8) && decide (gp < 8) && decide (err < 3) && decide (t < 32) && decide (a < 32)
  | .ldbu c sl gp _ _ t a _ _ err => decide (c < 8) && decide (sl < 8) && decide (gp < 8) && decide (err < 3) && decide (t < 32) && decide (a < 32)
  | .ldh c sl gp _ _ t a _ _ err => decide (c < 8) && decide (sl < 8) && decide (gp < 8) && decide (err < 3) && decide (t < 32) && decide (a < 32)
  | .ldhu c sl gp _ _ t a _ _ err => decide (c < 8) && decide (sl < 8) && decide (gp < 8) && decide (err < 3) && decide (t < 32) && decide (a < 32)
  | .ldw c sl gp _ _ t a _ _ err => decide (c < 8) && decide (sl < 8) && decide (gp < 8) && decide (err < 3) && decide (t < 32) && decide (a < 32)
  | .ldwu c sl gp _ _ t a _ _ err => decide (c < 8) && decide (sl < 8) && decide (gp < 8) && decide (err < 3) && decide (t < 32) && decide (a < 32)
  | .ldd c sl gp _ _ t a _ _ err => decide (c < 8) && decide (sl < 8) && decide (gp < 8) && decide (err < 3) && decide (t < 32) && decide (a < 32)
  | .stb c sl gp _ _ t a _ _ err => decide (c < 8) && decide (sl < 8) && decide (gp < 8) && decide (err < 3) && decide (t < 32) && decide (a < 32)
  | .sth c sl gp _ _ t a _ _ err => decide (c < 8) && decide (sl < 8) && decide (gp < 8) && decide (err < 3) && decide (t < 32) && decide (a < 32)
  | .stw c sl gp _ _ t a _ _ err => decide (c < 8) && decide (sl < 8) && decide (gp < 8) && decide (err < 3) && decide (t < 32) && decide (a < 32)
  | .std c sl gp _ _ t a _ _ err => decide (c < 8) && decide (sl < 8) && decide (gp < 8) && decide (err < 3) && decide (t < 32) && decide (a < 32)
  | .vld64 c sl gp _ _ t a seg _ _ err => decide (c < 8) && decide (sl < 8) && decide (gp < 8) && decide (err < 3) && decide (t < 32) && decide (a < 32) && decide (seg < 8)
  | .vld c sl gp _ _ t a _ _ err => decide (c < 8) && decide (sl < 8) && decide (gp < 8) && decide (err < 3) && decide (t < 32) && decide (a < 32)
  | .vst64 c sl gp _ _ t a seg _ _ err => decide (c < 8) && decide (sl < 8) && decide (gp < 8) && decide (err < 3) && decide (t < 32) && decide (a < 32) && decide (seg < 8)
  | .vst c sl gp _ _ t a _ _ err => decide (c < 8) && decide (sl < 8) && decide (gp < 8) && decide (err < 3) && decide (t < 32) && decide (a < 32)
  | .tld c sl gp _ _ t a _ _ err => decide (c < 8) && decide (sl < 8) && decide (gp < 8) && decide (err < 3) && decide (t < 32) && decide (a < 32)
  | .tst c sl gp _ _ t a _ _ err => decide (c < 8) && decide (sl < 8) && decide (gp < 8) && decide (err < 3) && decide (t < 32) && decide (a < 32)
  | .vadd c sl gp _ _ d a b cc w g imm _ err => decide (c < 8) && decide (sl < 8) && decide (gp < 8) && decide (err < 3) && decide (d < 16) && decide (a < 16) && decide (b < 16) && decide (cc < 16) && decide (w < 4) && decide (g < 32) && decide (imm < 65536)
  | .vsub c sl gp _ _ d a b cc w g imm _ err => decide (c < 8) && decide (sl < 8) && decide (gp < 8) && decide (err < 3) && decide (d < 16) && decide (a < 16) && decide (b < 16) && decide (cc < 16) && decide (w < 4) && decide (g < 32) && decide (imm < 65536)
  | .vadds c sl gp _ _ d a b cc w g imm _ err => decide (c < 8) && decide (sl < 8) && decide (gp < 8) && decide (err < 3) && decide (d < 16) && decide (a < 16) && decide (b < 16) && decide (cc < 16) && decide (w < 4) && decide (g < 32) && decide (imm < 65536)
  | .vsubs c sl gp _ _ d a b cc w g imm _ err => decide (c < 8) && decide (sl < 8) && decide (gp < 8) && decide (err < 3) && decide (d < 16) && decide (a < 16) && decide (b < 16) && decide (cc < 16) && decide (w < 4) && decide (g < 32) && decide (imm < 65536)
  | .vmin c sl gp _ _ d a b cc w g imm _ err => decide (c < 8) && decide (sl < 8) && decide (gp < 8) && decide (err < 3) && decide (d < 16) && decide (a < 16) && decide (b < 16) && decide (cc < 16) && decide (w < 4) && decide (g < 32) && decide (imm < 65536)
  | .vmax c sl gp _ _ d a b cc w g imm _ err => decide (c < 8) && decide (sl < 8) && decide (gp < 8) && decide (err < 3) && decide (d < 16) && decide (a < 16) && decide (b < 16) && decide (cc < 16) && decide (w < 4) && decide (g < 32) && decide (imm < 65536)
  | .vand c sl gp _ _ d a b cc w g imm _ err => decide (c < 8) && decide (sl < 8) && decide (gp < 8) && decide (err < 3) && decide (d < 16) && decide (a < 16) && decide (b < 16) && decide (cc < 16) && decide (w < 4) && decide (g < 32) && decide (imm < 65536)
  | .vor c sl gp _ _ d a b cc w g imm _ err => decide (c < 8) && decide (sl < 8) && decide (gp < 8) && decide (err < 3) && decide (d < 16) && decide (a < 16) && decide (b < 16) && decide (cc < 16) && decide (w < 4) && decide (g < 32) && decide (imm < 65536)
  | .vxor c sl gp _ _ d a b cc w g imm _ err => decide (c < 8) && decide (sl < 8) && decide (gp < 8) && decide (err < 3) && decide (d < 16) && decide (a < 16) && decide (b < 16) && decide (cc < 16) && decide (w < 4) && decide (g < 32) && decide (imm < 65536)
  | .vshl c sl gp _ _ d a b cc w g imm _ err => decide (c < 8) && decide (sl < 8) && decide (gp < 8) && decide (err < 3) && decide (d < 16) && decide (a < 16) && decide (b < 16) && decide (cc < 16) && decide (w < 4) && decide (g < 32) && decide (imm < 65536)
  | .vshr c sl gp _ _ d a b cc w g imm _ err => decide (c < 8) && decide (sl < 8) && decide (gp < 8) && decide (err < 3) && decide (d < 16) && decide (a < 16) && decide (b < 16) && decide (cc < 16) && decide (w < 4) && decide (g < 32) && decide (imm < 65536)
  | .vsar c sl gp _ _ d a b cc w g imm _ err => decide (c < 8) && decide (sl < 8) && decide (gp < 8) && decide (err < 3) && decide (d < 16) && decide (a < 16) && decide (b < 16) && decide (cc < 16) && decide (w < 4) && decide (g < 32) && decide (imm < 65536)
  | .vcmpeq c sl gp _ _ d a b cc w g imm _ err => decide (c < 8) && decide (sl < 8) && decide (gp < 8) && decide (err < 3) && decide (d < 16) && decide (a < 16) && decide (b < 16) && decide (cc < 16) && decide (w < 4) && decide (g < 32) && decide (imm < 65536)
  | .vcmplt c sl gp _ _ d a b cc w g imm _ err => decide (c < 8) && decide (sl < 8) && decide (gp < 8) && decide (err < 3) && decide (d < 16) && decide (a < 16) && decide (b < 16) && decide (cc < 16) && decide (w < 4) && decide (g < 32) && decide (imm < 65536)
  | .vcmpltu c sl gp _ _ d a b cc w g imm _ err => decide (c < 8) && decide (sl < 8) && decide (gp < 8) && decide (err < 3) && decide (d < 16) && decide (a < 16) && decide (b < 16) && decide (cc < 16) && decide (w < 4) && decide (g < 32) && decide (imm < 65536)
  | .vsel c sl gp _ _ d a b cc w g imm _ err => decide (c < 8) && decide (sl < 8) && decide (gp < 8) && decide (err < 3) && decide (d < 16) && decide (a < 16) && decide (b < 16) && decide (cc < 16) && decide (w < 4) && decide (g < 32) && decide (imm < 65536)
  | .vbcast c sl gp _ _ d a b cc w g imm _ err => decide (c < 8) && decide (sl < 8) && decide (gp < 8) && decide (err < 3) && decide (d < 16) && decide (a < 16) && decide (b < 16) && decide (cc < 16) && decide (w < 4) && decide (g < 32) && decide (imm < 65536)
  | .vget c sl gp _ _ d a b cc w g imm _ err => decide (c < 8) && decide (sl < 8) && decide (gp < 8) && decide (err < 3) && decide (d < 16) && decide (a < 16) && decide (b < 16) && decide (cc < 16) && decide (w < 4) && decide (g < 32) && decide (imm < 65536)
  | .vput c sl gp _ _ d a b cc w g imm _ err => decide (c < 8) && decide (sl < 8) && decide (gp < 8) && decide (err < 3) && decide (d < 16) && decide (a < 16) && decide (b < 16) && decide (cc < 16) && decide (w < 4) && decide (g < 32) && decide (imm < 65536)
  | .vmul c sl gp _ _ d a b cc w g imm _ err => decide (c < 8) && decide (sl < 8) && decide (gp < 8) && decide (err < 3) && decide (d < 16) && decide (a < 16) && decide (b < 16) && decide (cc < 16) && decide (w < 4) && decide (g < 32) && decide (imm < 65536)
  | .vaddf c sl gp _ _ d a b cc w g imm _ err => decide (c < 8) && decide (sl < 8) && decide (gp < 8) && decide (err < 3) && decide (d < 16) && decide (a < 16) && decide (b < 16) && decide (cc < 16) && decide (w < 4) && decide (g < 32) && decide (imm < 65536)
  | .vsubf c sl gp _ _ d a b cc w g imm _ err => decide (c < 8) && decide (sl < 8) && decide (gp < 8) && decide (err < 3) && decide (d < 16) && decide (a < 16) && decide (b < 16) && decide (cc < 16) && decide (w < 4) && decide (g < 32) && decide (imm < 65536)
  | .vmulf c sl gp _ _ d a b cc w g imm _ err => decide (c < 8) && decide (sl < 8) && decide (gp < 8) && decide (err < 3) && decide (d < 16) && decide (a < 16) && decide (b < 16) && decide (cc < 16) && decide (w < 4) && decide (g < 32) && decide (imm < 65536)
  | .vminf c sl gp _ _ d a b cc w g imm _ err => decide (c < 8) && decide (sl < 8) && decide (gp < 8) && decide (err < 3) && decide (d < 16) && decide (a < 16) && decide (b < 16) && decide (cc < 16) && decide (w < 4) && decide (g < 32) && decide (imm < 65536)
  | .vmaxf c sl gp _ _ d a b cc w g imm _ err => decide (c < 8) && decide (sl < 8) && decide (gp < 8) && decide (err < 3) && decide (d < 16) && decide (a < 16) && decide (b < 16) && decide (cc < 16) && decide (w < 4) && decide (g < 32) && decide (imm < 65536)
  | .vcmpltf c sl gp _ _ d a b cc w g imm _ err => decide (c < 8) && decide (sl < 8) && decide (gp < 8) && decide (err < 3) && decide (d < 16) && decide (a < 16) && decide (b < 16) && decide (cc < 16) && decide (w < 4) && decide (g < 32) && decide (imm < 65536)
  | .vcmpeqf c sl gp _ _ d a b cc w g imm _ err => decide (c < 8) && decide (sl < 8) && decide (gp < 8) && decide (err < 3) && decide (d < 16) && decide (a < 16) && decide (b < 16) && decide (cc < 16) && decide (w < 4) && decide (g < 32) && decide (imm < 65536)
  | .vcvtif c sl gp _ _ d a b cc w g imm _ err => decide (c < 8) && decide (sl < 8) && decide (gp < 8) && decide (err < 3) && decide (d < 16) && decide (a < 16) && decide (b < 16) && decide (cc < 16) && decide (w < 4) && decide (g < 32) && decide (imm < 65536)
  | .vcvtfi c sl gp _ _ d a b cc w g imm _ err => decide (c < 8) && decide (sl < 8) && decide (gp < 8) && decide (err < 3) && decide (d < 16) && decide (a < 16) && decide (b < 16) && decide (cc < 16) && decide (w < 4) && decide (g < 32) && decide (imm < 65536)
  | .vpacks c sl gp _ _ d a b cc w g imm _ err => decide (c < 8) && decide (sl < 8) && decide (gp < 8) && decide (err < 3) && decide (d < 16) && decide (a < 16) && decide (b < 16) && decide (cc < 16) && decide (w < 4) && decide (g < 32) && decide (imm < 65536)
  | .vpackf c sl gp _ _ d a b cc w g imm _ err => decide (c < 8) && decide (sl < 8) && decide (gp < 8) && decide (err < 3) && decide (d < 16) && decide (a < 16) && decide (b < 16) && decide (cc < 16) && decide (w < 4) && decide (g < 32) && decide (imm < 65536)
  | .vpackb c sl gp _ _ d a b cc w g imm _ err => decide (c < 8) && decide (sl < 8) && decide (gp < 8) && decide (err < 3) && decide (d < 16) && decide (a < 16) && decide (b < 16) && decide (cc < 16) && decide (w < 4) && decide (g < 32) && decide (imm < 65536)
  | .vunpk c sl gp _ _ d a b cc w g imm _ err => decide (c < 8) && decide (sl < 8) && decide (gp < 8) && decide (err < 3) && decide (d < 16) && decide (a < 16) && decide (b < 16) && decide (cc < 16) && decide (w < 4) && decide (g < 32) && decide (imm < 65536)
  | .vunpkf c sl gp _ _ d a b cc w g imm _ err => decide (c < 8) && decide (sl < 8) && decide (gp < 8) && decide (err < 3) && decide (d < 16) && decide (a < 16) && decide (b < 16) && decide (cc < 16) && decide (w < 4) && decide (g < 32) && decide (imm < 65536)
  | .vunpkb c sl gp _ _ d a b cc w g imm _ err => decide (c < 8) && decide (sl < 8) && decide (gp < 8) && decide (err < 3) && decide (d < 16) && decide (a < 16) && decide (b < 16) && decide (cc < 16) && decide (w < 4) && decide (g < 32) && decide (imm < 65536)
  | .vrcp c sl gp _ _ d a b cc w g imm _ err => decide (c < 8) && decide (sl < 8) && decide (gp < 8) && decide (err < 3) && decide (d < 16) && decide (a < 16) && decide (b < 16) && decide (cc < 16) && decide (w < 4) && decide (g < 32) && decide (imm < 65536)
  | .vsqrt c sl gp _ _ d a b cc w g imm _ err => decide (c < 8) && decide (sl < 8) && decide (gp < 8) && decide (err < 3) && decide (d < 16) && decide (a < 16) && decide (b < 16) && decide (cc < 16) && decide (w < 4) && decide (g < 32) && decide (imm < 65536)
  | .vexp c sl gp _ _ d a b cc w g imm _ err => decide (c < 8) && decide (sl < 8) && decide (gp < 8) && decide (err < 3) && decide (d < 16) && decide (a < 16) && decide (b < 16) && decide (cc < 16) && decide (w < 4) && decide (g < 32) && decide (imm < 65536)
  | .vrsum c sl gp _ _ d a b cc w g imm _ err => decide (c < 8) && decide (sl < 8) && decide (gp < 8) && decide (err < 3) && decide (d < 16) && decide (a < 16) && decide (b < 16) && decide (cc < 16) && decide (w < 4) && decide (g < 32) && decide (imm < 65536)
  | .vrmax c sl gp _ _ d a b cc w g imm _ err => decide (c < 8) && decide (sl < 8) && decide (gp < 8) && decide (err < 3) && decide (d < 16) && decide (a < 16) && decide (b < 16) && decide (cc < 16) && decide (w < 4) && decide (g < 32) && decide (imm < 65536)
  | .vrsumf c sl gp _ _ d a b cc w g imm _ err => decide (c < 8) && decide (sl < 8) && decide (gp < 8) && decide (err < 3) && decide (d < 16) && decide (a < 16) && decide (b < 16) && decide (cc < 16) && decide (w < 4) && decide (g < 32) && decide (imm < 65536)
  | .vrmaxf c sl gp _ _ d a b cc w g imm _ err => decide (c < 8) && decide (sl < 8) && decide (gp < 8) && decide (err < 3) && decide (d < 16) && decide (a < 16) && decide (b < 16) && decide (cc < 16) && decide (w < 4) && decide (g < 32) && decide (imm < 65536)
  | .tacc c sl gp _ _ bank t td _ _ ncol _ err => decide (c < 8) && decide (sl < 8) && decide (gp < 8) && decide (err < 3) && decide (bank < 2) && decide (t < 8) && decide (td < 8) && decide (ncol < 513)
  | .tmac c sl gp _ _ bank a h _ err => decide (c < 8) && decide (sl < 8) && decide (gp < 8) && decide (err < 3) && decide (bank < 2) && decide (a < 8) && decide (h < 4)
  | .tdrn c sl gp _ _ bank t dfmt gm gf _ err => decide (c < 8) && decide (sl < 8) && decide (gp < 8) && decide (err < 3) && decide (bank < 2) && decide (t < 8) && decide (dfmt < 16) && decide (gm < 32) && decide (gf < 32)
  | .twait c sl gp _ _ _ err => decide (c < 8) && decide (sl < 8) && decide (gp < 8) && decide (err < 3)
  | .tset c sl gp _ _ t field g _ err => decide (c < 8) && decide (sl < 8) && decide (gp < 8) && decide (err < 3) && decide (t < 8) && decide (field < 8) && decide (g < 32)
  | .sopen c sl gp _ _ h src _ a b lay ncol _ err => decide (c < 8) && decide (sl < 8) && decide (gp < 8) && decide (err < 3) && decide (h < 4) && decide (src < 4) && decide (a < 32) && decide (b < 32) && decide (lay < 2) && decide (ncol < 513)
  | .sclose c sl gp _ _ h _ err => decide (c < 8) && decide (sl < 8) && decide (gp < 8) && decide (err < 3) && decide (h < 4)
  | .slrd c sl gp _ _ v seg g idx _ err => decide (c < 8) && decide (sl < 8) && decide (gp < 8) && decide (err < 3) && decide (v < 16) && decide (seg < 8) && decide (g < 32) && decide (idx < 16)
  | .slwr c sl gp _ _ v seg idx _ _ valid _ err => decide (c < 8) && decide (sl < 8) && decide (gp < 8) && decide (err < 3) && decide (v < 16) && decide (seg < 8) && decide (idx < 16) && decide (valid < 128)
  | .slwait c sl gp _ _ g idx _ err => decide (c < 8) && decide (sl < 8) && decide (gp < 8) && decide (err < 3) && decide (g < 32) && decide (idx < 16)
  | .sldrop c sl gp _ _ idx _ err => decide (c < 8) && decide (sl < 8) && decide (gp < 8) && decide (err < 3) && decide (idx < 16)
  | .sinit c sl gp _ _ a b _ err => decide (c < 8) && decide (sl < 8) && decide (gp < 8) && decide (err < 3) && decide (a < 32) && decide (b < 32)
  | .sapp c sl gp _ _ a b n _ err => decide (c < 8) && decide (sl < 8) && decide (gp < 8) && decide (err < 3) && decide (a < 32) && decide (b < 32) && decide (n < 513)
  | .sfree c sl gp _ _ a _ err => decide (c < 8) && decide (sl < 8) && decide (gp < 8) && decide (err < 3) && decide (a < 32)
  | .mereRefresh b => decide (b < 16)
  | .merePatrol b w kind => decide (b < 16) && decide (w < 131072) && decide (kind < 3)
  | .siphonJob c _ _ => decide (c < 25)
  | .siphonCompletion _ => true
  | .siphonAbortReport => true
  | .showMere _ => true
  | .readMere _ _ _ => true
  | .showSiphon _ => true
  | .copySiphon _ ssp _ _ dsp _ _ _ _ _ _ _ => decide (ssp < 4) && decide (dsp < 4)
  | .showHbm _ _ => true
  | .setHbmLedger _ _ _ => true
  | .setHbmRepair _ _ => true
  | .biasOverload k => (k == 1 || k == 2)
  | .inputRampEnd n => decide (n < 8)
  | .wellFrameBoundary _ => true
  | .seepHop _ => true
  | .seepTrigger => true
  | .hangZeroise => true
  | .rippleEvaluation => true
  | .rippleTimeout => true
  | .wakeDrainStart => true
  | .drainFrameEmit => true
  | .wellFrameAdmit => true
  | .wakeDecision => true
  | .whangExpiry => true
  | .openttlExpiry => true
  | .frameStageFeatures _ _ => true
  | .listenWrite v => decide (v < 4)
  | .wellCtlDrain => true
  | .wellCtlForget => true
  | .showAudio _ => true
  | .setAudio _ _ _ _ _ _ => true
  | .setAudioIn _ _ _ _ => true
  | .setAudioBias _ _ _ _ => true
  | .setAudioChan _ _ _ => true
  | .setAudioSeep _ _ _ _ _ _ => true
  | .setAudioRipple _ _ _ _ _ => true
  | .setAudioPack _ _ _ => true
  | .setAudioDrain _ => true
  | .forgetAudio _ => true
  | .linkTrainDone j => decide (j < 64)
  | .linkAlignLock j => decide (j < 64)
  | .helloSend j => decide (j < 64)
  | .helloFrameReceive j _ => decide (j < 64)
  | .keyFrameReceive j _ => decide (j < 64)
  | .keyResend j => decide (j < 64)
  | .frameReceive j _ _ => decide (j < 64)
  | .ackTimer j => decide (j < 64)
  | .replayTimeout j => decide (j < 64)
  | .linkFailure j _ => decide (j < 64)
  | .linkAutoReset j => decide (j < 64)
  | .jettyTransmitGrant j => decide (j < 64)
  | .jettyRouteWrite n v => decide (n < 65536) && decide (v < 4294967296)
  | .jettyTrunkWrite t _ v => decide (t < 16) && decide (v < 4294967296)
  | .drainMarkerReceive j vl => decide (j < 64) && decide (vl < 2)
  | .drainackReceive j vl => decide (j < 64) && decide (vl < 2)
  | .fenceTimeout n => decide (n < 65536)
  | .keyWordWrite j k w v => decide (j < 64) && decide (k < 2) && decide (w < 8) && decide (v < 4294967296)
  | .keyClear j k => decide (j < 64) && decide (k < 2)
  | .keyUse j k => decide (j < 64) && decide (k < 2)
  | .memRequest _ => true
  | .memtoExpiry _ => true
  | .ferryTokenReceive _ => true
  | .ferryBlockReceive _ => true
  | .ferryBlockForward _ => true
  | .ferryOpenTimeout c => decide (c < 8)
  | .ferryBreak => true
  | .listLink _ => true
  | .showLink _ _ => true
  | .showLinkRoute _ _ => true
  | .upLink _ _ _ _ _ => true
  | .downLink _ _ _ _ => true
  | .keyLinkSlot _ _ _ k0 k1 k2 k3 => decide (k0 < 18446744073709551616) && decide (k1 < 18446744073709551616) && decide (k2 < 18446744073709551616) && decide (k3 < 18446744073709551616)
  | .keyLinkClear _ _ _ => true
  | .keyLinkUse _ _ _ => true
  | .showFerry _ => true
  | .setFerry _ _ _ _ _ _ _ _ => true
  | .setFerryOwn _ _ _ _ _ => true
  | .startFerry _ => true
  | .stopFerry _ => true
  | .sensorSample n _ => decide (n < 8)
  | .layerBoundary _ _ => true
  | .stepRaiseSwitch => true
  | .enterIce _ _ => true
  | .thermIceEnter => true
  | .iceAutoIdle => true
  | .iceQuiesced => true
  | .iceUnitsInIce => true
  | .icePllBypass => true
  | .iceWaitExpiry => true
  | .leaveIce _ _ => true
  | .thermIceLeave => true
  | .iceWakeTimer => true
  | .iceExit => true
  | .iceExitClockSwitch => true
  | .showThermo _ => true
  | .setThermo _ _ _ _ _ _ _ _ _ _ _ _ => true
  | .showIce _ => true
  | .replayDispatch _ i _ => decide (i < 8)
  | .orphanExpiry _ => true
  | .mirrorPacketReceive => true
  | .mirrorAck => true
  | .mirrorTimeout _ => true
  | .mirrorFetchRequest => true
  | .mirrorFetchData => true
  | .mirrorFetchTimeout => true
  | .ledgerCfgWrite v => decide (v < 4294967296)
  | .ledgerPeerWrite v => decide (v < 4294967296)
  | .showLedger _ => true
  | .showLedgerLidx _ _ => true
  | .setLedger _ _ _ _ _ _ _ => true
  | .fetchLedgerMirror _ _ => true
  | .nvRecordWrite kind => decide (kind < 4)
  | .nvPageComplete _ => true
  | .eventRecordFlush => true
  | .recoveryGo hbmBad => decide (hbmBad < 16)
  | .showNv _ => true
  | .readNv _ _ _ => true
  | .showFirmware _ => true
  | .showFirmwareImages _ => true
  | .loadFirmwareSlot _ _ _ _ => true
  | .loadFirmwareImage _ _ _ _ _ => true
  | .loadFirmwareConfig _ _ _ _ => true
  | .selectFirmwareSlot _ _ _ => true
  | .selectFirmwareImage _ _ _ => true
  | .acceptFirmware _ => true
  | .showSeal _ => true
  | .extest levels cells => decide (cells < 2 ^ 48) && decide (levels < 2 ^ 48)
  | .samplePreload levels cells => decide (cells < 2 ^ 48) && decide (levels < 2 ^ 48)
  | .idcode => true
  | .bypass code _ _ => decide (3 ≤ code) && decide (code < 16)
  | .trstReset => true
  | .powerRemoval => true
  | .functionResetComplete rate width => decide (1 ≤ rate) && decide (rate ≤ 6) && decide (1 ≤ width) && decide (width ≤ 16)
  | .iceAbandonVoltageSettled => true
  | .functionMaskWrite off be v => decide (off < 4096) && decide (off % 4 = 0) && decide (be < 16) && decide (v < 4294967296)
  | .slotLoadComplete u _ => decide (u < 100)

end Sys2Proof
end

