-- ==== Sys2Proof/Certificates/Slice0/Obligations.lean ====
section
/-!
DEFINITION. Certificates/Slice0/Obligations.lean: the statements for the provers. `Claims` holds the views they are written with. A statement
that a command completes has the form `exec c s = after s d`, with the block `d` that the rules give, or says what holds of that block.
-/
open Sys2Proof Sys2Proof.Machine

namespace Sys2Proof.Claims

/-- The next state that differs from `s` in the block alone: the queue is as it was. -/
def after (s : State) (d : Dev) : Host.Outcome State Fault Refusal := .next { s with dev := d }

/-- CCLK runs: no trip, no lost reference, no power-down (19 R421, 20 R458). -/
abbrev Runs (s : State) : Prop := s.dev.boot.trip = .none

/-- The command is answered with a next state whose block meets `P`, the queue untouched. -/
abbrev Gives (i : Instr) (s : State) (P : Dev → Prop) : Prop := ∃ d, exec i s = after s d ∧ P d

/-- As `Gives`, for a command whose effect `settle` follows: what `P` says holds of the block before it. `settle` moves a unit to FAULTED or
READY, or a load on, where one is waiting for that, and else changes nothing (SettleQuiet). -/
abbrev Leads (i : Instr) (s : State) (P : Dev → Prop) : Prop := ∃ d, exec i s = after s (settle d) ∧ P d

/-- Nothing waits for `settle`: no load is under way, no core has faulted in kernel mode, no Basin has had four bad passes in a row, and no link
that is UP belongs to a WAKING unit. -/
abbrev Quiet (d : Dev) : Prop :=
  d.loads = [] ∧ (∀ p ∈ d.longs.core, p.2.kfault = false) ∧ (∀ p ∈ d.basin, p.2.parRun < 4) ∧
  (∀ p ∈ d.jetty.link, p.2.st = .up → ustate (32 + p.1) d ≠ .waking)

/-- The block with nothing behind the present command in its tick. -/
def alone (d : Dev) : Dev := behind false false false false d

/-- The block with what stands behind the present command in its tick noted. -/
def facing (s : State) : Dev := behind (shoreBehind s) (askBehind s) (uartBehind s) (lineBehind s) s.dev

/-- No command of this tick that waits goes before the present one: none is a Shore agent's commit or request, a line of the UART, or a line that
goes before one from another node (03 R44, 04 R75, 07 R147). -/
abbrev First (s : State) : Prop := shoreBehind s = false ∧ askBehind s = false ∧ uartBehind s = false ∧ lineBehind s = false

/-- Every host access received before has taken effect, so that the next takes effect at once (02 R30, 05 R90). -/
abbrev HostFree (s : State) : Prop := s.dev.host.acc = []

end Sys2Proof.Claims

open Sys2Proof.Claims
/-! ### The machine -/

/-- The command at the front of the queue acts with the rest of the queue waiting. -/
def Obligations.StepRunsFront : Prop :=
  ∀ (i : Instr) (rest : List Instr) (s : State), step { s with pending := i :: rest } = exec i { s with pending := rest }

/-- On an empty queue a tick passes (the model's choice, log entry 2); while CCLK is gated none does, and the state stands. -/
def Obligations.IdleStepTicks : Prop :=
  ∀ s : State, s.pending = [] →
    (s.dev.boot.trip ≠ .none → step s = after s s.dev) ∧
    (s.dev.boot.trip = .none → hotMap s.dev = 0 → step s = after s (tickStart (tickEnd (tickDue s.dev)))) ∧
    (s.dev.boot.trip = .none → hotMap s.dev ≠ 0 → step s = after s (tripNow .firmware false (hotMap s.dev) s.dev))

/-- No command stops the block, and none touches the queue. -/
def Sys2Proof.Claims.CommandsAnswerNext : Prop := ∀ (i : Instr) (s : State), ∃ d, exec i s = after s d

namespace Sys2Proof.Claims

/-- The commands that act on a part whose CCLK is gated: power, resets, trips and the boundary-scan port. -/
def actsGated : Instr → Bool
  | .powerOn .. | .warmReset .. | .powerDown | .ref24Loss | .firmwareTrip | .hardwareTrip _ | .powerRemoval => true
  | .extest .. | .samplePreload .. | .idcode | .bypass .. | .trstReset => true
  | _ => false

end Sys2Proof.Claims

/-- While CCLK is gated no command but power, resets, trips and the boundary-scan port changes anything, and no tick passes. -/
def Sys2Proof.Claims.GatedPartStands : Prop :=
  ∀ s : State, s.dev.boot.trip ≠ .none →
    (∀ i, actsGated i = false → exec i s = after s s.dev) ∧ (s.pending = [] → step s = after s s.dev)

/-- A tripped part stays tripped, whatever waits in its queue, until a command of power, reset, trip or scan comes: the queue drains and the
block stands. -/
def Sys2Proof.Claims.TripStands : Prop :=
  ∀ (n : Nat) (s : State), s.dev.boot.trip ≠ .none → (∀ i ∈ s.pending, actsGated i = false) →
    core.run n s = .next { s with pending := s.pending.drop n }

/-- `settle` leaves a block alone in which no unit and no load waits for it. -/
def Sys2Proof.Claims.SettleQuiet : Prop := ∀ d : Dev, Quiet d → settle d = d
/-! ### Bipol sessions -/

namespace Sys2Proof.Claims

/-- A command of session and tag `r` may start: Bipol is served, the session is live, and in machine mode its tag is well formed and not
outstanding and fewer than 32 commands are outstanding, in typed mode none is. -/
abbrev Taken (r : BRef) (d : Dev) : Prop :=
  bipServed d = true ∧ (sess r.sid d).live = true ∧
  (if (sess r.sid d).machine = true then
     tagForm r.tag = true ∧ (∀ o ∈ (sess r.sid d).outst, o.tag ≠ r.tag) ∧ (sess r.sid d).outst.length < 32
   else (sess r.sid d).outst = [])

/-- The command has started: its line has counted and it is outstanding. -/
def begun (r : BRef) (d : Dev) : Dev :=
  let c := countLine r.sid d
  sessSet r.sid { sess r.sid c with outst := (sess r.sid c).outst ++ [{ tag := r.tag, obj := .output, line := (sess r.sid c).oline }] } c

/-- The command is answered `ok` after an effect on the block, with body lines that show the block then. -/
abbrev AnswersOk (i : Instr) (r : BRef) (body : Dev → List String) (effect : Dev → Dev) (s : State) : Prop :=
  exec i s = after s (ok r (body (effect (begun r s.dev))) (effect (begun r s.dev)))

/-- As `AnswersOk`, followed by `settle`. -/
abbrev AnswersOkS (i : Instr) (r : BRef) (body : Dev → List String) (effect : Dev → Dev) (s : State) : Prop :=
  exec i s = after s (settle (ok r (body (effect (begun r s.dev))) (effect (begun r s.dev))))

/-- It is answered `ok` with body lines and changes nothing else. -/
abbrev Shows (i : Instr) (r : BRef) (body : Dev → List String) (s : State) : Prop := AnswersOk i r body id s

/-- It is answered `err word` with body lines that show the block, and has no other effect. -/
abbrev Refuses (i : Instr) (r : BRef) (word : String) (body : Dev → List String) (s : State) : Prop :=
  exec i s = after s (err r word (body (begun r s.dev)) (begun r s.dev))

/-- It is answered `err word` with no body line, and has no other effect. -/
abbrev Fails (i : Instr) (r : BRef) (word : String) (s : State) : Prop := exec i s = after s (err r word [] (begun r s.dev))

/-- The bytes of a response as its session sends them: the first line, the body lines, and in machine mode the end line, each with its check
code where the session requires one; in typed mode the prompt. -/
def responseBytes (r : BRef) (word : Option String) (body : List String) (s : Session) : List Byte :=
  let tag := if r.tag = "" then "" else " #" ++ r.tag
  let first := match word with
    | none => "ok" ++ tag
    | some w => "err" ++ tag ++ " " ++ w
  let line := fun (t : String) => textBytes (sessLine r.sid s t)
  (first :: body).flatMap line ++ (if s.machine then line ("end" ++ tag) else textBytes "hg> ")

end Sys2Proof.Claims

/-- A started command counts one line and is outstanding under its tag; nothing else of its session moves. -/
def Sys2Proof.Claims.CommandStarts : Prop :=
  ∀ (r : BRef) (f : Dev → Dev) (d : Dev), Taken r d →
    bcmd r f d = f (begun r d) ∧
    (sess r.sid (begun r d)).lines = ((sess r.sid d).lines + 1) % 65536 ∧
    (sess r.sid (begun r d)).outst.map (·.tag) = (sess r.sid d).outst.map (·.tag) ++ [r.tag] ∧
    (sess r.sid (begun r d)).outq = (sess r.sid d).outq ∧ (sess r.sid (begun r d)).machine = (sess r.sid d).machine ∧
    (∀ i, i ≠ r.sid → sess i (begun r d) = sess i d) ∧
    begun r d = { d with bip := (begun r d).bip }

/-- A tag that is outstanding answers `dup`, and a 33rd command `full`; the command does not run, though its line counts. -/
def Sys2Proof.Claims.DupAndFull : Prop :=
  ∀ (r : BRef) (f : Dev → Dev) (d : Dev), bipServed d = true → (sess r.sid d).live = true → (sess r.sid d).machine = true → tagForm r.tag = true →
    ((∃ o ∈ (sess r.sid d).outst, o.tag = r.tag) →
      bcmd r f d = sayNext r.sid (respLines r none (some "dup") [] (countLine r.sid d)) (countLine r.sid d)) ∧
    ((∀ o ∈ (sess r.sid d).outst, o.tag ≠ r.tag) → 32 ≤ (sess r.sid d).outst.length →
      bcmd r f d = sayNext r.sid (respLines r none (some "full") [] (countLine r.sid d)) (countLine r.sid d))

/-- Responses leave in the order of their lines but for those of commands that wait for an object (R74): while a session owes an earlier response
without lines, a later one takes its place behind it and nothing leaves; when the one at the front has its lines, it and those behind it that
are complete leave, in order. -/
def Sys2Proof.Claims.ResponsesKeepTheirOrder : Prop :=
  (∀ (r : BRef) (word : Option String) (body : List String) (d : Dev), (sess r.sid d).live = true → (sess r.sid d).outq = [] → (sess r.sid d).events = [] →
    let s := sess r.sid d
    let ls := respLines r (some r.tag) word body d
    (∀ o ∈ s.outst, o.tag = r.tag → o.obj = .output) →
    (∀ o os, s.order = o :: os → o.lines = none → (∀ p ∈ s.order, p.tag ≠ r.tag) →
      respond r word body d = sessSet r.sid { s with order := s.order ++ [⟨"", some ls⟩] } d) ∧
    (∀ o os, s.order = o :: os → o.lines = none → o.tag ≠ r.tag → (∃ p ∈ os, p.tag = r.tag ∧ p.lines = none) →
      ∃ q, respond r word body d = sessSet r.sid { s with order := o :: q } d ∧ q.length = os.length) ∧
    (∀ o os, s.order = o :: os → o = ⟨r.tag, none⟩ → (∀ p ∈ os, p.lines = none) →
      respond r word body d = say r.sid ls (sessSet r.sid { s with order := os } d)) ∧
    (∀ o p os ms, s.order = o :: p :: os → o = ⟨r.tag, none⟩ → p.lines = some ms → (∀ q ∈ os, q.lines = none) →
      respond r word body d = say r.sid (ls ++ ms) (sessSet r.sid { s with order := os } d))) ∧
  (∀ (r : BRef) (word : Option String) (body : List String) (d : Dev), (∃ o ∈ (sess r.sid d).outst, o.tag = r.tag ∧ o.obj ≠ .output) →
    respond r word body d = say r.sid (respLines r (some r.tag) word body d) d)

/-- A response on the UART with room leaves whole, its lines together, and its command is outstanding no longer. -/
def Sys2Proof.Claims.UartResponse : Prop :=
  ∀ (tag : String) (word : Option String) (body : List String) (d : Dev),
    let r : BRef := { sid := 0, tag := tag }
    let s := sess 0 d
    s.live = true → s.outq = [] → s.events = [] → (s.order = [] ∨ ∃ o ∈ s.outst, o.tag = tag ∧ o.obj ≠ .output) →
    d.bip.uartOut.length + (responseBytes r word body s).length ≤ 65536 →
    (respond r word body d).bip.uartOut = d.bip.uartOut ++ responseBytes r word body s ∧
    sess 0 (respond r word body d) = { s with outst := s.outst.filter fun o => o.tag != tag } ∧
    (∀ i, i ≠ 0 → sess i (respond r word body d) = sess i d) ∧
    respond r word body d = { d with bip := (respond r word body d).bip }

/-- A response on the mailbox with room is written into the response ring at RHEAD, which moves past it. -/
def Sys2Proof.Claims.MailboxResponse : Prop :=
  ∀ (tag : String) (word : Option String) (body : List String) (d : Dev),
    let r : BRef := { sid := 1, tag := tag }
    let s := sess 1 d
    s.live = true → s.machine = true → s.outq = [] → s.events = [] → (s.order = [] ∨ ∃ o ∈ s.outst, o.tag = tag ∧ o.obj ≠ .output) → rspUsed d.bip + (responseBytes r word body s).length ≤ 65536 →
    d.bip.rhead < 131072 → d.bip.rtail < 131072 →
    (respond r word body d).bip.rhead = (d.bip.rhead + (responseBytes r word body s).length) % 131072 ∧
    (respond r word body d).bip.rspRing = rspWrite d.bip.rspRing d.bip.rhead (responseBytes r word body s) ∧
    sess 1 (respond r word body d) = { s with outst := s.outst.filter fun o => o.tag != tag }
/-! ### What the show, list and read lines answer -/

namespace Sys2Proof.Claims

/-- A flash byte as `read nv` gives it: a byte of a stored key reads as zero (19 R437). -/
def nvByteShown (x : Nat) (d : Dev) : Byte := if (keyPlaces d).any fun k => decide (k.1 ≤ x) && decide (x < k.2) then 0 else flashByte x d

end Sys2Proof.Claims

/-- The show, list and read lines of the unit, gauge, log, help, thermo, ice, ledger, nv, firmware and seal nouns answer their noun's lines and
change nothing else. -/
def Sys2Proof.Claims.SystemShowsAnswer : Prop :=
  ∀ (s : State) (r : BRef), Taken r s.dev →
    Shows (.listUnit r none) r (fun d => ((List.range 100).filter uAssigned).map fun n => unitListLine n d) s ∧
    (∀ t u, stateOfName t = some u →
      Shows (.listUnit r (some t)) r (fun d => (((List.range 100).filter uAssigned).filter fun n => ustate n d == u).map fun n => unitListLine n d) s) ∧
    (∀ n, uAssigned n = true → Shows (.showUnit r n) r (fun d => [unitShowLine n d]) s) ∧
    Shows (.showGauge r) r (fun d => ["gauge " ++ hexGrouped 16 (now d) ++ " step " ++ stepText d.clk ++ " gu-per-tick " ++ dec d.clk.gu]) s ∧
    (∀ n, 1 ≤ n → n ≤ 4096 → Shows (.showLog r (some n)) r (fun d => (d.bip.log.drop (d.bip.log.length - n)).map logLine) s) ∧
    Shows (.showLog r none) r (fun d => (d.bip.log.drop (d.bip.log.length - 16)).map logLine) s ∧
    Shows (.showHelp r none) r (fun _ => nouns.map (·.1)) s ∧
    (∀ t, nouns.find? (fun x => x.1 == t) = none → Fails (.showHelp r (some t)) r "unknown" s) ∧
    (∀ t x, nouns.find? (fun x => x.1 == t) = some x → Shows (.showHelp r (some t)) r (fun _ => [x.1 ++ ": " ++ spaced x.2]) s) ∧
    Shows (.showThermo r) r (fun d => thermoLine d :: (List.range 8).map fun n => sensorLine n d) s ∧
    Shows (.showIce r) r (fun d => [iceLine d]) s ∧
    Shows (.showLedger r) r (fun d => [ledgerLine d]) s ∧
    (∀ l, l < ledgSize s.dev → Shows (.showLedgerLidx r l) r (fun d => [lidxLine l d]) s) ∧
    (uready 99 s.dev = true →
      Shows (.showNv r) r (fun d => [nvLine d]) s ∧
      Shows (.showFirmware r) r (fun d => [slotLine 1 0 d, slotLine 1 1 d, slotLine 2 0 d, slotLine 2 1 d,
        "guarded " ++ dec (b2n d.boot.guarded) ++ sp "reason" (hex0 1 d.boot.reason) ++ spn "rolledback" (b2n d.boot.rolled)]) s ∧
      Shows (.showFirmwareImages r) r (fun d => (List.range 64).flatMap fun n => (d.boot.dir.filter fun e => e.n == n).map fun e => entLine e d) s ∧
      (∀ a n, r.sid < 2 → 1 ≤ n → n ≤ 256 → a + n ≤ flashSize → Shows (.readNv r a (some n)) r (fun d =>
        (List.range ((n + 15) / 16)).map fun i => spaced ((List.range (min 16 (n - 16 * i))).map fun j => hexBytes [nvByteShown (a + 16 * i + j) d])) s)) ∧
    Shows (.showSeal r) r (fun d =>
      ["seal class " ++ dec d.fuse.sealc ++ sp "variant" (varName d.fuse.variant) ++ sp "stepping" (stepName d) ++
        sp "since" (dec (2000 + d.fuse.year) ++ "-" ++ dec2 d.fuse.month) ++ sp "until" (dec (2015 + d.fuse.year) ++ "-" ++ dec2 d.fuse.month) ++
        spn "guarded" (b2n d.boot.guarded) ++ spn "debuglock" (b2n d.fuse.debugLock)]) s

/-- The show, list and read lines of the inlet, outlet, sluice, route, weir, mere, siphon, hbm, link and ferry nouns answer their noun's lines
and change nothing else. -/
def Sys2Proof.Claims.DataShowsAnswer : Prop :=
  ∀ (s : State) (r : BRef), Taken r s.dev →
    (∀ ring, ring.getD 0 < 256 → Shows (.showInlet r ring) r (ringLines inletLine ring) s ∧ Shows (.showOutlet r ring) r (ringLines outletLine ring) s) ∧
    Shows (.showOutletBacklog r) r (fun d => [backlogLine d]) s ∧
    Shows (.listSluice r) r (fun d => (sluAll d.fuse.variant).map fun n => sluListLine n d) s ∧
    (∀ n, sluNameErr n s.dev = none → Shows (.showSluice r n) r (fun d => [sluShowLine n d]) s) ∧
    Shows (.listRoute r) r (fun d => ((List.range 256).filter fun n => rValid (routeNew n d).img).map fun n => routeListLine n d) s ∧
    (∀ n, n < 256 →
      Shows (.showRoute r n false) r (fun d => routeHeadLine n (dec (routeNew n d).epoch) (routeNew n d).img ::
        (List.range (min 8 (rNStage (routeNew n d).img))).map fun i => routeStageLine i (rStage (routeNew n d).img i)) s ∧
      Shows (.showRoute r n true) r (fun d => routeHeadLine n "staged" (routeStage n d) ::
        (List.range (min 8 (rNStage (routeStage n d)))).map fun i => routeStageLine i (rStage (routeStage n d) i)) s) ∧
    Shows (.showWeir r) r (fun d => ["weir held " ++ dec (weirHeld d) ++ " late " ++ dec (ctrVal 65535 48 d) ++ " amend " ++ dec (ctrVal 65535 49 d) ++
      " absent " ++ dec (ctrVal 65535 50 d) ++ " early-off " ++ dec (b2n d.weir.earlyOff)]) s ∧
    Shows (.showMere r) r (fun d => [mereLine d]) s ∧
    (∀ a n, 1 ≤ n → n ≤ 256 → a + n ≤ mereSize → memServes 24 s.dev = true → Shows (.readMere r a (some n)) r (mereHex a n) s) ∧
    Shows (.showSiphon r) r (fun d => [siphonLine d]) s ∧
    Shows (.showHbm r none) r (fun d => hbmHead d :: (List.range (nHbm d.fuse.variant)).map fun h => stackLine h d) s ∧
    (∀ h, h < nHbm s.dev.fuse.variant → Shows (.showHbm r (some h)) r (fun d => [hbmHead d, stackLine h d]) s) ∧
    Shows (.listLink r) r (fun d => (List.range (nJetty d.fuse.variant)).map fun j => linkLine j d) s ∧
    (∀ j, j < 64 → linkHere j s.dev = true → Shows (.showLink r j) r (fun d => [linkShowLine j d]) s) ∧
    (∀ D, D < 65536 → Shows (.showLinkRoute r D) r (fun d =>
      ["route " ++ dec D ++ spn "trunk" (rtTrunk (routeWord D d.jetty)) ++ spn "valid" (b2n (rtValid (routeWord D d.jetty))) ++
        spn "vl" (rtVl (routeWord D d.jetty)) ++ sp "link" (match linkFor D 0 d with | some j => dec j | none => "none") ++ spn "fence" (b2n (fencing D d))]) s) ∧
    Shows (.showFerry r) r (fun d => [ferryLine d]) s

/-- The show lines of the reed, shoal, tarn, basin, long and audio nouns answer their noun's lines and change nothing else; those of an engine that is
not READY answer `absent`. -/
def Sys2Proof.Claims.EngineShowsAnswer : Prop :=
  ∀ (s : State) (r : BRef), Taken r s.dev →
    (uready 4 s.dev = true → ∀ k, k.getD 0 < 8 →
      Shows (.showReed r k) r (fun d => ("reed largest " ++ dec (reedLargest d)) :: (shownSlots 8 k).map fun i => reedSlotLine i d) s) ∧
    (uready 5 s.dev = true → ∀ k, k.getD 0 < 4 →
      Shows (.showShoal r k) r (fun d => ("shoal largest " ++ dec (shoalLargest d) ++ " busy " ++ hex0 4 (shoalBusy d)) ::
        (shownSlots 4 k).map fun i => shoalSlotLine i d) s) ∧
    (uready 6 s.dev = true → ∀ k, k.getD 0 < 4 →
      Shows (.showTarn r k) r (fun d => ("tarn largest " ++ dec (tarnLargest d) ++ " rows " ++ dec d.tarn.walk.length ++ " busy " ++ dec d.tarn.lanes.length) ::
        (shownSlots 4 k).map fun i => tarnSlotLine i d) s) ∧
    (∀ k, (uready 4 s.dev = false → k.getD 0 < 8 → Fails (.showReed r k) r "absent" s) ∧ (uready 5 s.dev = false → k.getD 0 < 4 → Fails (.showShoal r k) r "absent" s) ∧
      (uready 6 s.dev = false → k.getD 0 < 4 → Fails (.showTarn r k) r "absent" s)) ∧
    Shows (.showBasin r none) r (fun d => (List.range (nBasin d.fuse.variant)).map fun b => basinLine b d) s ∧
    (∀ b, b < nBasin s.dev.fuse.variant → Shows (.showBasin r (some b)) r (fun d => [basinLine b d]) s ∧ Shows (.showLong r (some b)) r (fun d => [longLine b d]) s ∧
      ∀ p, p < 16 → Shows (.showLongProg r b p) r (fun d => [longProgLine b p d]) s) ∧
    Shows (.showLong r none) r (fun d => (List.range (nBasin d.fuse.variant)).map fun c => longLine c d) s ∧
    (wellHere s.dev = true →
      Shows (.showAudio r) r (fun d => [audioLine d] ++ ((List.range 8).map fun n => inLine n d.well) ++
        [supLine "A" d.well.supA (wSupplyOn 1 d.well), supLine "B" d.well.supB (wSupplyOn 2 d.well)] ++ (List.range 8).map fun c => chanLine c d.well) s)
/-! ### What the other Bipol lines do -/

namespace Sys2Proof.Claims

/-- No body line. -/
def none' : Dev → List String := fun _ => []

/-- A route's staging copy changed by a function. -/
def restage (n : Nat) (f : List Byte → List Byte) (d : Dev) : Dev := routeStageSet n (f (routeStage n d)) d

/-- A request has been accepted: the entry is pending, its acknowledgement is due within four ticks (the model's choice which ticks, log entry 61), and its
requester waits for the outcome. -/
def requested (q : UReq) (d : Dev) : Dev :=
  uentSet q.unit { uent q.unit d with pend := actOf q.act, ackBy := d.tickN + 4, who := some q.path } { d with udir := { d.udir with taken := true } }

/-- No request has been accepted in this tick. -/
abbrev DirFree (d : Dev) : Prop := d.udir.taken = false

/-- A load that may start now, as its line finds the block: every check passes, the units are there and READY, and the slot is not in use. -/
abbrev LoadGoes (u k nslot cores : Nat) (src : LoadSrc) (d : Dev) : Prop :=
  k < nslot ∧ cores < 256 ∧ loadUnits u cores ≠ [] ∧ (match src with | .image n => n < 64 | .mere a => inStage a d = true) ∧
  (∀ n ∈ loadUnits u cores, uPresent d.fuse.variant n = true ∧ uready n d = true) ∧
  loadCheck u k cores (imageOf src d).1 (imageOf src d).2 d = none ∧ loadInUse u k d = false ∧ uready 99 d = true

/-- It has started: the job waits, and the line is answered now or, with `wait`, at its end. -/
abbrev LoadStarts (i : Instr) (r : BRef) (u k cores left : Nat) (src : LoadSrc) (wait : Bool) (s : State) : Prop :=
  exec i s = after s (loadAnswer r u k cores wait
    (loadAdd { unit := u, slot := k, cores := cores, left := left, image := imgPayload (imageOf src (begun r s.dev)).1, upd := false, sid := r.sid, tag := r.tag,
               wait := wait } (begun r s.dev)))

end Sys2Proof.Claims

/-- The lines of the log, weir, route, bind, inlet, outlet and sluice nouns that set something set exactly it and answer `ok`;
a value of `set route` outside the range of its field fails with range. -/
def Obligations.DataLinesSet : Prop :=
  ∀ (s : State) (r : BRef), Taken r s.dev →
    (∀ l lv, (l, lv) ∈ [(none, LogLevel.warn), (some 0, .info), (some 1, .warn), (some 2, .fault)] →
      AnswersOk (.followLog r l) r none' (fun d => sessSet r.sid { sess r.sid d with follow := some lv } d) s) ∧
    AnswersOk (.quietLog r) r none' (fun d => sessSet r.sid { sess r.sid d with follow := none } d) s ∧
    AnswersOk (.clearLog r) r none' (fun d => { d with bip := { d.bip with log := [] } }) s ∧
    (∀ x, x < 2 → AnswersOk (.setWeir r x) r none' (fun d => { d with weir := { d.weir with earlyOff := x == 1 } }) s) ∧
    (∀ n, n < 256 →
      (∀ valid deadline early dlv amend window hold prio emptyv dirs maskb stages : Option Nat,
        optLt valid 2 = true → optIn deadline deadlineMin deadlineMax = true → optLt early 2 = true → optLt dlv 2 = true → optLt amend 2 = true → optIn window 0 deadlineMax = true →
        optLt hold 2 = true → optLt prio 4 = true → optLt emptyv 3 = true → optLt dirs 4 = true → optLt maskb 257 = true → optIn stages 1 8 = true →
        AnswersOk (.setRoute r n valid deadline early dlv amend window hold prio emptyv dirs maskb stages) r none'
          (restage n fun m => imgOpt window (imgBytes 16 8) <| imgOpt deadline (imgBytes 8 8) <| imgOpt dirs (imgBits 2 7 6) <| imgOpt emptyv (imgBits 2 5 4) <|
            imgOpt stages (imgBits 2 3 0) <| imgOpt maskb (fun x m => if x = 256 then imgBits 1 5 5 0 m else imgBits 3 7 0 x (imgBits 1 5 5 1 m)) <|
            imgOpt prio (imgBits 1 7 6) <| imgOpt hold (imgBits 1 4 4) <| imgOpt amend (imgBits 1 3 3) <| imgOpt dlv (imgBits 1 2 2) <|
            imgOpt early (imgBits 1 1 1) <| imgOpt valid (imgBits 1 0 0) m) s) ∧
      (∀ x, deadlineMax < x →
        Fails (.setRoute r n none (some x) none none none none none none none none none none) r "range" s ∧
        Fails (.setRoute r n none none none none none (some x) none none none none none none) r "range" s) ∧
      (∀ x, x < deadlineMin → Fails (.setRoute r n none (some x) none none none none none none none none none none) r "range" s) ∧
      (∀ x, x = 0 ∨ 8 < x → Fails (.setRoute r n none none none none none none none none none none none (some x)) r "range" s) ∧
      (∀ i kind table cores rule inputs k stop slots, i < 8 → stageKeysOk kind table cores rule inputs k stop slots = true →
        AnswersOk (.setRouteStage r n i kind table cores rule inputs k stop slots) r none'
          (restage n fun m => m.take (64 + 8 * i) ++ stageBytes kind table cores rule inputs k stop slots ++ m.drop (72 + 8 * i)) s) ∧
      (∀ e wait, e < 65536 → asleep 3 s.dev = false → s.dev.weir.committed = false → (wait = false ∨ routeLiveN n s.dev < 2) →
        exec (.commitRoute r n (some e) wait) s =
          after s (commitAnswer r n (routeCommit n e (begun r s.dev)).1 (routeCommit n e (begun r s.dev)).2)) ∧
      (∀ st ans, st < 4096 →
        (∃ lines : Dev → List String, AnswersOk (.bindRoute r (some n) st ans) r lines (fun d =>
          bindWrite st (if ans then (bindReg st d &&& 0xFFFF#32) ||| BitVec.ofNat 32 (65536 * (256 + n)) else (bindReg st d &&& 0xFFFF0000#32) ||| BitVec.ofNat 32 (256 + n)) d) s) ∧
        (∃ lines : Dev → List String, AnswersOk (.bindRoute r none st ans) r lines (fun d =>
          bindWrite st (if ans then bindReg st d &&& 0xFFFF#32 else bindReg st d &&& 0xFFFF0000#32) d) s)) ∧
      AnswersOk (.setInlet r n 0) r none' (fun d => subSet n { subRing n d with enable := false, stopped := false } d) s ∧
      Refuses (.setInlet r n 1) r "denied" (fun d => [inletLine n d]) s ∧
      (∀ c t, 1 ≤ c → c ≤ 255 → t < 16777216 → AnswersOk (.setOutlet r n c t) r none' (fun d => cplSet n { cplRing n d with count := c, time := t } d) s) ∧
      (asleep 2 s.dev = false → (cplRing n s.dev).enable = true → s.dev.host.fetchRing = none →
        AnswersOk (.fetchOutlet r n false) r (fun d => [backlogLine d]) (fun d => fetchRun { d with host := { d.host with fetchRing := some n, lastFetch := n } }) s ∧
        exec (.fetchOutlet r n true) s = after s (fetchRun { bwait r (.other 2) (begun r s.dev) with
          host := { s.dev.host with fetchRing := some n, lastFetch := n } }))) ∧
    (∀ n, sluNameErr n s.dev = none →
      AnswersOk (.clearSluice r n) r none' (fun d => forN 4 (fun i d => ctrSet (kSlu n i) { ctrGet (kSlu n i) d with old := 0 } d) (clearBits (1000 + n) 6 d)) s ∧
      (∀ ct hi lo : Nat, sluSetOk n { sluSettings (slu n s.dev) with ct := ct } s.dev = true → lo < hi → hi ≤ 65535 → ∀ up down : Bool,
        AnswersOk (.setSluice r n none none (some ct) (some hi) (some lo) (some up) (some down)) r none' (fun d =>
          setEn (1000 + n) (BitVec.ofNat 8 (2 * b2n up + 4 * b2n down)) (sluMod n (fun x => { x with hi := hi, lo := lo })
            (sluSetPut n { sluSettings (slu n d) with ct := ct } d))) s))

/-- The lines of the engines' nouns that set or load something set exactly it; a load that may start waits for its completion. -/
def Sys2Proof.Claims.EngineSets : Prop :=
  ∀ (s : State) (r : BRef), Taken r s.dev →
    (∀ k, k < 8 → uready 4 s.dev = true → reedInUse k s.dev = false →
      AnswersOk (.setReedSlotEmpty r k) r (fun d => [reedSlotLine k d]) (reedSlotSet k {}) s) ∧
    (∀ n, n < 4096 → uready 4 s.dev = true → (∀ p ∈ s.dev.reed.waiting, p.stream = n → p.kind = 1) → AnswersOk (.setReedStreamFlush r n) r none' (reedClear n) s) ∧
    (∀ k, k < 4 → uready 6 s.dev = true → tarnInUse k s.dev = false →
      AnswersOk (.setTarnSlotEmpty r k) r (fun d => [tarnSlotLine k d]) (tarnSlotSet k {}) s) ∧
    (∀ k src wait, LoadGoes 4 k 8 0 src (begun r s.dev) → LoadStarts (.loadReed r k src false wait) r 4 k 0 1 src wait s) ∧
    (∀ k src wait, LoadGoes 5 k 4 0 src (begun r s.dev) → LoadStarts (.loadShoal r k src false wait) r 5 k 0 1 src wait s) ∧
    (∀ k src wait, LoadGoes 6 k 4 0 src (begun r s.dev) → LoadStarts (.loadTarn r k src false wait) r 6 k 0 1 src wait s) ∧
    (∀ k src cores wait, LoadGoes 16 k 16 cores src (begun r s.dev) → LoadStarts (.loadLong r k src cores false wait) r 16 k cores cores src wait s) ∧
    (∀ b, b < nBasin s.dev.fuse.variant →
      (∀ g, g < 8 → AnswersOk (.setBasinGroup r b g) r (fun d => [basinLine b d]) (basinMod b fun x => { x with groupEn := true, gid := g }) s) ∧
      ((basin b s.dev).gid < 8 → AnswersOk (.setBasinGroupNone r b) r (fun d => [basinLine b d]) (basinMod b fun x => { x with groupEn := false }) s)) ∧
    (∀ p, p < 16 →
      AnswersOk (.stopLong r p) r none' (fun d => { d with longs := { d.longs with stopped := tabSet (fun _ => false) d.longs.stopped p true } }) s ∧
      AnswersOk (.startLong r p) r none' (fun d => { d with longs := { d.longs with stopped := tabSet (fun _ => false) d.longs.stopped p false } }) s)

/-- The lines of the siphon, hbm, thermo, ice, ledger and ferry nouns that set or start something do exactly it. -/
def Obligations.SystemLinesSet : Prop :=
  ∀ (s : State) (r : BRef), Taken r s.dev →
    (∀ ssp sb src dsp db dst len n ss ds wait, 1 ≤ len → len ≤ 16777216 → 1 ≤ n → n ≤ 65536 → len * n ≤ 4294967296 →
      spaceBad ssp sb src s.dev = none → spaceBad dsp db dst s.dev = none → uready 25 s.dev = true →
      let x : SDesc := { jobid := tagNumber r.tag, ssp := ssp, sb := sb, dsp := dsp, db := db, rsvd := false, src := src, dst := dst, rowlen := len, nrows := n,
                         sstride := ss, dstride := ds }
      let d := siphSet { s.dev.siph with queue := s.dev.siph.queue ++ [{ sub := .shore r.sid r.tag wait, d := x, accAt := now s.dev }] } (begun r s.dev)
      exec (.copySiphon r ssp sb src dsp db dst len (some n) (some ss) (some ds) wait) s = after s (if wait then bwait r (.siphon x.jobid) d else ok r [] d)) ∧
    (∀ l n, 1 ≤ l → l ≤ 16 → n ≠ 0 → (l + n + 8) * gib + 67108864 ≤ hbmBytes s.dev.fuse.variant → uready 99 s.dev = true → nvKindBusy 3 s.dev = false →
      AnswersOk (.setHbmLedger r l n) r none' (fun d => recWrite 3 (cfgPut 6 (hbmTag l n d) d.boot.config) none d) s) ∧
    (∀ a, a < hbmBytes s.dev.fuse.variant → repairsAsked (hbmStackOf a s.dev) s.dev < (stackGet (hbmStackOf a s.dev) s.dev).spares → uready 99 s.dev = true →
      nvKindBusy 3 s.dev = false → AnswersOk (.setHbmRepair r a) r none' (fun d => recWrite 3 (d.boot.config ++ cfgEntry 11 (toLe 8 a)) none d) s) ∧
    (∀ plimit rungmax deferprio eweight urgent efirst ecost iceauto iceidle icewait icewake,
      thermSetOk ⟨plimit, rungmax, deferprio, eweight, urgent, efirst, ecost, iceauto, iceidle, icewait, icewake⟩ s.dev = true →
      AnswersOk (.setThermo r plimit rungmax deferprio eweight urgent efirst ecost iceauto iceidle icewait icewake) r (fun d => [thermoLine d])
        (thermMod fun t => { t with
          plimit := plimit.getD t.plimit, rungmax := rungmax.getD t.rungmax, deferprio := deferprio.getD t.deferprio, urgent := urgent.getD t.urgent,
          efirst := efirst.getD t.efirst, eweight := (eweight.map (· / 9216)).getD t.eweight, iceidle := (iceidle.map (· / 9216000)).getD t.iceidle,
          icewait := (icewait.map (· / 9216000)).getD t.icewait, icewake := (icewake.map (· / 9216000)).getD t.icewake,
          auto := (iceauto.map (· == 1)).getD t.auto, ecost := (ecost.map fun x => tabSet ecostDef t.ecost x.1 x.2).getD t.ecost }) s) ∧
    (s.dev.therm.istate = 0 → s.dev.therm.enterReq = false →
      AnswersOkS (.enterIce r false) r (fun d => [iceLine d]) iceEnter s ∧
      exec (.enterIce r true) s = after s (settle (iceEnter (bwait r (.other 3) (thermMod (fun t => { t with waitIn := t.waitIn ++ [(r.sid, r.tag)] }) (begun r s.dev)))))) ∧
    (s.dev.therm.istate ≠ 0 →
      AnswersOkS (.leaveIce r false) r (fun d => [iceLine d]) (wakeLatch 1) s ∧
      exec (.leaveIce r true) s = after s (settle (wakeLatch 1 (bwait r (.other 4) (thermMod (fun t => { t with waitOut := t.waitOut ++ [(r.sid, r.tag)] }) (begun r s.dev)))))) ∧
    (s.dev.ledger.forced = false → ∀ maxreplay mirror peer serve ttl mirto, maxreplay.getD 0 < 16 → (peer.getD none).getD 0 < 65536 → serve.getD 0 < 2 →
      ttl.getD 0 % 9216000 = 0 → ttl.getD 0 / 9216000 < 4294967296 → within (mirto.getD 92160) 92160 92160000 = true →
      AnswersOk (.setLedger r maxreplay mirror peer serve ttl mirto) r none' (mirrorSetup fun g => { g with
        maxReplay := maxreplay.getD g.maxReplay, mirrorOn := mirror.getD g.mirrorOn, serve := (serve.map (· == 1)).getD g.serve,
        peerV := (peer.map (·.isSome)).getD g.peerV, peer := (peer.getD none).getD g.peer, orphTtl := (ttl.map (· / 9216000)).getD g.orphTtl,
        mirTo := mirto.getD g.mirTo }) s) ∧
    (uready 97 s.dev = true → s.dev.ledger.peerV = true → s.dev.ledger.fetchDue = none →
      AnswersOk (.fetchLedgerMirror r false) r none' (fetchStart none) s ∧
      exec (.fetchLedgerMirror r true) s = after s (fetchStart (some (r.sid, r.tag)) (bwait r (.other 5) (begun r s.dev)))) ∧
    (s.dev.ferry.run = false →
      (∀ ring index stops slots next revb hold : Nat, ring < 256 → index < 65536 → 1 ≤ stops → stops ≤ 65536 → 1 ≤ slots → slots ≤ 4096 → next < 65536 → index < stops →
        revb < 4294967296 → hold < 4294967296 →
        AnswersOk (.setFerry r (some ring) (some index) (some stops) (some slots) (some next) (some revb) (some hold)) r none' (ferryMod fun f => { f with
          ring := ring, index := index, nstop := stops, nslot := slots, next := next, revb := BitVec.ofNat 32 revb, hold := BitVec.ofNat 32 hold }) s) ∧
      (∀ k n a l, k < 256 → n < 4096 → a % 4096 = 0 → 1 ≤ l → l ≤ 16777216 → a + l ≤ sessBase s.dev →
        AnswersOk (.setFerryOwn r k n a l) r none' (ferryOwnSet k { valid := true, slot := n, addr := a, len := l }) s) ∧
      (uready 96 s.dev = true → AnswersOkS (.startFerry r) r (fun d => [ferryLine d]) ferryStart s)) ∧
    AnswersOkS (.stopFerry r) r (fun d => [ferryLine d]) ferryStop s

/-- The lines of the unit, link and key nouns: a request the Directory accepts is pending and answered at once or, with `wait`, at its end; the
link's encryption setting and keys take what the line names, and a line whose request is refused changes nothing. -/
def Sys2Proof.Claims.UnitAndLinkLines : Prop :=
  ∀ (s : State) (r : BRef), Taken r s.dev → DirFree s.dev →
    (∀ (a n g : Nat) (wait : Bool),
      let q : UReq := { path := .bipol r.sid r.tag wait, unit := n, act := a, gen := g }
      let d := requested q (begun r s.dev)
      dirCheck q s.dev = .accepted →
      (a = 1 → exec (.onUnit r n (some g) wait) s = after s (settle (if wait then bwait r (.unit n) d else ok r [unitListLine n d] d))) ∧
      (a = 2 → exec (.offUnit r n (some g) wait) s = after s (settle (if wait then bwait r (.unit n) d else ok r [unitListLine n d] d))) ∧
      (a = 3 → exec (.resetUnit r n (some g) wait) s = after s (settle (if wait then bwait r (.unit n) d else ok r [unitListLine n d] d)))) ∧
    (∀ (j g : Nat) (enc wait : Bool), j < 64 → linkHere j s.dev = true →
      let q := fun (a : Nat) => ({ path := .bipol r.sid r.tag wait, unit := 32 + j, act := a, gen := g } : UReq)
      (dirCheck (q 1) s.dev ≠ .accepted → dirCheck (q 1) s.dev ≠ .done →
        exec (.upLink r j (some enc) (some g) wait) s =
          after s (settle (err r (resultWord (dirCheck (q 1) s.dev)) [unitHead (32 + j) (begun r s.dev)] (begun r s.dev)))) ∧
      (dirCheck (q 1) s.dev = .accepted →
        let d := requested (q 1) (jlinkMod j (fun l => { l with encCfg := enc }) (begun r s.dev))
        exec (.upLink r j (some enc) (some g) wait) s = after s (settle (if wait then bwait r (.unit (32 + j)) d else ok r [unitListLine (32 + j) d] d))) ∧
      (dirCheck (q 2) s.dev = .accepted →
        let d := requested (q 2) (begun r s.dev)
        exec (.downLink r j (some g) wait) s = after s (settle (if wait then bwait r (.unit (32 + j)) d else ok r [unitListLine (32 + j) d] d)))) ∧
    (∀ j k, j < 64 → k < 2 → linkHere j s.dev = true → r.sid < 2 →
      (∀ k0 k1 k2 k3, AnswersOk (.keyLinkSlot r j k k0 k1 k2 k3) r none' (fun d =>
        foldSt [(0, k0 % 2 ^ 32), (1, k0 / 2 ^ 32), (2, k1 % 2 ^ 32), (3, k1 / 2 ^ 32), (4, k2 % 2 ^ 32), (5, k2 / 2 ^ 32), (6, k3 % 2 ^ 32), (7, k3 / 2 ^ 32)]
          (fun x => keyWordWrite j k x.1 (BitVec.ofNat 32 x.2)) d) s) ∧
      AnswersOk (.keyLinkClear r j k) r none' (keyClear j k) s ∧
      AnswersOkS (.keyLinkUse r j k) r none' (keyUse j k) s)

/-- The lines of the audio noun set exactly what they name. -/
def Sys2Proof.Claims.AudioLinesSet : Prop :=
  ∀ (s : State) (r : BRef), Taken r s.dev → wellHere s.dev = true →
    (∀ rate flen mic stream, rate < 4 → flen < 2 → mic < 8 → stream < 4096 →
      AnswersOk (.setAudio r (some rate) (some flen) none (some mic) (some stream)) r none'
        (fun d => lmicWrite mic (wellMod (fun w => { w with rate := rate, flen := flen, stream := stream }) d)) s) ∧
    (∀ l, listenOk l s.dev = true → AnswersOk (.setAudio r none none (some l) none none) r none'
      (fun d => listenWrite l (lmicWrite d.well.lmic (wellForm d.well.rate d.well.flen d.well.stream d))) s) ∧
    (∀ n gain bias, n < 8 → gain ≤ 28 → bias < 3 →
      AnswersOk (.setAudioIn r n (some (15 * gain)) (some bias)) r none' (wellMod fun w => wInSet n { wIn n w with gain := gain, bias := bias } w) s) ∧
    (∀ v on, v ≤ 10 →
      AnswersOk (.setAudioBias r false (some (18 + v)) (some on)) r none' (wellMod fun w => { w with supA := wSupplyWrite v on w.supA }) s ∧
      AnswersOk (.setAudioBias r true (some (18 + v)) (some on)) r none' (wellMod fun w => { w with supB := wSupplyWrite v on w.supB }) s) ∧
    (∀ c n, c < 8 → n < 8 →
      AnswersOk (.setAudioChan r c (some n)) r none' (wellMod fun w => wPower (now s.dev) { w with map := tabSet (fun _ => {}) w.map c { en := true, inp := n } }) s ∧
      AnswersOk (.setAudioChan r c none) r none' (fun d => wellMapSet c { wMap c d.well with en := false } d) s) ∧
    (∀ ethr zmin zmax ntrig hang, ethr < 4294967296 → zmin < 256 → zmax < 256 → 1 ≤ ntrig → ntrig ≤ 15 → 1 ≤ hang → hang ≤ 255 →
      AnswersOk (.setAudioSeep r (some ethr) (some zmin) (some zmax) (some ntrig) (some hang)) r none'
        (fun d => wellSet { d.well with ethr := ethr, zmin := zmin, zmax := zmax, ntrig := ntrig, hang := hang } d) s) ∧
    (∀ thr time whang us, thr < 4294967296 → 1 ≤ time → time ≤ 255 → whang < 65536 → 1000 ≤ us → us ≤ 1000000 →
      AnswersOk (.setAudioRipple r (some thr) (some time) (some whang) (some (9216 * us))) r none'
        (fun d => wellSet { d.well with rthr := BitVec.ofNat 32 thr, rtime := time, whang := whang, openttl := us } d) s) ∧
    (∀ n wait, n < 64 → DirFree s.dev → (let i := imageOf (.image n) (begun r s.dev); loadCheck 30 0 0 i.1 i.2 (begun r s.dev) = none) → uready 99 s.dev = true →
      let q : UReq := { path := .load, unit := 30, act := 4, gen := ugen 30 s.dev }
      dirCheck q s.dev = .accepted →
      exec (.setAudioPack r n wait) s = after s (requested q (loadAnswer r 30 0 0 wait
        (loadAdd { unit := 30, slot := 0, cores := 0, left := 1, image := imgPayload (imageOf (.image n) (begun r s.dev)).1, upd := true, sid := r.sid, tag := r.tag, wait := wait }
          (begun r s.dev))))) ∧
    (s.dev.well.gate = false → exec (.setAudioDrain r) s = after s (err r "denied" [audioLine (raise 30 2 (begun r s.dev))] (raise 30 2 (begun r s.dev)))) ∧
    (s.dev.well.gate = true → AnswersOk (.setAudioDrain r) r none' id s) ∧
    AnswersOk (.forgetAudio r) r none' (wellMod fun w => match w.lstate with | .awake | .opened => toSeep (now s.dev) (zeroise w) | _ => zeroise w) s

/-- The mode lines change the session's mode, check codes and line counter, or the UART's rate once the `ok` line has left. -/
def Sys2Proof.Claims.ModeLines : Prop :=
  ∀ (s : State) (r : BRef), Taken r s.dev →
    let x := sess r.sid (begun r s.dev)
    ((sess r.sid s.dev).outst = [] → r.sid < 2 → ∀ crc, ∃ ls, exec (.modeMachine r crc) s =
      after s (say r.sid ls (sessSet r.sid { x with machine := true, crc := crc, lines := if x.machine then x.lines else 0 } (begun r s.dev)))) ∧
    ((sess r.sid s.dev).outst = [] → r.sid = 0 → ∃ ls, exec (.modeTyped r) s =
      after s (say 0 ls (sessSet 0 { x with machine := false, crc := false, lines := if x.machine then 0 else x.lines } (begun r s.dev)))) ∧
    ((∃ o ∈ (sess r.sid s.dev).outst, o.tag ≠ r.tag) → r.sid < 2 → (∀ crc, Fails (.modeMachine r crc) r "busy" s) ∧ (r.sid = 0 → Fails (.modeTyped r) r "busy" s)) ∧
    (r.sid ≠ 0 → Fails (.modeTyped r) r "denied" s) ∧ (2 ≤ r.sid → ∀ crc, Fails (.modeMachine r crc) r "denied" s) ∧
    (∀ n, bauds.contains n = true → r.sid = 0 → ∃ l t, respLines r (some r.tag) none [] (begun r s.dev) = l :: t ∧
      exec (.modeBaud r n) s = after s (say 0 ({ l with baud := some n } :: t) (begun r s.dev)))

namespace Sys2Proof.Claims

/-- A firmware line that starts a write: the store takes it now, and the line is answered now or, with `wait`, at its end. -/
abbrev WriteStarts (i : Instr) (r : BRef) (wait : Bool) (f : Option (Nat × String) → Dev → Dev) (s : State) : Prop :=
  exec i s = after s (if wait then f (some (r.sid, r.tag)) (bwait r (.other 6) (begun r s.dev)) else ok r [] (f none (begun r s.dev)))

end Sys2Proof.Claims

/-- The firmware lines: an image or CONFIG record that passes its checks is written to the copy or slot not in use, a selection makes the other
copy ACTIVE, and `accept` ends Guarded and raises the version floors. -/
def Obligations.FirmwareLines : Prop :=
  ∀ (s : State) (r : BRef), Taken r s.dev → uready 99 s.dev = true → r.sid < 2 →
    let d := begun r s.dev
    (∀ (kernel : Bool) (a : Nat) (wait : Bool),
      let t := if kernel then 2 else 1
      let x := if kernel then d.boot.bst.kern else d.boot.bst.shore
      let slot := if x.activeB then 0 else 1
      let b := (imageMere a d).1
      inStage a d = true → firmCheck [t] b (imageMere a d).2 d = none → b.length ≤ (fwSlot t slot).2 → (d.boot.guarded && x.trial) = false →
      nvKindBusy (3 + t) d = false →
      let ops := erasesOf (fwSlot t slot).1 b.length ++ pagesOf (b.length / 256 + 1) (fwSlot t slot).1 b
      WriteStarts (.loadFirmwareSlot r kernel a wait) r wait (fun w => nvAdd { kind := 3 + t, slot := slot, ops := ops, wait := w }) s) ∧
    (∀ (n a o : Nat) (wait : Bool),
      let b := (imageMere a d).1
      let copyB := match dirActive n d with | some e => !e.copyB | none => false
      n < 64 → inStage a d = true → firmCheck [3, 4] b (imageMere a d).2 d = none → nvKindBusy 6 d = false →
      placeIn (flashSize - storeBase) ((b.length + 65535) / 65536 * 65536) (storeUsed d) = some o →
      let ops := erasesOf (storeBase + o) b.length ++ pagesOf (b.length / 256 + 1) (storeBase + o) b
      let ent : DirEnt := { n := n, copyB := copyB, hbm := false, addr := storeBase + o, len := b.length, active := true }
      WriteStarts (.loadFirmwareImage r n false a wait) r wait (fun w => nvAdd { kind := 6, slot := b2n copyB, ops := ops, fin := .imageEnt ent, wait := w }) s) ∧
    (∀ (n a : Nat) (wait : Bool),
      let i := readImage (fun x => hbmByte x d) a (sessBase d)
      n < 64 → a < sessBase d → firmCheck [3, 4] i.1 i.2 d = none → nvKindBusy 6 d = false →
      let keep := d.boot.dir.filterMap fun e => if e.n ≠ n then some e else if e.active then some { e with active := false } else none
      let copyB := match dirActive n d with | some e => !e.copyB | none => false
      let ent : DirEnt := { n := n, copyB := copyB, hbm := true, addr := a, len := i.1.length, active := true }
      AnswersOk (.loadFirmwareImage r n true a wait) r none' (bootMod fun y => { y with dir := keep ++ [ent] }) s) ∧
    (∀ (a len : Nat) (wait : Bool),
      let b := readRun (fun x => mereByte x d) a len
      inStage a d = true → a + len ≤ stageEnd a → len ≤ 0x80000 - 256 → b.2 = false → cfgOk b.1 = true → nvKindBusy 3 d = false →
      WriteStarts (.loadFirmwareConfig r a len wait) r wait (fun w => recWrite 3 b.1 w) s) ∧
    (∀ toB, (slotImage 1 (b2n toB) d).2 = none → AnswersOk (.selectFirmwareSlot r false toB) r none' (fun d =>
      recWrite 0 (bstBytes { d.boot.bst with shore := { activeB := toB } }) none (bootMod (fun y => { y with bst := { y.bst with shore := { activeB := toB } } }) d)) s) ∧
    (∀ toB, (slotImage 2 (b2n toB) d).2 = none → AnswersOk (.selectFirmwareSlot r true toB) r none' (fun d =>
      recWrite 0 (bstBytes { d.boot.bst with kern := { activeB := toB } }) none (bootMod (fun y => { y with bst := { y.bst with kern := { activeB := toB } } }) d)) s) ∧
    (∀ n toB e, n < 64 → (d.boot.dir.find? fun e => e.n == n && e.copyB == toB) = some e →
      firmCheck [3, 4] (imageEnt e d).1 (imageEnt e d).2 d = none →
      let dir := d.boot.dir.map fun x => if x.n = n then { x with active := x.copyB == toB } else x
      AnswersOk (.selectFirmwareImage r n toB) r none' (fun d => recWrite 1 (dirBytes dir) none (bootMod (fun y => { y with dir := dir }) d)) s) ∧
    (s.dev.boot.guarded = false → AnswersOk (.acceptFirmware r) r none' id s) ∧
    (s.dev.boot.guarded = true → ∃ f, AnswersOk (.acceptFirmware r) r none' f s ∧
      (f (begun r s.dev)).boot.guarded = false ∧ (f (begun r s.dev)).boot.reason = 0 ∧ (f (begun r s.dev)).boot.unsealTick = true ∧
      (f (begun r s.dev)).fuse = { s.dev.fuse with
        shoreMin := max s.dev.fuse.shoreMin (imgSvn s.dev.boot.shoreImg),
        kernMin := if s.dev.boot.kernImg.isEmpty then s.dev.fuse.kernMin else max s.dev.fuse.kernMin (imgSvn s.dev.boot.kernImg) })
/-! ### The Unit Directory -/

namespace Sys2Proof.Claims

/-- Table 3-4 for a request through UDIR_REQ, in its order: what action `a` (1 ON, 2 OFF, 3 RESET, 4 UPDATE) for unit `n` with generation `g` is
answered. -/
def udirAnswer (a n g : Nat) (d : Dev) : UResult :=
  let e := uent n d
  if uAssigned n = false then .range
  else if uPresent d.fuse.variant n = false then .absent
  else if a = 4 ∨ dataReq n = false ∨ e.state = .ice then .denied
  else if g ≠ e.gen.toNat then .stale
  else if e.pend ≠ none ∨ e.state = .waking ∨ e.state = .updating ∨ e.state = .draining then .busy
  else if (a = 1 ∧ e.state = .ready) ∨ (a = 2 ∧ e.state = .off) then .done
  else if (a = 1 ∧ e.state = .off) ∨ (a ≠ 1 ∧ (e.state = .ready ∨ e.state = .faulted)) then .accepted
  else .range

/-- The block after such a request in a tick in which none has been accepted: an accepted one is pending, and UDIR_RESP takes the result, the
generation, the state and the tag. -/
def udirDone (a n g t : Nat) (d : Dev) : Dev :=
  let q : UReq := { path := .udir t, unit := n, act := a, gen := g }
  let r := udirAnswer a n g d
  let d := if r = .accepted then requested q d else d
  { d with udir := { d.udir with resp := BitVec.ofNat 32 (65536 * ugen n d + 4096 * t + 256 * (ustate n d).code + 16 * r.code) } }

end Sys2Proof.Claims

/-- A request through UDIR_REQ is answered by the first check of Table 3-4 that fails, and done or accepted where none does. -/
def Sys2Proof.Claims.UdirRequests : Prop :=
  ∀ (s : State) (n g t : Nat), Runs s → HostFree s → First s → DirFree s.dev → n < 128 → g < 65536 → t < 16 →
    let d := alone s.dev
    exec (.udirOn n g t) s = after s (alone (settle (udirDone 1 n g t d))) ∧
    exec (.udirOff n g t) s = after s (alone (settle (udirDone 2 n g t d))) ∧
    exec (.udirReset n g t) s = after s (alone (settle (udirDone 3 n g t d))) ∧
    exec (.udirUpdate n g t) s = after s (alone (settle (udirDone 4 n g t d)))

/-- In a tick in which a request has been accepted, a further one that passes every check waits, as does any with a Shore agent's request behind it in
its tick; it is evaluated afresh later, and then is pending if it still passes. -/
def Sys2Proof.Claims.SecondRequestWaits : Prop :=
  ∀ (s : State) (n g t : Nat), Runs s → n < 128 → g < 65536 → t < 16 →
    let d := alone s.dev
    let kept := fun (a : Nat) => ({ d with udir := { d.udir with waiting := d.udir.waiting ++ [{ path := .udir t, unit := n, act := a, gen := g }] } } : Dev)
    (HostFree s → First s → s.dev.udir.taken = true → udirAnswer 3 n g s.dev = .accepted → exec (.udirReset n g t) s = after s (alone (settle (kept 3)))) ∧
    (HostFree s → askBehind s = true →
      exec (.udirOn n g t) s = after s (alone (settle (kept 1))) ∧ exec (.udirOff n g t) s = after s (alone (settle (kept 2))) ∧
      exec (.udirReset n g t) s = after s (alone (settle (kept 3))) ∧ exec (.udirUpdate n g t) s = after s (alone (settle (kept 4)))) ∧
    (s.dev.udir.taken = false → s.dev.udir.waiting = [{ path := .udir t, unit := n, act := 3, gen := g }] →
      exec .udirRequestRetry s = after s (settle (udirDone 3 n g t { s.dev with udir := { s.dev.udir with waiting := [] } })))

/-- What an acknowledged transition does: the unit moves as Table 3-3 says, with the cause of its requester; a unit whose drain or load has ended goes
where that leads. -/
def Sys2Proof.Claims.UnitAckMoves : Prop :=
  ∀ (s : State) (n : Nat) (w : UPath), Runs s → (uent n s.dev).who = some w →
    let e := uent n s.dev
    let c := causeOf w
    (e.pend = some .on ∨ e.pend = some .exit ∨ (e.pend = some .reset ∧ e.state = .faulted) →
      exec (.unitAck n) s = after s (settle (moveTo n .waking c none s.dev))) ∧
    (e.state = .ready → ∀ a, a = .off ∨ a = .reset ∨ a = .ice ∨ a = .update → e.pend = some a →
      exec (.unitAck n) s = after s (settle (moveTo n .draining c (some a) s.dev))) ∧
    (e.state = .faulted → e.pend = some .off → exec (.unitAck n) s = after s (settle (settleWho n (resetInstant n false true (moveTo n .off c none s.dev))))) ∧
    (e.state ≠ .ready → e.pend = some .update → exec (.unitAck n) s = after s (settle (moveTo n .updating c none s.dev))) ∧
    (e.pend = some .abandon → exec (.unitAck n) s = after s (settle (settleWho n (moveTo n .ready c none s.dev)))) ∧
    (e.pend = none → ∀ v, e.leaving = some v →
      (e.state = .draining → exec (.unitAck n) s = after s (settle (leaveDrain n v s.dev))) ∧
      (e.state = .updating → exec (.unitAck n) s = after s (settle (moveTo n .waking v none s.dev)))) ∧
    (e.pend = none → e.leaving = none → exec (.unitAck n) s = after s (settle s.dev))

/-- A move changes the entry of its unit alone: the new state, the generation one on, the cause, nothing pending, the target, and the end of the
bound of the state that has one; CHANGE of UDIR is set, with the unit's bit of the change map, and FAULT for a move to FAULTED. (A Siphon
that becomes READY with stopped jobs reports them besides, 14 R305: not stated here.) -/
def Sys2Proof.Claims.MovesAdvanceTheGeneration : Prop :=
  ∀ (n : Nat) (st : UState) (c : Cause) (t : Option UAct) (d : Dev), (n = 25 → st = .ready → d.siph.stopped = []) →
    let d' := moveTo n st c t d
    (uent n d').state = st ∧ (uent n d').gen = (uent n d).gen + 1 ∧ (uent n d').cause = c ∧ (uent n d').pend = none ∧ (uent n d').leaving = none ∧ (uent n d').target = t ∧
    (uent n d').who = (uent n d).who ∧ (st = .draining → (uent n d').drainEnd = now d + drainBound n d) ∧ (st = .waking → (uent n d').wakeEnd = now d + wakeBound n d) ∧
    (∀ k, k ≠ n → uent k d' = uent k d) ∧ tabGet (fun _ => false) d'.udir.chgmap n = true ∧
    (noteGet 0 d').bits.getLsbD 0 = true ∧ (st = .faulted → (noteGet 0 d').bits.getLsbD 1 = true)

/-- The bounds of the Directory: an acknowledgement, a drain or a wake that is overdue ends as the rules say, with cause `bound`; before its bound
nothing happens. At the end of its drain the unit acknowledges what follows at once, or has four ticks for it (the model's choice which, log entry 61). -/
def Sys2Proof.Claims.DirectoryBounds : Prop :=
  ∀ (s : State) (n : Nat), Runs s →
    let e := uent n s.dev
    let leaves := fun (c : Cause) => uentSet n { e with leaving := some c, ackBy := s.dev.tickN + 4 } s.dev
    (e.pend ≠ none ∨ e.leaving ≠ none → e.ackBy ≤ s.dev.tickN → exec (.ackBoundExpiry n) s = after s (settle (toFaulted n .bound false s.dev))) ∧
    (s.dev.tickN < e.ackBy → exec (.ackBoundExpiry n) s = after s (settle s.dev)) ∧
    (e.pend = none → e.leaving = none → exec (.ackBoundExpiry n) s = after s (settle s.dev)) ∧
    (e.state = .draining → e.pend = none → e.leaving = none →
      exec (.drainComplete n true) s = after s (settle (leaveDrain n e.cause s.dev)) ∧ exec (.drainComplete n false) s = after s (settle (leaves e.cause)) ∧
      (e.drainEnd < now s.dev + s.dev.clk.gu →
        exec (.drainBoundExpiry n true) s = after s (settle (leaveDrain n .bound s.dev)) ∧ exec (.drainBoundExpiry n false) s = after s (settle (leaves .bound))) ∧
      (∀ ack, now s.dev + s.dev.clk.gu ≤ e.drainEnd → exec (.drainBoundExpiry n ack) s = after s (settle s.dev))) ∧
    (e.state = .waking →
      ((n < 32 ∨ 96 ≤ n ∨ (jlink (n - 32) s.dev).st = .up) → exec (.wakeComplete n) s = after s (settle (settleWho n (moveTo n .ready e.cause none s.dev)))) ∧
      (wakeBound n s.dev ≠ 0 → e.wakeEnd < now s.dev + s.dev.clk.gu → exec (.wakeBoundExpiry n) s = after s (settle (toFaulted n .bound true s.dev))))

/-- A unit that leaves DRAINING goes where the accepted request sends it, at its reset instant. -/
def Sys2Proof.Claims.DrainsEndAtTheirTarget : Prop :=
  ∀ (n : Nat) (c : Cause) (d : Dev),
    ((uent n d).target = some .off → leaveDrain n c d = settleWho n (resetInstant n false true (moveTo n .off c none d))) ∧
    ((uent n d).target = some .reset → leaveDrain n c d = resetInstant n false false (moveTo n .waking c none d)) ∧
    ((uent n d).target = some .update → leaveDrain n c d = resetInstant n false false (moveTo n .updating c none d)) ∧
    ((uent n d).target = some .ice → leaveDrain n c d = settleWho n (resetInstant n true false (moveTo n .ice c none d)))

/-- An uncorrectable fault takes a READY, DRAINING or WAKING unit to FAULTED, whatever its target; a load of an UPDATING unit that completes lets it
wake, and one that fails faults it. -/
def Sys2Proof.Claims.FaultsAndUpdates : Prop :=
  ∀ (s : State) (n : Nat), Runs s →
    (ustate n s.dev = .ready ∨ ustate n s.dev = .draining ∨ ustate n s.dev = .waking → exec (.unitFault n) s = after s (settle (toFaulted n .fault false s.dev))) ∧
    (ustate n s.dev = .updating → (uent n s.dev).leaving = none → updJob n s.dev = none →
      exec (.loadComplete n true) s = after s (settle (moveTo n .waking (uent n s.dev).cause none s.dev)) ∧
      exec (.loadComplete n false) s =
        after s (settle (uentSet n { uent n s.dev with leaving := some (uent n s.dev).cause, ackBy := s.dev.tickN + 4 } s.dev)) ∧
      exec (.loadFail n) s = after s (settle (toFaulted n .fault false s.dev))) ∧
    (ustate n s.dev = .updating → (uent n s.dev).leaving = none → ∀ j d, updJob n s.dev = some j → jobInstall j (2 ^ jobBit j n) s.dev = some d → ustate n d = .updating →
      let d := jobSwap j { j with left := j.left - 2 ^ jobBit j n } d
      exec (.loadComplete n true) s = after s (settle (moveTo n .waking (uent n d).cause none d))) ∧
    (∀ u k j d, s.dev.loads.find? (fun j => j.unit == u && j.slot == k && !j.upd) = some j → (∀ m ∈ loadUnits u j.cores, userves m s.dev = true) →
      jobInstall j j.cores s.dev = some d → exec (.slotLoadComplete u k) s = after s (jobDone j d))
/-! ### Registers, notices and messages (02) -/

namespace Sys2Proof.Claims

/-- The two halves of the Gauge. -/
def gaugeLow (d : Dev) : W32 := BitVec.ofNat 32 d.gauge.toNat
def gaugeHigh (d : Dev) : W32 := BitVec.ofNat 32 (d.gauge.toNat / 4294967296)

/-- The block as a host write finds it: with what stands behind it in its tick. -/
def placed (s : State) : Dev := behind (shoreBehind s) (askBehind s) (uartBehind s) (lineBehind s) s.dev

/-- Requester `q` holds the upper half of the Gauge. -/
def latched (q : Nat) (d : Dev) : Dev := { d with hold := tabSet (fun _ => 0) d.hold q (gaugeHigh d) }

/-- A message of `v` leaves at once: MSI-X is enabled, mastering is on and neither the function nor the vector is masked. -/
abbrev Sends (v : Nat) (d : Dev) : Prop :=
  v < 2048 ∧ d.host.msixEn = true ∧ d.host.fnMask = false ∧ d.host.bme = true ∧ d.host.d3 = false ∧
  (tabGet vecDef d.host.vecTab (4 * v + 3)).getLsbD 0 = false

end Sys2Proof.Claims

/-- GLB_GAUGE_LO reads the live low half and latches the high half for its requester; an 8-byte read returns both halves of one tick; GLB_GAUGE_HI reads the half
its requester last latched, 0 where none has been since reset. -/
def Obligations.GaugeReadsLatch : Prop :=
  ∀ (s : State) (q : Nat) (w : Bool), Runs s →
    let hi := fun (q : Nat) => tabGet (fun _ => (0 : W32)) s.dev.hold q
    (q ≠ 0 →
      exec (.gaugeLoRead q false false) s = after s (emit (.regs [gaugeLow s.dev]) (latched q s.dev)) ∧
      exec (.gaugeLoRead q true false) s = after s (emit (.regs [gaugeLow s.dev, gaugeHigh s.dev]) (latched q s.dev)) ∧
      exec (.gaugeLoRead q w true) s = after s (emit (.regs [hi q]) s.dev)) ∧
    (hostReaches s.dev = true → HostFree s →
      exec (.gaugeLoRead 0 false false) s = after s (emit (.regs [gaugeLow s.dev]) (latched 0 s.dev)) ∧
      exec (.gaugeLoRead 0 true false) s = after s (emit (.regs [gaugeLow s.dev, gaugeHigh s.dev]) (latched 0 s.dev)) ∧
      exec (.gaugeLoRead 0 w true) s = after s (emit (.regs [hi 0]) s.dev) ∧
      (∀ i n : Nat, 0 < n → i + n ≤ 4 → exec (.rcFieldRead (12 + i) n) s = after s (emit (.regs [hi 0]) s.dev))) ∧
    tabGet (fun _ => (0 : W32)) State.reset.dev.hold q = 0

/-- A host read within one register returns that register whole with its read side effects; an unassigned one reads zero and is counted; GLB_BADACC
itself reads what it counted before this tick and keeps this tick's. -/
def Sys2Proof.Claims.HostReadsOneRegister : Prop :=
  ∀ (s : State) (a n : Nat), Runs s → hostReaches s.dev = true → HostFree s → 0 < n → a % 4 + n ≤ 4 → a < 0x4000000 →
    (∀ v d, regRead (a / 4 * 4) s.dev = some (v, d) →
      exec (.rcFieldRead a n) s = after s (emit (.regs [BitVec.ofNat 32 v]) d) ∧ exec (.unassignedRead a n) s = after s (emit (.regs [BitVec.ofNat 32 v]) d)) ∧
    (regRead (a / 4 * 4) s.dev = none →
      let c := ctrGet kBadacc s.dev
      exec (.unassignedRead a n) s = after s (emit (.regs [0]) (ctrSet kBadacc { c with fresh := c.fresh + 1 } s.dev)) ∧
      exec (.rcFieldRead a n) s = after s (emit (.regs [0]) (ctrSet kBadacc { c with fresh := c.fresh + 1 } s.dev))) ∧
    (0x1420000 ≤ a → regRead (a / 4 * 4) s.dev = none) ∧
    (a / 4 * 4 = 0x10 →
      let c := ctrGet kBadacc s.dev
      exec (.rcFieldRead a n) s = after s (emit (.regs [BitVec.ofNat 32 (min 65535 c.old)]) (ctrSet kBadacc { c with old := 0 } s.dev)))

/-- The device takes an aligned 4-byte write with every byte enabled, and an aligned 8-byte one as two in order; an unassigned half is ignored and
counted; every other write is discarded whole and counted once. -/
def Sys2Proof.Claims.HostWrites : Prop :=
  ∀ (s : State) (a n be v : Nat), Runs s → hostReaches s.dev = true → HostFree s → 0 < n → a + n ≤ 0x4000000 →
    let one := fun (a v : Nat) (d : Dev) => match regWrite a v d with | some d => d | none => bumpBy kBadacc 1 d
    (n = 4 → a % 4 = 0 → be = 15 → v < 2 ^ 32 → exec (.registerWrite a n be v) s = after s (alone (settle (one a v (placed s))))) ∧
    (n = 8 → a % 8 = 0 → be = 255 → v < 2 ^ 64 →
      exec (.registerWrite a n be v) s = after s (alone (settle (one (a + 4) (v / 2 ^ 32) (one a (v % 2 ^ 32) (placed s)))))) ∧
    (¬ (n = 4 ∧ a % 4 = 0 ∧ be % 16 = 15) → ¬ (n = 8 ∧ a % 8 = 0 ∧ be % 256 = 255) →
      exec (.registerWrite a n be v) s = after s (alone (bumpBy kBadacc 1 s.dev))) ∧
    (0x1420000 ≤ a → regWrite a v s.dev = none)

/-- Host accesses take effect in the order of their receipt: while one received before has not taken effect, every later read, write and memory access of the host
waits behind it; those that wait take effect in order, up to one that must wait again. -/
def Sys2Proof.Claims.AccessesKeepOrder : Prop :=
  (∀ (s : State) (a n be v bar e g t : Nat) (w p : Bool) (b : Option (List Byte)), Runs s → s.dev.host.acc ≠ [] →
    let waits := fun (i : Instr) (x : HostAcc) => exec i s = after s (hostWait x s.dev)
    let waits' := fun (i : Instr) (x : HostAcc) => exec i s = after s (alone (hostWait x s.dev))
    waits (.gaugeLoRead 0 w false) (.read 8 (if w then 8 else 4)) ∧ waits (.gaugeLoRead 0 w true) (.read 12 4) ∧
    waits (.rcFieldRead a n) (.read a n) ∧ waits (.unassignedRead a n) (.read a n) ∧ waits' (.registerWrite a n be v) (.write a n be v) ∧
    waits (.hostMemoryAccess bar a n b p e) (.mem bar a n b p e) ∧ waits (.imaskWrite n v) (.write (0x110 + 4 * n) 4 15 v) ∧
    waits' (.udirOn n g t) (.write 0x100000 4 15 (udirWord 1 n g t)) ∧ waits' (.udirOff n g t) (.write 0x100000 4 15 (udirWord 2 n g t)) ∧
    waits' (.udirReset n g t) (.write 0x100000 4 15 (udirWord 3 n g t)) ∧ waits' (.udirUpdate n g t) (.write 0x100000 4 15 (udirWord 4 n g t)) ∧
    waits (.ringEnable w n v) (.write ((if w then 0x210008 else 0x310008) + 32 * n) 4 15 v) ∧ waits (.doorbell n v) (.write (0x280000 + 4 * n) 4 15 v) ∧
    waits (.completionHeadWrite n v) (.write (0x380000 + 4 * n) 4 15 v) ∧ waits (.backlogFetch v) (.write 0x30001C 4 15 v) ∧
    waits' (.mailboxCheadWrite v) (.write 0x1300010 4 15 v) ∧ waits (.mailboxRtailWrite v) (.write 0x130001C 4 15 v)) ∧
  (∀ (d : Dev) (x : HostAcc) (xs : List HostAcc), d.host.acc = x :: xs →
    let e := hostAct x { d with host := { d.host with acc := [] } }
    (e.host.acc = [] → accRun d = accRun { e with host := { e.host with acc := xs } }) ∧
    (e.host.acc ≠ [] → accRun d = { e with host := { e.host with acc := e.host.acc ++ xs } }))

/-- A write of GLB_IMASKk stores its 32 mask bits and no other; each bit it clears while that source is pending sends one message. -/
def Sys2Proof.Claims.ImaskWrites : Prop :=
  ∀ (s : State) (k v : Nat), Runs s → hostReaches s.dev = true → HostFree s → k < 4 →
    (∀ i, i < 32 → Sends (512 + 32 * k + i) s.dev) →
    Gives (.imaskWrite k v) s fun d =>
      (∀ i, i < 32 → imaskBit (32 * k + i) d = bitOf v i) ∧
      (∀ n, n < 32 * k ∨ 32 * k + 32 ≤ n → imaskBit n d = imaskBit n s.dev) ∧
      d.out = s.dev.out ++ ((List.range 32).filter fun i => imaskBit (32 * k + i) s.dev && !bitOf v i && isumBit (32 * k + i) s.dev).map (fun i => .msix (512 + (32 * k + i))) ∧
      d = { s.dev with imask := d.imask, out := d.out }

/-- One message: it leaves when its vector is open, waits in the PBA while it is masked, and none exists beyond vector 2047 or while MSI-X is off. -/
def Sys2Proof.Claims.MessagesGoOrWait : Prop :=
  ∀ (v : Nat) (d : Dev),
    (Sends v d → sendMsix v d = { d with out := d.out ++ [.msix v] }) ∧
    (v < 2048 → d.host.msixEn = true → ¬ Sends v d →
      sendMsix v d = { d with host := (sendMsix v d).host } ∧ tabGet (fun _ => false) (sendMsix v d).host.pba v = true ∧
      ∀ w, w ≠ v → tabGet (fun _ => false) (sendMsix v d).host.pba w = tabGet (fun _ => false) d.host.pba w) ∧
    (2048 ≤ v ∨ d.host.msixEn = false → sendMsix v d = d)

/-- An event sets its status bit and counts; it sends its source's message where the bit is enabled and was clear, unless the source is masked, and no
other block of notices moves. -/
def Sys2Proof.Claims.EventsSetAndCount : Prop :=
  ∀ (b i : Nat) (d : Dev), i < 8 →
    let n := noteGet b d
    let fire := n.en.getLsbD i && !n.bits.getLsbD i && !n.msgd.getLsbD i
    let m := noteGet b (raise b i d)
    (∀ j, m.bits.getLsbD j = (n.bits.getLsbD j || j == i)) ∧ m.en = n.en ∧
    (∀ c, c ≠ b → noteGet c (raise b i d) = noteGet c d) ∧
    ctrGet (16 * b + i) (raise b i d) = { ctrGet (16 * b + i) d with fresh := (ctrGet (16 * b + i) d).fresh + 1 } ∧
    (∀ k, k ≠ 16 * b + i → ctrGet k (raise b i d) = ctrGet k d) ∧
    (Sends (512 + noteSrc b) d → tabGet (fun _ => false) d.imask (noteSrc b) = false →
      (raise b i d).out = d.out ++ (if fire then [.msix (512 + noteSrc b)] else [])) ∧
    (tabGet (fun _ => false) d.imask (noteSrc b) = true → (raise b i d).out = d.out) ∧
    -- the counter's own read: the count before this tick's events, which are what it holds after the tick; at most 65,535 shows
    (∀ k, let c := ctrGet k d
      rcnt k d = some (min 65535 c.old, ctrSet k { c with old := 0 } d) ∧ ctrVal 65535 k d = min 65535 (c.old + c.fresh) ∧
      ctrFold { c with old := 0 } = { old := min 0xFFFFFFFF c.fresh, fresh := 0 })

/-- A 1 written clears its status bit, unless the bit was set in this tick: then the set wins. Bits written 0 stay. -/
def Sys2Proof.Claims.ClearsYieldToSets : Prop :=
  ∀ (b : Nat) (m : BitVec 8) (d : Dev),
    (∀ i, i < 8 → (noteGet b (clearBits b m d)).bits.getLsbD i = ((noteGet b d).bits.getLsbD i && (!m.getLsbD i || (noteGet b d).sets.getLsbD i))) ∧
    (noteGet b (clearBits b m d)).en = (noteGet b d).en ∧ (∀ c, c ≠ b → noteGet c (clearBits b m d) = noteGet c d)
/-! ### The host function (05) -/

namespace Sys2Proof.Claims

/-- The block with another host side. -/
def withHost (f : HostLink → HostLink) (d : Dev) : Dev := { d with host := f d.host }

/-- An area of Mere that a host write does not reach: firmware, the batch areas of the cores there are, and the program area. -/
abbrev mereProtected (v : Variant) (x : Nat) : Prop :=
  x < 0x400000 ∨ (0x400000 ≤ x ∧ x < 0x400000 + 0x100000 * nBasin v) ∨ (0xC00000 ≤ x ∧ x < 0x6000000)

/-- The host side as a reset leaves it: every ring disabled, MSI-X, mastering, BAR4 and the configuration space at reset; `under`, the reset is still under way,
with its bound; `up`, the link stays up; `sticky`, the sticky bits of the configuration space stay (log entry 15, PRESUMED). The backlog's last ring and
PERST_n keep their values. -/
def hostAtReset (under up sticky : Bool) (d : Dev) : HostLink :=
  let h := d.host
  { linkUp := h.linkUp && up, fnReset := under, perst := h.perst, lastFetch := h.lastFetch, fnEra := h.fnEra + 1, admitted := h.admitted,
    resetBy := if up = true ∧ under = true then now d + 92160000 else 0,
    cfg := if sticky then stickyCfg h.cfg else { rate := h.cfg.rate, width := h.cfg.width } }

/-- The two windows' notices and counters at reset. -/
abbrev windowsClear (d : Dev) : Prop :=
  noteGet 1 d = {} ∧ noteGet 2 d = {} ∧ ∀ i, i < 32 → ctrGet (16 + i) d = {}

/-- What a reset of the host function leaves untouched: the Gauge, the Directory, the routes and binds and the tables. -/
abbrev hostResetKeeps (d0 d : Dev) : Prop :=
  d.gauge = d0.gauge ∧ d.udir = d0.udir ∧ d.weir.bind = d0.weir.bind ∧ d.weir.live = d0.weir.live ∧ d.weir.stage = d0.weir.stage ∧
  d.reed = d0.reed ∧ d.shoal = d0.shoal ∧ d.tarn = d0.tarn ∧ d.mere = d0.mere

/-- A pointer, INDEX in bits 15 to 0 and WRAP above it, as a number modulo 2^(l + 1). -/
def place (l p : Nat) : Nat := p % 65536 % 2 ^ l + 2 ^ l * (p / 65536 % 2)

/-- Entries between two pointers of a ring of 2^l entries. -/
def between (l a b : Nat) : Nat := (place l b + 2 ^ (l + 1) - place l a) % 2 ^ (l + 1)

/-- The pointer to the next entry: past the last the index returns to 0 and WRAP toggles. -/
def following (l p : Nat) : Nat := if p % 65536 + 1 < 2 ^ l then p % 131072 + 1 else 65536 * (1 - p / 65536 % 2)

/-- Ring `n` has taken its next descriptor, of index `idx`, which is then in flight: `x` 0, refused, else admitted into record x − 1. -/
def flew (n idx : Nat) (b : List Byte) (x : Nat) (d : Dev) : Dev :=
  let r := subRing n d
  headPass n (subSet n { r with next := following r.log2 r.next, flight := r.flight ++ [(idx, bitOf (fieldLe b 2 1) 2, x)] } d)

/-- A control word of a ring. -/
def ctlWord (en : Bool) (l cq v : Nat) : Nat := b2n en * 2 ^ 31 + l * 2 ^ 24 + cq * 2 ^ 16 + v

end Sys2Proof.Claims

/-- Host reads and writes of Mere and HBM: stored bytes, poison and errors, the areas a write does not reach, and the space beyond the installed
HBM. -/
def Sys2Proof.Claims.HostMemoryReads : Prop :=
  ∀ (s : State) (a n : Nat) (q : Bool), Runs s → hostReaches s.dev = true → HostFree s → 0 < n →
    let poisoned := fun x => tabGet (fun _ => false) s.dev.mere.pois (x / 64)
    (a + n ≤ 2 ^ 27 → userves 24 s.dev = true →
      ((∀ i, i < n → poisoned (a + i) = false) →
        exec (.hostMemoryAccess 2 a n none q 0) s = after s (emit (.mem (memRead 0 s.dev.mere.mem a n) false) s.dev) ∧
        exec (.hostMemoryAccess 2 a n none q 1) s = after s (emit (.mem (memRead 0 s.dev.mere.mem a n) false) (raise 24 0 s.dev))) ∧
      ((∃ i, i < n ∧ poisoned (a + i) = true) →
        Gives (.hostMemoryAccess 2 a n none q 0) s fun d =>
          ∃ bs : List Byte, bs.length = n ∧ d.out = s.dev.out ++ [.mem bs true] ∧ d = { s.dev with out := d.out, freeCtr := d.freeCtr }) ∧
      Gives (.hostMemoryAccess 2 a n none q 2) s fun d =>
        d.mere.ueaddr = a / 64 * 64 ∧ tabGet (fun _ => false) d.mere.pois (a / 64) = true ∧ ∃ bs : List Byte, bs.length = n ∧ d.out.getLast? = some (.mem bs true)) ∧
    (a + n ≤ 2 ^ s.dev.host.bar4 → s.dev.therm.istate ≠ 2 →
      (a + n ≤ ovfBase s.dev → (∀ i, i < n → userves (26 + hbmStackOf (a + i) s.dev) s.dev = true ∧ tabGet (fun _ => false) s.dev.hbm.pois ((a + i) / 64) = false) →
        exec (.hostMemoryAccess 4 a n none q 0) s = after s (emit (.mem (memRead 0 s.dev.hbm.mem a n) false) s.dev)) ∧
      (hbmBytes s.dev.fuse.variant ≤ a → exec (.hostMemoryAccess 4 a n none q 0) s = after s (emit (.mem (List.replicate n 0) false) (bumpBy kBadacc 1 s.dev)))) ∧
    (a + n ≤ 2 ^ s.dev.host.bar4 → s.dev.therm.istate = 2 →
      exec (.hostMemoryAccess 4 a n none q 0) s = after s (emit (.mem (List.replicate n 0) false) (bumpBy kBadacc 1 s.dev)))

/-- Host writes of Mere and HBM store every byte, end the poison of the words they reach and touch no other byte; a poisoned write, of the registers too, is discarded whole
and reported; one that reaches a protected area is discarded and counted. -/
def Sys2Proof.Claims.HostMemoryWrites : Prop :=
  ∀ (s : State) (a n e : Nat) (b : List Byte), Runs s → hostReaches s.dev = true → HostFree s → b ≠ [] →
    let put := fun (old : Mem) (x : Nat) => if a ≤ x ∧ x < a + b.length then b.getD (x - a) 0 else memByte 0 old x
    let healed := fun (old : Tab Bool) (w : Nat) => tabGet (fun _ => false) old w && !(decide (a / 64 ≤ w) && decide (w ≤ (a + b.length - 1) / 64))
    (a + b.length ≤ 0x4000000 → exec (.hostMemoryAccess 0 a n (some b) true e) s = after s (aerPoisoned s.dev)) ∧
    (a + b.length ≤ 2 ^ 27 →
      exec (.hostMemoryAccess 2 a n (some b) true e) s = after s (aerPoisoned s.dev) ∧
      ((∃ i, i < b.length ∧ mereProtected s.dev.fuse.variant (a + i)) →
        exec (.hostMemoryAccess 2 a n (some b) false e) s = after s (bumpBy kBadacc 1 s.dev)) ∧
      (userves 24 s.dev = true → (∀ i, i < b.length → ¬ mereProtected s.dev.fuse.variant (a + i)) →
        Gives (.hostMemoryAccess 2 a n (some b) false e) s fun d =>
          d = { s.dev with mere := { s.dev.mere with mem := d.mere.mem, pois := d.mere.pois } } ∧
          (∀ x, memByte 0 d.mere.mem x = put s.dev.mere.mem x) ∧ ∀ w, tabGet (fun _ => false) d.mere.pois w = healed s.dev.mere.pois w)) ∧
    (a + b.length ≤ 2 ^ s.dev.host.bar4 → s.dev.therm.istate ≠ 2 →
      exec (.hostMemoryAccess 4 a n (some b) true e) s = after s (aerPoisoned s.dev) ∧
      (ovfBase s.dev < a + b.length → exec (.hostMemoryAccess 4 a n (some b) false e) s = after s (bumpBy kBadacc 1 s.dev)) ∧
      (a + b.length ≤ ovfBase s.dev → (∀ i, i < b.length → userves (26 + hbmStackOf (a + i) s.dev) s.dev = true) →
        Gives (.hostMemoryAccess 4 a n (some b) false e) s fun d =>
          d = { s.dev with hbm := { s.dev.hbm with mem := d.hbm.mem, pois := d.hbm.pois } } ∧
          (∀ x, memByte 0 d.hbm.mem x = put s.dev.hbm.mem x) ∧ ∀ w, tabGet (fun _ => false) d.hbm.pois w = healed s.dev.hbm.pois w))

/-- Every reset of the host function disables the rings and returns the two windows and the configuration to reset, and leaves the Gauge, the
Directory, the routes and the tables alone; then the Weir goes on with what waits. A release that is under way is cut short at the TLP boundary named first. While
one reset is under way a function-level reset is not taken. -/
def Sys2Proof.Claims.HostFunctionResets : Prop :=
  ∀ s : State, Runs s →
    let leaves := fun (i : Instr) (under up sticky : Bool) (f : Dev → Dev) =>
      ∃ d, exec i s = after s (f (weirSettle d)) ∧ d.host = hostAtReset under up sticky s.dev ∧ windowsClear d ∧ hostResetKeeps s.dev d
    (cfgOpen s.dev = true → leaves (.functionLevelReset none) true true true id) ∧ leaves (.hotReset none) true false false id ∧
    (∀ mid, cfgOpen s.dev = false → exec (.functionLevelReset mid) s = after s s.dev) ∧
    (ballsSeen s.dev = true → leaves (.perstAssert none) true false false (withHost fun h => { h with perst := true })) ∧
    (s.dev.host.d3 = true → cfgOpen s.dev = true → leaves .d3hotToD0 false true true id) ∧
    (∀ mid, (cfgOpen s.dev = true → exec (.functionLevelReset mid) s = after s (hostReset true true true mid s.dev)) ∧
      exec (.hotReset mid) s = after s (hostReset true false false mid s.dev) ∧
      (ballsSeen s.dev = true → exec (.perstAssert mid) s = after s (withHost (fun h => { h with perst := true }) (hostReset true false false mid s.dev)))) ∧
    (∀ l k under up sticky, hostReset under up sticky (some (l, k)) s.dev =
      hostReset under up sticky none (withHost (fun h => { h with stopTlp := none }) (releaseOne l (withHost (fun h => { h with stopTlp := some k }) s.dev)))) ∧
    (ballsSeen s.dev = true → exec .perstDeassert s = after s (withHost (fun h => { h with perst := false }) s.dev)) ∧
    (s.dev.host.fnReset = true → s.dev.host.perst = false →
      ∀ rate width, Gives (.functionResetComplete rate width) s fun d =>
        d.host = { s.dev.host with fnReset := false, linkUp := true, resetBy := 0,
                                   cfg := if s.dev.host.linkUp then s.dev.host.cfg else { s.dev.host.cfg with rate := rate, width := width } } ∧
        windowsClear d ∧ d = { s.dev with host := d.host, note := d.note, ctr := d.ctr })

/-- Power states, mastering, MSI-X control and the BAR4 size: each changes what it names, and messages and entries that waited for it go on. -/
def Sys2Proof.Claims.HostControls : Prop :=
  ∀ s : State, Runs s →
    (cfgOpen s.dev = true →
      exec .d3hotEntry s = after s (withHost (fun h => { h with d3 := true }) s.dev) ∧
      exec .masteringPause s = after s (withHost (fun h => { h with bme := false }) s.dev) ∧
      exec .masteringResume s = after s (outRun (flushPba (withHost (fun h => { h with bme := true }) s.dev)))) ∧
    (∀ k, 30 ≤ k → k ≤ 38 → cfgOpen s.dev = true → exec (.bar4Resize k) s = after s (withHost (fun h => { h with bar4 := k, bar4Base := h.bar4Base - h.bar4Base % 2 ^ k }) s.dev)) ∧
    (∀ k, k < 30 ∨ 38 < k → exec (.bar4Resize k) s = after s s.dev) ∧
    exec .doeAbort s = after s (withHost (fun h => { h with doeOpen := none }) s.dev) ∧
    (∀ v, Sends v s.dev → tabGet (fun _ => false) s.dev.host.pba v = true →
      tabGet (fun _ => false) (flushPba s.dev).host.pba v = false ∧ .msix v ∈ (flushPba s.dev).out.drop s.dev.out.length) ∧
    (cfgOpen s.dev = true → ∀ q : List Byte,
      (fieldLe q 1 1 = 0x84 → exec (.spdmRequest false q) s = after s (emit (.doe 4 [2, 0x12, 0x13]) (withHost (fun h => { h with doeOpen := some [4, 2, 0x12, 0x13] }) s.dev))) ∧
      ((fieldLe q 0 1 = 0x12 ∨ fieldLe q 0 1 = 0x13) → fieldLe q 1 1 = 0xE1 → exec (.spdmRequest false q) s =
        after s (emit (.doe 0x61 [0x16, 0, 0, 0]) (withHost (fun h => { h with doeOpen := some [0x61, 0x16, 0, 0, 0] }) s.dev))) ∧
      (fieldLe q 0 1 ≠ 0x12 → fieldLe q 0 1 ≠ 0x13 → fieldLe q 1 1 ≠ 0x84 → exec (.spdmRequest false q) s =
        after s (emit (.doe 0x7F []) (withHost (fun h => { h with doeOpen := some [0x7F] }) s.dev))) ∧
      (fieldLe q 0 1 = 0 → exec (.spdmRequest true q) s = after s (emit (.doe 0 [1, 0, 0, 1]) (withHost (fun h => { h with doeOpen := some [0, 1, 0, 0, 1] }) s.dev))))

/-- The configuration space: a request is not taken while a reset of the function is under way or the link is down; a read (no byte enabled) returns its doubleword,
with the identity of the part; a write of Message Control, of Bus Master Enable, of the power state and of the BAR4 size does what each of those does. -/
def Sys2Proof.Claims.ConfigurationRequests : Prop :=
  ∀ (s : State) (off be v : Nat), Runs s →
    (cfgOpen s.dev = false → exec (.functionMaskWrite off be v) s = after s s.dev) ∧
    (cfgOpen s.dev = true →
      (be % 16 = 0 → exec (.functionMaskWrite off be v) s = after s (emit (.cfg (cfgRead off s.dev)) s.dev)) ∧
      (v < 2 ^ 32 →
        exec (.functionMaskWrite 0xB0 15 v) s = after s (flushPba (withHost (fun h => { h with msixEn := v.testBit 31, fnMask := v.testBit 30 }) s.dev)) ∧
        (v % 4 = 3 → exec (.functionMaskWrite 0x44 15 v) s = after s (withHost (fun h => { h with d3 := true }) s.dev)) ∧
        (∀ k, 30 ≤ k → k ≤ 38 → v / 256 % 64 = k - 20 → exec (.functionMaskWrite 0x160 15 v) s = exec (.bar4Resize k) s) ∧
        (v.testBit 2 = true → s.dev.host.bme = false → exec (.functionMaskWrite 4 15 v) s = after s (masterOn (cfgStore 4 15 v s.dev))) ∧
        (v.testBit 2 = false → s.dev.host.bme = true → exec (.functionMaskWrite 4 15 v) s = after s (masterOff (cfgStore 4 15 v s.dev))) ∧
        (v.testBit 15 = true → exec (.functionMaskWrite 0x58 15 v) s = after s (fnLevelReset none (cfgStore 0x58 15 v s.dev))))) ∧
    cfgRead 0 s.dev % 65536 = 0x1FD7 ∧
    cfgRead 0 s.dev / 65536 = (match s.dev.fuse.variant with | .hg8 => 0x4808 | .hg4 => 0x4804 | .hg2w => 0x4802) ∧
    cfgRead 8 s.dev / 256 = 0x120000 ∧ cfgRead 0x2C s.dev = s.dev.boot.ssid * 65536 + s.dev.boot.ssvid

/-- A write of a ring's control register: an enable sets head and tail to 0; a refused one leaves ENABLE 0 and is counted; L and CQ of an enabled
ring do not change. -/
def Sys2Proof.Claims.RingsEnable : Prop :=
  ∀ (s : State) (n l c v : Nat) (en : Bool), Runs s → HostFree s → l < 16 → c < 256 → v < 2048 → ¬ (512 ≤ v ∧ v ≤ 639) →
    let r := subRing n s.dev
    let q := cplRing n s.dev
    (r.enable = false →
      (4 ≤ l → (cplRing c s.dev).enable = true → exec (.ringEnable true n (ctlWord true l c v)) s =
        after s (subSet n { r with log2 := l, cq := c, vector := v, enable := true, head := 0, tail := 0, next := 0, stopped := false, flight := [] } s.dev)) ∧
      (l < 4 ∨ (cplRing c s.dev).enable = false → exec (.ringEnable true n (ctlWord true l c v)) s =
        after s (bumpBy kBadacc 1 (subSet n { r with log2 := l, cq := c, vector := v } s.dev))) ∧
      exec (.ringEnable true n (ctlWord false l c v)) s = after s (subSet n { r with log2 := l, cq := c, vector := v } s.dev)) ∧
    (r.enable = true →
      (l ≠ r.log2 ∨ c ≠ r.cq → exec (.ringEnable true n (ctlWord en l c v)) s = after s (bumpBy kBadacc 1 s.dev)) ∧
      (l = r.log2 → c = r.cq → exec (.ringEnable true n (ctlWord true l c v)) s = after s (subSet n { r with vector := v } s.dev) ∧
        exec (.ringEnable true n (ctlWord false l c v)) s = after s (withHost (fun h => { h with retries := h.retries.filter fun x => decide (x.ring ≠ n ∨ x.lidx ≠ 0) })
          (subSet n { r with vector := v, enable := false, stopped := false } s.dev)))) ∧
    (q.enable = false →
      (4 ≤ l → exec (.ringEnable false n (ctlWord true l 0 v)) s =
        after s (cplSet n { q with log2 := l, vector := v, enable := true, head := 0, tail := 0, since := 0, firstAt := 0, held := [], era := q.era + 1 } s.dev)) ∧
      (l < 4 → exec (.ringEnable false n (ctlWord true l 0 v)) s = after s (bumpBy kBadacc 1 (cplSet n { q with log2 := l, vector := v } s.dev)))) ∧
    (q.enable = true → l ≠ q.log2 → exec (.ringEnable false n (ctlWord en l 0 v)) s = after s (bumpBy kBadacc 1 s.dev)) ∧
    (∀ w, 512 ≤ w → w ≤ 639 → exec (.ringEnable true n (ctlWord en l c w)) s = after s (bumpBy kBadacc 1 s.dev))

/-- Doorbells, completion heads, the backlog fetch and the completion timer: taken where the ring is enabled and the pointer lies where it may, else
discarded and counted. -/
def Sys2Proof.Claims.RingPointers : Prop :=
  ∀ (s : State) (n p : Nat), Runs s → HostFree s → p < 131072 →
    let r := subRing n s.dev
    let q := cplRing n s.dev
    (p % 65536 < 2 ^ r.log2 →
      (r.enable = true → between r.log2 r.head r.tail ≤ between r.log2 r.head p → between r.log2 r.head p ≤ 2 ^ r.log2 →
        exec (.doorbell n p) s = after s (wakeLatch 3 (subSet n { r with tail := p } s.dev))) ∧
      (r.enable = false ∨ between r.log2 r.head p < between r.log2 r.head r.tail ∨ 2 ^ r.log2 < between r.log2 r.head p →
        exec (.doorbell n p) s = after s (raise 1 2 s.dev))) ∧
    (∀ v, 2 ^ r.log2 ≤ v % 65536 → exec (.doorbell n v) s = after s (raise 1 2 s.dev)) ∧
    (p % 65536 < 2 ^ q.log2 →
      (q.enable = true → between q.log2 q.head p ≤ between q.log2 q.head q.tail →
        exec (.completionHeadWrite n p) s = after s (fetchRun (heldRun n (cplSet n { q with head := p } s.dev))) ∧
        (q.held = [] → s.dev.host.fetchRing = none → exec (.completionHeadWrite n p) s = after s (cplSet n { q with head := p } s.dev))) ∧
      (q.enable = false ∨ between q.log2 q.head q.tail < between q.log2 q.head p →
        exec (.completionHeadWrite n p) s = after s (raise 2 2 s.dev))) ∧
    (∀ v, 2 ^ q.log2 ≤ v % 65536 → exec (.completionHeadWrite n v) s = after s (raise 2 2 s.dev)) ∧
    (n < 256 → asleep 2 s.dev = false →
      (q.enable = true → s.dev.host.fetchRing = none →
        exec (.backlogFetch (2 ^ 31 + n)) s = after s (fetchRun (withHost (fun h => { h with fetchRing := some n, lastFetch := n }) s.dev))) ∧
      (q.enable = false ∨ s.dev.host.fetchRing ≠ none → exec (.backlogFetch (2 ^ 31 + n)) s = after s (raise 2 2 s.dev)) ∧
      exec (.backlogFetch n) s = after s s.dev) ∧
    (q.time ≠ 0 → q.since ≠ 0 →
      (q.firstAt + q.time * 9216 < now s.dev + s.dev.clk.gu →
        exec (.completionTimerMessage n) s = after s (sendMsix q.vector (cplSet n { q with since := 0, firstAt := 0 } s.dev))) ∧
      (now s.dev + s.dev.clk.gu ≤ q.firstAt + q.time * 9216 → exec (.completionTimerMessage n) s = after s s.dev))

/-- One completion entry: bytes 0 to 123 leave, then bytes 124 to 127 with PHASE, the inverse of the tail's WRAP bit; the tail moves on, and the
message follows where COUNT is reached. -/
def Sys2Proof.Claims.CompletionEntryLeaves : Prop :=
  ∀ (c cf : Nat) (e : List Byte) (d : Dev),
    let q := cplRing c d
    let a := q.baseLo.toNat + 2 ^ 32 * q.baseHi.toNat + 128 * (q.tail % 65536)
    let q' := { q with tail := following q.log2 q.tail, since := q.since + 1, firstAt := if q.since = 0 then d.gauge.toNat else q.firstAt }
    let d' := cplSet c q' { d with out := d.out ++
      [.hostWrite a (e.take 124) false, .hostWrite (a + 124) (toLe 4 (cf % 2 ^ 31 + 2 ^ 31 * (1 - q.tail / 65536 % 2))) false] }
    (q.since + 1 < q.count → cplWrite c e cf d = d') ∧
    (q.count ≤ q.since + 1 → cplWrite c e cf d = sendMsix q.vector (cplSet c { q' with since := 0, firstAt := 0 } d'))

/-- The next descriptor of the ring whose turn it is: refused with `range` or `absent`, or admitted as an item whose payload, where it is there, goes into the intake
Sluice. While the intake Sluice has no room for what has been read none is taken. -/
def Obligations.DescriptorsAreTaken : Prop :=
  (∀ (s : State) (b : List Byte) (pay : Option (List Byte)), Runs s →
    ((slu 140 s.dev).wait ≠ [] ∨ ringTurn s.dev = none ∨ inMastering s.dev = false ∨ uready 1 s.dev = false) → exec (.descriptorAdmit b pay) s = after s s.dev) ∧
  (∀ (s : State) (n : Nat) (b : List Byte) (pay : Option (List Byte)), Runs s → uready 1 s.dev = true → inMastering s.dev = true →
    (slu 140 s.dev).wait = [] → ringTurn s.dev = some n → b.length = 64 →
    let r := subRing n s.dev
    let idx := r.next % 65536
    let st := fieldLe b 0 2 % 4096
    let dir := fieldLe b 2 1 % 2
    let plen := fieldLe b 4 4
    let inl := bitOf (fieldLe b 2 1) 1
    (descBad b = true → exec (.descriptorAdmit b pay) s = after s (turnCount n (flew n idx b 0 (outRefuse r.cq n idx b 8 s.dev)))) ∧
    (descBad b = false →
      (boundRoute st dir s.dev = none → exec (.descriptorAdmit b pay) s = after s (turnCount n (flew n idx b 0 (outRefuse r.cq n idx b 9 s.dev)))) ∧
      (∀ rt c, boundRoute st dir s.dev = some (rt, c) →
        (s.dev.host.admitted = true ∨ uready 3 s.dev = false ∨ ledgOpen s.dev = false ∨ ledgPick s.dev = none → exec (.descriptorAdmit b pay) s = after s s.dev) ∧
        (∀ l, s.dev.host.admitted = false → uready 3 s.dev = true → ledgOpen s.dev = true → ledgPick s.dev = some l →
          let p : Option (List Byte) := if inl then some (slice b 36 plen) else if plen = 0 then some [] else pay.map (padTo plen)
          let into := fun (d : Dev) => match p with | some x => intakePut l x d | none => d
          let i : AdmitIn :=
            { stream := st, kind := fieldLe b 0 2 / 4096, dir := dir, payload := [], whole := false, host := true, src := fieldLe b 16 8,
              rbuf := fieldLe b 24 8, rlen := fieldLe b 32 4, cookie := fieldLe b 8 8, subidx := idx, subring := n, cq := r.cq, settle := false }
          exec (.descriptorAdmit b pay) s = after s (turnCount n (flew n idx b (l + 1) (withHost (fun h => { h with admitted := true })
            (into (lrecMod l (fun x => { x with plen := plen }) (admitItem i rt c l s.dev))))))))) ∧
    (descBad b = true ↔ (fieldLe b 0 2 / 4096 = 0 ∨ 7 ≤ fieldLe b 0 2 / 4096) ∨ 65536 < plen ∨ (fieldLe b 0 2 / 4096 = 6 ∧ plen ≠ 0) ∨ fieldLe b 2 1 / 8 ≠ 0 ∨
      fieldLe b 3 1 ≠ 0 ∨ ((fieldLe b 0 2 / 4096 = 1 ∨ fieldLe b 0 2 / 4096 = 3 ∨ fieldLe b 0 2 / 4096 = 4) ∧ dir = 1) ∨
      ((fieldLe b 0 2 / 4096 = 2 ∨ fieldLe b 0 2 / 4096 = 6) ∧ dir = 0) ∨ (inl = true ∧ 28 < plen)))

/-- A failed host read is noted and retried once, 921,600 gu later; a second failure stops the ring, or ends the item without its payload. -/
def Sys2Proof.Claims.HostReadsRetryOnce : Prop :=
  ∀ (s : State) (n x : Nat), Runs s → uready 1 s.dev = true → inMastering s.dev = true →
    (∀ kind, reading n x s.dev = true → exec (.hostReadFail n x kind) s =
      after s (aerReadFail kind (raise 1 1 (withHost (fun h => { h with retries := h.retries ++ [{ ring := n, lidx := x, due := now s.dev + 921600 }] }) s.dev)))) ∧
    (∀ q b p, s.dev.host.retries.find? (fun q => q.ring == n && q.lidx == x) = some q →
      let d := withHost (fun h => { h with retries := h.retries.erase q }) s.dev
      (now s.dev + s.dev.clk.gu ≤ q.due → ∀ kind ok, exec (.hostReadRetry n x kind ok b p) s = after s s.dev) ∧
      (q.due < now s.dev + s.dev.clk.gu → ∀ kind,
        (x = 0 → exec (.hostReadRetry n x kind true b p) s = after s ((descTake n (padTo 64 b) p d).getD d) ∧
          exec (.hostReadRetry n x kind false b p) s = after s (let d := aerReadFail kind (raise 1 1 d); subSet n { subRing n d with stopped := true } d)) ∧
        (x ≠ 0 → exec (.hostReadRetry n x kind true b p) s = after s (payloadIn (x - 1) (p.getD []) d) ∧
          exec (.hostReadRetry n x kind false b p) s = after s (headPass n (itemFail (x - 1) (aerReadFail kind (raise 1 1 d)))))))
/-! ### Sluices (06) -/

namespace Sys2Proof.Claims

/-- The word a producer port stores: bytes beyond VALID of a last word are 0. -/
def storedWord (data : List Byte) (first last : Bool) (valid t : Nat) : SWord :=
  let v := max 1 (min 64 valid)
  { data := padTo 64 (if last then data.take v else data), first := first, last := last, valid := if last then v else 64, fresh := true, on := t }

/-- Sluice `n` after a stored word. -/
def stored (data : List Byte) (first last : Bool) (valid : Nat) (t : Nat) (s : Sluice) : Sluice :=
  let w := storedWord data first last valid t
  let s := { s with held := if first then s.held.filter (· != wordKey w) else s.held }
  let s := frPush { s with words := s.words ++ [w], opened := !last, openN := if last then 0 else if first then 1 else s.openN + 1, lastAt := t }
  if first then { s with openL := (wordKey w).2.1, openS := (wordKey w).1, openG := (wordKey w).2.2 } else s

/-- A word may be taken: the producer serves, no reset, nothing absorbed, and no packet of the unit's own waits. -/
abbrev sluiceTakes (n : Nat) (d : Dev) : Prop :=
  sluOk d.fuse.variant n = true ∧ userves (sluProducer n) d = true ∧ (slu n d).absorb = false ∧ ((slu n d).resetT = 0 ∨ 9 ≤ (slu n d).resetT) ∧
  (slu n d).wait = []

/-- Frames of Sluice `n` hold one more word. -/
abbrev hasRoom (n : Nat) (d : Dev) : Prop := (slu n d).headOff + (slu n d).words.length + 1 ≤ 64 * ((slu n d).res + (slu n d).borrowed + (slu n d).ovr)

/-- The packet at the front may start: its words through LAST are committed, or as many as CT. -/
abbrev startable (s : Sluice) : Prop :=
  (∃ k, k < s.words.length ∧ (∀ u ∈ s.words.take k, u.fresh = false ∧ u.last = false) ∧ ∀ w ∈ s.words[k]?, w.fresh = false ∧ w.last = true) ∨
  (0 < s.ct ∧ s.ct ≤ s.words.length ∧ ∀ u ∈ s.words.take s.ct, u.fresh = false ∧ u.last = false)

end Sys2Proof.Claims

/-- A producer's word: it is stored where a frame holds it, and its write does not complete where none does or while the Sluice is in reset; a packet opens with
FIRST alone, goes on without it, and is bounded by 1,040 words, or 68 at a link's transmitter; a FIRST in an open packet ends that and opens its own. A word with BAD
is not stored: the open packet turns bad, or the packet it would open. -/
def Sys2Proof.Claims.SluicesTakeWords : Prop :=
  ∀ (s : State) (n valid : Nat) (data : List Byte) (first last : Bool), Runs s → sluiceTakes n s.dev →
    let x := slu n s.dev
    (hasRoom n s.dev → x.openN < 1040 →
      ((first = true → x.opened = false) → (first = false → x.opened = true ∧ x.openN < (if 76 ≤ n ∧ n < 140 then 68 else 1040)) →
        (first = true → userves (sluConsumer n) s.dev = true) →
        (first = true → ustate (sluConsumer n) s.dev = .draining → sluConsumer n = sluProducer n) →
        (first = false ∨ n < 76 ∨ 140 ≤ n → exec (.sluiceWordWrite n data first last valid false) s = after s (sluSet n (stored data first last valid (now s.dev) x) s.dev)) ∧
        (76 ≤ n → n < 140 → first = true → Gives (.sluiceWordWrite n data first last valid false) s fun d =>
          (∃ m, (slu n d) = { stored data first last valid (now s.dev) x with words := x.words ++ [{ storedWord data first last valid (now s.dev) with jm := m }] }) ∧
          ∀ k, k ≠ n → slu k d = slu k s.dev))) ∧
    (¬ hasRoom n s.dev → x.opened = true → x.openN < 68 → exec (.sluiceWordWrite n data false last valid false) s = after s s.dev) ∧
    (x.opened = false → x.openN = 0 → userves (sluConsumer n) s.dev = true → (¬ hasRoom n s.dev ∨ sluShut n s.dev = true) →
      (replyOf n = none → exec (.sluiceWordWrite n data true last valid false) s = after s s.dev) ∧
      (∀ r, replyOf n = some r → let k := wordKey (storedWord data true last valid (now s.dev))
        exec (.sluiceWordWrite n data true last valid false) s = after s (sluSet n { x with held := x.held.filter (· != k) ++ [k] } s.dev))) ∧
    (x.opened = true → x.openN < 1040 → (n < 76 ∨ 140 ≤ n) → let e := raise 7 1 (sluBad n s.dev)
      hasRoom n e → (slu n e).wait = [] → sluShut n e = false → userves (sluConsumer n) e = true →
      exec (.sluiceWordWrite n data true last valid false) s = after s (sluSet n (stored data true last valid (now e) (slu n e)) e)) ∧
    (x.opened = false → exec (.sluiceWordWrite n data false last valid false) s = after s (raise 7 1 s.dev)) ∧
    (x.opened = false → x.openN = 0 → sluShut n s.dev = false → let k := wordKey (storedWord data true last valid (now s.dev))
      exec (.sluiceWordWrite n data true last valid true) s = after s (sluLost n k.2.1 k.2.2 (bumpBy (kSlu n 0) 1 s.dev))) ∧
    (x.opened = true → 1040 ≤ x.openN → (n < 76 ∨ 140 ≤ n) → exec (.sluiceWordWrite n data false last valid false) s = after s (raise 7 1 (sluBad n s.dev))) ∧
    (x.opened = true → 68 ≤ x.openN → 76 ≤ n → n < 140 → exec (.sluiceWordWrite n data false last valid false) s = after s (jettyGerr (raise 7 1 (sluBad n s.dev)))) ∧
    (x.opened = true → x.openN < 1040 → exec (.sluiceWordWrite n data false last valid true) s = after s (sluBad n s.dev)) ∧
    (∀ t : State, Runs t → sluOk t.dev.fuse.variant n = true → userves (sluProducer n) t.dev = true → 0 < (slu n t.dev).resetT → (slu n t.dev).resetT < 9 →
      (slu n t.dev).openN < 68 → exec (.sluiceWordWrite n data first last valid false) t = after t t.dev)

/-- A request to a unit that cannot serve is taken, discarded, and answered absent at its LAST; the words of an absorbed packet are accepted and discarded up to LAST. -/
def Sys2Proof.Claims.AbsorbedPackets : Prop :=
  ∀ (s : State) (n valid : Nat) (data : List Byte), Runs s → sluOk s.dev.fuse.variant n = true → userves (sluProducer n) s.dev = true →
    ((slu n s.dev).resetT = 0 ∨ 9 ≤ (slu n s.dev).resetT) → (slu n s.dev).wait = [] →
    let x := slu n s.dev
    (x.opened = false → x.openN = 0 → x.absorb = false → userves (sluConsumer n) s.dev = false → ∀ r, replyOf n = some r →
      let k := wordKey (storedWord data true true valid (now s.dev))
      let k' := wordKey (storedWord data true false valid (now s.dev))
      exec (.sluiceWordWrite n data true true valid false) s = after s (putMarker r
        { stream := k.1, absent := true, gen := ugen (sluProducer r) s.dev, lidx := k.2.1, stage := k.2.2 + 1 } s.dev) ∧
      exec (.sluiceWordWrite n data true false valid false) s = after s (sluSet n
        { x with opened := true, absorb := true, answer := true, openS := k'.1, openL := k'.2.1, openG := k'.2.2, openN := 1, lastAt := now s.dev } s.dev)) ∧
    (x.opened = true → x.absorb = true → x.openN < 68 →
      let y := { x with absorb := false, answer := false, opened := false, openN := 0 }
      exec (.sluiceWordWrite n data false false valid false) s = after s (sluSet n { x with openN := x.openN + 1 } s.dev) ∧
      (x.answer = false → exec (.sluiceWordWrite n data false true valid false) s = after s (sluSet n y s.dev)) ∧
      (x.answer = true → ∀ r, replyOf n = some r → exec (.sluiceWordWrite n data false true valid false) s = after s (putMarker r
        { stream := x.openS, absent := true, gen := ugen (sluProducer r) s.dev, lidx := x.openL, stage := x.openG + 1 } (sluSet n y s.dev))))

/-- A consumer port: an abort marker that is due comes first; then the next committed word of a packet that may start; else a still word. DROP takes the
rest of the packet that has started. -/
def Sys2Proof.Claims.SluicesGiveWords : Prop :=
  ∀ (s : State) (n : Nat), Runs s → sluOk s.dev.fuse.variant n = true → userves (sluConsumer n) s.dev = true →
    let x := slu n s.dev
    let out := x.resetT = 0 ∨ 9 ≤ x.resetT
    (out → x.abortP = true → exec (.sluiceRead n) s = after s (emit (.sluice (headWord x.abortS 0 false true (ugen (sluProducer n) s.dev) x.abortL) true true false true 64)
      (sluSet n { x with abortP := false, started := false, rx := [], stillN := 0 } s.dev))) ∧
    (x.abortP = false → out → (x.started = true ∨ startable x) → ∀ w ws, x.words = w :: ws → w.fresh = false →
      exec (.sluiceRead n) s = after s (emit (.sluice w.data w.first w.last false w.abort w.valid)
        (sluSet n (sluFree 1 { rdOf w x with words := ws, started := !w.last, stillN := 0 }) s.dev))) ∧
    (x.abortP = false → x.started = true → (∀ w ws, x.words = w :: ws → w.fresh = true) → exec (.sluiceRead n) s = after s s.dev) ∧
    (¬ out → (x.started = true ∨ x.abortP = true) → exec (.sluiceRead n) s = after s s.dev) ∧
    (x.abortP = false → x.started = false → (¬ out ∨ ¬ startable x) →
      let k := min 65535 (x.stillN + 1)
      exec (.sluiceRead n) s = after s (emit (.sluice (headWord 0 0 false false k 0) true true true false 64) (sluSet n { x with stillN := k } s.dev))) ∧
    (x.started = false → exec (.sluiceDrop n) s = after s s.dev) ∧
    (x.started = true → x.abortP = true → exec (.sluiceDrop n) s = after s (sluSet n { x with abortP := false, started := false, rx := [] } s.dev)) ∧
    (x.started = true → x.abortP = false →
      (∀ ws, frontPkt x.words = some ws → exec (.sluiceDrop n) s =
        after s (bumpBy (kSlu n 1) 1 (sluSet n (sluFree ws.length { x with words := x.words.drop ws.length, started := false, rx := [], turned := false, abortE := false }) s.dev))) ∧
      (frontPkt x.words = none →
        let e := sluSet n (sluFree x.words.length { x with words := [], started := false, rx := [], absorb := x.absorb || x.opened, turned := false, abortE := false }) s.dev
        (x.words ≠ [] → exec (.sluiceDrop n) s = after s (bumpBy (kSlu n 1) 1 e)) ∧ (x.words = [] → exec (.sluiceDrop n) s = after s e)))

/-- What turns bad leaves whole, with nothing of what is committed: at the end of the tick the words of the open packet are gone, the rewind is counted,
and what else was written has committed. -/
def Sys2Proof.Claims.BadPacketsRewind : Prop :=
  ∀ (n : Nat) (d : Dev), n < 140 →
    let x := slu n d
    x.opened = true → x.absorb = false → (∀ w ∈ x.words, w.bad = false) →
    let e := sluEnd n (sluBad n d)
    (slu n e).words = (x.words.take (x.words.length - openSuffix x.words)).map (fun w => if w.fresh then { w with fresh := false, prog := 0 } else w) ∧
    (slu n e).opened = false ∧
    (ctrGet (kSlu n 0) e).fresh = (ctrGet (kSlu n 0) d).fresh + 1 ∧ (∀ k, k ≠ n → slu k e = slu k d)

/-- The stall bound, the pointer-mismatch reset and its end, the pool's grant and the settings. -/
def Sys2Proof.Claims.SluicesResetAndGrant : Prop :=
  ∀ (s : State) (n : Nat), Runs s →
    let x := slu n s.dev
    (sluOk s.dev.fuse.variant n = true →
      (x.opened = true → x.lastAt + s.dev.slu.stall < now s.dev + s.dev.clk.gu → exec (.sluiceStallExpiry n) s = after s (raise 7 3 (sluBad n s.dev))) ∧
      (now s.dev + s.dev.clk.gu ≤ x.lastAt + s.dev.slu.stall → exec (.sluiceStallExpiry n) s = after s s.dev) ∧
      (let d := raise 7 0 s.dev
       let d := sluSet n { slu n d with resetT := 9 } d
       let d := { d with slu := { d.slu with ptrLast := n } }
       (n = 0 ∨ n = 1 ∨ n = 140 ∨ n = 141 → exec (.pointerMismatch n) s = after s (aerCorrected d)) ∧
       (n ≠ 0 → n ≠ 1 → n ≠ 140 → n ≠ 141 → exec (.pointerMismatch n) s = after s d))) ∧
    (x.resetT = 1 → exec (.sluiceResetEnd n) s = after s (sluSet n { x with resetT := 0, absorb := x.absorb || x.opened } s.dev)) ∧
    (s.dev.slu.granted = true → exec .poolGrant s = after s s.dev) ∧
    (s.dev.slu.granted = false → poolWinner s.dev = some n → 0 < poolFree s.dev →
      Gives .poolGrant s fun d =>
        slu n d = { x with borrowed := x.borrowed + 1, paceT := [1024, 128, 32, 0].getD (sluClass n) 0 } ∧ (∀ k, k ≠ n → slu k d = slu k s.dev) ∧
        d.slu.granted = true ∧ ((noteGet 7 d).bits.getLsbD 2 = ((noteGet 7 s.dev).bits.getLsbD 2 || poolFree s.dev == 1))) ∧
    (s.dev.slu.granted = false → poolWinner s.dev = some n → poolFree s.dev = 0 → x.ovf = true → x.ovr < 16384 →
      Gives .poolGrant s fun d => slu n d = { x with ovr := x.ovr + 1, paceT := [1024, 128, 32, 0].getD (sluClass n) 0 } ∧ ∀ k, k ≠ n → slu k d = slu k s.dev)

/-- The Sluice the pool names wants a frame, and no Sluice of a lower class number does. -/
def Sys2Proof.Claims.PoolServesLowestClass : Prop :=
  ∀ (d : Dev) (n : Nat), poolWinner d = some n →
    let wants := fun m => sluOk d.fuse.variant m = true ∧ poolWants (slu m d) = true ∧ (slu m d).paceT = 0 ∧
      (poolFree d = 0 → (slu m d).ovf = true ∧ (slu m d).ovr < 16384)
    wants n ∧ ∀ m, wants m → sluClass n ≤ sluClass m

/-- A write of a Sluice's settings is taken where they obey the conditions, else discarded and counted. -/
def Sys2Proof.Claims.SluiceSettings : Prop :=
  ∀ (s : State) (n : Nat) (v : W32), Runs s → HostFree s →
    let x := slu n s.dev
    let y : SluSet := { cap := v.toNat % 1048576, res := x.res, ct := x.ct, ovf := x.ovf }
    let z : SluSet := { cap := x.cap, res := v.toNat / 65536 % 64, ct := v.toNat % 1024, ovf := if n = 142 then v.getLsbD 29 else x.ovf }
    (sluOk s.dev.fuse.variant n = true →
      (sluSetOk n y s.dev = true → exec (.sluiceConfigWrite n true v) s = after s (sluSet n { x with cap := y.cap } s.dev)) ∧
      (sluSetOk n y s.dev = false → exec (.sluiceConfigWrite n true v) s = after s (bumpBy kBadacc 1 s.dev)) ∧
      (sluSetOk n z s.dev = true → exec (.sluiceConfigWrite n false v) s =
        after s (setEn (1000 + n) (BitVec.ofNat 8 (2 * (v.toNat / 2 ^ 31) + 4 * (v.toNat / 2 ^ 30 % 2))) (sluSet n { x with res := z.res, ct := z.ct, ovf := z.ovf } s.dev))) ∧
      (sluSetOk n z s.dev = false → exec (.sluiceConfigWrite n false v) s = after s (bumpBy kBadacc 1 s.dev))) ∧
    (∀ y, sluSetOk n y s.dev = true →
      y.res ≤ y.cap ∧ 1 ≤ y.res ∧ y.res ≤ 32 ∧ (y.ct = 0 → 17 ≤ y.cap) ∧ (y.ct ≠ 0 → y.ct ≤ y.cap * 64 - 1) ∧ (1024 < y.cap → y.ovf = true) ∧ (y.ovf ≠ x.ovf → n = 142) ∧
      (4 ≤ n → n ≤ 11 → y.cap = x.cap ∧ y.res = x.res) ∧ (x.res < y.res → y.res - x.res ≤ poolFree s.dev) ∧ (y.res ≠ x.res → x.words = []))
/-! ### Routes, stages and releases (07) -/

namespace Sys2Proof.Claims

/-- A route's image as it takes epoch `e`. -/
def stamped (e : Nat) (m : List Byte) : List Byte := m.take 4 ++ toLe 2 e ++ m.drop 6

/-- WEIR_CRESP for a commit of route `r` with tag `t` and result code `k`. -/
def commitResponse (r t k : Nat) (d : Dev) : W32 :=
  BitVec.ofNat 32 ((routeNew r d).epoch * 65536 + t * 4096 + (routeLive r d).length * 1024 + k * 16)

/-- The Outlet holds every entry of ring `c` for now: the ring is enabled as it was at the admission of `it`, and mastering is off. -/
abbrev entryWaits (it : Item) (c : Nat) (d : Dev) : Prop :=
  (cplRing c d).enable = true ∧ (cplRing c d).era = it.cqEra ∧ d.host.fnEra = it.fnEra ∧ outPaused d = true ∧ d.host.fetchRing = none

/-- Votes of a Combine: the outcomes of its inputs that are in and are not ABSTAIN. -/
def votesOf (s : List Byte) (it : Item) : List Outcome' :=
  (stInputList s).filterMap fun j => match it.stages.getD j .idle with
    | .done o => if o.prop = .abstain then none else some o
    | _ => none

/-- How grave a proposal is. -/
def gravity : Prop' → Nat
  | .block => 5 | .cut => 4 | .mask => 3 | .hold => 2 | .pass => 1 | .absentStage => 1 | .abstain => 0

end Sys2Proof.Claims

/-- A commit answers with the first check that fails, and else puts the staged image in force under the next epoch, beside the older one, for the items
of later ticks; refused or not it is the tick's one commit. A second one, or one with a Shore agent's commit behind it in its tick, waits. -/
def Sys2Proof.Claims.RouteCommits : Prop :=
  (∀ (s : State) (v : W32), Runs s → HostFree s → shoreBehind s = false → s.dev.weir.committed = false →
    let r := v.toNat % 256
    let t := v.toNat / 4096 % 16
    let e := v.toNat / 65536
    let m := routeStage r s.dev
    let old := routeNew r s.dev
    let taken : Dev := { alone s.dev with weir := { (alone s.dev).weir with committed := true } }
    let answered := fun (k : Nat) (d : Dev) => after s (alone { d with weir := { d.weir with cresp := commitResponse r t k d } })
    (routeOk m = false → exec (.routeCommit v) s = answered 6 taken) ∧
    (routeOk m = true → e ≠ old.epoch → exec (.routeCommit v) s = answered 4 taken) ∧
    (routeOk m = true → e = old.epoch → 2 ≤ (routeLive r s.dev).length → exec (.routeCommit v) s = answered 2 (raise 3 3 taken)) ∧
    (routeOk m = true → e = old.epoch → (routeLive r s.dev).length < 2 → Gives (.routeCommit v) s fun d =>
      routeLive r d = [{ epoch := (e + 1) % 65536, img := stamped ((e + 1) % 65536) m }, old] ∧ routeAdmit r d = old ∧
      (∀ q, q ≠ r → routeLive q d = routeLive q s.dev ∧ routeAdmit q d = routeAdmit q s.dev) ∧ d.weir.committed = true ∧
      d.weir.cresp = BitVec.ofNat 32 ((e + 1) % 65536 * 65536 + t * 4096 + 2 * 1024 + 16) ∧ d.weir.items = s.dev.weir.items)) ∧
  (∀ (s : State) (v : W32), Runs s → (s.dev.weir.committed = true ∨ shoreBehind s = true) →
    exec (.routeCommit v) s = after s (alone (hostWait (.write 0x50001C 4 15 v.toNat) s.dev)))

/-- A held commit whose older epoch has retired runs and is answered; a write of a stream's bind is read back at once and is in force for the items of
later ticks. -/
def Sys2Proof.Claims.HeldCommitsAndBinds : Prop :=
  ∀ s : State, Runs s →
    (∀ (r : Nat) (w : CommitWait) (ws : List CommitWait), (s.dev.weir.waits.filter fun w => w.route == r) = w :: ws →
      (s.dev.weir.committed = true ∨ 2 ≤ (routeLive r s.dev).length → exec (.commitWaitRetire r) s = after s s.dev) ∧
      (s.dev.weir.committed = false → (routeLive r s.dev).length < 2 →
        let d : Dev := { s.dev with weir := { s.dev.weir with waits := s.dev.weir.waits.erase w } }
        let taken : Dev := { d with weir := { d.weir with committed := true } }
        let m := routeStage r d
        let say := fun (word : Option String) (d : Dev) => after s (answer ⟨w.sid, w.tag⟩ (if w.hold then .commit r else .output) word [commitLine r d] d)
        (routeOk m = false → exec (.commitWaitRetire r) s = say (some "range") taken) ∧
        (routeOk m = true → w.epoch ≠ (routeNew r d).epoch → exec (.commitWaitRetire r) s = say (some "stale") taken) ∧
        (routeOk m = true → w.epoch = (routeNew r d).epoch → exec (.commitWaitRetire r) s = say none (routeCommit r w.epoch d).2))) ∧
    (HostFree s → ∀ (n : Nat) (v : W32), Gives (.bindWrite n v) s fun d =>
      bindReg n d = (v &&& 0x01FF01FF) ∧ (∀ k, k ≠ n → bindReg k d = bindReg k s.dev) ∧ (∀ k dir, boundRoute k dir d = boundRoute k dir s.dev) ∧
      d.weir.live = s.dev.weir.live ∧ d.weir.items = s.dev.weir.items)

/-- An admitted item carries the Gauge of its tick, its route and epoch and its deadline; it takes the next number of its stream and direction; and its
record stands. -/
def Obligations.AdmissionStamps : Prop :=
  ∀ (a : AdmitIn) (r l : Nat) (c : LiveCopy) (d : Dev), item? l d = none →
    let k := 2 * a.stream + a.dir
    let d' := admitItem a r c l d
    (∃ it, item? l d' = some it ∧ it.stream = a.stream ∧ it.kind = a.kind ∧ it.dir = a.dir ∧ it.seq = (streamSt k d).next ∧ it.route = r ∧ it.epoch = c.epoch ∧
      it.admitAt = d.gauge.toNat ∧ it.deadline = d.gauge.toNat + rDeadline c.img ∧ it.payload = a.payload ∧ it.released = false) ∧
    (streamSt k d').next = ((streamSt k d).next + 1) % 2 ^ 32 ∧ (∀ q, q ≠ k → streamSt q d' = streamSt q d) ∧
    (lrec l d').phase = 1 ∧ (lrec l d').seq = (streamSt k d).next ∧ (lrec l d').admitAt = d.gauge.toNat ∧ (lrec l d').cookie = a.cookie ∧
    (∀ q, q ≠ l → lrec q d' = lrec q d)

/-- A stage that is due goes to its READY engine as one packet; its request waits at a DRAINING engine, and meets the route's absent-stage policy where the engine
is in another state. A stage that reads a Reedbed or Wellhead product may start while that product's reply is coming in: its request goes on when it is whole.
A stage to be run again waits for its engine. -/
def Sys2Proof.Claims.StagesDispatch : Prop :=
  ∀ (s : State) (l i : Nat) (it : Item), Runs s → item? l s.dev = some it →
    let img := routeAt it.route it.epoch s.dev
    let st := rStage img i
    let k := stKind st
    let src := inputOf img it k i
    let marked := bitOf (lrec l s.dev).mark i
    let gives := fun (d : Dev) => exec (.stageDispatch l i) s = after s d
    (stageReady l it img i s.dev = true →
      (1 ≤ k → k ≤ 3 → let u := 3 + k
        let p : Pkt := { stream := it.stream, kind := it.kind, gen := ugen 3 s.dev, lidx := l, body := engineBody it i (stTable st) it.flush src }
        let d0 := setStage l i (.sent 0 (ugen u s.dev)) s.dev
        (uready u s.dev = true → (∀ j, src ≠ .wait j) →
          (∀ d, putPkt (141 + 2 * k) p d0 = some d → gives d) ∧ (putPkt (141 + 2 * k) p d0 = none → gives s.dev)) ∧
        (uready u s.dev = true → ∀ j, src = .wait j →
          gives (cutStart (stageUnit img it j).2.2 { d0 with weir := { d0.weir with cut := d0.weir.cut ++ [⟨l, i, j⟩] } })) ∧
        (ustate u s.dev = .draining → marked = false → (∀ j, src ≠ .wait j) → gives (putMarker (141 + 2 * k) p d0)) ∧
        (uready u s.dev = false → marked = true → gives s.dev) ∧
        (uready u s.dev = false → ustate u s.dev ≠ .draining → marked = false → gives (stageAbsent l i s.dev))) ∧
      (k = 4 → (∀ j, src ≠ .wait j) → ∀ c, coreFor (stCores st) s.dev = some c → uready (16 + c) s.dev = true →
        let p : Pkt := { stream := it.stream, kind := it.kind, gen := ugen 3 s.dev, lidx := l, body := basinBody it i (stTable st) (basinInput it src) }
        let d0 := setStage l i (.sent c (ugen (16 + c) s.dev)) s.dev
        (∀ d, putPkt (149 + c) p d0 = some d → gives d) ∧ (putPkt (149 + c) p d0 = none → gives s.dev)) ∧
      (k = 4 → coreFor (stCores st) s.dev = none → gives (stageAbsent l i s.dev)) ∧
      (k = 5 → uready 30 s.dev = true → gives (setStage l i (.sent 0 (ugen 30 s.dev)) s.dev)) ∧
      (k = 5 → uready 30 s.dev = false → marked = false → gives (stageAbsent l i s.dev))) ∧
    (stageReady l it img i s.dev = false → gives s.dev) ∧
    (k = 1 ∨ k = 2 ∨ k = 3 → it.stages.getD i .idle = .waiting → uready (3 + k) s.dev = true →
      exec (.heldStageResume l i) s = after s (stageDispatch l i (setStage l i .idle s.dev))) ∧
    (it.stages.getD i .idle ≠ .waiting → exec (.heldStageResume l i) s = after s s.dev) ∧
    (marked = true →
      let e := stageDispatch l i (replayReady l i (stageResume l i s.dev))
      ∀ x, item? l e = some x →
        (x.stages.getD i .idle ≠ .idle → exec (.replayDispatch l i none) s = after s e) ∧ (x.stages.getD i .idle = .idle → exec (.replayDispatch l i none) s = after s s.dev)) ∧
    (marked = false → exec (.replayDispatch l i none) s = after s s.dev) ∧
    (∀ b, ((lrec l s.dev).refetch = true → it.inn = false → exec (.replayDispatch l i (some b)) s = after s (intakePut l b s.dev)) ∧
      ((lrec l s.dev).refetch = false ∨ it.inn = true → exec (.replayDispatch l i (some b)) s = after s s.dev)) ∧
    (rHold img = true → stageAbsent l i s.dev = setStage l i .waiting (raise 3 2 s.dev))

/-- The Weir takes a payload from the intake Sluice into the hold store, Sluice 142, and takes none while that has no room: its item has it whole once no
word of it waits for a frame, and a payload that was read again ends REFETCH and counts a replay. What the hold store keeps of an item that is over leaves
it. -/
def Sys2Proof.Claims.PayloadsArrive : Prop :=
  (∀ (d e : Dev) (p : Pkt) (it : Item), userves 3 d = true → holdOpen d = true → takePkt 140 d = some (p, e) → item? p.lidx e = some it →
    p.aborted = false → it.whole = false → it.failed = false →
    let l := p.lidx
    let taken := fun e => itemPut 142 l (p.body.drop 52) e
    let whole := fun e => itemMod l (fun it => { it with payload := p.body.drop 52, whole := !holdWaits l e, inn := true, kept := true }) e
    ((lrec l e).refetch = false → intakeTake d = weirAdvance l (whole (taken e))) ∧
    ((lrec l e).refetch = true → intakeTake d = weirAdvance l (whole (taken
      (lrecMod l (fun r => { r with refetch := false, replays := min 15 (r.replays + 1), flags := r.flags ||| 0x20 }) e))))) ∧
  (∀ d : Dev, holdOpen d = false → intakeTake d = d) ∧
  (∀ d : Dev, ∀ w ∈ (slu 142 (holdSweep d)).words, w.first = true → (wordKey w).2.1 ≠ noLidx → item? (wordKey w).2.1 d ≠ none)

/-- The Weir consumes a reply: accepted under the fence, its outcome and product are the stage's and DONE is set; an absent one meets the absent-stage
policy; an aborted one, or one of an earlier generation, marks the stage for replay; a bad one marks it and fixes its outcome as BLOCK. -/
def Sys2Proof.Claims.RepliesAreConsumed : Prop :=
  (∀ (s : State) (n : Nat), Runs s → stageFront n s.dev = none → exec (.stageReply n) s = after s s.dev) ∧
  ∀ (s : State) (n : Nat) (p : Pkt) (d : Dev), Runs s → stageFront n s.dev = some (p, d) →
    let l := p.lidx
    let u := sluProducer n
    let gives := fun (e : Dev) => exec (.stageReply n) s = after s (weirSettle e)
    (item? l d = none → gives d) ∧
    (∀ it, item? l d = some it → it.stream = p.stream →
      let img := routeAt it.route it.epoch d
      let sentBefore := fun i => match it.stages.getD i .idle with | .sent _ g => decide ((p.gen + 65536 - g) % 65536 < 32768) | _ => false
      (p.absent = false → p.aborted = false →
        let i := fieldLe p.body 0 1 % 8
        (sentBefore i = false → gives d) ∧
        (sentBefore i = true → p.gen ≠ ugen u d → ustate u d ≠ .draining → gives (ledgMark l i d)) ∧
        (sentBefore i = true → p.gen = ugen u d →
          (replyRead (stKind (rStage img i)) it p.body = none → gives (setStage l i (.done { prop := .block }) (ledgMark l i d))) ∧
          (∀ r, replyRead (stKind (rStage img i)) it p.body = some r → bitOf (lrec l d).mark i = false →
            gives (holdProduct l r.prod (itemMod l (fun it =>
                { it with stages := it.stages.set i (.done r.out), products := it.products.set i r.prod, accAt := it.accAt.set i (d.gauge.toNat + 1) })
              (lrecMod l (fun x => { x with done := x.done ||| 2 ^ i, poison := false, flags := x.flags ||| (4 * b2n r.trunc + 16 * b2n r.shal + 0) }) d)))))) ∧
      (p.absent = true ∨ p.aborted = true → ∀ i, (if p.stage ≠ 0 then some (p.stage - 1) else sentTo it img u) = some i → sentBefore i = true →
        (p.aborted = true → gives (ledgMark l i d)) ∧ (p.absent = true → p.aborted = false → p.gen = ugen u d → gives (stageAbsent l i d))))

/-- A Combine finishes 10 ticks after its inputs are in; the last one's outcome is the route's result, and so is BLOCK of one with STOP. Under WORST its proposal is its gravest vote; under
KOFN an objection takes K of them; with no vote it is the route's EMPTYV. -/
def Sys2Proof.Claims.CombinesFinish : Prop :=
  (∀ (s : State) (l i t : Nat) (it : Item), Runs s → item? l s.dev = some it → it.stages.getD i .idle = .combining t →
    let img := routeAt it.route it.epoch s.dev
    (s.dev.tickN < t + 10 → exec (.combineFinish l i) s = after s s.dev) ∧
    (t + 10 ≤ s.dev.tickN → it.result = none → (i + 1 = rNStage img ∨ (bitOf (fieldLe (rStage img i) 2 2) 12 = true ∧ (combine img it i).prop = .block)) →
      Gives (.combineFinish l i) s fun d =>
      (∃ it', item? l d = some it' ∧ it'.result = some (combine img it i) ∧ it'.readyAt = s.dev.gauge.toNat ∧ it'.readyTick = s.dev.tickN ∧ it'.endAt = i ∧ it'.stages.getD i .idle = .done (combine img it i)) ∧
      bitOf (lrec l d).done i = true ∧ (∀ k, k ≠ l → lrec k d = lrec k s.dev ∧ item? k d = item? k s.dev)) ∧
    (t + 10 ≤ s.dev.tickN → (it.result ≠ none ∨ (i + 1 ≠ rNStage img ∧ bitOf (fieldLe (rStage img i) 2 2) 12 = false)) →
      exec (.combineFinish l i) s = after s (weirAdvance l (lrecMod l (fun r => { r with done := r.done ||| 2 ^ i }) (setStage l i (.done (combine img it i)) s.dev))))) ∧
  (∀ (img : List Byte) (it : Item) (i : Nat),
    let st := rStage img i
    let vs := votesOf st it
    let p := (combine img it i).prop
    (vs ≠ [] → stCores st = 0 → (∃ v ∈ vs, v.prop = p) ∧ ∀ v ∈ vs, gravity v.prop ≤ gravity p) ∧
    (vs ≠ [] → stCores st = 1 → (vs.filter fun v => v.prop != .pass).length < stK st → p = .pass) ∧
    (vs ≠ [] → stCores st = 2 → (∃ v ∈ vs, v.prop = .pass) → p = .pass) ∧
    (vs = [] → (∃ j, j < rNStage img ∧ stKind (rStage img j) ≠ 6 ∧ it.stages.getD j .idle ≠ .skipped) → p = [.pass, .block, .hold, .hold].getD (rEmptyV img) .hold))

/-- An item is released at its deadline, or 10 ticks after it is ready, and after its predecessor's release, where it is Early; late, with DLV. Items admitted before
it that the tick releases go first. The verdict stands in its record while its entry waits for mastering. -/
def Sys2Proof.Claims.ItemsAreReleased : Prop :=
  ∀ (s : State) (l : Nat) (it : Item), Runs s → item? l s.dev = some it →
    let img := routeAt it.route it.epoch s.dev
    let c := (lrec l s.dev).cq
    let before := (s.dev.weir.items.map (·.1)).takeWhile (· != l)
    let first := ∀ m ∈ before, ∀ x, item? m s.dev = some x → releaseGauge x s.dev = none
    let pending := fun (x : Item) => x.stream = it.stream ∧ x.dir = it.dir ∧ x.released = false ∧ (x.seq + 1) % 2 ^ 32 = it.seq
    let prior := ∃ m ∈ s.dev.weir.items, pending m.2
    (s.dev.gauge.toNat + s.dev.clk.gu ≤ it.deadline → exec (.deadlineRelease l) s = after s s.dev) ∧
    (it.deadline < s.dev.gauge.toNat + s.dev.clk.gu → exec (.deadlineRelease l) s = after s (releaseOne l (before.foldl (fun d m => releaseOne m d) s.dev))) ∧
    (it.deadline < s.dev.gauge.toNat + s.dev.clk.gu → first → it.released = false → (it.early = false ∨ inTime it s.dev = false ∨ prior) →
      exec (.deadlineRelease l) s = after s (weirRelease l it.deadline s.dev)) ∧
    (it.early = false ∨ inTime it s.dev = false ∨ it.released = true ∨ prior ∨ s.dev.tickN < it.readyTick + 10 → exec (.earlyRelease l) s = after s s.dev) ∧
    (it.released = false → it.early = true → inTime it s.dev = true → first → ¬ prior → it.readyTick + 10 ≤ s.dev.tickN →
      (∀ p ∈ (streamSt (2 * it.stream + it.dir) s.dev).rels, (p.1 + 1) % 2 ^ 32 = it.seq → p.2 + 10 ≤ s.dev.tickN) →
      exec (.earlyRelease l) s = after s (weirRelease l (min s.dev.gauge.toNat it.deadline) s.dev)) ∧
    (∀ t, it.released = false → entryWaits it c s.dev →
      let d := weirRelease l t s.dev
      let forced := it.kind = 2 ∧ it.dir = 1 ∧ it.failed = false ∧ ∃ x ∈ (streamSt (2 * it.stream + it.dir) s.dev).cuts, x.1 = it.ans ∧
        0 < (it.seq + 2 ^ 32 - x.2) % 2 ^ 32 ∧ (it.seq + 2 ^ 32 - x.2) % 2 ^ 32 < 2 ^ 31
      (lrec l d).type = 1 ∧ (lrec l d).relAt = t ∧ (lrec l d).deliv = 1 ∧ (lrec l d).backlog = true ∧
      (cplRing c d).held = (cplRing c s.dev).held ++ [{ lidx := l, backlog := true }] ∧
      (¬ forced → inTime it s.dev = false → (lrec l d).verdict = (if rDlv img then 6 else 5) ∧ (lrec l d).phase = (if rAmend img ∧ it.failed = false then 2 else 3)) ∧
      (¬ forced → inTime it s.dev = true → ∀ o, it.result = some o → (lrec l d).verdict = (verdictOf it o).code ∧ (lrec l d).phase = 3) ∧
      (forced → (lrec l d).verdict = 2 ∧ (lrec l d).cut = 0))

/-- A late item's result is posted as one amended record, 10 ticks after it is ready and in a later tick than the original, where the window has not closed; when it closes the work is
withdrawn and the record is done. -/
def Sys2Proof.Claims.AmendmentsFollow : Prop :=
  ∀ (s : State) (l : Nat) (it : Item), Runs s → item? l s.dev = some it → it.released = true → it.late = true →
    let img := routeAt it.route it.epoch s.dev
    let c := (lrec l s.dev).cq
    (∀ o, it.result = some o → rAmend img = true → it.readyAt < it.deadline + rWindow img →
      (s.dev.tickN < it.readyTick + 10 ∨ s.dev.tickN ≤ it.relTick → exec (.amendmentPost l) s = after s s.dev) ∧
      (it.readyTick + 10 ≤ s.dev.tickN → it.relTick < s.dev.tickN → (lrec l s.dev).deliv = 0 → entryWaits it c s.dev → Gives (.amendmentPost l) s fun d =>
        item? l d = none ∧ (lrec l d).type = 2 ∧ (lrec l d).verdict = (verdictOf it o).code ∧ (lrec l d).rlen = 0 ∧ (lrec l d).relAt = s.dev.gauge.toNat ∧
        (lrec l d).phase = 3 ∧ (lrec l d).deliv = 1 ∧ (cplRing c d).held = (cplRing c s.dev).held ++ [{ lidx := l, backlog := true }])) ∧
    (it.result = none → exec (.amendmentPost l) s = after s s.dev) ∧
    (it.result = none → it.deadline + rWindow img < s.dev.gauge.toNat + s.dev.clk.gu → Gives (.amendWindowClose l) s fun d =>
      item? l d = none ∧ (lrec l d).refetch = false ∧ (lrec l d).mark = 0 ∧ ((lrec l s.dev).deliv = 0 → lrec l d = {}) ∧ ((lrec l s.dev).deliv ≠ 0 → (lrec l d).phase = 3)) ∧
    (s.dev.gauge.toNat + s.dev.clk.gu ≤ it.deadline + rWindow img → exec (.amendWindowClose l) s = after s s.dev)
/-! ### Reedbed, Shoal and Sieve/Tarn (08, 09, 10) -/

namespace Sys2Proof.Claims

/-- Reedbed's reply queue takes one more packet, and the first waiting one opens if it can. -/
def reedQueues (p : Pkt) (d : Dev) : Dev := reedOpen { d with reed := { d.reed with waiting := d.reed.waiting ++ [p] } }

/-- The packet of an engine's reply to request `q`. -/
def replyOfUnit (u : Nat) (q : Req) (body : List Byte) (d : Dev) : Pkt := { stream := q.stream, kind := q.kind, gen := ugen u d, lidx := q.lidx, body := body }

/-- A reply that names no score, cut or span. -/
def plainReply (q : Req) (prop : Nat) (product : List Byte) : List Byte := replyBody q.stage prop false false noScores 0 q.epoch q.seq [] product

/-- The absent reply of a slot that is still to be reloaded. -/
def absentReply (u : Nat) (q : Req) (d : Dev) : Pkt := { stream := q.stream, absent := true, gen := ugen u d, lidx := q.lidx, stage := q.stage + 1 }

/-- A Unicode scalar value. -/
abbrev scalarValue (c : Nat) : Prop := c < 0xD800 ∨ (0xE000 ≤ c ∧ c < 0x110000)

end Sys2Proof.Claims

/-- Reedbed's items: a text request is normalised, cut and segmented by its profile; an answer chunk is decoded and stepped through the stop strings from
the state its sequence number picks; a marker releases the held bytes; a bad TABLE or a wrong order gives BLOCK. Replies open one at a time. -/
def Sys2Proof.Claims.ReedbedItems : Prop :=
  (∀ (s : State) (p : Pkt) (d : Dev), Runs s → userves 4 s.dev = true → takePkt 143 s.dev = some (p, d) →
    let q := reqOf p
    let k := q.table % 8
    let pack := (reedSlot k d).bytes
    let pr := rpProfile pack (bitsOf q.table 11 8)
    let run : Instr := if p.kind = 1 then .reedRequestItem else if p.kind = 2 then .reedAnswerChunk else .reedMarker
    let reply := fun (body : List Byte) (d : Dev) => after s (reedQueues (replyOfUnit 4 q body d) d)
    (p.kind = 1 ∨ p.kind = 2 ∨ p.kind = 6) → (p.kind ≠ 1 → ∀ w ∈ s.dev.reed.waiting, w.stream = p.stream → w.kind = 1) →
    (k ∈ d.reed.reload → exec run s = after s (reedQueues (absentReply 4 q d) d)) ∧
    (k ∉ d.reed.reload →
      (p.kind = 1 → reedBad q.table d = false →
        let r := reedText pack pr q.input
        let cuts := b2n r.truncB + b2n r.truncT
        let dropped := fun (d : Dev) => if r.rest = true then bump (kSlu 143 1) d else d
        (r.nRepl = 0 → cuts = 0 → exec run s = reply (plainReply q 15 (reqProduct r 15)) (dropped d)) ∧
        (r.nRepl = 0 → cuts ≠ 0 → exec run s =
          reply (plainReply q 15 (reqProduct r ([15, 4, 1, 15].getD (bitsOf pr.actions 3 2) 15))) (dropped (bumpBy (16 * 4 + 1) (cuts - 1) (raise 4 1 d))))) ∧
      (p.kind = 1 → reedBad q.table d = true → exec run s = reply (plainReply q 15 (reqProduct ⟨[], [], [], 0, 0, false, false, false⟩ 1)) (raise 4 2 d)) ∧
      (p.kind ≠ 1 →
        let c := reedCarry q.stream d
        let d := if q.flush = true ∧ (c.seq ≠ q.seq ∨ c.mark = true) then reedClear q.stream d else d
        let c := reedCarry q.stream d
        let uses := fun (st : ReedSt) => (c.mark = true ∧ st = {}) ∨ (c.mark = false ∧ q.seq = (c.seq + 1) % 2 ^ 32 ∧ st = c.now) ∨
          (c.mark = false ∧ q.seq ≠ (c.seq + 1) % 2 ^ 32 ∧ q.seq = c.seq ∧ st = c.was)
        (c.mark = false → q.seq ≠ (c.seq + 1) % 2 ^ 32 → q.seq ≠ c.seq → reedBad q.table d = false →
          exec run s = reply (plainReply q 1 (ansProduct [] 0 0 0 0 0 0 0)) (raise 4 4 d)) ∧
        (∀ st, uses st → reedBad q.table d = true →
          exec run s = reply (plainReply q 1 []) (raise 4 2 (reedCarrySet q.stream { now := st, was := st, seq := q.seq, mark := false } d))) ∧
        (∀ st, uses st → reedBad q.table d = false → p.kind = 6 →
          exec run s = reply (plainReply q 15 (ansProduct st.held st.held.length 0 0 (b2n st.stopped) 0 0 0))
            (reedCarrySet q.stream { now := {}, was := st, seq := q.seq, mark := false } d)) ∧
        (∀ st, uses st → reedBad q.table d = false → p.kind = 2 →
          let x := decodeChunk pack (q.input.length + 1) q.input
          let o := chunkStep (rpStops pack (bitsOf q.table 7 4)) st x.1
          x.2.2 = 0 →
          let product := ansProduct o.text st.held.length o.st.held.length (b2n o.stop.isSome) (b2n st.stopped) (o.stop.getD 0) x.2.1 0
          let d' := reedCarrySet q.stream { now := o.st, was := st, seq := q.seq, mark := false } d
          (∀ n, o.cut = some n → exec run s = reply (replyBody q.stage 2 false false noScores n q.epoch q.seq [] product) d') ∧
          (o.cut = none → exec run s = reply (plainReply q 15 product) d'))))) ∧
  (∀ (s : State) (p : Pkt) (ps : List Pkt), Runs s → s.dev.reed.waiting = p :: ps → userves 4 s.dev = true →
    ((∀ w ∈ (slu 144 s.dev).words, w.fresh = false) → portFree 144 s.dev = true → Gives .reedReplyOpen s fun d =>
      d.reed.waiting = ps ∧ ∃ d', putPkt 144 { p with gen := ugen 4 s.dev } s.dev = some d' ∧ d = { d' with reed := { d'.reed with waiting := ps } }) ∧
    ((∃ w ∈ (slu 144 s.dev).words, w.fresh = true) ∨ portFree 144 s.dev = false → exec .reedReplyOpen s = after s s.dev))

/-- The bytes of a Unicode scalar value decode to that value, whatever follows them; and they are as many as the code point takes. -/
def Sys2Proof.Claims.Utf8RoundTrip : Prop :=
  ∀ (c : Nat) (rest : List Byte), scalarValue c →
    utf8Step (utf8Enc c ++ rest) = ((utf8Enc c).length, some c) ∧
    (utf8Enc c).length = (if c < 0x80 then 1 else if c < 0x800 then 2 else if c < 0x10000 then 3 else 4)

/-- What a chunk releases and holds: its working text is the text and the held bytes again where no stop string completes; where one does, the text ends
before the string's first byte. -/
def Sys2Proof.Claims.ChunksHoldBack : Prop :=
  ∀ (stops : List (List Byte)) (st : ReedSt) (dec : List Byte),
    let o := chunkStep stops st dec
    let w := st.held ++ dec
    (st.stopped = true → o.text = [] ∧ o.cut = some 0 ∧ o.st = st) ∧
    (st.stopped = false → o.cut = none → o.text ++ o.st.held = w ∧ o.st.held.length ≤ 63 ∧ o.st.stopped = false ∧
      (∀ k, k < 64 → k ≤ w.length → (∃ x ∈ stops, k < x.length ∧ x.take k = w.drop (w.length - k)) → k ≤ o.st.held.length)) ∧
    (st.stopped = false → ∀ n, o.cut = some n → o.text = w.take n ∧ o.st = { held := [], stopped := true } ∧
      ∃ x ∈ stops, x ≠ [] ∧ (w.drop n).take x.length = x)

/-- Shoal: the lowest free scanner takes the packet at the front, unless an answer of its stream is in one; a scanner that has finished commits one reply. -/
def Sys2Proof.Claims.ShoalScanners : Prop :=
  ∀ s : State, Runs s → userves 5 s.dev = true →
    (∀ p d, takePkt 145 s.dev = some (p, d) →
      let held := (p.kind = 2 ∨ p.kind = 6) ∧ ∃ x ∈ s.dev.shoal.scan, ∃ w, x.2 = some w ∧ w.stream = p.stream ∧ (w.kind = 2 ∨ w.kind = 6)
      (held → exec .shoalTakeItem s = after s s.dev) ∧
      (¬ held → ∀ i, i < 16 → scanner i s.dev = none → (∀ j, j < i → scanner j s.dev ≠ none) → exec .shoalTakeItem s = after s (scannerSet i (some p) d)) ∧
      ((∀ i, i < 16 → scanner i s.dev ≠ none) → exec .shoalTakeItem s = after s s.dev)) ∧
    (takePkt 145 s.dev = none → exec .shoalTakeItem s = after s s.dev) ∧
    (∀ i, scanner i s.dev = none → exec (.shoalScanComplete i) s = after s s.dev) ∧
    (∀ i p, scanner i s.dev = some p →
      let q := reqOf p
      let k := q.table % 4
      let pack := (shoalSlot k s.dev).bytes
      (k ∈ s.dev.shoal.reload → ∀ d, putPkt 146 (absentReply 5 q s.dev) s.dev = some d → exec (.shoalScanComplete i) s = after s (scannerSet i none d)) ∧
      (k ∉ s.dev.shoal.reload → p.kind ≠ 2 → p.kind ≠ 6 → q.prod = false → shoalBad q.table s.dev = false →
        let o := shoalScan pack (spProfile pack (bitsOf q.table 7 4)) (fun a b => (a, b)) 0 q.input
        let body := replyBody q.stage o.prop false false o.scores o.cut q.epoch q.seq (o.spans.map fun x => (x.1, x.2 - x.1)) (shoalProduct o false false)
        let d := if o.ovr then raise 5 1 s.dev else s.dev
        let d := if o.acted then raise 5 4 d else d
        (∀ d', putPkt 146 (replyOfUnit 5 q body d) d = some d' → exec (.shoalScanComplete i) s = after s (scannerSet i none d')) ∧
        (putPkt 146 (replyOfUnit 5 q body d) d = none → exec (.shoalScanComplete i) s = after s s.dev)) ∧
      (k ∉ s.dev.shoal.reload → ∀ d', putPkt 146 (replyOfUnit 5 q (shoalItem q s.dev).1 (shoalItem q s.dev).2) (shoalItem q s.dev).2 = some d' →
        exec (.shoalScanComplete i) s = after s (scannerSet i none d')))

/-- Sieve/Tarn: the Sieve takes one row and runs its profile; the row enters the walk while fewer than 16 are in it; one of 64 lanes walks the lowest undealt
tree of the oldest row that has one, one record a tick; a row adds one leaf a tick, in tree order; and the oldest with all added commits its reply. A row whose
slot is still to be reloaded is answered absent. An engine that is READY again reloads what CONFIG names. -/
def Sys2Proof.Claims.TarnRows : Prop :=
  ∀ s : State, Runs s →
    let t := s.dev.tarn
    let with' := fun (d : Dev) (t : Tarn) => ({ d with tarn := t } : Dev)
    (userves 6 s.dev = true →
      (t.sieve = none → ∀ pk d, takePkt 147 s.dev = some (pk, d) →
        let q := reqOf pk
        let k := q.table % 4
        let pack := (tarnSlot k d).bytes
        let prof := bitsOf q.table 7 4
        let row : TarnRow := { pkt := pk, slot := k, prof := prof }
        (k ∈ d.tarn.reload → exec .tarnRowSieve s = after s (putMarker 148 (absentReply 6 q d) d)) ∧
        (k ∉ d.tarn.reload →
          (tarnBad q.table d = true → exec .tarnRowSieve s = after s (let d := raise 6 0 d; with' d { d.tarn with sieve := some { row with bad := 2 } })) ∧
          (tarnBad q.table d = false → q.input.length ≠ rowLen (tpProfile pack prof) →
            exec .tarnRowSieve s = after s (let d := raise 6 1 d; with' d { d.tarn with sieve := some { row with bad := 1 } })) ∧
          (tarnBad q.table d = false → q.input.length = rowLen (tpProfile pack prof) →
            exec .tarnRowSieve s = after s (with' d { d.tarn with sieve := some { row with w := sieve pack (tpProfile pack prof) q.input, sums := baseSums pack } })))) ∧
      (t.sieve ≠ none → exec .tarnRowSieve s = after s s.dev) ∧
      (∀ r, t.sieve = some r → t.walk.length < 16 → exec .tarnRowEnterWalk s = after s (with' s.dev { t with sieve := none, walk := t.walk ++ [r] })) ∧
      (16 ≤ t.walk.length → exec .tarnRowEnterWalk s = after s s.dev) ∧
      (∀ pre r post, t.walk = pre ++ r :: post →
        let pack := (tarnSlot r.slot s.dev).bytes
        ((∀ x ∈ pre, tarnLeft x s.dev = false) → r.bad = 0 → r.nextT < tpNTree pack → t.lanes.length < 64 →
          let o := walkTree pack r.w r.nextT
          exec .tarnLaneTakeTree s = after s (with' s.dev { t with walk := pre ++ { r with nextT := r.nextT + 1 } :: post, lanes := t.lanes ++
            [{ key := rowKey r, t := r.nextT, leaf := o.value, dflt := o.dflt, recs := o.recs, till := s.dev.tickN + o.recs }] })) ∧
        ((∀ x ∈ t.lanes, rowKey r ≠ x.key ∨ s.dev.tickN + 1 < x.till) →
          let t' := (tarnTick s.dev).tarn
          (∀ v, r.got.find? (fun x => x.1 == r.addT) = some (r.addT, v) → t'.walk[pre.length]? =
            some { r with got := r.got.erase (r.addT, v), addT := r.addT + 1, sums := addLeaf pack r.addT v r.sums }) ∧
          ((∀ x ∈ r.got, x.1 ≠ r.addT) → t'.walk[pre.length]? = some r)) ∧
        ((∀ x ∈ pre, x.bad = 0 ∧ x.addT < tpNTree (tarnSlot x.slot s.dev).bytes) → r.bad ≠ 0 ∨ tpNTree pack ≤ r.addT →
          let y := tarnReplyOf r s.dev
          (∀ d, putPkt 148 (replyOfUnit 6 (reqOf r.pkt) y.1 y.2) y.2 = some d →
            exec .tarnReply s = after s (with' d { d.tarn with walk := d.tarn.walk.eraseIdx pre.length, rows := (d.tarn.rows + 1) % 2 ^ 32 })) ∧
          (putPkt 148 (replyOfUnit 6 (reqOf r.pkt) y.1 y.2) y.2 = none → exec .tarnReply s = after s s.dev))) ∧
      (t.walk ≠ [] → ∀ x, x ∈ (tarnTick s.dev).tarn.lanes ↔ x ∈ t.lanes ∧ s.dev.tickN + 1 < x.till) ∧
      (64 ≤ t.lanes.length → exec .tarnLaneTakeTree s = after s s.dev) ∧
      (t.walk = [] → exec .tarnLaneTakeTree s = after s s.dev ∧ exec .tarnReply s = after s s.dev)) ∧
    (∀ u, (u = 4 ∨ u = 5 ∨ u = 6 ∨ (16 ≤ u ∧ u < 24) ∨ u = 30) →
      (uready u s.dev = true → exec (.engineReloadAfterOn u) s = after s ((reloadList u s.dev).foldl (fun d l => reloadOne (if 16 ≤ u ∧ u < 24 then 16 else u) l d) s.dev)) ∧
      (uready u s.dev = false → exec (.engineReloadAfterOn u) s = after s s.dev) ∧
      (∀ l ∈ reloadList u s.dev, ∃ e ∈ cfgLoads s.dev.boot.config, e.slot = l.slot ∧ e.image = l.image ∧ e.engine = l.engine))
/-! ### The Basins (11) -/

namespace Sys2Proof.Claims

/-- Basin `b` alone differs between `d0` and `d`, and holds `x` in `d`. -/
abbrev OnlyBasin (b : Nat) (x : Basin) (d0 d : Dev) : Prop :=
  basin b d = x ∧ (∀ j, j ≠ b → basin j d = basin j d0) ∧ d = { d0 with basin := d.basin }

/-- Operation `i` of Basin `b`'s queue is `q`, and no earlier unfinished operation holds it up: none is on its bank, none is a MAC where it is
one, and none writes what it reads or writes, or reads what it writes (R227). -/
abbrev Unblocked (b i : Nat) (q : BQ) (d : Dev) : Prop :=
  (basin b d).queue[i]? = some q ∧ ∀ j, j < i → ∀ x, (basin b d).queue[j]? = some x → bopWaits x.op q.op = false

/-- Lane and column `(r, n)` lie in tile `t` at columns below `ncol`. -/
abbrev inTile (t : Tile) (ncol r n : Nat) : Prop := t.row0 ≤ r ∧ r < t.row0 + t.nrows ∧ n < ncol

/-- The store words operation `q` reads, of those in `ue`. -/
def badReads (q : BQ) (ue : List Nat) : List Nat := ue.filter ((opWords q.op).contains ·)

/-- Every field of a Basin but its banks, their types and their poison, and its queue, is as in `x`. -/
abbrev banksOnly (x y : Basin) : Prop :=
  y = { x with acc := y.acc, accPois := y.accPois, type0 := y.type0, type1 := y.type1, queue := y.queue }

/-- `d` is `d0` with notice bit `k` of window `w` raised where `c` holds. -/
abbrev RaisedIf (c : Prop) (w k : Nat) (d0 d : Dev) : Prop := (c → d = raise w k d0) ∧ (¬ c → d = d0)

/-- Row `r` is a row of tile `t`. -/
abbrev rowOf (t : Tile) (r : Nat) : Prop := t.row0 ≤ r ∧ r < t.row0 + t.nrows

end Sys2Proof.Claims

/-- A MAC starts its first slice once the MAC before it has run its last, whatever else holds it has finished, and an NMAJOR block is whole in the weight
buffer. Each tick the array runs the next slice of the first such pass, where the words for it have come, and else counts a stall; after the last slice the
stream's handle ends. -/
def Sys2Proof.Claims.MacsStart : Prop :=
  (∀ (s : State) (b i bank h : Nat) (q : BQ) (a : Tile) (st : Stream), Runs s → basinServes b s.dev = true →
    (basin b s.dev).queue[i]? = some q → (∀ j, j < i → ∀ x, (basin b s.dev).queue[j]? = some x → bqHolds x q = false) →
    q.op = .mac bank a st h → q.started = false →
    let x := basin b s.dev
    (st.lay ≠ 1 ∨ st.len ≤ q.got.length → exec (.basinMacStart b i) s =
      after s (basinSet b { x with queue := x.queue.set i { q with started := true } } s.dev)) ∧
    (st.lay = 1 → q.got.length < st.len → exec (.basinMacStart b i) s = after s s.dev)) ∧
  (∀ (d : Dev) (b bank h : Nat) (pre post : List BQ) (q : BQ) (a : Tile) (st : Stream), (basin b d).queue = pre ++ q :: post →
    (∀ x ∈ pre, x.started = false ∨ bopTicks x.op ≤ x.run) → q.op = .mac bank a st h → q.started = true →
    let ticks := macTicks (macMode a.fmt st.wfmt) st.k st.ncol
    let x := basin b d
    q.run < ticks →
    (q.got.length < macUses a st (q.run + 1) → basinSlice b d = basinSet b { x with stall := (x.stall + 1) % 4294967296 } d) ∧
    (macUses a st (q.run + 1) ≤ q.got.length →
      let d' := basinSet b { x with busy := (x.busy + 1) % 4294967296, queue := pre ++ { q with run := q.run + 1 } :: post } d
      (q.run + 1 < ticks → basinSlice b d = d') ∧ (q.run + 1 = ticks → basinSlice b d = handleEnd b h st d')))

/-- ACC: the bank takes the type, every accumulator of it is 0 or, in the tile's rows, what the source tile holds; the other bank stands. INIT zero clears
the bank's poison; a source lane's poison goes with its row. -/
def Sys2Proof.Claims.AccumulatorsAreSet : Prop :=
  ∀ (s : State) (b i ce bank ncol : Nat) (ue hue par : List Nat) (q : BQ) (t : Tile) (f : Bool) (src : Option Tile),
    Runs s → basinServes b s.dev = true → Unblocked b i q s.dev → q.op = .acc bank t ncol f src → bank < 2 → ncol ≤ 512 → t.row0 + t.nrows ≤ 512 →
    (∀ z, src = some z → z.row0 = t.row0 ∧ z.nrows = t.nrows) →
    let d1 := storeErr b ce (badReads q ue) s.dev
    let x := basin b d1
    Leads (.basinOpComplete b i ce ue hue par) s fun d => ∃ y, OnlyBasin b y d1 d ∧ banksOnly x y ∧ y.queue = x.queue.eraseIdx i ∧
      (if bank = 0 then y.type0 = f ∧ y.type1 = x.type1 else y.type1 = f ∧ y.type0 = x.type0) ∧
      (∀ r n, r < 512 → n < 512 → accGet y (1 - bank) r n = accGet x (1 - bank) r n) ∧
      (∀ r, r < 512 → rowPois y (1 - bank) r = rowPois x (1 - bank) r) ∧
      (src = none → ∀ r, r < 512 → (∀ n, n < 512 → accGet y bank r n = 0) ∧ rowPois y bank r = false) ∧
      (∀ z, src = some z → ∀ r, r < 512 →
        (∀ n, n < 512 → inTile t ncol r n → accGet y bank r n = fieldLe (laneRead x r z) (4 * n) 4) ∧
        (∀ n, n < 512 → ¬ inTile t ncol r n → accGet y bank r n = 0) ∧
        (rowOf t r → rowPois y bank r = lanePois x r z) ∧ (¬ rowOf t r → rowPois y bank r = rowPois x bank r))

/-- MAC: once its slices have run, each accumulator of the tile's rows takes the products of its row and its column in ascending k, in the reference
arithmetic; every other one stands. A poisoned lane poisons its row, a poisoned weight every row, a parity error the row where it is found, each counted. A
clamp sets SAT once. -/
def Sys2Proof.Claims.PassesAccumulate : Prop :=
  ∀ (s : State) (b i ce bank h : Nat) (ue hue par : List Nat) (q : BQ) (a : Tile) (st : Stream) (w : List Byte) (got : Bool),
    Runs s → basinServes b s.dev = true → Unblocked b i q s.dev → q.op = .mac bank a st h → q.started = true →
    macTicks (macMode a.fmt st.wfmt) st.k st.ncol ≤ q.run → bank < 2 → st.ncol ≤ 512 → a.row0 + a.nrows ≤ 512 → macBytes q st = some (w, got) →
    let lost := ownBad st hue
    let wBad := got || !lost.isEmpty
    let d1 := storeErr b ce (badReads q ue) (foldSt lost (fun k d => hbmErr 2 (64 * k) d) s.dev)
    let x := basin b d1
    let m := macMode a.fmt st.wfmt
    let rows := (tileLanes a).filter (par.contains ·)
    let cell := fun r n => macCell m a.fmt st.wfmt
      ((List.range st.k).map fun k => (eltAt a.fmt (laneRead x r a) k, wgtAt st.wfmt st.lay st.k st.ncol w k n)) (accGet x bank r n)
    Leads (.basinOpComplete b i ce ue hue par) s fun d => ∃ d2 d3 y, OnlyBasin b y d1 d2 ∧ d3 = foldSt rows (fun _ d => raise (8 + b) 2 d) d2 ∧
      RaisedIf (∃ r n, inTile a st.ncol r n ∧ 0 < (cell r n).2) (8 + b) 3 d3 d ∧
      y = { x with acc := y.acc, accPois := y.accPois, queue := x.queue.eraseIdx i, passes := (x.passes + 1) % 4294967296, parRun := y.parRun } ∧
      (rows ≠ [] → y.parRun = x.parRun + 1) ∧ (rows = [] → y.parRun = 0) ∧
      (∀ r n, r < 512 → n < 512 →
        (inTile a st.ncol r n → accGet y bank r n = (cell r n).1) ∧ (¬ inTile a st.ncol r n → accGet y bank r n = accGet x bank r n) ∧
        accGet y (1 - bank) r n = accGet x (1 - bank) r n) ∧
      (∀ r, r < 512 → rowPois y (1 - bank) r = rowPois x (1 - bank) r ∧
        (rowPois y bank r = true ↔ rowPois x bank r = true ∨ r ∈ rows ∨ rowOf a r ∧ (wBad = true ∨ lanePois x r a = true)))

/-- DRAIN: the tile's lanes in the store take the bank's rows, converted, with their rows' poison; the rest of the store and the bank stand. Every clamp is
counted as SAT; a parity error poisons its row first, and each is counted. -/
def Sys2Proof.Claims.BanksDrain : Prop :=
  ∀ (s : State) (b i ce bank dfmt mult shift zpt fs : Nat) (satfp : Bool) (ue hue par : List Nat) (q : BQ) (t : Tile),
    Runs s → basinServes b s.dev = true → Unblocked b i q s.dev → q.op = .drain bank t dfmt mult shift zpt satfp fs →
    bank < 2 → t.fmt = dfmt → dfmt < 8 → dfmt ≠ 1 → t.len ≤ 512 → t.row0 + t.nrows ≤ 512 → t.off % 64 = 0 → t.off + fmtBytes dfmt t.len ≤ 16384 →
    let x := basin b s.dev
    let int := if bank = 0 then !x.type0 else !x.type1
    let elt := fun r n => drainElt int dfmt (accGet x bank r n) mult shift zpt fs satfp
    let lane := fun r => (List.range t.len).flatMap fun n => toLe (fmtBits dfmt / 8) (elt r n).1
    let rows := (tileLanes t).filter (par.contains ·)
    let clamps := (tileLanes t).flatMap fun r => (List.range t.len).filter fun n => (elt r n).2
    let writes := fun k r o => rowOf t r ∧ o < fmtBytes dfmt t.len ∧ k = laneAt r (t.off + o)
    Leads (.basinOpComplete b i ce ue hue par) s fun d => ∃ d1 y, OnlyBasin b y s.dev d1 ∧
      d = raiseN (8 + b) 3 clamps.length (foldSt rows (fun _ d => raise (8 + b) 2 d) d1) ∧
      y = { x with store := y.store, pois := y.pois, accPois := y.accPois, queue := x.queue.eraseIdx i } ∧
      (∀ r, r < 512 → (rowPois y bank r = true ↔ rowPois x bank r = true ∨ r ∈ rows) ∧ rowPois y (1 - bank) r = rowPois x (1 - bank) r) ∧
      (∀ r, rowOf t r → memRead 0 y.store (laneAt r t.off) (fmtBytes dfmt t.len) = lane r) ∧
      (∀ k, (∀ r o, ¬ writes k r o) → memByte 0 y.store k = memByte 0 x.store k) ∧
      (∀ k r o, writes k r o → tabGet (fun _ => false) y.pois (k / 64) = rowPois y bank r) ∧
      (∀ j, (∀ k r o, writes k r o → j ≠ k / 64) → tabGet (fun _ => false) y.pois j = tabGet (fun _ => false) x.pois j)

/-- A group stream fetches its next block of at most 4 KiB from HBM where fewer than 32 are held; the members then take what they can. -/
def Sys2Proof.Claims.GroupsFetch : Prop :=
  ∀ (s : State) (g : Nat) (ue : List Nat) (gs : GStream) (a : Nat), Runs s → gstrGet g s.dev = some gs → gs.st.src = .hbm a →
    (gs.held.length < 32 → 4096 * gs.next < gs.st.len →
      let lo := a + 4096 * gs.next
      let n := min 4096 (gs.st.len - 4096 * gs.next)
      let d := foldSt (ue.filter fun w => decide (lo / 64 ≤ w) && decide (64 * w < lo + n)) (fun w d => hbmErr 2 (64 * w) d) s.dev
      let r := bytesOf (hbmRun lo n d)
      exec (.groupBlockFetch g ue) s =
        after s (groupRun g (gstrPut g (some { gs with next := gs.next + 1, held := gs.held ++ [{ idx := gs.next, data := r.1, bad := r.2, took := 0 }] }) d))) ∧
    (32 ≤ gs.held.length → exec (.groupBlockFetch g ue) s = after s s.dev)

/-- The patrol of the store reads one word in 64 ticks, in order: a corrected word counts as CE; an uncorrectable one is marked and counts as UE. -/
def Sys2Proof.Claims.StorePatrol : Prop :=
  ∀ (s : State) (b w : Nat), Runs s → basinServes b s.dev = true →
    (w = (basin b s.dev).patrol → (basin b s.dev).patAt ≠ s.dev.tickN / 64 + 1 →
      let at' := fun (x : Basin) => { x with patrol := (x.patrol + 1) % 131072, patAt := s.dev.tickN / 64 + 1 }
      let bad := fun (x : Basin) => { at' x with pois := tabSet (fun _ => false) x.pois w true }
      exec (.basinPatrol b w 0) s = after s (basinSet b (at' (basin b s.dev)) s.dev) ∧
      exec (.basinPatrol b w 1) s = after s (raise (8 + b) 0 (basinSet b (at' (basin b s.dev)) s.dev)) ∧
      (∃ d, OnlyBasin b (bad (basin b s.dev)) s.dev d ∧ exec (.basinPatrol b w 2) s = after s (raise (8 + b) 1 d))) ∧
    (w ≠ (basin b s.dev).patrol ∨ (basin b s.dev).patAt = s.dev.tickN / 64 + 1 → ∀ kind, exec (.basinPatrol b w kind) s = after s s.dev)
/-! ### The instructions of the Longavel cores (13), as lone acting slots of a word -/

namespace Sys2Proof.Claims

/-- Longavel core `c`. -/
def lcore (c : Nat) (d : Dev) : Core := Sys2Proof.Machine.core c d

/-- Core `c` alone differs between `d0` and `d`, and is `r` in `d`. -/
abbrev OnlyCore (c : Nat) (r : Core) (d0 d : Dev) : Prop :=
  lcore c d = r ∧ (∀ j, j ≠ c → lcore j d = lcore j d0) ∧ d = { d0 with longs := { d0.longs with core := d.longs.core } }

/-- Core `c` can issue a word: it serves, no earlier word waits or is still at work, no slot of a word is held, none has issued in this tick, and its pc lies
in the running code. -/
abbrev CoreReady (c : Nat) (s : State) : Prop :=
  Runs s ∧ coreServes c s.dev = true ∧ (lcore c s.dev).wait = .none ∧ (lcore c s.dev).tileWait = false ∧ (lcore c s.dev).kfault = false ∧
  (lcore c s.dev).ret = false ∧ (lcore c s.dev).asm = [] ∧ (lcore c s.dev).held = [] ∧ (lcore c s.dev).issued ≠ (lcore c s.dev).ticks + 1 ∧
  (lcore c s.dev).pc < codeSize (lcore c s.dev)

/-- As `CoreReady`, with a guard or condition `(gp, gs)` that holds. -/
abbrev Issues (c gp : Nat) (gs : Bool) (s : State) : Prop := CoreReady c s ∧ gp < 8 ∧ pRead gp (lcore c s.dev) ≠ gs

/-- The core after a word that only advances. -/
def stepped (k : Core) : Core := { k with pc := k.pc + 64, asm := [], waitAt := k.pc, issued := k.ticks + 1 }

/-- The instruction changes core `c` to `r` and nothing else. -/
abbrev Becomes (i : Instr) (c : Nat) (s : State) (r : Core) : Prop := Leads i s (OnlyCore c r s.dev)

/-- The instruction raises an exception with this cause on slot `sl` of the word at the core's pc. -/
abbrev Raises (i : Instr) (c : Nat) (s : State) (cause sl info : Nat) : Prop :=
  Leads i s fun d => ∃ d1, OnlyCore c (lcore c s.dev) s.dev d1 ∧ d = longExc c cause sl info (lcore c s.dev).pc d1

/-- No issued tile operation still reads or writes Basin `c`'s store. -/
abbrev storeIdle (c : Nat) (d : Dev) : Prop := ∀ q ∈ (basin c d).queue, bopReads q.op = [] ∧ bopWrites q.op = []

/-- A slot 3 access of operation `o` at `g[a] + off` passes every check of R255, R257 and R283 and need not wait (R256). -/
abbrev accessFree (c : Nat) (o : MOp) (a : Nat) (off : Int) (s : State) : Prop :=
  gBad a (lcore c s.dev) = false ∧ accessExc (lcore c s.dev) (memAlign o) (effAddr (lcore c s.dev) a off) (memSize o) (memIsStore o) = none ∧
  (inBwin (effAddr (lcore c s.dev) a off) = true → storeIdle c s.dev)

/-- An instruction of the lane-wise vector kind, without its register and width fields. -/
abbrev VInstr := Nat → Nat → Nat → Bool → Bool → Nat → Nat → Nat → Nat → Nat → Nat → Nat → Bool → Nat → Instr

/-- `v` as all ones or zero of a lane of width code `w`. -/
def ones (w : Nat) (v : Prop) [Decidable v] : Nat := if v then 2 ^ (8 * vSize w) - 1 else 0

end Sys2Proof.Claims

/-- The scalar instructions of format R that write a g register: each is its function of the values the registers had before the word; the result is
poisoned where an operand is (SEL: the chosen one). -/
def Sys2Proof.Claims.ScalarResults : Prop :=
  ∀ (s : State) (c sl gp d a b x err : Nat) (gs : Bool), Issues c gp gs s → (sl = 1 ∨ sl = 2) → d < 32 → a < 32 → b < 32 → x < 8 →
    let k := lcore c s.dev
    let u := gRead a k
    let v := gRead b k
    let n := v.toNat % 64
    let f := fun (i : Nat → Nat → Nat → Bool → Bool → Nat → Nat → Nat → Bool → Nat → Instr) => i c sl gp gs false d a b false err
    (∀ p ∈ [(f .add, u + v), (f .sub, u - v), (f .andG, u &&& v), (f .orG, u ||| v), (f .xor, u ^^^ v),
            (f .shl, BitVec.ofNat 64 (u.toNat * 2 ^ n)), (f .shr, BitVec.ofNat 64 (u.toNat / 2 ^ n)), (f .sar, BitVec.ofInt 64 (u.toInt / 2 ^ n)),
            (f .minG, if u.toInt < v.toInt then u else v), (f .maxG, if u.toInt < v.toInt then v else u),
            (f .minu, if u.toNat < v.toNat then u else v), (f .maxu, if u.toNat < v.toNat then v else u),
            (f .mul, BitVec.ofNat 64 (u.toNat * v.toNat)), (f .mulh, BitVec.ofInt 64 (u.toInt * v.toInt / 2 ^ 64)),
            (f .mulhu, BitVec.ofNat 64 (u.toNat * v.toNat / 2 ^ 64)),
            (f .div, if v = 0 then BitVec.ofInt 64 (-1) else BitVec.ofInt 64 (u.toInt.tdiv v.toInt)),
            (f .divu, if v = 0 then BitVec.ofNat 64 (2 ^ 64 - 1) else BitVec.ofNat 64 (u.toNat / v.toNat)),
            (f .rem, if v = 0 then u else BitVec.ofInt 64 (u.toInt.tmod v.toInt)),
            (f .remu, if v = 0 then u else BitVec.ofNat 64 (u.toNat % v.toNat))],
      Becomes p.1 c s (gPut d p.2 (gBad a k || gBad b k) (stepped k))) ∧
    Becomes (.sel c sl gp gs false d a b x false err) c s
      (if pRead x k = true then gPut d u (gBad a k) (stepped k) else gPut d v (gBad b k) (stepped k)) ∧
    Becomes (.popc c sl gp gs false d a false err) c s
      (gPut d (BitVec.ofNat 64 ((List.range 64).filter fun i => u.getLsbD i).length) (gBad a k) (stepped k)) ∧
    Becomes (.clz c sl gp gs false d a false err) c s
      (gPut d (BitVec.ofNat 64 (if u = 0 then 64 else 63 - Nat.log2 u.toNat)) (gBad a k) (stepped k))

/-- Format I, L and K: the immediate is sign-extended; MOVI, MOVH, MFK and, in the kernel, MTK. -/
def Sys2Proof.Claims.ImmediatesAndMoves : Prop :=
  ∀ (s : State) (c sl gp d a m err : Nat) (gs : Bool) (imm : Int), Issues c gp gs s → (sl = 1 ∨ sl = 2) → d < 32 → a < 32 →
    let k := lcore c s.dev
    let u := gRead a k
    let f := fun (i : Nat → Nat → Nat → Bool → Bool → Nat → Nat → Int → Bool → Nat → Instr) (j : Int) => i c sl gp gs false d a j false err
    (-(2 : Int) ^ 31 ≤ imm → imm < (2 : Int) ^ 31 →
      (∀ p ∈ [(f .addi imm, BitVec.ofInt 64 (u.toInt + imm)), (f .andi imm, u &&& BitVec.ofInt 64 imm), (f .ori imm, u ||| BitVec.ofInt 64 imm),
              (f .xori imm, u ^^^ BitVec.ofInt 64 imm)], Becomes p.1 c s (gPut d p.2 (gBad a k) (stepped k))) ∧
      (d < 8 → gBad a k = false →
        ∀ p ∈ [(f .cmpeqi imm, decide (u.toInt = imm)), (f .cmplti imm, decide (u.toInt < imm)),
               (f .cmpltui imm, decide (u.toNat < (BitVec.ofInt 64 imm).toNat))], Becomes p.1 c s (pPut d p.2 (stepped k)))) ∧
    (m < 64 →
      ∀ p ∈ [(f .shli m, BitVec.ofNat 64 (u.toNat * 2 ^ m)), (f .shri m, BitVec.ofNat 64 (u.toNat / 2 ^ m)), (f .sari m, BitVec.ofInt 64 (u.toInt / 2 ^ m))],
        Becomes p.1 c s (gPut d p.2 (gBad a k) (stepped k))) ∧
    (-(2 : Int) ^ 46 ≤ imm → imm < (2 : Int) ^ 46 → Becomes (.movi c sl gp gs false d imm false err) c s (gPut d (BitVec.ofInt 64 imm) false (stepped k))) ∧
    (m < 131072 → Becomes (.movh c sl gp gs false d m false err) c s
      (gPut d (BitVec.ofNat 64 ((gRead d k).toNat % 2 ^ 47 + m * 2 ^ 47)) (gBad d k) (stepped k))) ∧
    (m < 64 → (k.prog = true → m < 16) → Becomes (.mfk c sl gp gs false d m false err) c s (gPut d (kRead c m k s.dev) false (stepped k))) ∧
    (m < 64 → k.prog = false → Becomes (.mtk c sl gp gs false d m false err) c s (kWrite m (gRead d k) (stepped k)))

/-- Compares write p[D] with their relation, and the predicate operations combine p registers. -/
def Sys2Proof.Claims.ComparesAndPredicates : Prop :=
  ∀ (s : State) (c sl gp d a b err : Nat) (gs : Bool), Issues c gp gs s → (sl = 1 ∨ sl = 2) → d < 8 →
    let k := lcore c s.dev
    let u := gRead a k
    let v := gRead b k
    let x := pRead a k
    let y := pRead b k
    let f := fun (i : Nat → Nat → Nat → Bool → Bool → Nat → Nat → Nat → Bool → Nat → Instr) => i c sl gp gs false d a b false err
    (a < 32 → b < 32 → gBad a k = false → gBad b k = false →
      ∀ p ∈ [(f .cmpeq, decide (u = v)), (f .cmpne, decide (u ≠ v)), (f .cmplt, decide (u.toInt < v.toInt)), (f .cmpltu, decide (u.toNat < v.toNat)),
             (f .cmple, decide (u.toInt ≤ v.toInt)), (f .cmpleu, decide (u.toNat ≤ v.toNat))], Becomes p.1 c s (pPut d p.2 (stepped k))) ∧
    (a < 8 → b < 8 →
      ∀ p ∈ [(f .pand, x && y), (f .por, x || y), (f .pxor, xor x y), (f .pandn, x && !y)], Becomes p.1 c s (pPut d p.2 (stepped k)))

/-- Loads bring the bytes at g[A] + OFF, sign- or zero-extended, with the poison of the words they lie in; a memory error met on the way is counted
and marked first. -/
def Sys2Proof.Claims.LoadsBringBytes : Prop :=
  ∀ (s : State) (c gp t a seg err : Nat) (gs : Bool) (off : Int), Issues c gp gs s → a < 32 → -(2 : Int) ^ 31 ≤ off → off < (2 : Int) ^ 31 →
    let k := lcore c s.dev
    let ea := effAddr k a off
    let d0 := coreMemErr c err ea s.dev
    let at' := fun (i n : Nat) => coreLoad c (ea + i) n d0
    let f := fun (i : Nat → Nat → Nat → Bool → Bool → Nat → Nat → Int → Bool → Nat → Instr) => i c 3 gp gs false t a off false err
    let leads := fun (i : Instr) (r : Core) => Leads i s (OnlyCore c r d0)
    (t < 32 → ∀ p ∈ [((f .ldb, MOp.ldb), true), ((f .ldbu, .ldbu), false), ((f .ldh, .ldh), true), ((f .ldhu, .ldhu), false), ((f .ldw, .ldw), true),
                     ((f .ldwu, .ldwu), false), ((f .ldd, .ldd), false)],
      let n := memSize p.1.2
      let v := ofLe (at' 0 n).1
      accessFree c p.1.2 a off s →
      leads p.1.1 (gPut t (if p.2 then BitVec.ofInt 64 (sgn (8 * n) v) else BitVec.ofNat 64 v) (at' 0 n).2 (stepped k))) ∧
    (t < 16 → accessFree c .vld a off s →
      leads (f .vld) (vPut t ((List.range 8).flatMap fun i => (at' (64 * i) 64).1) (fun i => (at' (64 * i) 64).2) (stepped k))) ∧
    (t < 16 → seg < 8 → accessFree c .vld64 a off s →
      leads (.vld64 c 3 gp gs false t a seg off false err) (vSegPut t seg (at' 0 64).1 (at' 0 64).2 (stepped k))) ∧
    (t < 8 → accessFree c .tld a off s → leads (f .tld) (tPut t (at' 0 16).1 (at' 0 16).2 (stepped k)))

/-- Stores write the low bytes of g[T], a segment or the whole of v[T], or t[T] at g[A] + OFF; a poisoned source writes poisoned words. -/
def Sys2Proof.Claims.StoresWriteBytes : Prop :=
  (∀ (s : State) (c gp t a seg err : Nat) (gs : Bool) (off : Int), Issues c gp gs s → a < 32 → -(2 : Int) ^ 31 ≤ off → off < (2 : Int) ^ 31 →
    let k := lcore c s.dev
    let ea := effAddr k a off
    let f := fun (i : Nat → Nat → Nat → Bool → Bool → Nat → Nat → Int → Bool → Nat → Instr) => i c 3 gp gs false t a off false err
    let leads := fun (i : Instr) (d0 : Dev) => Leads i s (OnlyCore c (stepped k) d0)
    let segOf := fun (i : Nat) => slice (vRead t k) (64 * i) 64
    (t < 32 → ∀ p ∈ [((f .stb, MOp.stb), 1), ((f .sth, .sth), 2), ((f .stw, .stw), 4), ((f .std, .std), 8)], accessFree c p.1.2 a off s →
      leads p.1.1 (coreStore c ea (toLe p.2 (gRead t k).toNat) (gBad t k) s.dev)) ∧
    (t < 16 → seg < 8 → accessFree c .vst64 a off s →
      leads (.vst64 c 3 gp gs false t a seg off false err) (coreStore c ea (segOf seg) (vSegBad t seg k) s.dev)) ∧
    (t < 16 → accessFree c .vst a off s →
      leads (f .vst) (forN 8 (fun i d => coreStore c (ea + 64 * i) (segOf i) (vSegBad t i k) d) s.dev)) ∧
    (t < 8 → accessFree c .tst a off s → leads (f .tst) (coreStore c ea (tRead t k) (tBad t k) s.dev))) ∧
  (∀ (d : Dev) (c a x : Nat) (bs : List Byte) (bad : Bool),
    let d' := coreStore c a bs bad d
    let inside := fun (lo : Nat) => lo ≤ x ∧ x < lo + bs.length
    let word := fun (lo j : Nat) => ∃ i, i < bs.length ∧ j = (lo + i) / 64
    (inBwin a = false → memServes 24 d = true → (∀ j, basin j d' = basin j d) ∧
      (inside a → memByte 0 d'.mere.mem x = bs.getD (x - a) 0) ∧ (¬ inside a → memByte 0 d'.mere.mem x = memByte 0 d.mere.mem x) ∧
      ∀ j, (word a j → tabGet (fun _ => false) d'.mere.pois j = bad) ∧ (¬ word a j → tabGet (fun _ => false) d'.mere.pois j = tabGet (fun _ => false) d.mere.pois j)) ∧
    (inBwin a = true → d'.mere = d.mere ∧ (∀ j, j ≠ c → basin j d' = basin j d) ∧
      let o := a - 0x100000000
      let y := basin c d'
      (inside o → memByte 0 y.store x = bs.getD (x - o) 0) ∧ (¬ inside o → memByte 0 y.store x = memByte 0 (basin c d).store x) ∧
      ∀ j, (word o j → tabGet (fun _ => false) y.pois j = bad) ∧ (¬ word o j → tabGet (fun _ => false) y.pois j = tabGet (fun _ => false) (basin c d).pois j)))

/-- The lane-wise vector instructions on integers and bits: each lane of the result is its function of the lanes of its sources, of the width that W
names; a segment of the result is poisoned where a segment it reads, or g[G], is. -/
def Sys2Proof.Claims.VectorLanes : Prop :=
  ∀ (s : State) (c sl gp d a b cc w g imm err : Nat) (gs : Bool), Issues c gp gs s → (sl = 4 ∨ sl = 5) → d < 16 → a < 16 → b < 16 → cc < 16 → w < 3 →
    g < 32 → imm < 65536 →
    let k := lcore c s.dev
    let bits := 8 * vSize w
    let A := fun i => vLane w (vRead a k) i
    let B := fun i => vLane w (vRead b k) i
    let C := fun i => vLane w (vRead cc k) i
    let G := (gRead g k).toNat
    let sA := fun i => sgn bits (A i)
    let sB := fun i => sgn bits (B i)
    let f := fun (i : VInstr) => i c sl gp gs false d a b cc w g imm false err
    let gives := fun (bad : Nat → Bool) (p : Instr × (Nat → Nat)) => Becomes p.1 c s (vPut d (vOf w p.2) bad (stepped k))
    let badA := fun i => vSegBad a i k
    let badAB := fun i => vSegBad a i k || vSegBad b i k
    (∀ p ∈ [(f .vadd, fun i => (A i + B i) % 2 ^ bits), (f .vsub, fun i => low bits ((A i : Int) - B i)), (f .vadds, fun i => low bits (clampS bits (sA i + sB i))),
            (f .vsubs, fun i => low bits (clampS bits (sA i - sB i))), (f .vmin, fun i => if sA i < sB i then A i else B i),
            (f .vmax, fun i => if sA i < sB i then B i else A i), (f .vand, fun i => A i &&& B i), (f .vor, fun i => A i ||| B i),
            (f .vxor, fun i => A i ^^^ B i), (f .vcmpeq, fun i => ones w (A i = B i)), (f .vcmplt, fun i => ones w (sA i < sB i)),
            (f .vcmpltu, fun i => ones w (A i < B i)), (f .vmul, fun i => A i * B i % 2 ^ bits)], gives badAB p) ∧
    gives (fun i => badAB i || vSegBad cc i k) (f .vsel, fun i => if C i = 0 then B i else A i) ∧
    (∀ p ∈ [(f .vshl, fun i => A i * 2 ^ (G % bits) % 2 ^ bits), (f .vshr, fun i => A i / 2 ^ (G % bits)),
            (f .vsar, fun i => low bits (sA i / 2 ^ (G % bits)))], gives (fun i => badA i || gBad g k) p) ∧
    gives (fun _ => gBad g k) (f .vbcast, fun _ => G % 2 ^ bits) ∧
    (imm < vLanes w → gives (fun i => badA i || (i == imm * vSize w / 64 && gBad g k)) (f .vput, fun i => if i = imm then G % 2 ^ bits else A i)) ∧
    (imm < vLanes w → Becomes (f .vget) c s (gPut g (BitVec.ofInt 64 (sA imm)) (vSegBad a (imm * vSize w / 64) k) (stepped k)))

/-- The float vector instructions, lane by lane: W 1 binary16, W 2 binary32; reciprocal, root and exponential on binary32. -/
def Sys2Proof.Claims.VectorFloats : Prop :=
  ∀ (s : State) (c sl gp d a b cc w g imm err : Nat) (gs : Bool), Issues c gp gs s → (sl = 4 ∨ sl = 5) → d < 16 → a < 16 → b < 16 → cc < 16 → (w = 1 ∨ w = 2) →
    g < 32 → imm < 65536 →
    let k := lcore c s.dev
    let fm := if w = 1 then f16 else f32
    let A := fun i => vLane w (vRead a k) i
    let B := fun i => vLane w (vRead b k) i
    let f := fun (i : VInstr) => i c sl gp gs false d a b cc w g imm false err
    let gives := fun (bad : Nat → Bool) (p : Instr × (Nat → Nat)) => Becomes p.1 c s (vPut d (vOf w p.2) bad (stepped k))
    let badA := fun i => vSegBad a i k
    (∀ p ∈ [(f .vaddf, fun i => fAdd fm (A i) (B i)), (f .vsubf, fun i => fSub fm (A i) (B i)), (f .vmulf, fun i => fMul fm (A i) (B i)),
            (f .vminf, fun i => vMinMaxF fm false (A i) (B i)), (f .vmaxf, fun i => vMinMaxF fm true (A i) (B i)),
            (f .vcmpltf, fun i => ones w (fLt fm (A i) (B i) = true)), (f .vcmpeqf, fun i => ones w (fEq fm (A i) (B i) = true))],
      gives (fun i => badA i || vSegBad b i k) p) ∧
    (∀ p ∈ [(f .vcvtif, fun i => fOfInt fm (sgn (8 * vSize w) (A i))), (f .vcvtfi, fun i => vToInt w (A i))], gives badA p) ∧
    (w = 2 → ∀ p ∈ [(f .vrcp, fun i => fDiv f32 0x3F800000 (A i)), (f .vsqrt, fun i => fSqrt f32 (A i)),
                    (f .vexp, fun i => fConv f64 f32 (e64 (fConv f32 f64 (A i))))], gives badA p)

/-- Packing, unpacking and reducing work across lanes: any poisoned segment they read poisons the whole result. -/
def Sys2Proof.Claims.VectorCrossLanes : Prop :=
  ∀ (s : State) (c sl gp d a b cc w g imm err : Nat) (gs : Bool), Issues c gp gs s → (sl = 4 ∨ sl = 5) → d < 16 → a < 16 → b < 16 → cc < 16 → w < 3 →
    g < 32 → imm < 65536 →
    let k := lcore c s.dev
    let bits := 8 * vSize w
    let va := vRead a k
    let lane := fun (w' i : Nat) => if i < vLanes w' then vLane w' va i else vLane w' (vRead b k) (i - vLanes w')
    let half := fun (w' : Nat) (i : Nat) => vLane (w' - 1) va (i + imm % 2 * vLanes w')
    let f := fun (i : VInstr) => i c sl gp gs false d a b cc w g imm false err
    let gives := fun (i : Instr) (w' : Nat) (x : Nat → Nat) (bad : Bool) => Becomes i c s (vPut d (vOf w' x) (fun _ => bad) (stepped k))
    let badA := vBad a k
    let badAB := vBad a k || vBad b k
    (1 ≤ w → gives (f .vpacks) (w - 1) (fun i => low (bits / 2) (clampS (bits / 2) (sgn bits (lane w i)))) badAB) ∧
    (w = 2 → gives (f .vpackf) 1 (fun i => fConv f32 f16 (lane 2 i)) badAB ∧ gives (f .vpackb) 1 (fun i => fConv f32 bf16 (lane 2 i)) badAB) ∧
    (1 ≤ w → imm ≤ 1 → gives (f .vunpk) w (fun i => low bits (sgn (bits / 2) (half w i))) badA) ∧
    (w = 2 → imm ≤ 1 → gives (f .vunpkf) 2 (fun i => fConv f16 f32 (half 2 i)) badA) ∧
    (w = 2 → gives (f .vunpkb) 2 (fun i => fConv bf16 f32 (half 2 i)) badA) ∧
    (w = 2 → gives (f .vrsumf) 2 (fun i => if i = 0 then (List.range 128).foldl (fun t j => fAdd f32 t (vLane 2 va j)) 0 else 0) badA) ∧
    (w = 2 → gives (f .vrmaxf) 2 (fun i => if i = 0 then
        (let t := (List.range 127).foldl (fun t j => vMinMaxF f32 true t (vLane 2 va (j + 1))) (vLane 2 va 0); if fIsNaN f32 t then fNaN f32 else t) else 0) badA) ∧
    Becomes (f .vrsum) c s (gPut g (BitVec.ofInt 64 ((List.range (vLanes w)).map fun i => sgn bits (vLane w va i)).sum) badA (stepped k)) ∧
    (∃ m : Int, Becomes (f .vrmax) c s (gPut g (BitVec.ofInt 64 m) badA (stepped k)) ∧ (∃ i, i < vLanes w ∧ m = sgn bits (vLane w va i)) ∧
      ∀ i, i < vLanes w → sgn bits (vLane w va i) ≤ m)

/-- Control: a branch whose condition holds goes to its target within the code, CALL keeps the return offset in g31, ERET enters the program, and RET with
status 0 ends the batch: each item's reply is queued in entry order with what the program left in its entry. -/
def Sys2Proof.Claims.ControlTransfers : Prop :=
  (∀ (s : State) (c gp a err : Nat) (gs : Bool) (off : Int), Issues c gp gs s → a < 32 → -(2 : Int) ^ 31 ≤ off → off < (2 : Int) ^ 31 →
    let k := lcore c s.dev
    let t : Int := (k.pc : Int) + 64 * off
    let leads := fun (i : Instr) (r : Core) => Becomes i c s r
    (k.pc % 64 = 0 → 0 ≤ t → t < codeSize k →
      leads (.br c 0 gp gs false off false err) { stepped k with pc := t.toNat } ∧
      leads (.call c 0 gp gs false off false err) { gPut 31 (BitVec.ofNat 64 (k.pc + 64)) false (stepped k) with pc := t.toNat }) ∧
    (gBad a k = false → (gRead a k).toNat % 64 = 0 → (gRead a k).toNat < codeSize k →
      leads (.jr c 0 gp gs false a false err) { stepped k with pc := (gRead a k).toNat }) ∧
    (k.prog = false → leads (.eret c 0 gp gs false false err) { stepped k with prog := true, pc := k.entry }) ∧
    (k.prog = true → gRead 1 k = 0 → Leads (.ret c 0 gp gs false false err) s fun d =>
      ∃ d1, OnlyCore c { stepped k with ret := true } s.dev d1 ∧ d = batchReturn c d1)) ∧
  (∀ (c : Nat) (b : Batch) (d : Dev), (lcore c d).running = some b →
    let k := lcore c d
    let reply := fun (p : Nat × BItem) =>
      (({ stream := p.2.stream, kind := p.2.kind, lidx := p.2.lidx, body := (batchReply k p.1 p.2 d).1 } : Pkt), (batchReply k p.1 p.2 d).2)
    ∃ d', OnlyCore c { k with replies := k.replies ++ ((List.range b.items.length).zip b.items).map reply,
                              lastRun := tabSet (fun _ => 0) k.lastRun b.slot (k.ticks - k.startTick) } d d' ∧
      batchReturn c d = batchEnd c d')

/-- Slot 6: TACC, TMAC and TDRN pass the checks and are issued with their operands as they stand; TWAIT waits while any is unfinished; TSET writes one field
of a descriptor. -/
def Sys2Proof.Claims.TileSlot : Prop :=
  (∀ (s : State) (c gp bank t z ncol h dfmt gm gf field g err : Nat) (gs init type : Bool), Issues c gp gs s → bank < 2 → t < 8 → z < 8 → h < 4 →
    dfmt < 16 → gm < 32 → gf < 32 → g < 32 → tBad t (lcore c s.dev) = false →
    let k := lcore c s.dev
    let tile := tileOf (tRead t k)
    let src := if init then some (tileOf (tRead z k)) else none
    let room := bopNotStarted (basin c s.dev).queue < 4
    let m := (gRead gm k).toNat
    (1 ≤ ncol → ncol ≤ 512 → room → (init = true → tBad z k = false) → accOk tile ncol type src = true →
      Leads (.tacc c 6 gp gs false bank t z init type ncol false err) s (OnlyCore c (stepped k) (bopIssue c (.acc bank tile ncol type src) s.dev))) ∧
    (∀ st, handleOf h k = some st → st.named = false → room → macOk c bank tile st s.dev = true →
      Leads (.tmac c 6 gp gs false bank t h false err) s
        (OnlyCore c (handlePut h (some { st with named := true }) (stepped k)) (bopIssue c (.mac bank tile { st with named := true } h) s.dev))) ∧
    (gBad gm k = false → gBad gf k = false → room → drainRefuse c bank tile dfmt (m / 2 ^ 32 % 64) s.dev = false →
      Leads (.tdrn c 6 gp gs false bank t dfmt gm gf false err) s
        (OnlyCore c (stepped k) (bopIssue c (.drain bank tile dfmt (m % 2 ^ 32) (m / 2 ^ 32 % 64) (m / 2 ^ 40 % 256) (bitOf m 48) ((gRead gf k).toNat % 2 ^ 32))
          s.dev))) ∧
    (gBad g k = false → field ≤ 4 →
      Becomes (.tset c 6 gp gs false t field g false err) c s (tPut t (tsetField field (gRead g k).toNat (tRead t k)) false (stepped k)))) ∧
  (∀ (s : State) (c gp err : Nat) (gs : Bool), Issues c gp gs s →
    let k := lcore c s.dev
    ((basin c s.dev).queue = [] → Becomes (.twait c 6 gp gs false false err) c s (stepped k)) ∧
    ((basin c s.dev).queue ≠ [] → Becomes (.twait c 6 gp gs false false err) c s { stepped k with tileWait := true })) ∧
  (∀ (b : List Byte) (v : Nat), b.length = 16 →
    tileOf (tsetField 0 v b) = { tileOf b with off := v % 2 ^ 14 } ∧ tileOf (tsetField 1 v b) = { tileOf b with row0 := v % 2 ^ 9 } ∧
    tileOf (tsetField 2 v b) = { tileOf b with nrows := v % 2 ^ 10 } ∧ tileOf (tsetField 3 v b) = { tileOf b with len := v % 2 ^ 15 } ∧
    tileOf (tsetField 4 v b) = { tileOf b with fmt := v % 2 ^ 4 })

/-- Slot 7: the operations that complete with their word give their XSTAT; the others leave the core waiting on them. -/
def Sys2Proof.Claims.StreamSlot : Prop :=
  ∀ (s : State) (c gp h src a b lay ncol v seg g idx valid n err : Nat) (gs grp first last : Bool), Issues c gp gs s → h < 4 → a < 32 → b < 32 → v < 16 → seg < 8 →
    g < 32 → idx < 11 →
    let k := lcore c s.dev
    let S := idxSluice c idx
    let done := fun (x : Nat) => { stepped k with xstat := x }
    let A := (gRead a k).toNat
    let B := (gRead b k).toNat
    let toP := fun (i : Instr) (r : Core) (d0 : Dev) => Leads i s (OnlyCore c r d0)
    let reads := idxExc k idx false = none
    (src ≤ 2 → lay ≤ 1 → 1 ≤ ncol → ncol ≤ 512 → gBad a k = false → (src ≠ 0 → gBad b k = false) → sopenBad k h src grp a b ncol s.dev = false →
      Becomes (.sopen c 7 gp gs false h src grp a b lay ncol false err) c s { stepped k with wait := .open' h src grp A B lay ncol (now s.dev) }) ∧
    (handleOf h k = none → Becomes (.sclose c 7 gp gs false h false err) c s (done 0)) ∧
    (∀ st, handleOf h k = some st → st.named = false →
      toP (.sclose c 7 gp gs false h false err) (handlePut h none (done 0)) (streamQuit c st s.dev)) ∧
    (reads →
      (∀ x d, sluRead S s.dev = (some x, d) →
        toP (.slrd c 7 gp gs false v seg g idx false err)
          { gPut g (BitVec.ofNat 64 (b2n x.first + 2 * b2n x.last + 4 * x.valid + 512 * b2n x.still + 1024 * b2n x.abort)) false
              (vSegPut v seg x.data false (stepped k)) with xstat := if x.abort then 3 else 0 } d) ∧
      (∀ d, sluRead S s.dev = (none, d) → toP (.slrd c 7 gp gs false v seg g idx false err) { stepped k with wait := .read v seg g idx } d) ∧
      (gBad g k = false →
        (sluVisible S s.dev = true → Becomes (.slwait c 7 gp gs false g idx false err) c s (done 0)) ∧
        (sluVisible S s.dev = false → gRead g k = 0 → Becomes (.slwait c 7 gp gs false g idx false err) c s (done 1)) ∧
        (sluVisible S s.dev = false → gRead g k ≠ 0 →
          Becomes (.slwait c 7 gp gs false g idx false err) c s { stepped k with wait := .wait idx (now s.dev + (gRead g k).toNat) })) ∧
      toP (.sldrop c 7 gp gs false idx false err) (done 0) (sluDrop S s.dev)) ∧
    (1 ≤ valid → valid ≤ 64 → idxExc k idx true = none → slwrBad c k idx first last valid s.dev = false →
      let data := slice (vRead v k) (64 * seg) 64
      let i := Instr.slwr c 7 gp gs false v seg idx first last valid false err
      (bitOf k.discard idx = false →
        (∀ d, slwrTry S data first last valid (vSegBad v seg k) s.dev = some d → toP i (done 0) d) ∧
        (slwrTry S data first last valid (vSegBad v seg k) s.dev = none →
          Becomes i c s { stepped k with wait := .write idx data first last valid (vSegBad v seg k) })) ∧
      (bitOf k.discard idx = true → first = true →
        (∀ d, slwrTry S data true last valid (vSegBad v seg k) s.dev = some d → toP i { done 0 with discard := k.discard - 2 ^ idx } d) ∧
        (slwrTry S data true last valid (vSegBad v seg k) s.dev = none →
          Becomes i c s { stepped k with wait := .write idx data true last valid (vSegBad v seg k), discard := k.discard - 2 ^ idx })) ∧
      (bitOf k.discard idx = true → first = false → Becomes i c s (done 0))) ∧
    (gBad a k = false → gBad b k = false → A < 2 ^ 24 → 64 ≤ B % 65536 → B % 65536 ≤ 16384 → B % 64 = 0 → B / 65536 % 16 < 8 →
      let i := Instr.sinit c 7 gp gs false a b false err
      (freeMiss c A s.dev = none → toP i (done 0)
        (sessDirPut A { rows := 0, rowb := B % 65536, fmt := B / 65536 % 16, opened := true, first := 0, last := 0 } (sessFree c A s.dev))) ∧
      (∀ p, freeMiss c A s.dev = some p → toP i { stepped k with wait := .free A (some (B % 65536, B / 65536 % 16)) } (tabFetch c p s.dev))) ∧
    (gBad a k = false → gBad b k = false → A < 2 ^ 24 → (sessDir A s.dev).opened = true → 1 ≤ n → n ≤ 512 →
      accessExc k 64 B (n * (sessDir A s.dev).rowb) false = none → (inBwin B = true → storeIdle c s.dev) →
      Becomes (.sapp c 7 gp gs false a b n false err) c s { stepped k with wait := .append A B n }) ∧
    (gBad a k = false → A < 2 ^ 24 →
      let i := Instr.sfree c 7 gp gs false a false err
      (freeMiss c A s.dev = none → toP i (done 0) (sessFree c A s.dev)) ∧
      (∀ p, freeMiss c A s.dev = some p → toP i { stepped k with wait := .free A none } (tabFetch c p s.dev)))

/-- Precise exceptions: the listed words change no register and no memory; they raise their cause, with the slot and the detail. -/
def Sys2Proof.Claims.ExceptionCauses : Prop :=
  ∀ (s : State) (c gp a b d n sl err : Nat) (gs : Bool) (off : Int), Issues c gp gs s → (sl = 1 ∨ sl = 2) → a < 32 → b < 32 → d < 8 →
    -(2 : Int) ^ 31 ≤ off → off < (2 : Int) ^ 31 →
    let k := lcore c s.dev
    let ea := effAddr k a off
    let R := fun (i : Instr) (cause slot info : Nat) => Raises i c s cause slot info
    let t : Int := (k.pc : Int) + 64 * off
    (k.pc % 64 = 0 → t < 0 ∨ (codeSize k : Int) ≤ t → R (.br c 0 gp gs false off false err) 4 0 (low 64 t) ∧ R (.call c 0 gp gs false off false err) 4 0 (low 64 t)) ∧
    (gBad a k = false → (gRead a k).toNat % 64 ≠ 0 → R (.jr c 0 gp gs false a false err) 3 0 (gRead a k).toNat) ∧
    (gBad a k = false → (gRead a k).toNat % 64 = 0 → codeSize k ≤ (gRead a k).toNat → R (.jr c 0 gp gs false a false err) 4 0 (gRead a k).toNat) ∧
    (k.prog = false → R (.ret c 0 gp gs false false err) 1 0 0) ∧
    (k.prog = true → R (.eret c 0 gp gs false false err) 2 0 0 ∧ (n < 64 → R (.mtk c sl gp gs false a n false err) 2 sl 0) ∧
      (16 ≤ n → n < 64 → R (.mfk c sl gp gs false a n false err) 2 sl 0)) ∧
    (gBad a k = true → R (.jr c 0 gp gs false a false err) 5 0 0 ∧ R (.cmpeq c sl gp gs false d a b false err) 5 sl 0 ∧
      (inBwin ea = false → R (.ldb c 3 gp gs false b a off false err) 5 3 0 ∧ R (.stb c 3 gp gs false b a off false err) 5 3 0)) ∧
    (gBad a k = false → inBwin ea = false →
      (ea % 8 ≠ 0 → R (.ldd c 3 gp gs false b a off false err) 3 3 ea ∧ R (.std c 3 gp gs false b a off false err) 3 3 ea) ∧
      (2 ^ 27 ≤ ea → R (.ldb c 3 gp gs false b a off false err) 4 3 ea ∧ R (.stb c 3 gp gs false b a off false err) 4 3 ea)) ∧
    (∀ w imm, (w = 0 ∨ w = 3) → imm < 65536 → R (.vaddf c 4 gp gs false d d d d w a imm false err) 1 4 0) ∧
    (∀ i, 11 ≤ i → i < 16 → R (.sldrop c 7 gp gs false i false err) 8 7 i) ∧
    (k.prog = true → ∀ i ∈ [2, 5, 9], R (.sldrop c 7 gp gs false i false err) 2 7 i) ∧
    (k.prog = false → ∀ i ∈ [1, 3, 4, 10], R (.sldrop c 7 gp gs false i false err) 8 7 i)

/-- What an exception does: EPC, ECAUSE (with the slot and the program slot) and EINFO are written; in the kernel the unit is to fault; in a program the
batch ends, each of its items answered with the image's FAULTACT, and the program's copies of ECAUSE and EPC are kept. -/
def Sys2Proof.Claims.ExceptionsEndTheBatch : Prop :=
  ∀ (c cause slot info epc : Nat) (d : Dev),
    let k := lcore c d
    let ec := cause + 256 * slot + 65536 * (k.running.map (·.slot)).getD 0
    (k.prog = false → longExc c cause slot info epc d = coreSetC c { k with epc := epc, ecause := ec, einfo := info, asm := [], held := [], kfault := true } d) ∧
    (∀ b, k.prog = true → k.running = some b →
      let fa := fieldLe (progOf b.slot k).hdr 31 1
      let body := fun (i : BItem) => replyBody i.stage (if fa = 1 then 4 else 1) false k.twin noScores 0 i.epoch i.seq [] []
      let reply := fun (i : BItem) => (({ stream := i.stream, kind := i.kind, lidx := i.lidx, body := body i } : Pkt), false)
      let d1 := raise (16 + c) 0 d
      let d0 := if cause = 9 then foldSt [1, 4, 6, 7] (fun i d => sluBad (idxSluice c i) d) (raise (16 + c) 1 d1) else d1
      ∃ d', OnlyCore c { k with epc := epc, ecause := ec, einfo := info, asm := [], held := [], elog := ec % 2 ^ 32,
                                epcLog := epc % 2 ^ 32, replies := k.replies ++ b.items.map reply } d0 d' ∧
        longExc c cause slot info epc d = batchEnd c d')

/-- A slot whose guard does not match its sense only advances the word; a slot with more to come is only held; a word that cannot issue yet waits behind those
that wait, and the first of them issues once it can; a core that does not serve takes none. -/
def Sys2Proof.Claims.GuardsHoldBack : Prop :=
  (∀ (s : State) (c gp sl d a b err : Nat) (gs : Bool) (off : Int), CoreReady c s → gp < 8 → pRead gp (lcore c s.dev) = gs → (sl = 1 ∨ sl = 2) → d < 8 → a < 32 → b < 32 →
    -(2 : Int) ^ 31 ≤ off → off < (2 : Int) ^ 31 →
    let k := lcore c s.dev
    ∀ i ∈ [Instr.br c 0 gp gs false off false err, .jr c 0 gp gs false a false err, .call c 0 gp gs false off false err, .ret c 0 gp gs false false err,
           .eret c 0 gp gs false false err, .add c sl gp gs false d a b false err, .cmpeq c sl gp gs false d a b false err, .mtk c sl gp gs false a b false err,
           .ldb c 3 gp gs false b a off false err, .stb c 3 gp gs false b a off false err, .vadd c 4 gp gs false d d d d 0 a b false err,
           .tset c 6 gp gs false d 0 a false err, .twait c 6 gp gs false false err, .sldrop c 7 gp gs false 0 false err, .sfree c 7 gp gs false a false err],
      Becomes i c s (stepped k)) ∧
  (∀ (c err : Nat) (sl : Slot) (d : Dev), coreServes c d = true → (lcore c d).kfault = false →
    let k := lcore c d
    let word := (k.asm.filter fun t => t.slot != sl.slot) ++ [sl]
    let holds := longSlot c sl false err d = coreSetC c { k with asm := [], held := k.held ++ [(word, err)] } d
    longSlot c sl true err d = coreSetC c { k with asm := word } d ∧
    (k.held ≠ [] ∨ k.wait ≠ .none ∨ k.tileWait = true ∨ k.issued = k.ticks + 1 → holds) ∧
    (wordIllegal word = none → k.pc < codeSize k → wordWaits c k word d = true → holds)) ∧
  (∀ (c err : Nat) (sl : Slot) (more : Bool) (d : Dev), (coreServes c d = false ∨ (lcore c d).kfault = true) → longSlot c sl more err d = d) ∧
  (∀ (c err : Nat) (word : List Slot) (ws : List (List Slot × Nat)) (d : Dev), coreServes c d = true →
    let k := lcore c d
    k.kfault = false → k.held = (word, err) :: ws → k.wait = .none → k.tileWait = false → k.issued ≠ k.ticks + 1 → wordWaits c k word d = false →
    heldIssue c d = issueWord c err word (coreSetC c { k with held := ws } d))

/-- What coreFetch, the part of a tick that runs programs, does (the model's choice of when, log entry 41): in program mode the word that stands at the core's pc in
its program's code issues, as the slot encodings spell it (a load may meet a memory error, a free value); a pc at or beyond the code raises ADDR; words that commands
gave go first; in kernel mode, while an operation waits, or where a word has issued in the tick, nothing issues. -/
def Sys2Proof.Claims.CodeIsRun : Prop :=
  ∀ (c : Nat) (d : Dev), coreServes c d = true →
    let k := Machine.core c d
    (k.held ≠ [] → coreFetch c d = heldIssue c d) ∧
    (k.prog = true → k.wait = .none → k.tileWait = false → k.issued ≠ k.ticks + 1 → k.kfault = false → k.asm = [] → k.held = [] →
      (k.pc < codeSize k → ∀ ss : List Slot, ss.Pairwise (fun a b => a.slot < b.slot) → (∀ s ∈ ss, slotLegal s = true) →
        fieldLe (runSlot k).code k.pc 64 = (ss.map fun s => slotEncode s * 2 ^ (64 * s.slot)).sum →
        (wordLoads ss = false → coreFetch c d = issueWord c 0 ss d) ∧
        (wordLoads ss = true → coreFetch c d = issueWord c ((draw d).1 % 3) ss (draw d).2)) ∧
      (codeSize k ≤ k.pc → coreFetch c d = longExc c 4 0 k.pc k.pc d)) ∧
    (k.held = [] → k.prog = false ∨ k.wait ≠ .none ∨ k.tileWait = true ∨ k.issued = k.ticks + 1 → coreFetch c d = d)

/-- The two slots of a word read what the registers held before it: an exchange of two registers by one word. -/
def Sys2Proof.Claims.WordsReadBeforeTheyWrite : Prop :=
  ∀ (s : State) (c a b err : Nat) (s1 s2 : State), CoreReady c s → 1 ≤ a → a < 32 → 1 ≤ b → b < 32 → a ≠ b →
    exec (.ori c 1 0 false false a b 0 true err) s = .next s1 → exec (.ori c 2 0 false false b a 0 false err) s1 = .next s2 → Quiet s.dev →
    gRead a (lcore c s2.dev) = gRead b (lcore c s.dev) ∧ gRead b (lcore c s2.dev) = gRead a (lcore c s.dev) ∧
    ∀ n, n ≠ a → n ≠ b → gRead n (lcore c s2.dev) = gRead n (lcore c s.dev)

/-! ### The kernels of the Longavel cores (12), their waits (13 R293) and dispatch (17) -/

namespace Sys2Proof.Claims

/-- The operation core `c` waits on completes with XSTAT `x`: the core is `k` but for that, and a word that also returned ends its batch now, if it does not wait
for tile operations as well. -/
abbrev Completes (c x : Nat) (k : Core) (d0 d : Dev) : Prop :=
  ∃ d1, OnlyCore c { k with wait := .none, xstat := x, ret := k.ret && k.tileWait } d0 d1 ∧ (k.ret = true → k.tileWait = false → d = batchReturn c d1) ∧
    (k.ret = false ∨ k.tileWait = true → d = d1)

/-- The lanes a request takes (R266). -/
def lanesFor (hdr : List Byte) (inlen : Nat) : Nat :=
  if fieldLe hdr 53 1 = 1 then max 1 (min (fieldLe hdr 32 2) (inlen / 4)) else fieldLe hdr 32 2

/-- An open batch's time has come: its lanes are all taken, GATHER after its first item, or BUDGET before its earliest deadline (R266). -/
def batchDue (k : Core) (b : Batch) (d : Dev) : Bool :=
  b.lane == 512 || due (b.openAt + fieldLe (progOf b.slot k).hdr 36 8) d || due (batchDeadline b - fieldLe (progOf b.slot k).hdr 44 8) d

/-- `b` is the first of the batches `bs` with the earliest deadline. -/
abbrev Earliest (b : Batch) (pre post : List Batch) : Prop :=
  (∀ x ∈ pre, batchDeadline b < batchDeadline x) ∧ ∀ x ∈ post, batchDeadline b ≤ batchDeadline x

end Sys2Proof.Claims

/-- The kernel takes the request at the front of its Sluice: an aborted one is dropped, one for a stopped slot answered absent, one that no program takes
answered BLOCK with NOTE bit 2; any other has its input copied and joins its batch, or opens the next one where its lanes do not fit. -/
def Sys2Proof.Claims.KernelsReadRequests : Prop :=
  ∀ (s : State) (c : Nat) (p : Pkt) (d1 : Dev), Runs s → coreServes c s.dev = true → (lcore c s.dev).closed.length < 8 →
    takePkt (149 + c) s.dev = some (p, d1) →
    let k := lcore c s.dev
    let table := fieldLe p.body 2 2
    let sl := table % 16
    let en := table / 16 % 16
    let stage := fieldLe p.body 0 1 % 8
    let epoch := fieldLe p.body 8 2
    let seq := fieldLe p.body 12 4
    let inlen := fieldLe p.body 4 4
    let hdr := (progOf sl k).hdr
    let refused := hdr = [] ∨ fieldLe hdr 30 1 ≤ en ∨ fieldLe p.body 1 1 % 4 ≠ fieldLe hdr 53 1 ∨ 256 ≤ table
    let run := exec (.kernelRequestRead c) s
    (p.aborted = true → run = after s d1) ∧
    (p.aborted = false → slotStopped c sl s.dev = true →
      run = after s (putMarker (157 + c) { stream := p.stream, absent := true, gen := ugen (16 + c) s.dev, lidx := p.lidx, stage := stage + 1 } d1)) ∧
    (p.aborted = false → slotStopped c sl s.dev = false → refused → ∃ d, run = after s (replyFlush c d) ∧
      OnlyCore c { k with replies := k.replies ++ [({ stream := p.stream, kind := p.kind, lidx := p.lidx,
                                                      body := replyBody stage 1 false false noScores 0 epoch seq [] [] }, false)] } (raise (16 + c) 2 d1) d) ∧
    (p.aborted = false → slotStopped c sl s.dev = false → ¬ refused →
      let n := lanesFor hdr inlen
      let mine := k.openB.find? fun x => x.slot == sl && x.entry == en
      (inputPlace c inlen k = none → run = after s s.dev) ∧
      (∀ at', inputPlace c inlen k = some at' → ∃ d, run = after s (longAsk c d) ∧
        (let d0 := mereWrite at' (slice p.body 52 inlen) d1
         let item : Nat → BItem := fun row0 =>
           { lidx := p.lidx, stream := p.stream, dir := fieldLe p.body 10 1 % 2, kind := p.kind, epoch := epoch, seq := seq, stage := stage, row0 := row0,
             nrows := n, inaddr := at', inlen := inlen, deadline := fieldLe p.body 16 8, prio := rPrio (routeAt (fieldLe p.body 11 1) epoch s.dev) }
         let fresh : Batch := { slot := sl, entry := en, items := [], lane := fieldLe hdr 34 2, openAt := now s.dev, input := 0 }
         let grown := fun (b : Batch) => { b with items := b.items ++ [item b.lane], lane := b.lane + n }
         let placed := fun (k : Core) (b : Batch) => if b.lane = 512 ∧ k.closed.length < 8 then { k with closed := k.closed ++ [b] } else { k with openB := k.openB ++ [b] }
         (mine = none → OnlyCore c (placed k (grown fresh)) d0 d) ∧
         (∀ b, mine = some b → b.lane + n ≤ 512 → OnlyCore c (placed { k with openB := k.openB.erase b } (grown b)) d0 d) ∧
         (∀ b, mine = some b → 512 < b.lane + n →
           OnlyCore c (placed { k with openB := k.openB.erase b, closed := k.closed ++ [b] } (grown fresh)) d0 d))))

/-- Batches close when their time has come, while fewer than 8 are closed, and the kernel asks for dispatch of the closed batch with the earliest deadline, with what the program's header
and its items say, one request at a time. -/
def Sys2Proof.Claims.BatchesCloseAndAsk : Prop :=
  (∀ (s : State) (c : Nat), Runs s → coreServes c s.dev = true →
    let k := lcore c s.dev
    ∃ d, exec (.batchCloseTimer c) s = after s (longAsk c d) ∧
      let go := (k.openB.filter fun b => batchDue k b s.dev).take (8 - k.closed.length)
      OnlyCore c { k with openB := go.foldl List.erase k.openB, closed := k.closed ++ go } s.dev d) ∧
  (∀ (c : Nat) (d : Dev), ((lcore c d).asked ≠ none ∨ (lcore c d).running ≠ none ∨ (lcore c d).closed = []) → longAsk c d = d) ∧
  (∀ (c : Nat) (b : Batch) (pre post : List Batch) (d : Dev), (lcore c d).asked = none → (lcore c d).running = none → (lcore c d).closed = pre ++ b :: post →
    Earliest b pre post →
    let k := lcore c d
    ∃ d1, OnlyCore c { k with closed := b :: pre ++ post, asked := some (now d) } d d1 ∧ ∃ q : DReq,
      longAsk c d = { d1 with therm := { d1.therm with reqs := d1.therm.reqs ++ [q], evalNow := true } } ∧
      q.core = c ∧ q.arrived = now d ∧ q.eclass = fieldLe (progOf b.slot k).hdr 52 1 % 8 ∧ q.deadline = batchDeadline b ∧
      (b.items ≠ [] → q.prio ≤ 3 ∧ (∀ i ∈ b.items, q.prio ≤ i.prio)) ∧ (∀ i ∈ b.items, i.prio ≤ 3 → ∃ j ∈ b.items, q.prio = min 3 j.prio) ∧
      ((∀ e ∈ k.lastRun, e.1 ≠ b.slot) → q.ticks = d.therm.efirst))

/-- Dispatch: the forced requests are granted first, oldest first, and counted; the rest in ascending key while credit or urgency allows. -/
def Sys2Proof.Claims.DispatchIsEvaluated : Prop :=
  ∀ (s : State) (drawn : Nat) (F R : List DReq), Runs s →
    let d0 := { s.dev with therm := { s.dev.therm with drawn := drawn } }
    let t := d0.therm
    let credit : Int := (t.plimNow * 1000 : Int) - t.debt - drawn
    let short := decide (2 * credit < t.plimNow * 1000)
    let isForced := fun (q : DReq) => q.arrived + 9123840 ≤ now d0
    let d1 := foldSt F (fun q d => raise 98 6 (grantReq q d)) d0
    F.Perm (t.reqs.filter fun q => isForced q) → F.Pairwise (fun a b => a.arrived < b.arrived) →
    R.Perm (t.reqs.filter fun q => ¬ isForced q) →
    R.Pairwise (fun a b => reqKey short a d1 < reqKey short b d1 ∨ (reqKey short a d1 = reqKey short b d1 ∧ a.core < b.core)) →
    let d2 := grantWalk t.rung t.deferprio t.urgent R credit d1
    exec (.dispatchEvaluate drawn) s = after s { d2 with therm := { d2.therm with evalNow := false, lastEval := now d2 } }

/-- A grant enters the program: the batch table is written, g1 to g3 hold its address, NITEM and the entry, the other g registers 0, p0 alone is set, and BUDGET
runs from now; the v and t registers hold values the spec leaves undefined. -/
def Sys2Proof.Claims.GrantsEnterThePrograms : Prop :=
  ∀ (s : State) (c t : Nat) (b : Batch) (rest : List Batch) (p : Pkt) (d1 : Dev), Runs s → coreServes c s.dev = true → (lcore c s.dev).closed = b :: rest →
    (lcore c s.dev).asked = some t → (lcore c s.dev).running = none → takePkt (181 + 8 * c) s.dev = some (p, d1) →
    let k := lcore c s.dev
    let at' := 0x400000 + 0x100000 * c
    let ps := progOf b.slot k
    let e := fieldLe ps.hdr (64 + 4 * b.entry) 4
    Gives (.dispatchGrant c) s fun d => ∃ r,
      let d2 := mereWrite at' (batchTable b d1) d1
      OnlyCore c r { d2 with freeCtr := d2.freeCtr + 24 } d ∧
      r = { k with closed := rest, asked := none, running := some b, prog := true, batchK := at', dataK := ps.dataAt, asm := [], held := [], wait := .none, tileWait := false,
                   ret := false, twin := false, discard := 0, g := r.g, gP := r.gP, v := r.v, vP := r.vP, t := r.t, tP := r.tP, p := 1, startAt := now s.dev,
                   startTick := k.ticks, budget := now s.dev + fieldLe ps.hdr 44 8, entry := e, pc := e } ∧
      gRead 1 r = BitVec.ofNat 64 at' ∧ gRead 2 r = BitVec.ofNat 64 b.items.length ∧ gRead 3 r = BitVec.ofNat 64 b.entry ∧
      (∀ n, n ≠ 1 → n ≠ 2 → n ≠ 3 → gRead n r = 0) ∧ (∀ n, gBad n r = false) ∧
      (∀ n, n < 16 → (vRead n r).length = 512 ∧ vBad n r = false) ∧ (∀ n, n < 8 → (tRead n r).length = 16 ∧ tBad n r = false)

/-- BUDGET: a program past it ends with cause 9, the waiting word's operation withdrawn and EPC naming that word. -/
def Sys2Proof.Claims.BudgetsExpire : Prop :=
  ∀ (s : State) (c : Nat), Runs s → coreServes c s.dev = true → (lcore c s.dev).prog = true → (lcore c s.dev).running ≠ none →
    let k := lcore c s.dev
    (due k.budget s.dev = true →
      (k.tileWait = false → k.wait = .none → exec (.budgetExpiry c) s = after s (settle (longExc c 9 0 0 k.pc s.dev))) ∧
      (k.tileWait = true → exec (.budgetExpiry c) s = after s (settle (longExc c 9 6 0 k.waitAt s.dev))) ∧
      (k.tileWait = false → k.wait ≠ .none → exec (.budgetExpiry c) s = after s (settle (longExc c 9 7 0 k.waitAt s.dev)))) ∧
    (due k.budget s.dev = false → exec (.budgetExpiry c) s = after s (settle s.dev))

/-- What a core waits for completes: a held write once the Sluice takes it, or REWOUND where its packet turned bad; a read; an SLWAIT, in time or at its timeout;
TWAIT, once its Basin's queue is empty; a session's end, once its table pages on peers are read; an append, whole or with NOPAGE. -/
def Sys2Proof.Claims.WaitsComplete : Prop :=
  ∀ (s : State) (c : Nat) (remote errs : List (Nat × Nat)), Runs s → coreServes c s.dev = true →
    let k := lcore c s.dev
    let run := exec (.queueOpComplete c remote errs) s
    let ends := fun (x : Nat) (k : Core) (d0 : Dev) => Gives (.queueOpComplete c remote errs) s (Completes c x k d0)
    let stays := run = after s s.dev
    (k.tileWait = true → (basin c s.dev).queue = [] → k.wait = .none → ∃ d1, OnlyCore c { k with tileWait := false, ret := false } s.dev d1 ∧
      run = after s (replyFlush c (if k.ret = true then batchReturn c d1 else d1))) ∧
    ((k.tileWait = true → (basin c s.dev).queue ≠ []) →
      (k.wait = .none → run = after s (replyFlush c s.dev)) ∧
      (∀ i data first last valid bad, k.wait = .write i data first last valid bad →
        let n := idxSluice c i
        let x := slu n s.dev
        let lost := first = false ∧ (x.opened = true ∧ x.absorb = true ∧ x.turned = true ∨ x.opened = false ∧ x.absorb = false)
        let shut := sluMod n (fun x => { x with opened := false, absorb := false, answer := false, turned := false, openN := 0 }) s.dev
        (lost → ends 2 { k with discard := k.discard ||| 2 ^ i } shut) ∧
        (¬ lost → (∀ d, slwrTry n data first last valid bad s.dev = some d → ends 0 k d) ∧ (slwrTry n data first last valid bad s.dev = none → stays))) ∧
      (∀ i u, k.wait = .wait i u → (sluVisible (idxSluice c i) s.dev = true → ends 0 k s.dev) ∧ (sluVisible (idxSluice c i) s.dev = false → stays)) ∧
      (∀ v seg g i, k.wait = .read v seg g i →
        (∀ x d, sluRead (idxSluice c i) s.dev = (some x, d) → ends (if x.abort then 3 else 0) (slrdDone v seg g x k) d) ∧
        (∀ d, sluRead (idxSluice c i) s.dev = (none, d) → run = after s d)) ∧
      (∀ id init, k.wait = .free id init →
        (∀ p, freeMiss c id s.dev = some p → run = after s (tabFetch c p s.dev)) ∧
        (freeMiss c id s.dev = none → ends 0 k (sessEndNow c id init s.dev))) ∧
      (∀ id addr n, k.wait = .append id addr n →
        let e := sessDir id s.dev
        let here := e.rows = 0 ∨ rowMiss c e (e.rows - 1) s.dev = none
        (∀ p, e.rows ≠ 0 → rowMiss c e (e.rows - 1) s.dev = some p → run = after s (tabFetch c p s.dev)) ∧
        (here →
          let d0 := foldSt (errs.filter fun x => decide (addr ≤ x.1) && decide (x.1 < addr + n * e.rowb)) (fun x d => coreMemErr c x.2 x.1 d) s.dev
          let noPage := ends 4 k (raise (8 + c) 4 d0)
          (sessGrow n c remote e d0 = none → noPage) ∧
          (∀ e' d, sessGrow n c remote e d0 = some (e', d) →
            let lost := ∃ i l, i < n ∧ RowPart.lost l ∈ rowParts c e' (e.rows + i) d
            let d' := foldSt ((List.range n).zip (sappRows c addr n e.rowb d0)) (fun p d => sappRow c e' (e.rows + p.1) p.2 d) d
            let sent := ∃ q ∈ d'.jetty.memreq, q.write = true ∧ q.basin = c
            let took := (d'.hbm.pages.map (·.1)).filter fun p => !d0.hbm.pages.any (·.1 == p)
            (lost → noPage) ∧
            (¬ lost → ¬ sent → ends 0 k (sessDirPut id e' d')) ∧
            (¬ lost → sent → Gives (.queueOpComplete c remote errs) s (OnlyCore c { k with wait := .sent id n e'.rows e'.first e'.last took } d'))))) ∧
      (∀ id n rows first last took, k.wait = .sent id n rows first last took →
        let out := ∃ q ∈ s.dev.jetty.memreq, q.write = true ∧ q.basin = c
        (out → stays) ∧ (¬ out → ends 0 k (sessDirPut id { sessDir id s.dev with rows := rows, first := first, last := last } s.dev)))) ∧
    (∀ i u, k.wait = .wait i u →
      (sluVisible (idxSluice c i) s.dev = true → Gives (.slwaitTimeout c) s (Completes c 0 k s.dev)) ∧
      (sluVisible (idxSluice c i) s.dev = false → due u s.dev = true → Gives (.slwaitTimeout c) s (Completes c 1 k s.dev)) ∧
      (sluVisible (idxSluice c i) s.dev = false → due u s.dev = false → exec (.slwaitTimeout c) s = after s s.dev))

/-- A waiting SOPEN: not while two streams are open; an entry of the stream table opens as the core's own stream, its twin under Shallows; a session's rows
once its table pages are here and the peers that hold some are asked; a group stream is opened, joined while block 0 is held, waited for where an issued pass
needs the open one, or else declined where another is open. -/
def Sys2Proof.Claims.StreamsOpen : Prop :=
  ∀ (s : State) (c h src a b lay ncol t : Nat) (grp : Bool), Runs s → coreServes c s.dev = true →
    (lcore c s.dev).wait = .open' h src grp a b lay ncol t → ((lcore c s.dev).tileWait = true → (basin c s.dev).queue ≠ []) →
    let k := lcore c s.dev
    let run := exec (.queueOpComplete c [] []) s
    let ends := fun (st : Stream) (d0 : Dev) =>
      Gives (.queueOpComplete c [] []) s (Completes c (if st.twin then 5 else 0) { handlePut h (some st) k with twin := k.twin || st.twin } d0)
    (2 ≤ handlesOpen k → run = after s s.dev) ∧
    (handlesOpen k < 2 →
      (src = 2 →
        let e := sessDir a s.dev
        (∀ p, rowMiss c e (b + ncol - 1) s.dev = some p → run = after s (tabFetch c p s.dev)) ∧
        (rowMiss c e (b + ncol - 1) s.dev = none → ends (sessStream e a b lay ncol) (sessFetch c e b ncol s.dev))) ∧
      (src = 1 → grp = false → run = after s s.dev) ∧
      (src = 0 →
        let p := runSlot k
        let tw := fieldLe (strmEntry p a) 18 2
        let twin := 1 ≤ s.dev.therm.shlevel ∧ fieldLe p.hdr 6 2 % 2 = 1 ∧ tw ≠ 0xFFFF ∧ fieldLe (strmEntry p a) 12 1 = 0
        let of := fun (g : Option Nat) (e : Nat) (w : Bool) => strmOf p e (.hbm (p.wgtAt + fieldLe (strmEntry p e) 0 8)) g w
        let x := basin c s.dev
        ((grp = false ∨ x.groupEn = false) → (twin → ends (of none tw true) s.dev) ∧ (¬ twin → ends (of none a false) s.dev)) ∧
        (grp = true → x.groupEn = true → x.gid < 8 → ¬ twin →
          let st := of (some x.gid) a false
          let m := groupMembers x.gid s.dev
          (gstrGet x.gid s.dev = none → m ≠ 0 → ends st (gstrPut x.gid (some { st := st, members := m }) s.dev)) ∧
          (gstrGet x.gid s.dev = none → m = 0 → ends st s.dev) ∧
          (∀ gs, gstrGet x.gid s.dev = some gs →
            let fresh := gs.next = 0 ∨ ∃ q ∈ gs.held, q.idx = 0 ∧ bitOf q.took c = false
            (sameStream gs.st st = false → groupNeeds c gs.st s.dev = false → run = after s (groupQuit c x.gid s.dev)) ∧
            (sameStream gs.st st = false → groupNeeds c gs.st s.dev = true → run = after s s.dev) ∧
            (sameStream gs.st st = true → bitOf gs.members c = true → fresh → groupJoined c gs.st s.dev = false → ends st s.dev) ∧
            (sameStream gs.st st = true → bitOf gs.members c = false ∨ ¬ fresh ∨ groupJoined c gs.st s.dev = true → run = after s s.dev)))))
/-! ### Mere and the Siphon (14) -/

namespace Sys2Proof.Claims

/-- The Siphon can take a job: it serves, has a free place, and has reported every job of its last reset. -/
abbrev siphonFree (d : Dev) : Prop := userves 25 d = true ∧ d.siph.active.length < 8 ∧ d.siph.stopped = []

/-- The fields of a job from its submission, accepted at `acc`: not a reset's, nothing done. -/
def freshJob (sub : SSub) (x : SDesc) (acc : Nat) : SJob :=
  { sub := sub, d := x, bounced := sBounced x, rowdesc := sRowDesc x, bytedesc := sByteDesc x, accAt := acc }

/-- The block with the Siphon's jobs in progress one more. -/
def siphonHolds (j : SJob) (d : Dev) : Dev := { d with siph := { d.siph with active := d.siph.active ++ [j] } }

/-- The block once job `j` has been reported and counted: a core's by a packet on its completion Sluice, if that takes it whole, a waiting line by its answer.
A job that failed its checks counts as refused. -/
def reported (j : SJob) (d0 : Dev) : Option Dev :=
  let count := fun (d : Dev) =>
    let d : Dev := { d with siph := { d.siph with jobs := d.siph.jobs + 1 } }
    if j.status = 1 ∨ j.status = 2 then raise 25 0 d else d
  match j.sub with
  | .core c _ =>
    ((putPkt (176 + 8 * c) { gen := ugen 25 d0, lidx := noLidx, body := jobDoneBody j d0 } d0).filter fun d => (slu (176 + 8 * c) d).wait.isEmpty).map count
  | .shore sid tag true => some (answer ⟨sid, tag⟩ (.siphon j.d.jobid) none [jobLine j] (count d0))
  | .shore _ _ false => some (count d0)

end Sys2Proof.Claims

/-- Each of the 16 banks of Mere refreshes one of its 8,192 rows at its Gauge instants, 24,000 gu apart and 1,500 gu after the bank before it; its patrol reads one
word in 1,024 ticks, in order: errors are counted, and an uncorrectable one marks its word and is noted. -/
def Sys2Proof.Claims.MereRefreshAndPatrol : Prop :=
  ∀ (s : State) (b w : Nat), Runs s → b < 16 →
    let instant := ∃ t, now s.dev ≤ t ∧ t < spanEnd s.dev ∧ t % 24000 = 1500 * b
    let row := tabGet (fun _ => 0) s.dev.mere.row b
    let done := tabGet (fun _ => 0) s.dev.mere.refAt b = now s.dev + 1
    let read := tabGet (fun _ => 0) s.dev.mere.patAt b = s.dev.tickN / 1024 + 1
    (instant → ¬ done → exec (.mereRefresh b) s = after s { s.dev with mere := { s.dev.mere with
      refAt := tabSet (fun _ => 0) s.dev.mere.refAt b (now s.dev + 1), row := tabSet (fun _ => 0) s.dev.mere.row b ((row + 1) % 8192) } }) ∧
    (¬ instant ∨ done → exec (.mereRefresh b) s = after s s.dev) ∧
    (w = tabGet (fun _ => 0) s.dev.mere.patrol b → ¬ read → s.dev.clk ≠ .ice → userves 24 s.dev = true →
      let a := 64 * (16 * w + b)
      let d : Dev := { s.dev with mere := { s.dev.mere with patrol := tabSet (fun _ => 0) s.dev.mere.patrol b ((w + 1) % 131072),
                                                            patAt := tabSet (fun _ => 0) s.dev.mere.patAt b (s.dev.tickN / 1024 + 1) } }
      exec (.merePatrol b w 0) s = after s d ∧ exec (.merePatrol b w 1) s = after s (raise 24 0 d) ∧
      exec (.merePatrol b w 2) s =
        after s (let d := raise 24 1 d; { d with mere := { d.mere with pois := tabSet (fun _ => false) d.mere.pois (16 * w + b) true, ueaddr := a } })) ∧
    (w ≠ tabGet (fun _ => 0) s.dev.mere.patrol b ∨ read ∨ s.dev.clk = .ice ∨ userves 24 s.dev = false →
      ∀ kind, exec (.merePatrol b w kind) s = after s s.dev)

/-- The Siphon takes the next job of the source whose turn it is: a core's packet, a line of the Shore agent or a packet of a service Sluice. A job that fails its
checks ends with RANGE or DENIED and writes nothing; one that moves nothing is done at once; any other reads its source and writes its first bytes in visit order. -/
def Sys2Proof.Claims.SiphonTakesJobs : Prop :=
  ∀ (s : State) (n : Nat) (errs : List (Nat × Nat)), Runs s → siphonFree s.dev →
    let turned := fun (c : Nat) => ({ s.dev with siph := { s.dev.siph with turn := (c + 1) % 25 } } : Dev)
    let starts := fun (i : Instr) (sub : SSub) (slot : Nat) (x : SDesc) (acc : Nat) (d : Dev) =>
      let st := jobCheck sub slot x d
      (jobRangeOk x d = false → st = 1) ∧ (jobRangeOk x d = true → jobAllowed sub slot x d = false → st = 2) ∧
      (st ≠ 0 → exec i s = after s (settle (siphonHolds { sub := sub, d := x, status := st, accAt := acc } d))) ∧
      (st = 0 →
        let d1 := if sBounced x then raise 25 1 d else d
        let j := freshJob sub x acc
        let total := x.rowlen * x.nrows
        (jobStill x = true → exec i s = after s (settle (siphonHolds { j with done := total } d1))) ∧
        (jobStill x = false →
          let met := errs.filter fun y => decide ((jobSrc x).1 ≤ (y.1 : Int)) && decide ((y.1 : Int) < (jobSrc x).2)
          let r := jobRead x (sVisit x) (foldSt met (spaceErr x.ssp x.sb) d1)
          let w := jobWrite (min n total) { j with data := r.1 } r.2
          exec i s = after s (settle (siphonHolds w.1 w.2))))
    (∀ j js, srcTurn s.dev = some 8 → s.dev.siph.queue = j :: js →
      starts (.siphonJob 8 n errs) j.sub 0 j.d j.accAt (let d := turned 8; { d with siph := { d.siph with queue := js } })) ∧
    (∀ c p d ws v w, srcTurn s.dev = some c → c ≠ 8 → takePkt (srcSluice c) (turned c) = some (p, d) →
      frontPkt (slu (srcSluice c) s.dev).words = some ws → ws.head? = some v → ws.getLast? = some w →
      (p.aborted = true → exec (.siphonJob c n errs) s = after s (settle d)) ∧
      (p.aborted = false →
        starts (.siphonJob c n errs) (if c < 8 then .core c (w.prog != 0) else .shore 0 "" false) w.prog (sDesc (slice p.body 52 64)) v.on d)) ∧
    (∀ c, srcTurn s.dev ≠ some c → exec (.siphonJob c n errs) s = after s (settle s.dev)) ∧
    (∀ c, srcTurn s.dev = some c ↔ c < 25 ∧ srcReady c s.dev = true ∧
      ∀ b, b < 25 → srcReady b s.dev = true → (c + 25 - s.dev.siph.turn % 25) % 25 ≤ (b + 25 - s.dev.siph.turn % 25) % 25)

/-- A job in progress writes the rest and is reported; without room on the core's completion Sluice it stays; after a reset, the stopped jobs are reported
ABORTED once the Siphon is READY, counted by NOTE bit 2. -/
def Sys2Proof.Claims.SiphonReports : Prop :=
  (∀ (s : State) (i : Nat) (j : SJob), Runs s → userves 25 s.dev = true → s.dev.siph.active[i]? = some j →
    let w := if j.status = 0 ∧ jobStill j.d = false then jobWrite (j.d.rowlen * j.d.nrows) j s.dev else (j, s.dev)
    let d0 := { w.2 with siph := { w.2.siph with active := w.2.siph.active.eraseIdx i } }
    (∀ d, reported w.1 d0 = some d → exec (.siphonCompletion i) s = after s (settle d)) ∧
    (reported w.1 d0 = none → exec (.siphonCompletion i) s = after s (settle { w.2 with siph := { w.2.siph with active := w.2.siph.active.set i w.1 } }))) ∧
  (∀ (s : State) (j : SJob) (js : List SJob), Runs s → uready 25 s.dev = true → s.dev.siph.stopped = j :: js →
    ∀ d, reported { j with status := 3 } { s.dev with siph := { s.dev.siph with stopped := js } } = some d → exec .siphonAbortReport s = after s (settle (raise 25 2 d)))

/-- A whole copy within Mere, through its two commands: the destination takes the bytes the source had, in whatever way the two spans overlap, and every other
byte stands. -/
def Obligations.SiphonCopiesMere : Prop :=
  ∀ (s s1 s2 : State) (x : SDesc) (n : Nat), Runs s → siphonFree s.dev → Quiet s.dev → s.dev.siph.active = [] →
    s.dev.siph.queue = [{ sub := .shore 0 "" false, d := x }] → srcTurn s.dev = some 8 → userves 24 s.dev = true → s.dev.mere.pois = [] →
    x.ssp = 0 → x.dsp = 0 → jobCheck (.shore 0 "" false) 0 x s.dev = 0 → x.nrows = 1 → n ≤ x.rowlen →
    exec (.siphonJob 8 n []) s = .next s1 → exec (.siphonCompletion 0) s1 = .next s2 →
    (∀ i, i < x.rowlen → memByte 0 s2.dev.mere.mem (x.dst + i) = memByte 0 s.dev.mere.mem (x.src + i)) ∧
    (∀ a, (a < x.dst ∨ x.dst + x.rowlen ≤ a) → memByte 0 s2.dev.mere.mem a = memByte 0 s.dev.mere.mem a) ∧
    s2.dev.siph.active = [] ∧ s2.dev.siph.jobs = s.dev.siph.jobs + 1

/-! ### The Wellhead (15) -/

namespace Sys2Proof.Claims

/-- The block with the Wellhead `w`. -/
def withWell (w : Well) (d : Dev) : Dev := { d with well := w }

/-- Part runs, and the Wellhead may listen (R325). -/
abbrev Listening (s : State) : Prop := Runs s ∧ wellListens s.dev = true

/-- A device frame as the packet the Wellhead writes: word 0 names its stream and no record, the frame follows from word 1 on (06 R116, 15 R318). -/
def framePkt (b : List Byte) (d : Dev) : Pkt :=
  { stream := d.well.stream, kind := 4, gen := ugen 30 d, lidx := noLidx, body := List.replicate 52 0 ++ b }

/-- The tick by which Ripple has evaluated the hop that ended now (R327). -/
def ripplesBy (s : State) : Nat := s.dev.tickN + (wpMacs s.dev.well.pack + 63) / 64 + 32

/-- `w` is back in SEEP with nothing kept of what it heard: no hop, no feature, no frame to drain (R330, R331). -/
abbrev forgot (w : Well) : Prop := w.lstate = .seep ∧ w.gate = false ∧ w.ring = [] ∧ w.hist = [] ∧ w.drain = [] ∧ w.draining = false ∧ w.drained = false ∧ w.late = [] ∧ w.fresh = false

end Sys2Proof.Claims

/-- An overload of 100 µs switches a supply that is on off and sets BIASFLT; an input's ramp ends 2 ms after it was powered. -/
def Sys2Proof.Claims.SuppliesAndRamps : Prop :=
  ∀ s : State, Runs s → wellHere s.dev = true →
    let w := s.dev.well
    (wSupplyOn 1 w = true → exec (.biasOverload 1) s = after s (raise 30 4 (withWell { w with supA := { w.supA with flt := true } } s.dev))) ∧
    (wSupplyOn 2 w = true → exec (.biasOverload 2) s = after s (raise 30 4 (withWell { w with supB := { w.supB with flt := true } } s.dev))) ∧
    (wSupplyOn 1 w = false → exec (.biasOverload 1) s = after s s.dev) ∧
    (∀ n, n < 8 → (wIn n w).ramp ≠ 0 →
      (due (wIn n w).ramp s.dev = true → exec (.inputRampEnd n) s = after s (withWell (wInSet n { wIn n w with ramp := 0 } w) s.dev)) ∧
      (due (wIn n w).ramp s.dev = false → exec (.inputRampEnd n) s = after s s.dev))

/-- A decimator's output: the nearest int16 value, ties to even, saturated. The end of a hop: it is judged by its energy and zero crossings, kept in the ring of 200 and, with a Ripple model, in the feature history; NTRIG active hops
start Ripple, HANG inactive ones in SEEP zeroise, RTIME and WHANG end RIPPLE and AWAKE. -/
def Sys2Proof.Claims.HopsAreJudged : Prop :=
  (∀ v : Int, let y := pcmRound v
    (-32768 : Int) ≤ y ∧ y ≤ 32767 ∧ (65536 * 32767 ≤ v → y = 32767) ∧ (v ≤ 65536 * -32768 → y = -32768) ∧
    (65536 * -32768 ≤ v → v ≤ 65536 * 32767 → 65536 * y - 32768 ≤ v ∧ v ≤ 65536 * y + 32768 ∧
      (v = 65536 * y - 32768 ∨ v = 65536 * y + 32768 → y % 2 = 0))) ∧
  (∀ (s : State) (raw : List Int), Listening s → due (s.dev.well.hopAt + 92160000) s.dev = true → raw.length = 160 →
    let x := raw.map pcmRound
    let w := s.dev.well
    let energy := (x.map fun v => (v * v).toNat).sum
    let act := w.ethr ≤ energy / 256 ∧ w.zmin ≤ seepZc x ∧ seepZc x ≤ w.zmax
    let judged := fun (w : Well) (a i : Nat) => { w with active := a, inactive := i, hopAt := w.hopAt + 92160000 }
    let ring := (w.ring ++ [x]).drop (w.ring.length + 1 - 200)
    let hist := if hasRipple w = true then (w.hist ++ [hopFeatures w x]).drop (w.hist.length + 1 - wpNwin w.pack) else []
    let kept := { w with ring := ring, hist := hist }
    let gives := fun (v : Well) => (act → exec (.seepHop raw) s = after s (withWell (judged v (w.active + 1) 0) s.dev)) ∧
      (¬ act → exec (.seepHop raw) s = after s (withWell (judged v 0 (w.inactive + 1)) s.dev))
    (w.lstate = .seep → gives kept) ∧ (w.lstate = .ripple → gives { kept with hops := w.hops + 1, fresh := true, evalBy := ripplesBy s }) ∧ (w.lstate = .awake → gives w) ∧
    (w.lstate = .opened → w.drained = false → exec (.seepHop raw) s = after s (withWell { kept with hopAt := w.hopAt + 92160000 } s.dev)) ∧
    (w.lstate = .opened → w.drained = true → exec (.seepHop raw) s = after s s.dev) ∧
    ((w.lstate = .off ∨ w.lstate = .capture) → exec (.seepHop raw) s = after s s.dev)) ∧
  (∀ s : State, Listening s →
    let w := s.dev.well
    let gives := fun (i : Instr) (v : Well) => exec i s = after s (withWell v s.dev)
    (w.lstate = .seep → w.ntrig ≤ w.active → gives .seepTrigger { w with lstate := .ripple, hops := 0, fresh := true, evalBy := ripplesBy s }) ∧
    ((w.lstate ≠ .seep ∨ w.active < w.ntrig) → gives .seepTrigger w) ∧
    (w.lstate = .seep → w.hang ≤ w.inactive →
      gives .hangZeroise { w with ring := [], hist := [], fresh := false, drain := [], draining := false, inactive := 0 }) ∧
    ((w.lstate ≠ .seep ∨ w.inactive < w.hang) → gives .hangZeroise w) ∧
    (w.lstate = .ripple → w.fresh = false → w.rtime ≤ w.hops → gives .rippleTimeout (toSeep (now s.dev) w)) ∧
    (w.lstate = .ripple → w.hops < w.rtime → gives .rippleTimeout w) ∧
    (w.lstate = .awake → w.whang ≠ 0 → w.whang ≤ w.inactive → gives .whangExpiry (toSeep (now s.dev) w)) ∧
    (w.lstate = .awake → (w.whang = 0 ∨ w.inactive < w.whang) → gives .whangExpiry w))

/-- Ripple's evaluation of a fresh hop: a score at or above RTHR, read signed, is a wake: the gate opens, WAKE is raised and the Gauge is noted; in Ice, or on
the way there, it is a wake source as well. -/
def Sys2Proof.Claims.RippleWakes : Prop :=
  ∀ s : State, Listening s → s.dev.well.lstate = .ripple → s.dev.well.fresh = true →
    let w := { s.dev.well with fresh := false }
    let score := rippleScore w.pack w.hist
    let open' := wPower (now s.dev) { w with lstate := .opened, gate := true, wakeAt := now s.dev, drained := false, draining := false, drain := [], late := [],
                                                lastOut := none, lastLidx := 0, lastVerdict := none }
    let woken := raise 30 0 (withWell open' s.dev)
    (score < w.rthr.toInt → exec .rippleEvaluation s = after s (withWell w s.dev)) ∧
    (w.rthr.toInt ≤ score → s.dev.therm.istate ≠ 1 → s.dev.therm.istate ≠ 2 → exec .rippleEvaluation s = after s woken) ∧
    (w.rthr.toInt ≤ score → (s.dev.therm.istate = 1 ∨ s.dev.therm.istate = 2) →
      exec .rippleEvaluation s = after s (wakeLatch 4 (withWell { open' with wakeIce := true } woken)))

/-- The drain: it starts once the unit is READY with the ring's complete frames, writes one a slot of eight ticks into Sluice 165, oldest first, with PRE and
on the last LASTPRE. Once LASTPRE is committed the ring is zeroised, and the live frames that waited follow it. -/
def Sys2Proof.Claims.WakesDrain : Prop :=
  ∀ s : State, Runs s → uready 30 s.dev = true → s.dev.well.lstate = .opened →
    let w := s.dev.well
    (w.gate = true → w.drained = false → w.cur = none → exec .wakeDrainStart s = after s (withWell
      { w with drained := true, draining := true, drain := ringFrames w.flen w.ring, cur := some (0, w.flen, [w.lmic]), frameAt := w.hopAt, drainAt := w.hopAt,
               nowFlen := w.flen, nowRate := w.rate, emitAt := s.dev.tickN + 7 } s.dev)) ∧
    ((w.gate = false ∨ w.drained = true ∨ w.cur ≠ none) → exec .wakeDrainStart s = after s s.dev) ∧
    (w.draining = true → w.emitAt ≤ s.dev.tickN → portFree 165 s.dev = true → ∀ x xs, w.drain = x :: xs →
      let bytes := wellFrameBytes 0 w.flen true xs.isEmpty false [w.lmic] (w.drainAt - 92160000 * (w.flen + 1) * (xs.length + 1)) [x]
      let v := { w with drain := xs, emitAt := s.dev.tickN + 8 }
      let bad := ctrVal 65535 (kSlu 165 0) s.dev
      (xs ≠ [] → exec .drainFrameEmit s = after s (putMarker 165 (framePkt bytes s.dev) (withWell v s.dev))) ∧
      (xs = [] → w.late = [] →
        let e := putMarker 165 (framePkt bytes s.dev) (withWell { v with draining := false, lastOut := some bad } s.dev)
        (portFree 165 e = true → ctrVal 65535 (kSlu 165 0) e = bad → exec .drainFrameEmit s = after s (withWell
          { e.well with ring := [], hist := [], fresh := false, drain := [], draining := false, lastOut := none, late := [] } e)) ∧
        (portFree 165 e = false → exec .drainFrameEmit s = after s (withWell { e.well with late := [] } e)))) ∧
    ((w.draining = false ∨ s.dev.tickN < w.emitAt ∨ portFree 165 s.dev = false) → exec .drainFrameEmit s = after s s.dev) ∧
    (w.flen = 0 → ringFrames w.flen w.ring = w.ring) ∧
    (w.flen = 1 → (ringFrames w.flen w.ring).length = w.ring.length / 2 ∧ (ringFrames w.flen w.ring).flatten = (w.ring.drop (w.ring.length % 2)).flatten)

/-- The decision: PASS or HOLD released for LASTPRE confirms the wake, any other verdict, or none by OPENTTL, rejects it and zeroises. -/
def Sys2Proof.Claims.WakesAreDecided : Prop :=
  ∀ s : State, Runs s → s.dev.well.lstate = .opened →
    let w := s.dev.well
    (∀ v, w.lastVerdict = some v →
      ((v = 0 ∨ v = 4) → exec .wakeDecision s = after s (withWell (wPower (now s.dev)
        { w with lastVerdict := none, hopAt := now s.dev, lstate := .awake, live := [], active := 0, inactive := 0 }) s.dev)) ∧
      (v ≠ 0 → v ≠ 4 → Gives .wakeDecision s fun d => ∃ x, d = raise 30 1 (withWell x s.dev) ∧ forgot x)) ∧
    (w.lastVerdict = none → exec .wakeDecision s = after s s.dev) ∧
    (w.lastVerdict = none → due (w.wakeAt + w.openttl * 9216) s.dev = true →
      Gives .openttlExpiry s fun d => ∃ x, d = raise 30 6 (raise 30 1 (withWell x s.dev)) ∧ forgot x) ∧
    ((w.lastVerdict ≠ none ∨ due (w.wakeAt + w.openttl * 9216) s.dev = false) → exec .openttlExpiry s = after s s.dev)

/-- A frame at the front of Sluice 165 is admitted as an item of STREAM, kind 0x4, its archive slot by its sequence number; where STREAM has no route it is
discarded and counted, and rejects the wake if it was its last; without a free record, or room in the hold store, it waits. Its bytes stand in the hold
store, Sluice 142. -/
def Sys2Proof.Claims.FramesAreAdmitted : Prop :=
  (∀ s : State, Runs s → frameFront s.dev = none → exec .wellFrameAdmit s = after s (settle s.dev)) ∧
  ∀ (s : State) (p : Pkt) (d : Dev), Runs s → frameFront s.dev = some (p, d) → uready 3 d = true →
    let w := d.well
    let f := p.body.drop 52
    let last := bitOf (fieldLe f 2 1) 2
    let seq := (streamSt (2 * p.stream) d).next
    let slot := seq % 2 ^ w.aL
    let base := (w.abaseLo.toNat + 2 ^ 32 * w.abaseHi.toNat) / 16384 * 16384 + 16384 * slot
    (boundRoute p.stream 0 d = none → (last = false ∨ w.lstate ≠ .opened) → exec .wellFrameAdmit s = after s (settle (raise 30 5 d))) ∧
    (boundRoute p.stream 0 d = none → last = true → w.lstate = .opened → Leads .wellFrameAdmit s fun e =>
      ∃ x, e = raise 30 1 (withWell x (raise 30 5 d)) ∧ forgot x) ∧
    (∀ r c, boundRoute p.stream 0 d = some (r, c) →
      (ledgOpen d = false ∨ ledgPick d = none ∨ holdOpen d = false → exec .wellFrameAdmit s = after s (settle s.dev)) ∧
      (∀ l, ledgOpen d = true → holdOpen d = true → ledgPick d = some l → ∃ a : AdmitIn, ∃ v : Well,
        exec .wellFrameAdmit s = after s (settle (itemPut 142 l f (admitItem a r c l (withWell v d)))) ∧
        a.stream = p.stream ∧ a.kind = 4 ∧ a.dir = 0 ∧ a.payload = f ∧ a.whole = true ∧ a.host = false ∧ a.cookie = base ∧ a.rbuf = base ∧
        a.rlen = (if w.aEn then 16384 else 0) ∧ a.subidx = slot ∧ a.cq = w.aCq ∧
        v = { w with lastLidx := if last = true ∧ w.lstate = .opened then l + 1 else w.lastLidx }))

/-- A frame boundary writes the frame in progress, with its header and samples, into Sluice 165, or holds it behind a drain that has not ended; it brings
pending RATE, FLEN and map changes into force, flushes what they change, and begins the next. -/
def Sys2Proof.Claims.FrameBoundaries : Prop :=
  ∀ (s : State) (x : List (List Int)), Runs s → wellHere s.dev = true → userves 30 s.dev = true →
    let w := s.dev.well
    let gu := 92160000 * (w.nowFlen + 1)
    (due (w.frameAt + gu) s.dev = false → exec (.wellFrameBoundary x) s = after s s.dev) ∧
    (due (w.frameAt + gu) s.dev = true → Gives (.wellFrameBoundary x) s fun d => ∃ v e, d = withWell v e ∧
      v = { w with frameAt := w.frameAt + gu, nowRate := w.rate, nowFlen := w.flen, late := v.late, cur := v.cur, flush := v.flush, live := v.live, inp := v.inp } ∧
      (w.cur = none → e = s.dev ∧ v.late = w.late) ∧
      (∀ r f srcs, w.cur = some (r, f, srcs) →
        let n := wellS1 r * (f + 1)
        let xs := (List.range srcs.length).map fun k => fitSamples n (x.getD k [])
        let bytes := wellFrameBytes r f false false w.flush srcs w.frameAt xs
        (w.draining = false → e = putMarker 165 (framePkt bytes s.dev) (withWell { w with flush := false } s.dev) ∧ v.late = w.late) ∧
        (w.draining = true → e = s.dev ∧ v.late = w.late ++ [bytes])) ∧
      ((w.lstate = .awake ∨ w.lstate = .capture) →
        (∀ c, c < 8 → ((wMap c w).en = false ∨ (wIn (wMap c w).inp w).ramp = 0) → wLive c v = wMap c w) ∧
        (∀ c, c < 8 → (wMap c w).en = true → (wIn (wMap c w).inp w).ramp ≠ 0 → wLive c v = wLive c w) ∧
        (let srcs := ((List.range 8).filter fun c => (wLive c v).en).map fun c => (wLive c v).inp
         v.cur = (if srcs = [] then none else some (w.rate, w.flen, srcs)) ∧
         (v.flush = true ↔ (w.cur = none ∧ w.flush = true) ∨ (srcs ≠ [] ∧ (w.nowRate ≠ w.rate ∨ w.nowFlen ≠ w.flen)) ∨
           ∃ c, c < 8 ∧ wLive c v ≠ wLive c w ∧ ((wLive c v).en = true ∨ (wLive c w).en = true)))) ∧
      (w.lstate = .opened → v.live = w.live ∧ v.inp = w.inp ∧ v.flush = false ∧
        v.cur = if w.drained = true then some (0, w.flen, [w.lmic]) else none) ∧
      ((w.lstate = .off ∨ w.lstate = .seep ∨ w.lstate = .ripple) → v.cur = none ∧ v.flush = false ∧ v.live = w.live ∧ v.inp = w.inp))

/-- A frame stage replies with the band features of the frame's channels under the pack's set, or with BLOCK and NOTE bit 3 for a bad frame or TABLE. -/
def Sys2Proof.Claims.FrameStagesReply : Prop :=
  ∀ (s : State) (l i : Nat) (it : Item), Runs s → wellHere s.dev = true → userves 30 s.dev = true → item? l s.dev = some it →
    let st := rStage (routeAt it.route it.epoch s.dev) i
    let t := stTable st
    let p := s.dev.well.pack
    let bad := 4 ≤ t ∨ p = [] ∨ wpNfset p ≤ t ∨ wellBadFrame it.host it.payload = true
    let q : Req := { lidx := l, stream := it.stream, kind := it.kind, stage := i, flush := false, prod := false, host := it.host, table := t, epoch := it.epoch,
                     seq := it.seq, input := [], plen := it.payload.length }
    stKind st = 5 → (∃ a b, it.stages.getD i .idle = .sent a b) →
    (∀ w ∈ (slu 165 s.dev).words, ¬ (w.first = true ∧ fieldLe w.data 8 4 = l)) →
    (¬ bad →
      let body := replyBody i 15 false false noScores 0 it.epoch it.seq [] (wellProduct p t it.payload)
      (∀ d, replyPut 165 30 q body s.dev = some d → exec (.frameStageFeatures l i) s = after s (settle d)) ∧
      (replyPut 165 30 q body s.dev = none → exec (.frameStageFeatures l i) s = after s (settle s.dev))) ∧
    (bad →
      let put := replyPut 165 30 q (replyBody i 1 false false noScores 0 it.epoch it.seq [] []) (raise 30 3 s.dev)
      (∀ d, put = some d → exec (.frameStageFeatures l i) s = after s (settle d)) ∧ (put = none → exec (.frameStageFeatures l i) s = after s (settle s.dev)))

/-- LISTEN: a reserved value, or wake without a Ripple pack, is discarded and counted; a change zeroises what was heard. DRAIN is denied while the gate is
closed; FORGET empties the ring, the history and the drain. Without a Wellhead each is discarded and counted. -/
def Sys2Proof.Claims.ListenControls : Prop :=
  (∀ (s : State) (v : Nat), Runs s → HostFree s → wellHere s.dev = false →
    exec (.listenWrite v) s = after s (badacc s.dev) ∧ exec .wellCtlDrain s = after s (badacc s.dev) ∧ exec .wellCtlForget s = after s (badacc s.dev)) ∧
  (∀ (s : State) (v : Nat), Runs s → HostFree s → wellHere s.dev = true →
    let w := s.dev.well
    let z := { w with ring := [], hist := [], fresh := false, drain := [], draining := false }
    let gives := fun (i : Instr) (x : Well) => exec i s = after s (withWell x s.dev)
    ((3 ≤ v ∨ (v = 1 ∧ hasRipple w = false)) → exec (.listenWrite v) s = after s (badacc s.dev)) ∧
    (v < 3 → (v = 1 → hasRipple w = true) → wellListens s.dev = false → v ≠ w.listen → gives (.listenWrite v) { z with listen := v }) ∧
    (wellListens s.dev = true → w.listen ≠ 0 → gives (.listenWrite 0) (toOff (now s.dev) { z with listen := 0 })) ∧
    (wellListens s.dev = true → hasRipple w = true → w.listen ≠ 1 → (w.lstate = .off ∨ w.lstate = .awake ∨ w.lstate = .capture) →
      gives (.listenWrite 1) (toSeep (now s.dev) { z with listen := 1 })) ∧
    (wellListens s.dev = true → w.listen ≠ 2 → w.lstate = .off →
      gives (.listenWrite 2) (wPower (now s.dev) { z with listen := 2, lstate := .capture, live := [], active := 0, inactive := 0 })) ∧
    (w.gate = false → exec .wellCtlDrain s = after s (raise 30 2 s.dev)) ∧ (w.gate = true → exec .wellCtlDrain s = after s s.dev) ∧
    gives .wellCtlForget z)

/-- What the commands of a wake and of its frames do where nothing else stands in the way: the drain starts and commits its frames, a verdict confirms, a late one
rejects, the frame in progress is committed, a frame no stream takes is discarded, and a good frame's stage replies. -/
def Sys2Proof.Claims.WakeCommandsComplete : Prop :=
  ∀ s : State, Runs s → wellHere s.dev = true → uready 30 s.dev = true →
    let w := s.dev.well
    let gives := fun (i : Instr) (v : Well) => exec i s = after s (withWell v s.dev)
    let zero := fun (v : Well) => ({ v with ring := [], hist := [], fresh := false, drain := [], draining := false } : Well)
    (w.lstate = .opened → w.gate = true → w.drained = false → w.cur = none → gives .wakeDrainStart
      { w with drained := true, draining := true, drain := ringFrames w.flen w.ring, cur := some (0, w.flen, [w.lmic]), frameAt := w.hopAt, drainAt := w.hopAt,
               nowFlen := w.flen, nowRate := w.rate, emitAt := s.dev.tickN + 7 }) ∧
    (∀ x y xs, w.lstate = .opened → w.draining = true → w.emitAt ≤ s.dev.tickN → portFree 165 s.dev = true → w.drain = x :: y :: xs → ∃ p : Pkt,
      p.lidx = noLidx ∧ p.stream = w.stream ∧ p.aborted = false ∧
      exec .drainFrameEmit s = after s (putMarker 165 p (withWell { w with drain := y :: xs, emitAt := s.dev.tickN + 8 } s.dev))) ∧
    (w.lstate = .opened → w.lastVerdict = some 0 → gives .wakeDecision
      (wPower (now s.dev) { w with lastVerdict := none, hopAt := now s.dev, lstate := .awake, live := [], active := 0, inactive := 0 })) ∧
    (w.lstate = .opened → w.lastVerdict = none → due (w.wakeAt + w.openttl * 9216) s.dev = true →
      exec .openttlExpiry s = after s (raise 30 6 (raise 30 1 (withWell (toSeep (now s.dev) (zero w)) s.dev)))) ∧
    (∀ x, w.lstate = .off → due (w.frameAt + 92160000 * (w.nowFlen + 1)) s.dev = true →
      let v := { w with frameAt := w.frameAt + 92160000 * (w.nowFlen + 1), nowRate := w.rate, nowFlen := w.flen, cur := none, flush := false }
      (w.cur = none → gives (.wellFrameBoundary x) v) ∧
      (∀ r f srcs, w.cur = some (r, f, srcs) → w.draining = false → ∃ p : Pkt, p.lidx = noLidx ∧ p.stream = w.stream ∧ p.aborted = false ∧
        exec (.wellFrameBoundary x) s = after s (withWell v (putMarker 165 p (withWell { w with flush := false } s.dev))))) ∧
    (∀ p d, uready 3 d = true → frameFront s.dev = some (p, d) → bitOf (fieldLe (p.body.drop 52) 2 1) 2 = false → boundRoute p.stream 0 d = none →
      exec .wellFrameAdmit s = after s (settle (raise 30 5 d))) ∧
    (∀ l i it a b, item? l s.dev = some it → stKind (rStage (routeAt it.route it.epoch s.dev) i) = 5 → it.stages.getD i .idle = .sent a b →
      (∀ x ∈ (slu 165 s.dev).words, ¬ (x.first = true ∧ fieldLe x.data 8 4 = l)) → portFree 165 s.dev = true →
      ∃ p d0 d, (d0 = s.dev ∨ d0 = raise 30 3 s.dev) ∧ putPkt 165 p d0 = some d ∧ p.stream = it.stream ∧ p.lidx = l ∧
        exec (.frameStageFeatures l i) s = after s (settle d))
/-! ### Jetty links, routing and the Ferry (16) -/

namespace Sys2Proof.Claims

/-- Link `j` alone differs between `d0` and `d`, and is `l` in `d`. -/
abbrev OnlyLink (j : Nat) (l : JLink) (d0 d : Dev) : Prop :=
  jlink j d = l ∧ (∀ i, i ≠ j → jlink i d = jlink i d0) ∧ d = { d0 with jetty := { d0.jetty with link := d.jetty.link } }

/-- The block with the Jetty switch `y`, or the Ferry `f`. -/
def withJetty (y : Jetty) (d : Dev) : Dev := { d with jetty := y }
def withFerry (f : Ferry) (d : Dev) : Dev := { d with ferry := f }

/-- A link that reaches UP at Gauge `t`: its counts, numbers and buffers of sent frames begin anew (R344, R346). -/
def upNow (t : Nat) (l : JLink) : JLink :=
  { l with st := .up, used0 := 0, used1 := 0, free0 := 0, free1 := 0, my0 := 0, my1 := 0, nextSeq := 0, sent := [], rxLast := 4095, rxAny := false, gap := false,
           unret := 0, ackAt := t, advAt := t }

/-- Link `j` is UP on this part. -/
abbrev Up (j : Nat) (s : State) : Prop := Runs s ∧ linkHere j s.dev = true ∧ (jlink j s.dev).st = .up

/-- What the HELLO frame `f` says of the peer, noted in JETTY_PEER. -/
def peerSeen (f : JFrame) (l : JLink) : JLink :=
  { l with peerV := true, peerNode := fieldLe f.data 0 2, peerLink := fieldLe f.data 2 1 % 64, peerVar := fieldLe f.data 3 1 % 16 }

/-- The packet at the head of a receive lane is taken; its frames are freed. -/
abbrev popped (j vl : Nat) (p : JPkt) (d0 d : Dev) : Prop :=
  let l := jlink j d0
  (vl = 0 → l.rx0.head? = some p ∧ d = jlinkSet j { l with rx0 := l.rx0.tail, my0 := (l.my0 + pktFrames p) % 256 } d0) ∧
  (vl ≠ 0 → l.rx1.head? = some p ∧ d = jlinkSet j { l with rx1 := l.rx1.tail, my1 := (l.my1 + pktFrames p) % 256 } d0)

end Sys2Proof.Claims

/-- Bring-up: TRAIN, ALIGN and HELLO in turn; in HELLO a frame goes out every 9,216 gu until the peer's has come; one that does not fit is counted and the link
stays; one that does leads on to KEY, where this end encrypts, or to UP. -/
def Sys2Proof.Claims.LinksComeUp : Prop :=
  (∀ (s : State) (j : Nat), Runs s →
    let l := jlink j s.dev
    (l.st = .train → exec (.linkTrainDone j) s = after s (jlinkSet j { l with st := .align } s.dev)) ∧
    (l.st = .align → exec (.linkAlignLock j) s = after s (jlinkSet j { l with st := .hello, helloAt := now s.dev } s.dev)) ∧
    (l.st ≠ .train → exec (.linkTrainDone j) s = after s s.dev) ∧ (l.st ≠ .align → exec (.linkAlignLock j) s = after s s.dev) ∧
    (l.st = .hello → l.helloRx = false → due l.helloAt s.dev = true → Gives (.helloSend j) s fun d => ∃ d1 bs, bs = helloWord j s.dev ∧
      d1 = frameOut j { src := s.dev.jetty.node, type := 4, first := true, last := true, nw := 1, valid := 64, data := bs } s.dev ∧
      OnlyLink j { jlink j d1 with helloTx := true, helloAt := now s.dev + 9216 } d1 d) ∧
    ((l.st ≠ .hello ∨ l.helloRx = true ∨ due l.helloAt s.dev = false) → exec (.helloSend j) s = after s s.dev)) ∧
  (∀ (s : State) (j : Nat) (b : List Byte) (f : JFrame), Runs s → plainFrame b = some f → f.type = 4 → f.nw = 1 → (jlink j s.dev).st = .hello →
    let l := jlink j s.dev
    let fits := fieldLe f.data 4 1 = 1 ∧ fieldLe f.data 0 2 ≠ s.dev.jetty.node ∧ fieldLe f.data 5 1 = b2n l.encNow
    (¬ fits → Leads (.helloFrameReceive j b) s fun d => ∃ d1, OnlyLink j (peerSeen f l) s.dev d1 ∧ d = raise (32 + j) 5 d1) ∧
    (fits → ∃ d1 d2 d3, OnlyLink j (peerSeen f l) s.dev d1 ∧ (l.helloTx = true → d2 = d1) ∧ (l.helloTx = false → d2 = helloOut j d1) ∧
      OnlyLink j { jlink j d2 with helloRx := true } d2 d3 ∧ exec (.helloFrameReceive j b) s = after s (settle (helloDone j d3)))) ∧
  (∀ (j : Nat) (d : Dev),
    let l := jlink j d
    (l.encNow = false → ∃ d1, OnlyLink j (upNow (now d) l) d d1 ∧ helloDone j d = repath d1) ∧
    (l.encNow = true → ∃ d1, OnlyLink j { l with st := .key, keyAt := now d, keyHold := true } d d1 ∧ helloDone j d = keyOut j true d1))

/-- Keys: a KEY frame whose tag the slot's key verifies is kept with its salt, and KEY is left once this end has sent its own; a bad one is counted; on a link
that is UP its header acknowledges too. This end's frame goes out with a fresh salt, or again until it is acknowledged, and returns ACKSEQ. The words of a slot, its clearing and the choice of
the transmit slot. -/
def Sys2Proof.Claims.KeysAreExchanged : Prop :=
  (∀ (s : State) (j : Nat) (b : List Byte), Runs s → ((jlink j s.dev).st = .key ∨ (jlink j s.dev).st = .up) → b.length = 96 →
    (frameOf b 64).type = 5 → (frameOf b 64).nw = 1 → headOk (frameOf b 64) false = true →
    let l := jlink j s.dev
    let w := (frameOf b 64).data
    let k := fieldLe w 0 1
    let salt := fieldLe w 1 4
    let good := k < 2 ∧ keyValid k l = true ∧ (gcmOpen (keyBytes k l) (frameIv salt 0) (b.take 80) [] (b.drop 80)).isSome = true
    (¬ good → exec (.keyFrameReceive j b) s = after s (settle (raise (32 + j) 4 s.dev))) ∧
    (good → Leads (.keyFrameReceive j b) s fun d => ∃ d1 l1, OnlyLink j l1 s.dev d1 ∧
      d = keyStep j (if l.st = .up then ackTake j (frameOf b 64) d1 else d1) ∧
      l1 = { l with keyRx := true, rxSalt := tabSet (fun _ => 0) l.rxSalt k (salt + 1), rxCtr := l1.rxCtr } ∧
      (tabGet (fun _ => 0) l.rxSalt k ≠ salt + 1 → tabGet (fun _ => 0) l1.rxCtr k = 0))) ∧
  (∀ (j : Nat) (d : Dev),
    let l := jlink j d
    (l.st = .key → l.keyRx = true → 1 ≤ l.ctr → keyValid l.txSlot l = true → ∃ d1, OnlyLink j (upNow (now d) l) d d1 ∧ keyStep j d = repath d1) ∧
    ((l.st ≠ .key ∨ l.keyRx = false ∨ l.ctr = 0 ∨ keyValid l.txSlot l = false) → keyStep j d = d)) ∧
  (∀ (j : Nat) (d : Dev),
    let l := jlink j d
    let kept := fun (l : JLink) => { l with keyHold := true, keyAt := now d + 92160, unret := 0, ackAt := now d }
    (l.encNow = true → keyValid l.txSlot l = true →
      jlink j (keyOut j false d) = { kept l with salt := l.salt % 4294967296 } ∧
      (∃ x, jlink j (keyOut j true d) = { kept l with salt := x % 4294967296, ctr := 1, keyAcked := false, keySeq := l.nextSeq }) ∧
      (∀ i fresh, i ≠ j → jlink i (keyOut j fresh d) = jlink i d)) ∧
    (∀ fresh, (l.encNow = false ∨ keyValid l.txSlot l = false) → keyOut j fresh d = d)) ∧
  (∀ (s : State) (j k w v : Nat), Runs s → k < 2 → w < 8 →
    let l := jlink j s.dev
    let word := { l with keys := tabSet (fun _ => (0 : W32)) l.keys (8 * k + w) (BitVec.ofNat 32 v) }
    let repeats := l.encNow = true ∧ (l.st = .key ∨ l.st = .up) ∧ l.keyHold = true ∧ l.keyAcked = false ∧ due l.keyAt s.dev = true
    (repeats → exec (.keyResend j) s = after s (settle (keyStep j (keyOut j (l.ctr == 0) s.dev)))) ∧ (¬ repeats → exec (.keyResend j) s = after s (settle s.dev)) ∧
    (HostFree s → linkHere j s.dev = false → exec (.keyWordWrite j k w v) s = after s (badacc s.dev) ∧ exec (.keyClear j k) s = after s (badacc s.dev)) ∧
    (HostFree s → linkHere j s.dev = true →
      (w < 7 → Gives (.keyWordWrite j k w v) s (OnlyLink j word s.dev)) ∧
      (w = 7 → Gives (.keyWordWrite j k w v) s (OnlyLink j (if k = 0 then { word with kv0 := true } else { word with kv1 := true }) s.dev)) ∧
      (Gives (.keyClear j k) s fun d => ∃ l1, OnlyLink j l1 s.dev d ∧ keyValid k l1 = false ∧ keyValid (1 - k) l1 = keyValid (1 - k) l ∧
        (∀ i, i < 8 → tabGet (fun _ => (0 : W32)) l1.keys (8 * k + i) = 0 ∧
          tabGet (fun _ => (0 : W32)) l1.keys (8 * (1 - k) + i) = tabGet (fun _ => (0 : W32)) l.keys (8 * (1 - k) + i))) ∧
      (∃ d1, OnlyLink j { l with txSlot := k } s.dev d1 ∧
        (l.encNow = true → (l.st = .key ∨ l.st = .up) → exec (.keyUse j k) s = after s (settle (keyStep j (keyOut j true d1)))) ∧
        ((l.encNow = false ∨ (l.st ≠ .key ∧ l.st ≠ .up)) → exec (.keyUse j k) s = after s (settle d1)))))

/-- Frames in order: the next one's packet grows, and a whole one enters its lane; a gap is answered once with NAK; frames behind are ignored; a bad frame is
counted and answered as lost; before UP the frame that its link state awaits is taken. A data packet for this node is written into the link's Sluice as its port is free. The header's acknowledgement frees what it covers, and NAK replays the rest. -/
def Sys2Proof.Claims.FramesAreReceived : Prop :=
  (∀ (s : State) (j : Nat) (b : List Byte), Up j s →
    exec (.frameReceive j true b) s = after s (settle (frameLost j (raise (32 + j) 3 s.dev))) ∧
    (fieldLe b 4 1 % 16 = 5 → exec (.frameReceive j false b) s = exec (.keyFrameReceive j b) s) ∧
    (fieldLe b 4 1 % 16 ≠ 5 → frameOpen j b s.dev = none → exec (.frameReceive j false b) s = after s (settle (frameLost j s.dev))) ∧
    (∀ f d0, fieldLe b 4 1 % 16 ≠ 5 → frameOpen j b s.dev = some (f, d0) →
      let d := ackTake j f d0
      let l := jlink j d
      (f.type = 0 → exec (.frameReceive j false b) s = after s (settle d)) ∧
      (1 ≤ f.type → f.type ≤ 3 → f.fseq < 4096 → l.rxLast < 4096 →
        let ahead := (f.fseq + 4095 - l.rxLast) % 4096
        (ahead = 0 → exec (.frameReceive j false b) s = after s (settle (frameAccept j f d))) ∧
        (0 < ahead → ahead < 2048 → l.gap = false → ∃ d1, OnlyLink j { l with gap := true } d d1 ∧
          exec (.frameReceive j false b) s = after s (settle (idleOut j true d1))) ∧
        (0 < ahead → (2048 ≤ ahead ∨ l.gap = true) → exec (.frameReceive j false b) s = after s (settle d))))) ∧
  (∀ (s : State) (j : Nat) (b : List Byte), Runs s → linkHere j s.dev = true →
    let st := (jlink j s.dev).st
    ((st = .hello ∨ st = .key) → exec (.frameReceive j true b) s = after s (settle (raise (32 + j) 2 (raise (32 + j) 3 s.dev)))) ∧
    (st = .hello → exec (.frameReceive j false b) s = exec (.helloFrameReceive j b) s) ∧
    (st = .key → fieldLe b 4 1 % 16 = 5 → exec (.frameReceive j false b) s = exec (.keyFrameReceive j b) s) ∧
    (st = .key → fieldLe b 4 1 % 16 ≠ 5 → plainFrame b = none → exec (.frameReceive j false b) s = after s (settle (raise (32 + j) 2 s.dev))) ∧
    (st = .key → fieldLe b 4 1 % 16 ≠ 5 → plainFrame b ≠ none → exec (.frameReceive j false b) s = after s (settle s.dev)) ∧
    ((st = .down ∨ st = .train ∨ st = .align) → ∀ fec, exec (.frameReceive j fec b) s = after s (settle s.dev))) ∧
  (∀ (j : Nat) (d : Dev), (jlink j d).st = .up →
    ∃ d1, OnlyLink j { jlink j d with gap := true } (raise (32 + j) 2 d) d1 ∧ frameLost j d = idleOut j true d1) ∧
  (∀ (j : Nat) (f : JFrame) (d : Dev),
    let l := jlink j d
    let fresh : JPkt := { dest := f.dest, src := f.src, type := f.type, cls := f.cls, vl := f.vl, hops := f.hops, data := [], valid := f.valid }
    let base := fun (part : Option JPkt) => if f.first = true then fresh else part.getD fresh
    let grown := fun (p : JPkt) => { p with data := p.data ++ f.data, valid := f.valid }
    let l1 := { l with rxLast := f.fseq, rxAny := true, gap := false, unret := l.unret + 1 }
    let p := grown (base (if f.vl = 0 then l.part0 else l.part1))
    let l2 := if f.vl = 0 then (if f.last = true then { l1 with part0 := none, rx0 := l.rx0 ++ [p] } else { l1 with part0 := some p })
      else (if f.last = true then { l1 with part1 := none, rx1 := l.rx1 ++ [p] } else { l1 with part1 := some p })
    ∃ d1, OnlyLink j l2 d d1 ∧
      let d2 := rxDeliver 64 j d1
      ((jlink j d2).unret < 64 → frameAccept j f d = d2) ∧ (64 ≤ (jlink j d2).unret → frameAccept j f d = idleOut j false d2)) ∧
  (∀ (j n : Nat) (p : JPkt) (ps : List JPkt) (d : Dev), (jlink j d).rx0 = p :: ps → p.dest = d.jetty.node → p.type = 1 →
    ∃ d1, OnlyLink j { jlink j d with rx0 := ps, my0 := ((jlink j d).my0 + pktFrames p) % 256 } d d1 ∧
      (∀ d2, linkPut (12 + j) p d1 = some d2 → rxDeliver (n + 1) j d = rxDeliver n j d2) ∧ (linkPut (12 + j) p d1 = none → rxDeliver (n + 1) j d = d)) ∧
  (∀ (j : Nat) (f : JFrame) (d : Dev) (h : JSent) (t : List JSent), (jlink j d).sent = h :: t → h.frame.fseq < 4096 → f.ackseq < 4096 → f.ackv = true →
    let l := jlink j d
    let k := (f.ackseq + 4097 - h.frame.fseq) % 4096
    let k := if k ≤ l.sent.length then k else 0
    ∃ d1, OnlyLink j { l with free0 := f.cr0, free1 := f.cr1, sent := l.sent.drop k, advAt := (if 0 < k then now d else l.advAt),
                              keyAcked := l.keyAcked || (l.sent.take k).any (·.frame.fseq == l.keySeq) } d d1 ∧
      (f.nak = false → ackTake j f d = d1) ∧ (f.nak = true → ackTake j f d = replayAll j d1))

/-- Timers of a link: an acknowledgement at least every 9,216 gu; a replay after 18,432 gu without an advance; a failure after 16 replays of a frame or a lost
lock; the reset that AUTO gives 92,160,000 gu after a move to FAULTED. -/
def Sys2Proof.Claims.LinkTimers : Prop :=
  ∀ (s : State) (j : Nat), Up j s →
    let l := jlink j s.dev
    (due (l.ackAt + 9216) s.dev = true → exec (.ackTimer j) s = after s (idleOut j false s.dev)) ∧
    (due (l.ackAt + 9216) s.dev = false → exec (.ackTimer j) s = after s s.dev) ∧
    (due (l.advAt + 18432) s.dev = true → l.sent ≠ [] → exec (.replayTimeout j) s = after s (replayAll j s.dev)) ∧
    ((due (l.advAt + 18432) s.dev = false ∨ l.sent = []) → exec (.replayTimeout j) s = after s s.dev) ∧
    (l.sent ≠ [] → l.encNow = false → ∃ d1 d2, OnlyLink j { l with sent := l.sent.map fun x => { x with replays := x.replays + 1 }, advAt := now s.dev } s.dev d1 ∧
      d2 = raise (32 + j) 1 d1 ∧ replayAll j s.dev = foldSt (l.sent.map (·.frame)) (fun f d => keyRenew j (frameOut j f d)) d2) ∧
    (∀ lock, (lock = true ∨ ∃ x ∈ l.sent, 16 ≤ x.replays) → userves (32 + j) s.dev = true →
      exec (.linkFailure j lock) s = after s (settle (toFaulted (32 + j) .fault true (raise (32 + j) 0 s.dev)))) ∧
    ((∀ x ∈ l.sent, x.replays < 16) → exec (.linkFailure j false) s = after s (settle s.dev)) ∧
    (∀ u : State, Runs u →
      ((jlink j u.dev).auto = false ∨ (jlink j u.dev).faultAt = none → exec (.linkAutoReset j) u = after u (settle u.dev)) ∧
      (∀ t, (jlink j u.dev).faultAt = some t → (jlink j u.dev).auto = true → ustate (32 + j) u.dev = .faulted → due (t + 92160000) u.dev = true →
        Leads (.linkAutoReset j) u fun d => ∃ d1, OnlyLink j { jlink j u.dev with faultAt := none } u.dev d1 ∧
          d = dirSubmit { path := .agent, unit := 32 + j, act := 3, gen := ugen (32 + j) u.dev } d1))

/-- A transmitter's grant: waiting packets of this node enter the transmit Sluices and those without a route leave, the slot's class comes first, then the
others in order, and the input picked sends its packet whole; the frames of a packet carry its words in order, four a frame. -/
def Sys2Proof.Claims.TransmittersGrant : Prop :=
  (∀ (s : State) (j : Nat), Runs s →
    let d0 := deadHeads (outboxRun s.dev)
    let l := jlink j d0
    let cs := slotClasses l.slotNo
    (linkUp j d0 = false → exec (.jettyTransmitGrant j) s = after s (settle d0)) ∧
    (linkUp j d0 = true → (∀ c ∈ cs, inputPick c j d0 = none) → exec (.jettyTransmitGrant j) s = after s (settle d0)) ∧
    (∀ pre post c i p, linkUp j d0 = true → cs = pre ++ c :: post → (∀ x ∈ pre, inputPick x j d0 = none) → inputPick c j d0 = some (i, p) →
      ∃ d1, OnlyLink j { l with slotNo := (l.slotNo + 1) % 16, rr := tabSet (fun _ => 0) l.rr c (i + 1) } d0 d1 ∧
        exec (.jettyTransmitGrant j) s = after s (settle (inputSend i j p d1)))) ∧
  (∀ k, k < 16 → (slotClasses k).Perm [0, 1, 2, 3] ∧ (slotClasses k).head? = some (if k = 0 then 0 else if k ≤ 2 then 1 else if k ≤ 4 then 2 else 3)) ∧
  (∀ p : JPkt, (framesOf p).flatMap (·.data) = p.data ∧ (∀ f ∈ framesOf p, f.data.length ≤ 256 ∧ f.dest = p.dest ∧ f.cls = p.cls ∧ f.vl = p.vl) ∧
    (∀ i f, (framesOf p)[i]? = some f → (f.first = true ↔ i = 0) ∧ (f.last = true ↔ i + 1 = (framesOf p).length)))

/-- Routes and trunks: a write is discarded and counted where it would leave more than 16 fences pending; else it is taken, and each destination whose link
changes is fenced with a marker on each lane. -/
def Sys2Proof.Claims.RoutesAndTrunks : Prop :=
  ∀ (s : State) (n t v : Nat) (hi : Bool), Runs s → HostFree s →
    let y := s.dev.jetty
    let o := tabGet (fun _ => 0) y.trunk t
    let mask := if hi then o % 2 ^ 32 + 2 ^ 32 * (v % 2 ^ 32) else o / 2 ^ 32 * 2 ^ 32 + v % 2 ^ 32
    let d1 := withJetty { y with route := tabSet (fun _ => 0) y.route n (BitVec.ofNat 32 (v % 128)) } s.dev
    let d2 := withJetty { y with trunk := tabSet (fun _ => 0) y.trunk t mask } s.dev
    (∀ p ∈ [(Instr.jettyRouteWrite n v, d1), (.jettyTrunkWrite t hi v, d2)],
      (fencesAfter p.2 ≤ 16 → exec p.1 s = after s (settle (repath p.2))) ∧ (16 < fencesAfter p.2 → exec p.1 s = after s (settle (badacc s.dev)))) ∧
    (∀ d : Dev, pathChanges d = [] → repath d = pathKeep d) ∧
    (∀ (D old new : Nat) (d : Dev), ∃ d3, d3 = withJetty { d.jetty with
        nextMark := (d.jetty.nextMark + 1) % 65536, fences := d.jetty.fences ++ [{ dest := D, old := old, mark := d.jetty.nextMark, due := now d + 9216000 }] } d ∧
      (fenceOpen D old new d).jetty.fences = d3.jetty.fences ∧ (fenceOpen D old new d).jetty.nextMark = d3.jetty.nextMark)

/-- Fences: a marker that reaches its destination is noted, and the second of a pair is acknowledged, unless what went before it on the failed link is still
in this end's buffers; an acknowledgement ends its fence; a fence left
unacknowledged for 9,216,000 gu ends with DRAINTO, what stands before its marker on the old path lost as on a failed link. -/
def Sys2Proof.Claims.FencesEnd : Prop :=
  ∀ (s : State) (j vl : Nat) (p : JPkt) (d1 : Dev), Runs s → vl < 2 → popped j vl p s.dev d1 →
    let here := s.dev.jetty.node
    let o := fieldLe p.data 0 2
    let D := fieldLe p.data 2 2
    let m := fieldLe p.data 4 2
    let bit := 2 ^ (fieldLe p.data 6 1 % 2)
    let others := s.dev.jetty.got.filter fun x => !(x.1 == o && x.2.1 == m)
    (p.type = 2 → p.dest = here → markerHeld (2 * j + vl) p s.dev = true → exec (.drainMarkerReceive j vl) s = after s (settle s.dev)) ∧
    (p.type = 2 → p.dest = here → markerHeld (2 * j + vl) p s.dev = false →
      let seen := match s.dev.jetty.got.find? (fun x => x.1 == o && x.2.1 == m) with | some x => x.2.2 | none => 0
      let note := fun (l : List (Nat × Nat × Nat)) => withJetty { d1.jetty with got := l } d1
      let ack := { jpkt o here 3 0 (markerWord o p.dest m 0 false 0) with valid := 64 }
      (seen ||| bit ≠ 3 → exec (.drainMarkerReceive j vl) s = after s (settle (rxDeliver 64 j (note (others ++ [(o, m, seen ||| bit)]))))) ∧
      (seen ||| bit = 3 → exec (.drainMarkerReceive j vl) s =
        after s (settle (rxDeliver 64 j (withJetty { d1.jetty with got := others, outbox := d1.jetty.outbox ++ [ack] } d1))))) ∧
    (p.type ≠ 2 → exec (.drainMarkerReceive j vl) s = after s (settle s.dev)) ∧
    (p.type = 3 → p.dest = here →
      let d2 := rxDeliver 64 j d1
      (∀ f, d2.jetty.fences.find? (fun f => f.dest == D && f.mark == m) = some f → exec (.drainackReceive j vl) s = after s (settle (fenceEnd f d2))) ∧
      (d2.jetty.fences.find? (fun f => f.dest == D && f.mark == m) = none → exec (.drainackReceive j vl) s = after s (settle d2))) ∧
    (∀ k q, p.dest ≠ here → linkFor p.dest p.cls s.dev = some k → inputReady (2 * j + vl) k s.dev = some q →
      (p.type = 2 → exec (.drainMarkerReceive j vl) s = after s (settle (inputSend (2 * j + vl) k q s.dev))) ∧
      (p.type = 3 → exec (.drainackReceive j vl) s = after s (settle (inputSend (2 * j + vl) k q s.dev)))) ∧
    (∀ n, (∀ f, s.dev.jetty.fences.find? (fun f => f.dest == n && due f.due s.dev) = some f →
        exec (.fenceTimeout n) s = after s (settle (raise 31 0 (fenceEnd f (pathFails f s.dev))))) ∧
      ((∀ f ∈ s.dev.jetty.fences, f.dest = n → due f.due s.dev = false) → exec (.fenceTimeout n) s = after s (settle s.dev)))

/-- Session pages over Jetty: a request for a lent page is served, any other answered denied; a request that no reply has answered in JETTY_MEMTO ends: a
read brings poison, a write fails its append, whose pages are free again. -/
def Sys2Proof.Claims.PagesOverJetty : Prop :=
  (∀ (s : State) (lent : Bool) (p : JPkt) (ps : List JPkt), Runs s → s.dev.jetty.memIn = p :: ps →
    let b := jbytes p
    let op := fieldLe b 12 1
    let off := fieldLe b 20 2
    let len := fieldLe b 22 2
    let page := fieldLe b 16 4
    let at' := pageAt page s.dev + off
    let good := lent = true ∧ s.dev.jetty.lend = true ∧ op ≤ 1 ∧ off % 64 = 0 ∧ 64 ≤ len ∧ len ≤ 4096 ∧ page < sessUnits s.dev
    let d0 := withJetty { s.dev.jetty with memIn := ps } s.dev
    let reply := fun (st : Nat) (data : List Byte) (d : Dev) =>
      let h := (headWord 0 0 false false 0 noLidx).take 12 ++ padTo 52 (toLe 1 (2 + op % 2) ++ toLe 1 st ++ [0, 0] ++ slice b 16 12)
      after s (withJetty { d.jetty with outbox := d.jetty.outbox ++ [jpkt p.src d.jetty.node 1 2 (h ++ data)] } d)
    (¬ good → exec (.memRequest lent) s = reply 1 [] d0) ∧
    (good → op = 0 → let r := bytesOf (hbmRun at' len d0); exec (.memRequest lent) s = reply (if r.2 then 2 else 0) r.1 d0) ∧
    (good → op = 1 → exec (.memRequest lent) s = reply 0 [] (hbmWrite at' (padTo len (b.drop 64)) d0))) ∧
  (∀ (s : State) (tag : Nat), Runs s →
    (∀ q, s.dev.jetty.memreq.find? (fun q => q.tag == tag && due q.due s.dev) = some q →
      let d0 := withJetty { s.dev.jetty with memreq := s.dev.jetty.memreq.filter fun r => r.tag != q.tag } s.dev
      (q.write = false → exec (.memtoExpiry tag) s = after s (settle (withJetty { d0.jetty with memdata := d0.jetty.memdata ++
        [{ basin := q.basin, node := q.node, page := q.page, off := q.off, data := List.replicate q.len 0, bad := true }] } d0))) ∧
      (q.write = true → ∀ id n rows first last took, (lcore q.basin s.dev).wait = .sent id n rows first last took →
        Leads (.memtoExpiry tag) s (Completes q.basin 4 (lcore q.basin s.dev)
          (raise (8 + q.basin) 4 (foldSt took pageGive
            (withJetty { d0.jetty with memreq := d0.jetty.memreq.filter fun r => !(r.write && r.basin == q.basin) } d0)))))) ∧
    ((∀ q ∈ s.dev.jetty.memreq, q.tag = tag → due q.due s.dev = false) → exec (.memtoExpiry tag) s = after s (settle s.dev)))

/-- The Ferry: a packet that is its predecessor's next is served at once: a token turns the revolution and is held, or passed on where nothing is owned; a block
is placed for its streams and kept in hand; an old revolution's packet is counted. One that is ahead waits, and one that is behind is not taken. -/
def Sys2Proof.Claims.FerryPacketsInOrder : Prop :=
  (∀ (s : State) (b : List Byte), Runs s → uready 96 s.dev = true →
    let p := fpktOf b
    let f := s.dev.ferry
    let e := tabGet (fun _ => 0) f.exp p.src
    (∀ x ∈ f.waits, ¬ (x.src = p.src ∧ x.seq = p.seq)) → p.seq < 2 ^ 32 →
    let q : FPkt := { p with ring := 0 }
    let d0 := withFerry { f with exp := tabSet (fun _ => 0) f.exp p.src ((p.seq + 1) % 2 ^ 32), heard := now s.dev } s.dev
    let stale := revOlder p.rev f.rev
    -- what is next in order after it is served as well
    let on := fun (d : Dev) => after s (settle (ferryGap p.src (ferryRun 64 p.src d)))
    (p.type = 1 → p.seq = e →
      (stale = true → exec (.ferryTokenReceive b) s = on (raise 96 3 d0)) ∧
      (stale = false → f.index ≠ 0 → exec (.ferryTokenReceive b) s = on (ferryHold p.rev (ferryTurn d0))) ∧
      (stale = false → f.index = 0 → exec (.ferryTokenReceive b) s = on (ferryHold ((p.rev + 1) % 2 ^ 32) (ferryTurn d0)))) ∧
    (p.type = 0 → p.seq = e →
      (stale = true → exec (.ferryBlockReceive b) s = on (raise 96 3 d0)) ∧ (stale = false → exec (.ferryBlockReceive b) s = on (ferryTake q false d0))) ∧
    (p.type = 0 → p.seq ≠ e → ferryAhead p s.dev < 2 ^ 31 → (∀ x ∈ f.waits, ¬ (x.src = p.src ∧ x.seq = e)) →
      exec (.ferryBlockReceive b) s = after s (settle (ferryGap p.src (withFerry { f with waits := f.waits ++ [fwaitOf p] } s.dev)))) ∧
    (p.type = 0 → 2 ^ 31 ≤ ferryAhead p s.dev → exec (.ferryBlockReceive b) s = after s (settle s.dev))) ∧
  (∀ (src : Nat) (d : Dev), (d.ferry.waits.filter (·.src == src)).length < 64 → ferryGap src d = d) ∧
  (∀ (s : State) (b : List Byte), Runs s → uready 96 s.dev = false →
    (fieldLe b 12 1 = 1 → exec (.ferryTokenReceive b) s = after s (settle (jettyGerr s.dev))) ∧
    (fieldLe b 12 1 = 0 → exec (.ferryBlockReceive b) s = after s (settle (jettyGerr s.dev)))) ∧
  (∀ d : Dev,
    let f := d.ferry
    let n := now d - f.revAt
    let first := withFerry { f with revAt := now d, seen := true } d
    (f.seen = false → ferryTurn d = first) ∧
    (f.seen = true → let d1 := withFerry { f with revAt := now d, revlast := BitVec.ofNat 32 (min n (2 ^ 32 - 1)) } d
      (n ≤ f.revb.toNat → ferryTurn d = d1) ∧ (f.revb.toNat < n → ferryTurn d = raise 96 2 d1))) ∧
  (∀ (s : State) (b : List Byte), Runs s → (fieldLe b 12 1 ≠ 1 → exec (.ferryTokenReceive b) s = after s s.dev) ∧
    (fieldLe b 12 1 ≠ 0 → exec (.ferryBlockReceive b) s = after s s.dev)) ∧
  (∀ (d : Dev) (rev : Nat), (∀ x ∈ d.ferry.inHand, x.mine = false) → (d.ferry.run = false ∨ ∀ o ∈ d.ferry.own, o.2.valid = false) →
    ferryHold rev d = ferrySend { type := 1, ring := d.ferry.ring, slot := 0, block := 0, nblock := 0, rev := rev, seq := 0, len := 0, src := 0, data := [] }
      (withFerry { d.ferry with token := false, rev := rev, toSend := [] } d))

/-- Of the blocks in hand the first goes on that every stream of its slot has, or whose hold is over, with a miss for each stream that has not; an SOPEN on a ring slot that
no block 0 reaches within REVB ends with TIMEOUT; a silence of 2 × REVB is a break, after which stop 0 issues a new token. -/
def Sys2Proof.Claims.FerryHoldsAndBreaks : Prop :=
  (∀ (s : State) (b : FBlock) (pre post : List FBlock) (absorb : Bool), Runs s → ferryServes s.dev = true →
    let d1 := ferryPlaceAll s.dev
    let waits := fun (x : FBlock) => ferryPlaced x d1 = false ∧ due (x.at' + d1.ferry.hold.toNat) d1 = false
    d1.ferry.inHand = pre ++ b :: post → (∀ x ∈ pre, waits x) →
    let goes := fun (d : Dev) =>
      let d2 := withFerry { d.ferry with inHand := pre ++ post } d
      let p : FPkt := { type := 0, ring := d2.ferry.ring, slot := b.slot, block := b.block, nblock := b.nblock, rev := b.rev, seq := 0, len := b.len, src := 0,
                        data := padTo 4096 b.data }
      exec (.ferryBlockForward absorb) s = after s (settle (ferryInject' (if absorb then d2 else ferrySend p d2)))
    (ferryPlaced b d1 = true → goes d1) ∧
    (ferryPlaced b d1 = false → due (b.at' + d1.ferry.hold.toNat) d1 = true → goes (ferryMissOn b d1)) ∧
    (ferryPlaced b d1 = false → due (b.at' + d1.ferry.hold.toNat) d1 = false → post = [] → exec (.ferryBlockForward absorb) s = after s (settle d1))) ∧
  (∀ d : Dev, ferryPlaceAll d = foldSt d.ferry.inHand ferryPlace d) ∧
  (∀ (s : State) (c h a b lay ncol t : Nat) (grp : Bool), Runs s → coreServes c s.dev = true → (lcore c s.dev).wait = .open' h 1 grp a b lay ncol t →
    (due (t + s.dev.ferry.revb.toNat) s.dev = true → Leads (.ferryOpenTimeout c) s (Completes c 1 (lcore c s.dev) s.dev)) ∧
    (due (t + s.dev.ferry.revb.toNat) s.dev = false → exec (.ferryOpenTimeout c) s = after s (settle s.dev))) ∧
  (∀ s : State, Runs s → ferryServes s.dev = true → s.dev.ferry.run = true → s.dev.ferry.token = false →
    let f := s.dev.ferry
    let d1 := raise 96 1 s.dev
    (f.index = 0 → due (f.revAt + 2 * f.revb.toNat) s.dev = true →
      exec .ferryBreak s = after s (settle (ferryHold ((f.rev + 1) % 2 ^ 32) (withFerry { f with revAt := now s.dev, seen := true } d1)))) ∧
    (f.index ≠ 0 → due (f.heard + 2 * f.revb.toNat) s.dev = true →
      exec .ferryBreak s = after s (settle (raise 96 1 (withFerry { f with heard := now s.dev } s.dev)))) ∧
    ((f.index = 0 → due (f.revAt + 2 * f.revb.toNat) s.dev = false) → (f.index ≠ 0 → due (f.heard + 2 * f.revb.toNat) s.dev = false) →
      exec .ferryBreak s = after s (settle s.dev)))


/-! ### The Thermocline and Ice (17) -/

namespace Sys2Proof.Claims

/-- The block with the Thermocline `t`. -/
def withTherm (t : Therm) (d : Dev) : Dev := { d with therm := t }

/-- Bit `i` of THERM_NOTE is set and its event counted where `p`, and only there. -/
abbrev notes98 (i : Nat) (p : Prop) (a b : Dev) : Prop :=
  (p → (noteGet 98 b).bits.getLsbD i = true ∧ (ctrGet (16 * 98 + i) b).fresh = (ctrGet (16 * 98 + i) a).fresh + 1) ∧
  (¬ p → (noteGet 98 b).bits.getLsbD i = (noteGet 98 a).bits.getLsbD i ∧ (ctrGet (16 * 98 + i) b).fresh = (ctrGet (16 * 98 + i) a).fresh)

/-- The block with the fields of sensor `n` as `x` has them. -/
def withSensor (n : Nat) (x : Sensor) (d : Dev) : Dev := withTherm { d.therm with sens := tabSet (fun _ => {}) d.therm.sens n x } d

/-- A higher Tmax of the layer under way. -/
def warmer (v : Int) (t : Therm) : Therm := { t with tmaxNow := some (match t.tmaxNow with | some m => max m v | none => v) }

/-- An entry can begin: no step change is under way. -/
abbrev noStep (t : Therm) : Prop := t.raise = none ∧ t.pend = none

/-- The units an entry that begins now asks: the Inlet first, then those that are READY in the order of R389. -/
def entryUnits (d : Dev) : List Nat := (if uready 1 d = true then [1] else []) ++ iceOrder.filter fun n => uready n d

/-- ISTATE is 1: the units to ask are noted, and nothing of an earlier entry is left. -/
def entered (d : Dev) : Therm :=
  { d.therm with
    istate := 1, enterReq := false, iceAt := now d, iceReq := entryUnits d, iceTodo := iceOrder.filter (fun n => uready n d), iceGo := false
    abandon := false, lowered := none, exitGo := none, exitTodo := [], exitRest := [] }

/-- The entry is abandoned: ISTATE is 3 and every unit asked is to be called back. -/
def abandoned (d : Dev) : Therm :=
  { d.therm with
    istate := 3, abandon := true, iceTodo := [], exitRest := d.therm.iceReq, exitTodo := d.therm.iceReq, lowered := none, pend := none
    exitAt := now d }

/-- The exit's steps: VDD_CORE raised for `st`, the switch no sooner than 460,800 gu after the wake, and the units in the order of R392. -/
def leaving (st : ClkStep) (t : Therm) : Therm :=
  { t with
    volt := some (stepOfCode st.code), raise := some (st, t.exitAt + 460800), exitRest := t.iceReq, shlevel := rungShal t.rung
    exitTodo := t.iceReq.filter (fun n => decide (26 ≤ n ∧ n < 30)) ++ t.iceReq.filter (· == 97) ++
      t.iceReq.filter fun n => decide (¬ (26 ≤ n ∧ n < 30) ∧ n ≠ 97) }

/-- VDD_CORE set to a level of Table 17-3; while EXTEST drives the balls nothing leaves (20 R469). -/
def sendsVout (code : Nat) (d : Dev) : Dev := if d.tap.ir = 0 then d else { d with out := d.out ++ [.vout (voutTarget code)] }

/-- A request of the Thermocline for unit `n` at its generation of now. -/
def asks (n act : Nat) (d : Dev) : Dev := dirSubmit { path := .thermo, unit := n, act := act, gen := ugen n d } d

end Sys2Proof.Claims

/-- A sample from −40 °C to 150 °C is good, any other and a second miss in a row make the sensor invalid, with SENSFLT; sixteen good ones in a row make it valid
again; a valid sensor's sample counts for the layer's Tmax; two in a row at 110 °C or more are hot. -/
def Sys2Proof.Claims.SensorsAreJudged : Prop :=
  ∀ (s : State) (n : Nat), Runs s → n < 8 →
    let x := sensor n s.dev
    let flt := fun (d : Dev) => if x.valid = true then raise 98 3 d else d
    (∀ v : Int, -160 ≤ v → v ≤ 600 →
      let valid := x.valid = true ∨ 16 ≤ min 16 (x.good + 1)
      let y := fun (ok : Bool) => { x with valid := ok, temp := v, missed := 0, good := min 16 (x.good + 1), hot := if ok = true ∧ 440 ≤ v then x.hot + 1 else 0 }
      (valid → exec (.sensorSample n (some v)) s = after s (withTherm (warmer v (withSensor n (y true) s.dev).therm) s.dev)) ∧
      (¬ valid → exec (.sensorSample n (some v)) s = after s (withSensor n (y false) s.dev))) ∧
    (∀ v : Int, (v < -160 ∨ 600 < v) → exec (.sensorSample n (some v)) s = after s (flt (withSensor n { valid := false, temp := v, missed := 0, good := 0, hot := 0 } s.dev))) ∧
    (x.missed = 0 → exec (.sensorSample n none) s = after s (withSensor n { x with missed := 1, good := 0 } s.dev)) ∧
    (1 ≤ x.missed → exec (.sensorSample n none) s = after s (flt (withSensor n { x with valid := false, missed := x.missed + 1, good := 0 } s.dev)))

/-- A layer's end settles its debt and sets the rung by R377, within RUNGMAX and never below the floor (R372, R376); a settled debt is what the energy drawn
exceeds the budget by, and nothing is carried forward. -/
def Sys2Proof.Claims.LayersSettle : Prop :=
  (∀ (s : State) (em : Nat) (ack : Bool), Runs s → due (9216000 * (s.dev.therm.layer + 1)) s.dev = false → exec (.layerBoundary em ack) s = after s (settle s.dev)) ∧
  (∀ (s : State) (em : Nat) (ack : Bool), Runs s → due (9216000 * (s.dev.therm.layer + 1)) s.dev = true →
    let t := s.dev.therm
    let b := t.plimNow * 1000
    let hot := match t.tmaxNow with | some x => floorOf t.tfloor x | none => t.tfloor
    let floor := if 3 ≤ sensInvalid s.dev then max hot 5 else hot
    let rung := t.want.getD t.rung
    Leads (.layerBoundary em ack) s fun d =>
      (d.therm.debt : Int) = max 0 (t.debt + em - b) ∧ d.therm.layer = t.layer + 1 ∧ d.therm.plimNow = t.plimit ∧ d.therm.drawn = 0 ∧
      d.therm.tmaxNow = none ∧ d.therm.floor = floor ∧
      notes98 2 (b < em) s.dev d ∧ notes98 1 (t.floor < floor) s.dev d ∧ notes98 0 (d.therm.rung ≠ t.rung) s.dev d ∧
      -- the rule of R377, where no boot hold and no failed regulator write keeps another rung
      (t.bootHold = false → ack = true →
        let spent := b < em ∨ 0 < d.therm.debt ∨ (∃ x, t.tmaxNow = some x ∧ 380 ≤ x ∧ t.tmax ≤ x)
        let calm := 5 * em ≤ 4 * b ∧ ∃ x, t.tmaxNow = some x ∧ x < 360
        let clamp := fun (target : Nat) => max (min (min target (max floor t.rungmax)) 7) floor
        (spent → d.therm.rung = clamp (rung + 1) ∧ d.therm.calm = 0) ∧
        (¬ spent → calm → t.calm = 7 → d.therm.rung = clamp (rung - 1) ∧ d.therm.calm = 0) ∧
        (¬ spent → calm → t.calm ≠ 7 → d.therm.rung = clamp rung ∧ d.therm.calm = t.calm + 1) ∧
        (¬ spent → ¬ calm → d.therm.rung = clamp rung ∧ d.therm.calm = 0) ∧
        d.therm.shlevel = d.therm.rung - 4 ∧
        -- a lower frequency switches at a tick end; a higher one waits for VDD_CORE; in Ice, or on the way, the step stands
        (t.istate = 0 → s.dev.clk ≠ .ice → s.dev.clk.gu < (rungStep d.therm.rung).gu → d.therm.pend = some (rungStep d.therm.rung) ∧ d.therm.raise = none) ∧
        (t.istate = 0 → s.dev.clk ≠ .ice → (rungStep d.therm.rung).gu < s.dev.clk.gu →
          d.therm.pend = none ∧ d.therm.raise = some (rungStep d.therm.rung, now s.dev + 460800)) ∧
        ((t.istate ≠ 0 ∨ s.dev.clk = .ice) → d.therm.pend = t.pend ∧ d.therm.raise = t.raise))) ∧
  (∀ (old : Nat) (t : Int), (400 ≤ t → floorOf old t = 5) ∧ (380 ≤ t → t < 400 → floorOf old t = if old = 5 ∧ 380 < t then 5 else 3) ∧
    (t < 380 → floorOf old t = if 3 ≤ old ∧ 360 < t then 3 else 0))

/-- The worked case of R377: eleven layers at 500 W and 88 °C. -/
def Sys2Proof.Claims.RungWorkedCase : Prop :=
  let next := fun (x : Nat × Nat) (debt em : Nat) => rungNext x.1 x.2 0 7 (decide (500000 < em)) debt em 500000 (some 352) 352
  next (0, 0) 12000 512000 = (1, 0) ∧ next (1, 0) 18000 506000 = (2, 0) ∧ next (2, 0) 0 455000 = (2, 0) ∧
  (List.range 7).foldl (fun x _ => next x 0 380000) (2, 0) = (2, 7) ∧ next (2, 7) 0 380000 = (1, 0)

/-- VDD_CORE settled for a higher step, the divider is to switch at the next aligned tick end; 460,800 gu after VDD_CORE was lowered for Ice the PLL is to be
bypassed; before that neither command changes anything. -/
def Sys2Proof.Claims.ClockSwitchesWait : Prop :=
  ∀ s : State, Runs s →
    let t := s.dev.therm
    (∀ st at', t.raise = some (st, at') →
      (due at' s.dev = true → exec .stepRaiseSwitch s = after s (withTherm { t with raise := none, pend := some st } s.dev)) ∧
      (due at' s.dev = false → exec .stepRaiseSwitch s = after s s.dev)) ∧
    (t.raise = none → exec .stepRaiseSwitch s = after s s.dev) ∧
    (∀ at', t.lowered = some at' → t.istate = 1 →
      (due (at' + 460800) s.dev = true → exec .icePllBypass s = after s (withTherm { t with pend := some .ice } s.dev)) ∧
      (due (at' + 460800) s.dev = false → exec .icePllBypass s = after s s.dev)) ∧
    ((t.lowered = none ∨ t.istate ≠ 1) → exec .icePllBypass s = after s s.dev)

/-- Entry to Ice: ENTER and, with AUTO, the idle time ask for it, and once no step change is pending ISTATE is 1 and the Inlet is asked; then, once nothing is
held, one unit after another; when all are in ICE, VDD_CORE is lowered. -/
def Sys2Proof.Claims.IceIsEntered : Prop :=
  ∀ s : State, Runs s →
    let t := s.dev.therm
    let d := s.dev
    let begin' := fun (i : Instr) => (noStep t → uready 1 d = false → exec i s = after s (settle (withTherm (entered d) d))) ∧
      (noStep t → uready 1 d = true → exec i s = after s (settle (asks 1 5 (withTherm (entered d) d)))) ∧
      (¬ noStep t → exec i s = after s (settle (withTherm { t with enterReq := true } d)))
    (t.istate = 0 → begin' .thermIceEnter) ∧
    (t.istate ≠ 0 → exec .thermIceEnter s = after s (settle d)) ∧
    (t.istate = 0 → t.auto = true → weirIdle d = true → due (t.lastAdm + t.iceidle * 9216000) d = true → begin' .iceAutoIdle) ∧
    ((t.istate ≠ 0 ∨ t.auto = false ∨ weirIdle d = false ∨ due (t.lastAdm + t.iceidle * 9216000) d = false) → exec .iceAutoIdle s = after s (settle d)) ∧
    (t.istate = 1 → t.abandon = false → d.udir.taken = false → (t.iceGo = true ∨ weirIdle d = true) →
      (∀ n ns, t.iceTodo = n :: ns → exec .iceQuiesced s = after s (settle (asks n 5 (withTherm { t with iceGo := true, iceTodo := ns } d)))) ∧
      (t.iceTodo = [] → exec .iceQuiesced s = after s (settle (withTherm { t with iceGo := true } d)))) ∧
    ((t.istate ≠ 1 ∨ t.abandon = true ∨ d.udir.taken = true ∨ (t.iceGo = false ∧ weirIdle d = false)) → exec .iceQuiesced s = after s (settle d)) ∧
    (t.istate = 1 → t.iceGo = true → t.iceTodo = [] → t.lowered = none → (∀ n ∈ t.iceReq, ustate n d = .ice) →
      exec .iceUnitsInIce s = after s (settle (withTherm { t with lowered := some (now d), volt := some (stepOfCode 4) } (sendsVout 4 d)))) ∧
    ((t.istate ≠ 1 ∨ t.iceGo = false ∨ t.iceTodo ≠ [] ∨ t.lowered ≠ none ∨ ∃ n ∈ t.iceReq, ustate n d ≠ .ice) → exec .iceUnitsInIce s = after s (settle d))

/-- A wake source ends Ice with its code in WAKESRC, or abandons an entry, with ICEABORT; so does THERM_ICEWAIT before the part is quiet. -/
def Sys2Proof.Claims.IceIsLeft : Prop :=
  ∀ s : State, Runs s →
    let t := s.dev.therm
    let d := s.dev
    let woken := fun (src : Nat) => after s (settle (withTherm { t with istate := 3, wakesrc := src, exitAt := now d } d))
    let gone := fun (i : Instr) => (t.waitIn = [] → t.lowered = none → exec i s = after s (settle (withTherm (abandoned d) (raise 98 5 d)))) ∧
      Leads i s fun e => e.therm.istate = 3 ∧ e.therm.abandon = true ∧ e.therm.iceTodo = [] ∧ e.therm.exitTodo = t.iceReq ∧ e.therm.waitIn = [] ∧
        (t.lowered ≠ none → e.therm.exitGo = some (now d + 460800) ∧ e.therm.volt = some (stepOfCode (rungStep t.rung).code))
    (t.istate = 2 → exec .thermIceLeave s = woken 2) ∧
    (t.istate = 1 → t.abandon = false → gone .thermIceLeave) ∧
    ((t.istate = 0 ∨ t.istate = 3) → exec .thermIceLeave s = after s (settle d)) ∧
    (t.istate = 2 → t.icewake ≠ 0 → due (t.iceAt + t.icewake * 9216000) d = true → exec .iceWakeTimer s = woken 5) ∧
    ((t.istate ≠ 2 ∨ t.icewake = 0 ∨ due (t.iceAt + t.icewake * 9216000) d = false) → exec .iceWakeTimer s = after s (settle d)) ∧
    (t.istate = 1 → t.abandon = false → t.iceGo = false → due (t.iceAt + t.icewait * 9216000) d = true → gone .iceWaitExpiry) ∧
    ((t.istate ≠ 1 ∨ t.iceGo = true ∨ due (t.iceAt + t.icewait * 9216000) d = false) → exec .iceWaitExpiry s = after s (settle d))

/-- The exit: VDD_CORE is raised for the rung's step, CCLK switches when that has settled, and then the units are woken one a tick, the HBM stacks and the
Ledger first; an abandoned entry calls its units back, once VDD_CORE has settled where step 4 had lowered it. -/
def Sys2Proof.Claims.IceExits : Prop :=
  ∀ s : State, Runs s →
    let t := s.dev.therm
    let d := s.dev
    (t.istate = 3 → d.clk = .ice → noStep t →
      exec .iceExit s = after s (settle (withTherm (leaving (rungStep t.rung) t) (sendsVout (rungStep t.rung).code d)))) ∧
    ((t.istate ≠ 3 ∨ d.clk ≠ .ice ∨ ¬ noStep t) → exec .iceExit s = after s (settle d)) ∧
    (t.istate = 3 → d.clk = .ice → ∀ st at', t.raise = some (st, at') →
      (due at' d = true → exec .iceExitClockSwitch s = after s (settle (withTherm { t with raise := none, pend := some st } d))) ∧
      (due at' d = false → exec .iceExitClockSwitch s = after s (settle d))) ∧
    -- one unit in ICE is woken, the first of those to be called back
    (t.istate = 3 → d.clk ≠ .ice → d.udir.taken = false → t.pend = none → t.exitGo = none →
      ∀ n ns, t.exitTodo = n :: ns → n ∉ ns → (∀ m ∈ n :: ns, (uent m d).pend = none ∧ ustate m d = .ice) →
        exec .iceExitClockSwitch s = after s (settle (asks n 6 (withTherm { t with exitTodo := ns } d)))) ∧
    -- one that drains towards it is called back
    (t.istate = 3 → t.abandon = true → d.udir.taken = false → t.pend = none →
      ∀ n ns, t.exitTodo = n :: ns → n ∉ ns → (∀ m ∈ n :: ns, (uent m d).pend = none ∧ ustate m d = .draining ∧ (uent m d).target = some .ice) → d.clk ≠ .ice →
        exec .iceExitClockSwitch s = after s (settle (asks n 7 (withTherm { t with exitTodo := ns } d)))) ∧
    ((t.istate ≠ 3 ∨ (d.clk ≠ .ice ∧ d.udir.taken = true)) → exec .iceExitClockSwitch s = after s (settle d)) ∧
    (∀ at', t.exitGo = some at' →
      (due at' d = false → exec .iceAbandonVoltageSettled s = after s (settle d)) ∧
      (due at' d = true → t.istate = 3 → t.abandon = true → d.udir.taken = false → t.pend = none →
        ∀ n ns, t.exitTodo = n :: ns → n ∉ ns → (∀ m ∈ n :: ns, (uent m d).pend = none ∧ ustate m d = .ice) →
          exec .iceAbandonVoltageSettled s = after s (settle (asks n 6 (withTherm { t with exitGo := none, exitTodo := ns } d))))) ∧
    (t.exitGo = none → exec .iceAbandonVoltageSettled s = after s (settle d))

/-- Each command of Ice completes where its own step is due: an entry begins, goes on and ends in step 4, is given up at THERM_ICEWAIT; a wake source of Ice
is latched, and the exit raises VDD_CORE, switches CCLK and calls the units back (R389 to R393). -/
def Sys2Proof.Claims.IceCommandsComplete : Prop :=
  ∀ s : State, Runs s →
    let t := s.dev.therm
    let d := s.dev
    let enters := fun (i : Instr) => Leads i s fun e =>
      e.therm.istate = 1 ∧ e.therm.iceAt = now d ∧ e.therm.iceReq = entryUnits d ∧ e.therm.iceTodo = iceOrder.filter (fun n => uready n d) ∧ e.therm.lowered = none
    let leaves := fun (i : Instr) (src : Nat) => Leads i s fun e => e.therm.istate = 3 ∧ e.therm.wakesrc = src ∧ e.therm.exitAt = now d
    (t.istate = 0 → noStep t → enters .thermIceEnter) ∧
    (t.istate = 0 → noStep t → t.auto = true → weirIdle d = true → due (t.lastAdm + t.iceidle * 9216000) d = true → enters .iceAutoIdle) ∧
    (∀ n ns, t.istate = 1 → t.abandon = false → d.udir.taken = false → weirIdle d = true → t.iceTodo = n :: ns → uready n d = true → (uent n d).pend = none →
      permitted .thermo n .ice = true → uPresent d.fuse.variant n = true → uAssigned n = true →
      Leads .iceQuiesced s fun e => e.therm.iceGo = true ∧ e.therm.iceTodo = ns ∧ e.udir.taken = true ∧ (uent n e).pend = some .ice) ∧
    (t.istate = 1 → t.iceGo = true → t.iceTodo = [] → t.lowered = none → (∀ n ∈ t.iceReq, ustate n d = .ice) →
      Leads .iceUnitsInIce s fun e => e.therm.lowered = some (now d) ∧ e.therm.volt = some (stepOfCode 4) ∧ e.therm.istate = 1) ∧
    (t.istate = 1 → t.iceGo = false → t.abandon = false → due (t.iceAt + t.icewait * 9216000) d = true →
      Leads .iceWaitExpiry s fun e => e.therm.istate = 3 ∧ e.therm.abandon = true ∧ e.therm.exitTodo = t.iceReq) ∧
    (t.istate = 2 → leaves .thermIceLeave 2) ∧
    (t.istate = 2 → t.icewake ≠ 0 → due (t.iceAt + t.icewake * 9216000) d = true → leaves .iceWakeTimer 5) ∧
    (t.istate = 3 → d.clk = .ice → noStep t →
      Leads .iceExit s fun e => e.therm.volt = some (stepOfCode (rungStep t.rung).code) ∧ e.therm.raise = some (rungStep t.rung, t.exitAt + 460800) ∧
        ∀ n, n ∈ e.therm.exitTodo ↔ n ∈ t.iceReq) ∧
    (∀ st at', t.istate = 3 → d.clk = .ice → t.raise = some (st, at') → due at' d = true →
      Leads .iceExitClockSwitch s fun e => e.therm.raise = none ∧ e.therm.pend = some st) ∧
    (∀ at', t.exitGo = some at' → due at' d = true → Leads .iceAbandonVoltageSettled s fun e => e.therm.exitGo = none ∧ e.therm.istate = t.istate)

/-! ### The Ledger: mirroring, recovery and orphans (18) -/

namespace Sys2Proof.Claims

/-- The block with the Ledger `g`. -/
def withLedger (g : Ledger) (d : Dev) : Dev := { d with ledger := g }

/-- The block with record `l` as `r`. -/
def withRec (l : Nat) (r : LRec) (d : Dev) : Dev := withLedger { d.ledger with recs := tabSet (fun _ => {}) d.ledger.recs l r } d

/-- A mirror write or retirement of record `l` under the next MSEQ, awaiting its acknowledgement for LEDG_MIRTO. -/
def sendsMirror (op l : Nat) (r : Option LRec) (d : Dev) : Dev :=
  let g := d.ledger
  let q := (g.mseq + 1) % 2 ^ 32
  withLedger { g with
    mseq := q, mout := g.mout ++ [{ op := op, origin := d.jetty.node, mseq := q, lidx := l, rcd := r }]
    unacked := g.unacked ++ [{ lidx := l, mseq := q, due := now d + g.mirTo, again := false }] } d

/-- The Ledger serves, and takes the packet at the front of Sluice 167, which spells `m` by Table 18-3; `d` is the block without the packet. -/
abbrev mirrorComes (m : MirrorPkt) (s : State) (d : Dev) : Prop :=
  userves 97 s.dev = true ∧ ∃ x ∈ takePkt 167 s.dev, x.2 = d ∧
    let p := x.1
    let b := p.body
    p.aborted = false ∧ p.absent = false ∧ m.op = fieldLe b 1 1 ∧ m.origin = fieldLe b 2 2 ∧ m.mseq = fieldLe b 4 4 ∧ m.lidx = p.lidx ∧ p.lidx < 2 ^ 32 ∧
    m.rcd = if 180 ≤ b.length then some (recOf (slice b 52 128)) else none

/-- The part serves the mirror of the Ledger that sent `m`. -/
abbrev servesMirror (m : MirrorPkt) (d : Dev) : Prop := d.ledger.serveNow = true ∧ d.ledger.peerV = true ∧ d.ledger.peer = m.origin

/-- An answer to `m`. -/
def answersMirror (op : Nat) (m : MirrorPkt) (d : Dev) : Dev :=
  withLedger { d.ledger with mout := d.ledger.mout ++ [{ op := op, origin := m.origin, mseq := m.mseq, lidx := m.lidx, rcd := none }] } d

/-- Record `r` stored in the mirror area as `m` says. -/
def mirrorKept (m : MirrorPkt) (r : LRec) (d : Dev) : Dev :=
  withLedger { d.ledger with
    mirror := tabSet (fun _ => {}) d.ledger.mirror m.lidx r, mirrorSeq := tabSet (fun _ => 0) d.ledger.mirrorSeq m.lidx (m.mseq + 1) } d

/-- Every record that is not FREE awaits the acknowledgement of a write. -/
abbrev allSent (a b : Dev) : Prop := ∀ l, (lrec l a).phase ≠ 0 → (lrec l a).poison = false → ∃ w ∈ b.ledger.unacked, w.lidx = l

end Sys2Proof.Claims

/-- An orphaned entry more than ORPHTTL ms old is dropped with EXPIRE, and its record retires if it is DONE, which the peer is told; none younger is, and none
while ORPHTTL is 0. -/
def Sys2Proof.Claims.OrphansExpire : Prop :=
  ∀ (s : State) (l : Nat), Runs s →
    let r := lrec l s.dev
    let old := s.dev.ledger.orphTtl ≠ 0 ∧ r.deliv = 2 ∧ r.relAt + s.dev.ledger.orphTtl * 9216000 < now s.dev
    let d1 := raise 97 5 (withRec l { r with deliv := 0 } s.dev)
    (old → r.phase ≠ 3 → exec (.orphanExpiry l) s = after s d1) ∧
    (old → r.phase = 3 → mirroring s.dev = false → exec (.orphanExpiry l) s = after s (withRec l {} d1)) ∧
    (old → r.phase = 3 → mirroring s.dev = true → exec (.orphanExpiry l) s = after s (sendsMirror 3 l none (withRec l {} d1))) ∧
    (¬ old → exec (.orphanExpiry l) s = after s s.dev)

/-- The serving peer: a write is stored and a retirement frees, each acknowledged; an older one is acknowledged and ignored; what the peer does not accept or
has no place for is answered with OP 2. A fetch request brings every record that is not free, and then the end. -/
def Sys2Proof.Claims.MirrorsAreServed : Prop :=
  ∀ (s : State) (m : MirrorPkt) (d1 : Dev), Runs s → mirrorComes m s d1 →
    let kept := tabGet (fun _ => 0) s.dev.ledger.mirrorSeq m.lidx
    let older := kept ≠ 0 ∧ serialAfter (kept - 1) m.mseq = true
    let fits := servesMirror m s.dev ∧ m.lidx < s.dev.hbm.ledger * 8388608 / 2
    let gives := fun (d : Dev) => exec .mirrorPacketReceive s = after s d
    ((m.op = 0 ∨ m.op = 3) → ¬ fits → gives (answersMirror 2 m d1)) ∧
    ((m.op = 0 ∨ m.op = 3) → fits → older → gives (answersMirror 1 m d1)) ∧
    (m.op = 3 → fits → ¬ older → gives (answersMirror 1 m (mirrorKept m {} d1))) ∧
    (∀ r, m.op = 0 → m.rcd = some r → fits → ¬ older → gives (answersMirror 1 m (mirrorKept m r d1))) ∧
    (m.op ≠ 0 → m.op ≠ 3 → gives s.dev) ∧
    (m.op = 5 → ¬ servesMirror m s.dev → exec .mirrorFetchRequest s = after s (answersMirror 2 m d1)) ∧
    (m.op = 5 → servesMirror m s.dev →
      let held := s.dev.ledger.mirror.filter fun p => p.2.phase != 0
      let data := held.map fun p => { op := 4, origin := m.origin, mseq := tabGet (fun _ => 0) s.dev.ledger.mirrorSeq p.1 - 1, lidx := p.1, rcd := some p.2 }
      exec .mirrorFetchRequest s = after s (withLedger { d1.ledger with
        mout := d1.ledger.mout ++ data ++ [{ op := 6, origin := m.origin, mseq := m.mseq, lidx := 0xFFFFFFFF, rcd := none }] } d1)) ∧
    (m.op ≠ 5 → exec .mirrorFetchRequest s = after s s.dev)

/-- The origin: an acknowledgement sets MIRRORED where no later write of the record waits; a write unacknowledged for LEDG_MIRTO goes once more; one that fails
again, or is answered with OP 2, sets MIRLOST (an OP 2 that answers a fetch ends it so) and degrades the mirror, and every record that is not FREE is sent again, in LIDX order; it is in step again
once all are acknowledged. -/
def Sys2Proof.Claims.MirrorsAreAcknowledged : Prop :=
  (∀ (s : State) (m : MirrorPkt) (d1 : Dev), Runs s → mirrorComes m s d1 → (m.op = 1 ∨ m.op = 2) →
    let of := s.dev.ledger.unacked.find? fun w => w.lidx == m.lidx && w.mseq == m.mseq
    let asked := m.op = 2 ∧ m.lidx = noLidx ∧ s.dev.ledger.fetchDue.isSome = true
    let ended := withLedger { d1.ledger with fetchDue := none, fetchWho := none } (raise 97 3 d1)
    (of = none → ¬ asked → exec .mirrorAck s = after s d1) ∧
    (of = none → asked → s.dev.ledger.fetchWho = none → exec .mirrorAck s = after s ended) ∧
    (of = none → asked → ∀ sid tag, s.dev.ledger.fetchWho = some (sid, tag) →
      exec .mirrorAck s = after s (answer ⟨sid, tag⟩ (.other 5) (some "failed") [] ended)) ∧
    (∀ w, of = some w →
      let left := s.dev.ledger.unacked.erase w
      let g := { d1.ledger with unacked := left, degraded := if left = [] then false else s.dev.ledger.degraded }
      let r := lrec m.lidx s.dev
      (m.op = 1 → r.phase ≠ 0 → (∀ x ∈ left, x.lidx ≠ m.lidx) → exec .mirrorAck s = after s (withRec m.lidx { r with mirrored := true } (withLedger g d1))) ∧
      (m.op = 1 → (r.phase = 0 ∨ ∃ x ∈ left, x.lidx = m.lidx) → exec .mirrorAck s = after s (withLedger g d1)) ∧
      (m.op = 2 → exec .mirrorAck s = after s (mirrorResend (raise 97 3 (withLedger { d1.ledger with unacked := left, degraded := true } d1)))))) ∧
  (∀ (s : State) (q : Nat), Runs s →
    let of := s.dev.ledger.unacked.find? fun w => w.mseq == q && due w.due s.dev
    (of = none → exec (.mirrorTimeout q) s = after s s.dev) ∧
    (∀ w, of = some w →
      let g := s.dev.ledger
      let r := lrec w.lidx s.dev
      let again := { w with due := now s.dev + g.mirTo, again := true }
      let p : MirrorPkt := { op := 0, origin := s.dev.jetty.node, mseq := w.mseq, lidx := w.lidx, rcd := some r }
      let once := fun (p : MirrorPkt) => withLedger { g with mout := g.mout ++ [p], unacked := g.unacked.map fun x => if x = w then again else x } s.dev
      (w.again = false → r.phase ≠ 0 → exec (.mirrorTimeout q) s = after s (once p)) ∧
      (w.again = false → r.phase = 0 → exec (.mirrorTimeout q) s = after s (once { p with op := 3, rcd := none })) ∧
      (w.again = true → exec (.mirrorTimeout q) s =
        after s (mirrorResend (raise 97 3 (withLedger { g with unacked := g.unacked.erase w, degraded := true } s.dev)))))) ∧
  (∀ d : Dev, mirroring d = true → allSent d (mirrorResend d)) ∧
  (∀ d : Dev, ∃ new, (mirrorResend d).ledger.unacked = d.ledger.unacked ++ new ∧
    (tabWf (fun _ => ({} : LRec)) d.ledger.recs = true → (new.map (·.lidx)).Pairwise (· < ·))) ∧
  (∀ d : Dev, d.ledger.mirrorOn = true → d.ledger.degraded = true → mirrorState d = 2)

/-- Fetched records: one whose local record is FREE takes its place as one that survived (Table 18-4) and is mirrored anew; the end of the data, or a request
unanswered for 92,160,000 gu, ends the fetch, the latter with MIRLOST. -/
def Sys2Proof.Claims.FetchesRecover : Prop :=
  (∀ (s : State) (m : MirrorPkt) (d1 : Dev), Runs s → mirrorComes m s d1 → (m.op = 4 ∨ m.op = 6) →
    let mine := s.dev.ledger.fetchDue ≠ none ∧ m.origin = s.dev.jetty.node
    let renewed := { d1.ledger with fetchDue := some (now s.dev + 92160000) }
    let free := m.lidx < ledgSize s.dev ∧ (lrec m.lidx s.dev).phase = 0
    (¬ mine → exec .mirrorFetchData s = after s (settle d1)) ∧
    (mine → m.op = 6 → s.dev.ledger.fetchWho = none → exec .mirrorFetchData s = after s (settle (withLedger { d1.ledger with fetchDue := none } d1))) ∧
    (mine → m.op = 6 → ∀ sid tag, s.dev.ledger.fetchWho = some (sid, tag) → exec .mirrorFetchData s = after s (settle
      (answer ⟨sid, tag⟩ (.other 5) none ["ledger recovered " ++ dec s.dev.ledger.fetched] (withLedger { d1.ledger with fetchDue := none, fetchWho := none } d1)))) ∧
    (mine → m.op = 4 → (m.rcd = none ∨ ¬ free) → exec .mirrorFetchData s = after s (settle (withLedger renewed d1))) ∧
    (mine → m.op = 4 → free → ∀ r, m.rcd = some r →
      (r.phase = 1 → Leads .mirrorFetchData s fun d =>
        let x := lrec m.lidx d
        x.phase = 3 ∧ x.deliv = 2 ∧ x.verdict = (if r.dlv = true then 6 else 5) ∧ x.flags % 2 = 1 ∧ x.type = 1 ∧ x.error = 14 ∧ x.rlen = 0 ∧ x.relAt = now s.dev ∧
        x.mark = 0 ∧ x.refetch = false ∧ x.stream = r.stream ∧ x.seq = r.seq ∧ x.cookie = r.cookie ∧ x.mirrored = false ∧
        d.ledger.fetched = s.dev.ledger.fetched + 1 ∧
        (mirroring s.dev = true → ∃ p ∈ d.ledger.mout, p.op = 0 ∧ p.lidx = m.lidx ∧ p.mseq = d.ledger.mseq)) ∧
      ((r.phase = 2 ∨ r.phase = 3) → Leads .mirrorFetchData s fun d =>
        let x := lrec m.lidx d
        d.ledger.fetched = s.dev.ledger.fetched ∧ (r.deliv = 0 → x.phase = 0) ∧
        ((r.deliv = 1 ∨ r.deliv = 2) → x.phase = 3 ∧ x.deliv = 2 ∧ x.verdict = r.verdict ∧ x.mark = 0 ∧ x.refetch = false)))) ∧
  (∀ s : State, Runs s →
    (s.dev.ledger.fetchDue = none → exec .mirrorFetchTimeout s = after s s.dev) ∧
    (∀ t, s.dev.ledger.fetchDue = some t →
      let d1 := withLedger { s.dev.ledger with fetchDue := none, fetchWho := none } (raise 97 3 s.dev)
      (due t s.dev = false → exec .mirrorFetchTimeout s = after s s.dev) ∧
      (due t s.dev = true → s.dev.ledger.fetchWho = none → exec .mirrorFetchTimeout s = after s d1) ∧
      (due t s.dev = true → ∀ sid tag, s.dev.ledger.fetchWho = some (sid, tag) →
        exec .mirrorFetchTimeout s = after s (answer ⟨sid, tag⟩ (.other 5) (some "failed") [] d1))))

/-- LEDG_CFG and LEDG_PEER: under FORCED, MIRROR stays 1 and the peer named, and a write against that is counted; mirroring that ends forgets its writes; one
that begins, or gets another peer, sends every record that is not FREE, and is in step once all are acknowledged. -/
def Sys2Proof.Claims.MirrorSettings : Prop :=
  (∀ (s : State) (v : Nat), Runs s → HostFree s →
    let g := s.dev.ledger
    let d0 := if g.forced = true ∧ bitOf v 8 = false then badacc s.dev else s.dev
    let set := { g with maxReplay := bitsOf v 3 0, mirrorOn := bitOf v 8 || g.forced, serve := bitOf v 9, autoFetch := bitOf v 11 }
    let on := (bitOf v 8 = true ∨ g.forced = true) ∧ g.peerV = true
    (¬ on → exec (.ledgerCfgWrite v) s = after s (withLedger { set with unacked := [], degraded := false } d0)) ∧
    (on → mirroring s.dev = true → exec (.ledgerCfgWrite v) s = after s (withLedger set d0)) ∧
    (on → mirroring s.dev = false → Gives (.ledgerCfgWrite v) s fun d => allSent s.dev d ∧ d.ledger.maxReplay = bitsOf v 3 0 ∧ d.ledger.serve = bitOf v 9 ∧
      d.ledger.mirrorOn = true ∧ d.ledger.autoFetch = bitOf v 11 ∧ (d.ledger.degraded = false ↔ d.ledger.unacked = []))) ∧
  (∀ (s : State) (v : Nat), Runs s → HostFree s →
    let g := s.dev.ledger
    let set := { g with peerV := bitOf v 31, peer := bitsOf v 15 0 }
    let on := g.mirrorOn = true ∧ bitOf v 31 = true
    (g.forced = true → bitOf v 31 = false → exec (.ledgerPeerWrite v) s = after s (badacc s.dev)) ∧
    ((g.forced = false ∨ bitOf v 31 = true) →
      (¬ on → exec (.ledgerPeerWrite v) s = after s (withLedger { set with unacked := [], degraded := false } s.dev)) ∧
      (on → mirroring s.dev = true → bitsOf v 15 0 = g.peer → exec (.ledgerPeerWrite v) s = after s (withLedger set s.dev)) ∧
      (on → (mirroring s.dev = false ∨ bitsOf v 15 0 ≠ g.peer) → Gives (.ledgerPeerWrite v) s fun d =>
        allSent s.dev d ∧ d.ledger.peer = bitsOf v 15 0 ∧ (d.ledger.degraded = false ↔ d.ledger.unacked = []))))

/-! ### Boot, power, the non-volatile store and the test port (19, 20) -/

namespace Sys2Proof.Claims

/-- The block with the boot state `b`. -/
def withBoot (b : Boot) (d : Dev) : Dev := { d with boot := b }

/-- The flash after `b` is programmed at `a`. -/
def programmed (a : Nat) (b : List Byte) (d : Dev) : Dev := withBoot { d.boot with flash := memWrite 0xFF d.boot.flash a b } d

/-- The page of a trip marker (R422). -/
def markerPage (cause sensors kind slot gauge : Nat) : List Byte :=
  let b := [0x54, 0x52, 0x49, 0x50, BitVec.ofNat 8 cause, BitVec.ofNat 8 sensors, BitVec.ofNat 8 kind, BitVec.ofNat 8 slot] ++ toLe 8 gauge ++ List.replicate 236 0
  b ++ toLe 4 (crc32 b)

/-- What leaves on the pins of a ball that the boundary register covers: nothing while EXTEST drives it. -/
def onBall (o : Out) (d : Dev) : Dev := if d.tap.ir = 0 then d else { d with out := d.out ++ [o] }

/-- The lowest erased page of the marker area takes a marker; with none erased no marker is written. -/
abbrev marks (cause sensors : Nat) (job : Option NvJob) (d e : Dev) : Prop :=
  let free := fun (i : Nat) => ∀ x, x < 256 → flashByte (0x30000 + 256 * i + x) d = 0xFF
  let kind := match job with | some j => if j.kind < 4 then j.kind else 255 | none => 255
  let slot := match job with | some j => if j.kind < 4 then j.slot else 0 | none => 0
  tabWf (fun _ => (0xFF : Byte)) d.boot.flash = true →
  (∀ i, i < 256 → free i → (∀ k, k < i → ¬ free k) →
    e = onBall (.flash 1 (0x30000 + 256 * i)) (programmed (0x30000 + 256 * i) (markerPage cause sensors kind slot (now d)) d)) ∧
  ((∀ i, i < 256 → ¬ free i) → e = d)

/-- The NV controller stops: a page under way completes, or, where it is cut short, has changed no bit but those it was to clear; an erase is abandoned and
leaves every other byte; nothing after it starts. -/
abbrev nvStops (cut : Bool) (d e : Dev) : Prop :=
  let none' := { d.boot with jobs := [] }
  let under := d.boot.jobs.head?.bind fun j => j.ops.head?
  (under = none → e = withBoot none' d) ∧
  (∀ a b, under = some (.page a b) → cut = false → e = withBoot { (onBall (.flash 1 a) (programmed a b d)).boot with jobs := [] } (onBall (.flash 1 a) (programmed a b d))) ∧
  (∀ a b, under = some (.page a b) → cut = true → e.boot = { none' with flash := e.boot.flash } ∧
    (∀ x, (x < a ∨ a + b.length ≤ x) → flashByte x e = flashByte x d) ∧
    (∀ i, i < b.length → let old := flashByte (a + i) d; let new := flashByte (a + i) e; old &&& b.getD i 0 &&& ~~~ new = 0 ∧ new &&& ~~~ old = 0)) ∧
  (∀ a n, under = some (.erase a n) → e.boot = { none' with flash := e.boot.flash } ∧ ∀ x, (x < a ∨ a + n ≤ x) → flashByte x e = flashByte x d)

/-- The block at power-on reset: the flash, the fuses, repaired rows and what the board holds outlast it. -/
abbrev coldPart (d e : Dev) : Prop :=
  let f := devReset d.fuse
  e = { f with
    boot := { f.boot with flash := d.boot.flash, thermtrip := d.boot.thermtrip }
    hbm := { f.hbm with repaired := d.hbm.repaired }
    host := { f.host with perst := d.host.perst, linkUp := !d.host.perst }
    out := d.out, freeCtr := d.freeCtr, gauge := e.gauge }

/-- The block at warm reset (R41, R436): as at power-on, but the HBM stacks with the Ledger and the counting of the units' generations go on. -/
abbrev warmPart (d e : Dev) : Prop :=
  let f := devReset d.fuse
  e.fuse = d.fuse ∧ e.boot = { f.boot with flash := d.boot.flash, dir := d.boot.dir.filter (·.hbm), thermtrip := d.boot.thermtrip } ∧ e.mere = f.mere ∧
  e.therm = f.therm ∧ e.weir = f.weir ∧ e.slu = f.slu ∧ e.jetty = f.jetty ∧ e.ferry = f.ferry ∧ e.well = f.well ∧ e.longs = f.longs ∧ e.bip = f.bip ∧ e.ctr = f.ctr ∧
  e.hbm.mem = d.hbm.mem ∧ e.hbm.pois = d.hbm.pois ∧ e.ledger.recs = d.ledger.recs ∧ e.ledger.mirror = d.ledger.mirror ∧ e.ledger.mseq = d.ledger.mseq ∧
  (∀ n ∈ d.udir.ent.map (·.1), (uent n e).cause = (if n = 98 then (uent n d).cause else .boot) ∧
    (uent n e).gen = if n = 98 then (uent n d).gen else (uent n d).gen + 1) ∧
  (∀ n ∈ d.udir.ent.map (·.1), n ≠ 98 → (n = 97 ∨ (26 ≤ n ∧ n < 30)) → ustate n e = .ice)

/-- A boot with no usable Shore image in either slot. -/
abbrev noShore (d : Dev) : Prop := ∀ k, k < 2 → (slotImage 1 k d).2 ≠ none ∨ shoreIncompat d (slotImage 1 k d).1 = true

end Sys2Proof.Claims

/-- Power-on: the Gauge restarts, everything but the flash, the fuses and repaired rows stands at its reset value, and the boot ROM runs; it acts on a part that stands
at its power-on reset or has powered down, while the balls are seen. The Gauge of the boot's end is the command's, at a multiple of 3,000 (log entry 3). -/
def Sys2Proof.Claims.PowerOnBoots : Prop :=
  ∀ (s : State) (vrOk : Bool) (hbmBad sfdp g : Nat),
    let i := Instr.powerOn vrOk hbmBad sfdp g
    (s.dev.tap.ir ≠ 0 → (s.dev.boot.trip = .powerDown ∨ (s.dev.boot.phase = 0 ∧ s.dev.boot.trip = .none)) → ∃ e, coldPart s.dev e ∧ e.gauge = BitVec.ofNat 64 ((g + 2999) / 3000 * 3000) ∧
      exec i s = after s (bootRom 1 vrOk hbmBad sfdp e)) ∧
    ((s.dev.tap.ir = 0 ∨ (s.dev.boot.trip ≠ .powerDown ∧ (s.dev.boot.phase ≠ 0 ∨ s.dev.boot.trip ≠ .none))) → exec i s = after s s.dev)

/-- Warm reset: the boot ROM runs again with the Gauge counting on, the HBM's and the Ledger's contents kept and every unit's generation advanced; after a trip
the cause is 3. A hardware trip holds until power is removed, and without REF24 nothing starts. -/
def Sys2Proof.Claims.WarmResetBoots : Prop :=
  ∀ (s : State) (vrOk refOk : Bool) (hbmBad sfdp g : Nat),
    let i := Instr.warmReset vrOk refOk hbmBad sfdp g
    let b := s.dev.boot
    let held := s.dev.tap.ir = 0 ∨ b.trip = .powerDown ∨ b.trip = .hardware ∨ b.thermtrip = false ∨ (b.trip = .refLoss ∧ refOk = false)
    (held → exec i s = after s s.dev) ∧
    (¬ held → ∃ e, warmPart s.dev e ∧ e.gauge = BitVec.ofNat 64 ((now s.dev + g + 2999) / 3000 * 3000) ∧
      exec i s = after s (bootRom (if b.tripped = true then 3 else 2) vrOk hbmBad sfdp e))

/-- The boot ROM: without a usable Shore image it ends in recovery, PHASE 5, with the Thermocline, NV controller and Mere up; with one it reaches READY, PHASE 4.
Of a kind's slots the first in order that is usable is chosen, and each bad one before it is logged and counted (R427, R428). -/
def Sys2Proof.Claims.BootReachesReadyOrRecovery : Prop :=
  (∀ (cause hbmBad sfdp : Nat) (vrOk : Bool) (d : Dev), let e := bootRom cause vrOk hbmBad sfdp d
    (noShore d → e.boot.phase = 5 ∧ e.boot.cause = cause ∧ ustate 99 e = .ready ∧ ustate 24 e = .ready) ∧
    (¬ noShore d → e.boot.phase = 4) ∧ e.boot.tripped = false) ∧
  (∀ (s : State) (hbmBad : Nat), Runs s →
    let r := imageMere s.dev.boot.recaddr s.dev
    let why := firstFail (imageRules [1] r.1 r.2 s.dev)
    (s.dev.boot.phase ≠ 5 → exec (.recoveryGo hbmBad) s = after s s.dev) ∧
    (s.dev.boot.phase = 5 → why ≠ none → exec (.recoveryGo hbmBad) s = after s (raise 99 2 (evAdd 6 [1, 2] [] s.dev))) ∧
    (s.dev.boot.phase = 5 → why = none → Gives (.recoveryGo hbmBad) s fun d => d.boot.phase = 4 ∧ d.boot.tripped = false)) ∧
  (∀ (t s : Nat) (ss : List Nat) (bad : List Byte → Bool) (d : Dev), let r := slotImage t s d
    (∀ why, r.2 = some why → chooseImage t bad (s :: ss) d = chooseImage t bad ss (badImage t s why d)) ∧
    (r.2 = none → bad r.1 = false → chooseImage t bad (s :: ss) d = (some (s, r.1), d)) ∧
    (r.2 = none → bad r.1 = true → (chooseImage t bad (s :: ss) d).1 = (chooseImage t bad ss d).1))

/-- Trips and the loss of REF24 gate CCLK; the NV controller stops and programs a marker. A hardware trip drives THERMTRIP_n low until power is removed. -/
def Sys2Proof.Claims.TripsStopThePart : Prop :=
  ∀ s : State,
    let d := s.dev
    let job := d.boot.jobs.head?
    let trips := fun (i : Instr) (t : Trip) (cut : Bool) (cause sensors : Nat) (d : Dev) => ∃ e f, nvStops cut d e ∧ marks cause sensors job e f ∧
      exec i s = after s (withBoot { f.boot with trip := t, tripped := true } f)
    (Runs s → hotMap d ≠ 0 → trips .firmwareTrip .firmware false 1 (hotMap d) d) ∧
    ((¬ Runs s ∨ hotMap d = 0) → exec .firmwareTrip s = after s d) ∧
    (Runs s → trips .ref24Loss .refLoss false 1 0 d) ∧
    (¬ Runs s → exec .ref24Loss s = after s d) ∧
    (∀ m, 0 < m → m < 256 → d.boot.thermtrip = true →
      let low := onBall (.pin "THERMTRIP_n" false) (withBoot { d.boot with thermtrip := false } d)
      (d.boot.trip ≠ .powerDown → trips (.hardwareTrip m) .hardware true 2 m low) ∧
      (d.boot.trip = .powerDown → exec (.hardwareTrip m) s = after s low)) ∧
    (∀ m, d.boot.thermtrip = false → exec (.hardwareTrip m) s = after s d) ∧
    exec (.hardwareTrip 0) s = after s d

/-- Power-down gates CCLK, takes the PCI Express link down and writes no marker; removal of the supplies leaves what outlasts them and releases THERMTRIP_n; a
falling VR_ALERT_n is logged with STATUS_WORD. -/
def Sys2Proof.Claims.PowerDownStopsThePart : Prop :=
  ∀ s : State,
    let d := s.dev
    (d.tap.ir ≠ 0 → d.boot.trip ≠ .powerDown → ∃ e, nvStops false d e ∧ exec .powerDown s = after s
      { e with boot := { e.boot with trip := .powerDown, tripped := false, outZ := true }, host := { e.host with linkUp := false } }) ∧
    ((d.tap.ir = 0 ∨ d.boot.trip = .powerDown) → exec .powerDown s = after s d) ∧
    (∃ e f, (if d.boot.trip = .powerDown then e = d else nvStops true d e) ∧ coldPart e f ∧ f.gauge = 0 ∧ exec .powerRemoval s = after s
      { f with boot := { f.boot with thermtrip := true, trip := .powerDown, outZ := true }, host := { f.host with linkUp := false } }) ∧
    (∀ w, Runs s → d.tap.ir ≠ 0 → exec (.vrAlert w) s = after s (logAdd 98 .fault ("vr_alert status_word " ++ hex0 4 w) d)) ∧
    (∀ w, Runs s → d.tap.ir = 0 → exec (.vrAlert w) s = after s d)

/-- A record is written to the slot that does not hold the newer valid one: erase, the body's pages, and page 0 last, under the next SEQ; each completion programs
or erases what is under way and goes on; one that fails gives the write up. -/
def Sys2Proof.Claims.RecordsAreWritten : Prop :=
  (∀ (s : State) (kind : Nat), Runs s → kind < 4 → (∀ j ∈ s.dev.boot.jobs, j.kind ≠ kind) → userves 99 s.dev = true →
    let body := recBody kind s.dev
    let to' := match recUsed kind s.dev with | some (k, q, _) => (1 - k, (q + 1) % 2 ^ 32) | none => (0, 0)
    let base := if kind = 3 then 0x40000 + 0x80000 * to'.1 else 0x10000 * kind + 0x8000 * to'.1
    let erases := if kind = 3 then (List.range 8).map fun i => NvOp.erase (base + 0x10000 * i) 0x10000 else [.erase base 0x8000]
    exec (.nvRecordWrite kind) s = after s (withBoot { s.dev.boot with jobs := s.dev.boot.jobs ++
      [{ kind := kind, slot := to'.1, ops := erases ++ pagesOf (body.length / 256 + 1) (base + 256) body ++ [.page base (recHeader kind to'.2 body)],
         fin := .seqOf kind to'.2 body, wait := none }] } s.dev)) ∧
  (∀ (s : State) (kind : Nat), Runs s → (4 ≤ kind ∨ (∃ j ∈ s.dev.boot.jobs, j.kind = kind) ∨ userves 99 s.dev = false) →
    exec (.nvRecordWrite kind) s = after s s.dev) ∧
  (∀ (s : State) (j : NvJob) (js : List NvJob) (o : NvOp) (os : List NvOp), Runs s → s.dev.tap.ir ≠ 0 → userves 99 s.dev = true → s.dev.boot.jobs = j :: js →
    j.ops = o :: os →
    let done := match o with
      | .page a b => onBall (.flash 1 a) (programmed a b s.dev)
      | .erase a n => onBall (.flash 2 a) (withBoot { s.dev.boot with flash := s.dev.boot.flash.filter fun p => decide (p.1 < a ∨ a + n ≤ p.1) } s.dev)
    let next := withBoot { done.boot with jobs := js } done
    (os ≠ [] → exec (.nvPageComplete true) s = after s (withBoot { done.boot with jobs := { j with ops := os } :: js } done)) ∧
    (os = [] → ∀ k q body, j.fin = .seqOf k q body → j.wait = none → exec (.nvPageComplete true) s = after s (withBoot
      { next.boot with seqs := tabSet (fun _ => 0) next.boot.seqs k q, config := if k = 3 then body else next.boot.config } next)) ∧
    (os = [] → j.fin = .none → j.wait = none → exec (.nvPageComplete true) s = after s next) ∧
    (os = [] → j.fin = .none → ∀ sid tag, j.wait = some (sid, tag) → exec (.nvPageComplete true) s = after s (answer ⟨sid, tag⟩ (.other 6) none [] next)) ∧
    (j.wait = none → exec (.nvPageComplete false) s = after s (raise 99 6 (withBoot { s.dev.boot with jobs := js } s.dev)))) ∧
  (∀ (s : State) (good : Bool), Runs s → (s.dev.boot.jobs = [] ∨ s.dev.tap.ir = 0 ∨ userves 99 s.dev = false) → exec (.nvPageComplete good) s = after s s.dev) ∧
  -- the entries collected are written at most once in 9,216,000,000 gu, the latest 256 of them
  (∀ s : State, Runs s → userves 99 s.dev = true → (∀ j ∈ s.dev.boot.jobs, j.kind ≠ 2) → s.dev.boot.newEv ≠ [] →
    let es := s.dev.boot.events ++ s.dev.boot.newEv
    (∀ t, s.dev.boot.evAt = some t → now s.dev < t + 9216000000 → exec .eventRecordFlush s = after s s.dev) ∧
    ((∀ t, s.dev.boot.evAt = some t → t + 9216000000 ≤ now s.dev) → ∃ job : NvJob, job.kind = 2 ∧
      exec .eventRecordFlush s = after s (withBoot { s.dev.boot with
        jobs := s.dev.boot.jobs ++ [job], events := es.drop (es.length - 256), newEv := [], evAt := some (now s.dev) } s.dev) ∧
      ∃ q, job.fin = .seqOf 2 q ((es.drop (es.length - 256)).flatten)))

/-- A record whose header and body stand in a slot of its kind reads back, with its SEQ. -/
def Sys2Proof.Claims.RecordsReadBack : Prop :=
  ∀ (d : Dev) (kind slot seq : Nat) (body : List Byte), kind < 4 → slot < 2 → seq < 2 ^ 32 →
    let base := if kind = 3 then 0x40000 + 0x80000 * slot else 0x10000 * kind + 0x8000 * slot
    256 + body.length ≤ (if kind = 3 then 0x80000 else 0x8000) →
    recRead kind slot (programmed base (recHeader kind seq body) (programmed (base + 256) body d)) = some (seq, body)

/-- The boundary-scan port: EXTEST and SAMPLE/PRELOAD move the 48-cell register, IDCODE the identification, any other code one bit of BYPASS; TRST_n selects
IDCODE. -/
def Sys2Proof.Claims.ScanPort : Prop :=
  ∀ s : State,
    let leaves := fun (ir bsr v : Nat) => after s { s.dev with tap := { ir := ir, bsr := bsr }, out := s.dev.out ++ [.tdo v] }
    let bsr := s.dev.tap.bsr
    let variant := match s.dev.fuse.variant with | .hg8 => 0x4848 | .hg4 => 0x4844 | .hg2w => 0x4842
    (∀ levels cells, exec (.extest levels cells) s = leaves 0 (cells % 2 ^ 48) (levels % 2 ^ 48)) ∧
    (∀ levels cells, exec (.samplePreload levels cells) s = leaves 1 (cells % 2 ^ 48) (levels % 2 ^ 48)) ∧
    (s.dev.fuse.letter < 16 → exec .idcode s = leaves 2 bsr (s.dev.fuse.letter * 2 ^ 28 + variant * 2 ^ 12 + 0x3D9 * 2 + 1)) ∧
    (∀ code n bits, 3 ≤ code → exec (.bypass code n bits) s = leaves 15 bsr (2 * bits % 2 ^ n)) ∧
    (∀ code n bits, code < 3 → exec (.bypass code n bits) s = after s s.dev) ∧
    exec .trstReset s = after s { s.dev with tap := { ir := 2, bsr := bsr } }

/-! ### The transports of Bipol (04) -/

namespace Sys2Proof.Claims

/-- The block with the Bipol state `b`. -/
def withBip (b : Bipol) (d : Dev) : Dev := { d with bip := b }

/-- The UART session takes what arrives: Bipol is served, the session is live, no break is on and nothing typed ahead waits. -/
abbrev uartOpen (d : Dev) : Prop := bipServed d = true ∧ (sess 0 d).live = true ∧ d.bip.inBreak = false ∧ (sess 0 d).ahead = []

/-- As `uartOpen`, in typed mode with no command running and no Escape under way. -/
abbrev typing (d : Dev) : Prop := uartOpen d ∧ (sess 0 d).machine = false ∧ (sess 0 d).outst = [] ∧ (sess 0 d).skip = 0

/-- The echo of typed mode. -/
def echoed (b : List Byte) (d : Dev) : Dev := say 0 [{ text := bytesText b }] d

/-- The bytes spell the message `m` by Table 4-6a. -/
abbrev spells (b : List Byte) (m : BipolMsg) : Prop :=
  16 ≤ b.length ∧ m.dest = fieldLe b 0 2 ∧ m.src = fieldLe b 2 2 ∧ m.type = fieldLe b 4 1 ∧ m.hops = fieldLe b 5 1 ∧ m.session = fieldLe b 6 2 ∧
  m.line = fieldLe b 8 4 ∧ m.text = (b.drop 16).take (fieldLe b 12 2) ∧ m.raw = none

/-- A message that the target takes (R82). -/
abbrev wellMade (b : List Byte) : Prop :=
  16 ≤ b.length ∧ 1 ≤ fieldLe b 4 1 ∧ fieldLe b 4 1 ≤ 5 ∧ (fieldLe b 4 1 ≤ 3 → 1 ≤ fieldLe b 12 2 ∧ fieldLe b 12 2 ≤ 1024) ∧ fieldLe b 14 2 = 0 ∧
  16 + fieldLe b 12 2 ≤ b.length

/-- A message that waits for the management class. -/
def posts (m : BipolMsg) (d : Dev) : Dev := withBip { d.bip with mgmt := d.bip.mgmt ++ [m] } d

end Sys2Proof.Claims

/-- Typed mode: a byte joins the line and is echoed; backspace, Ctrl-U, Ctrl-C and Escape edit it, other controls ring the bell; machine mode adds the byte alone.
A character with a framing error is counted and spoils its line. Nothing arrives while EXTEST drives the balls. -/
def Sys2Proof.Claims.UartTyping : Prop :=
  (∀ (s : State) (b : Nat), Runs s → s.dev.tap.ir ≠ 0 → b < 256 → typing s.dev →
    let x := sess 0 s.dev
    let c := BitVec.ofNat 8 b
    let gives := fun (d : Dev) => exec (.uartByte b false) s = after s (settle d)
    let line := fun (l : List Byte) (y : Session) => sessSet 0 { y with part := l, cr := false } s.dev
    (((0x20 ≤ b ∧ b ≤ 0x7E) ∨ b = 9) → x.part.length < 1024 → gives (echoed [c] (line (x.part ++ [c]) x))) ∧
    (((0x20 ≤ b ∧ b ≤ 0x7E) ∨ b = 9) → 1024 ≤ x.part.length → gives (echoed [c] (line x.part { x with bad := true }))) ∧
    ((b = 8 ∨ b = 0x7F) → x.part ≠ [] → gives (echoed [8, 32, 8] (line x.part.dropLast x))) ∧
    ((b = 8 ∨ b = 0x7F) → x.part = [] → gives (echoed [7] (line [] x))) ∧
    (b = 0x15 → gives (say 0 [{ text := "hg> " }] (echoed [13, 10] (line [] { x with bad := false })))) ∧
    (b = 0x1B → gives (line x.part { x with skip := 2 })) ∧
    (b < 0x20 → b ∉ [3, 8, 9, 10, 13, 0x15, 0x1B] → gives (echoed [7] (line x.part x))) ∧
    (b = 10 → x.cr = true → gives (line x.part x)) ∧
    exec .ctrlC s = after s (settle (line [] { x with bad := false }))) ∧
  (∀ (s : State) (b : Nat), Runs s → s.dev.tap.ir ≠ 0 → b < 256 → uartOpen s.dev → (sess 0 s.dev).machine = true → b ≠ 10 → b ≠ 13 →
    (sess 0 s.dev).part.length < 1024 →
    exec (.uartByte b false) s = after s (settle (sessSet 0 { sess 0 s.dev with cr := false, part := (sess 0 s.dev).part ++ [BitVec.ofNat 8 b] } s.dev))) ∧
  (∀ (s : State) (b : Nat), Runs s → s.dev.tap.ir ≠ 0 → (typing s.dev ∨ (uartOpen s.dev ∧ (sess 0 s.dev).machine = true)) →
    exec (.uartByte b true) s = after s (settle (sessSet 0 { sess 0 s.dev with bad := true } (bump kUartErr s.dev)))) ∧
  (∀ (s : State) (b : Nat), Runs s → s.dev.tap.ir = 0 → exec (.uartByte b false) s = after s s.dev ∧ exec .ctrlC s = after s s.dev) ∧
  (∀ (s : State) (b : Nat), Runs s → s.dev.tap.ir ≠ 0 → (sess 0 s.dev).live = false →
    exec (.uartByte b false) s = after s (settle s.dev) ∧ exec .ctrlC s = after s (settle s.dev))

/-- While a command of the typed UART session runs, what is typed is echoed and held, up to 1,024 bytes, and beyond that the bell rings; Ctrl-C ends a wait with
`err cancel` and the object's state, and a wait at another node is cancelled there. -/
def Sys2Proof.Claims.TypedAhead : Prop :=
  ∀ (s : State), Runs s → s.dev.tap.ir ≠ 0 → bipServed s.dev = true → (sess 0 s.dev).live = true → s.dev.bip.inBreak = false → (sess 0 s.dev).machine = false →
    (sess 0 s.dev).outst ≠ [] →
    let x := sess 0 s.dev
    let waiting := x.outst.find? fun o => o.obj != .output
    (∀ b, 0x20 ≤ b → b ≤ 0x7E → x.ahead.length < 1024 → exec (.uartByte b false) s =
      after s (settle (aheadFeed (echoed [BitVec.ofNat 8 b] (sessSet 0 { x with ahead := x.ahead ++ [some (BitVec.ofNat 8 b)] } s.dev))))) ∧
    (∀ b, 0x20 ≤ b → b ≤ 0x7E → 1024 ≤ x.ahead.length → exec (.uartByte b false) s = after s (settle (aheadFeed (echoed [7] s.dev)))) ∧
    (∀ o, waiting = some o → (∀ n, o.obj ≠ .remote n) →
      exec .ctrlC s = after s (settle (aheadFeed (err { sid := 0, tag := o.tag } "cancel" (waitBody o.obj s.dev) s.dev)))) ∧
    (∀ o n c, waiting = some o → o.obj = .remote n → s.dev.bip.remote.find? (fun c => c.sid == 0 && c.tag == o.tag) = some c →
      exec .ctrlC s = after s (settle (aheadFeed (posts { dest := n, src := s.dev.jetty.node, type := 4, hops := 32, session := 0, line := c.line, text := [] } s.dev)))) ∧
    (waiting = none → x.ahead.length < 1024 → exec .ctrlC s = after s (settle (aheadFeed (sessSet 0 { x with ahead := x.ahead ++ [some 3] } s.dev))))

/-- A line is taken at its terminator: on the UART with the echo of CR LF, through the command ring with SPACE, unless a line of the UART stands behind it in its
tick, in an inbound session as it is; there it waits for the end of the tick where lines of the tick may go before it. -/
def Sys2Proof.Claims.TerminatorsTakeLines : Prop :=
  (∀ s : State, Runs s → s.dev.tap.ir ≠ 0 → typing s.dev → (sess 0 s.dev).cr = false →
    let x := sess 0 s.dev
    let d1 := echoed [13, 10] (sessSet 0 { x with cr := false } (facing s))
    exec (.lineTerminator 0 []) s = after s (alone (settle (aheadFeed (takeLine 0 x.part x.bad (sessSet 0 { sess 0 d1 with part := [], bad := false } d1)))))) ∧
  (∀ (s : State) (l : List Byte), Runs s → s.dev.tap.ir = 0 → exec (.lineTerminator 0 l) s = after s (alone s.dev)) ∧
  (∀ (s : State) (l : List Byte), Runs s → bipServed s.dev = true → s.dev.bip.chead = s.dev.bip.ctail → s.dev.bip.ctail < 8192 → l.length < 4096 →
    (∀ b ∈ l, b ≠ 10 ∧ b ≠ 13) →
    let d := facing s
    let b := d.bip
    let head := (b.chead + (l.length + 1)) % 8192
    let ring := (List.range (l.length + 1)).foldl (fun m i => tabSet (fun _ => (0 : Byte)) m ((b.chead + i) % 4096) (l.getD i 10)) b.cmdRing
    (uartBehind s = false → exec (.lineTerminator 1 l) s = after s (alone (settle (mailN 4095 (takeLine 1 l false
      (raise 200 1 (withBip { b with cmdRing := ring, chead := head, ctail := head } d))))))) ∧
    (uartBehind s = true → exec (.lineTerminator 1 l) s = after s (alone (withBip { b with cmdRing := ring, chead := head } d)))) ∧
  (∀ (s : State) (l : List Byte), Runs s → 4096 < (s.dev.bip.chead + 8192 - s.dev.bip.ctail) % 8192 + (l.length + 1) →
    exec (.lineTerminator 1 l) s = after s (alone (raise 200 2 (facing s)))) ∧
  (∀ (s : State) (i : Nat) (l : List Byte), Runs s → 2 ≤ i →
    let x := sess i s.dev
    let j := s.dev.jetty
    let waits := x.live = true ∧ 1 ≤ l.length ∧ l.length ≤ 1024 ∧ (lineBehind s = true ∨ j.mgmtIn ≠ [])
    let m : BipolMsg := { dest := j.node, src := x.node, type := 1, hops := 32, session := x.origin, line := x.oline, text := l }
    (¬ waits → exec (.lineTerminator i l) s = after s (alone (settle (takeLine i l false (facing s))))) ∧
    (waits → exec (.lineTerminator i l) s = after s (alone { s.dev with jetty := { j with mgmtIn := j.mgmtIn ++ [msgBytes m] } })))

/-- A line runs the command its verb, noun and arguments spell, under its tag; one that spells none is `unknown`; in machine mode one without a tag, and one whose
check code is wrong or missing, is not executed and is answered under `#?` with its number; an empty line and a comment do nothing. -/
def Obligations.LinesRunCommands : Prop :=
  (∀ (i : Nat) (tag verb noun : String) (args : List String) (text : List Char) (l : Line) (d : Dev),
    (sess i d).machine = true → tagForm tag = true → (∀ t ∈ verb :: noun :: args, strayElem t = false) → (∀ c ∈ verb.toList, c ≠ '@') →
    (lineOf true verb noun args = some l → l.e = 0 → runTokens i false text (("#" ++ tag) :: verb :: noun :: args) d = l.v { sid := i, tag := tag } d) ∧
    (lineOf true verb noun args = none → runTokens i false text (("#" ++ tag) :: verb :: noun :: args) d =
      sayNext i (respLines { sid := i, tag := tag } none (some "unknown") [] (countLine i d)) (countLine i d)) ∧
    runTokens i false text (verb :: noun :: args) d = lineRefused i "syntax" (countLine i d)) ∧
  (∀ (i : Nat) (l : List Byte) (d : Dev), bipServed d = true → (sess i d).live = true → l.length ≤ 1024 → (∀ b ∈ l, 0x21 ≤ b.toNat ∧ b.toNat ≤ 0x7E ∨ b = 32) →
    (∀ b, l.head? = some b → b ≠ 32 ∧ b ≠ 59) → l.getLast? ≠ some 32 → l ≠ [] →
    let t := l.map fun b => Char.ofNat b.toNat
    let run := fun (u : List Char) => runTokens i (tokens u).1 t (tokens u).2 d
    (∀ c v, checkOf t = .code c v → crc8 (textBytes (String.ofList c)) = BitVec.ofNat 8 v → takeLine i l false d = run c) ∧
    (∀ c v, checkOf t = .code c v → crc8 (textBytes (String.ofList c)) ≠ BitVec.ofNat 8 v → takeLine i l false d = lineRefused i "crc" (countLine i d)) ∧
    (checkOf t = .none → (sess i d).crc = true → takeLine i l false d = lineRefused i "crc" (countLine i d)) ∧
    (checkOf t = .none → (sess i d).crc = false → takeLine i l false d = run t)) ∧
  (∀ (i : Nat) (l : List Byte) (bad : Bool) (d : Dev), (l = [] ∨ l.head? = some 59) → takeLine i l bad d = d) ∧
  crc8 (textBytes "#1 show gauge") = 0xBD

/-- The mailbox pointers: a CHEAD past CTAIL + 4,096 and an RTAIL past RHEAD are discarded with LOST; any other is taken, and its lines with it, unless a line of
the UART stands behind in the tick; SESSION_END restarts the session and returns
the four pointers to 0. -/
def Obligations.MailboxPointers : Prop :=
  ∀ (s : State) (v : Nat), Runs s → HostFree s →
    let b := s.dev.bip
    (4096 < (v % 8192 + 8192 - b.ctail) % 8192 → exec (.mailboxCheadWrite v) s = after s (alone (raise 200 2 (facing s)))) ∧
    ((v % 8192 + 8192 - b.ctail) % 8192 ≤ 4096 →
      let d1 := withBip { (facing s).bip with chead := v % 8192 } (facing s)
      ((bipServed s.dev = false ∨ uartBehind s = true) → exec (.mailboxCheadWrite v) s = after s (alone d1)) ∧
      (bipServed s.dev = true → uartBehind s = false →
        (∀ k, k < (v % 8192 + 8192 - b.ctail) % 8192 → tabGet (fun _ => (0 : Byte)) b.cmdRing ((b.ctail + k) % 4096) ≠ 10) →
        exec (.mailboxCheadWrite v) s = after s (alone (settle d1))) ∧
      (bipServed s.dev = true → uartBehind s = false → exec (.mailboxCheadWrite v) s = after s (alone (settle (mailN 4096 d1))))) ∧
    (rspUsed b < (b.rhead + 131072 - v % 131072) % 131072 → exec (.mailboxRtailWrite v) s = after s (raise 200 2 s.dev)) ∧
    ((b.rhead + 131072 - v % 131072) % 131072 ≤ rspUsed b → exec (.mailboxRtailWrite v) s = after s (settle (pump 1 (withBip { b with rtail := v % 131072 } s.dev)))) ∧
    (let d1 := withBip { b with chead := 0, ctail := 0, rhead := 0, rtail := 0 } s.dev
     let d2 := withBip { d1.bip with remote := b.remote.filter fun c => decide (c.sid ≠ 1) } d1
     (bipServed s.dev = true → exec .mailboxSessionEnd s = after s (sessSet 1 { live := true, machine := true } d2)) ∧
     (bipServed s.dev = false → exec .mailboxSessionEnd s = after s (sessSet 1 {} d1)))

/-- A break ends the UART session at 115,200 baud in typed mode, and the prompt is sent when it is over; output leaves in order, a rate that waited for bytes is in
force after them, and what a session held back goes on. -/
def Obligations.BreaksAndOutput : Prop :=
  ∀ s : State, Runs s →
    let b := s.dev.bip
    (s.dev.tap.ir ≠ 0 → exec .uartBreak s = after s (sessSet 0 { live := true } (withBip
      { b with baud := 115200, newBaud := [], inBreak := true, remote := b.remote.filter fun c => decide (c.sid ≠ 0) } s.dev))) ∧
    (s.dev.tap.ir = 0 → exec .uartBreak s = after s s.dev) ∧
    (b.inBreak = true → exec .breakEndPrompt s = after s (say 0 [{ text := "hg> " }] (withBip { b with inBreak := false } s.dev))) ∧
    (b.inBreak = false → exec .breakEndPrompt s = after s s.dev) ∧
    (∀ n, let x := sess 0 s.dev
      let m := min n b.uartOut.length
      let left := fun (baud : Nat) (l : List (Nat × Nat)) => onBall (.uart (b.uartOut.take m)) (withBip { b with uartOut := b.uartOut.drop m, baud := baud, newBaud := l } s.dev)
      x.outq = [] → x.events = [] → x.ahead = [] →
      (m = 0 → exec (.outputRoomResume 0 n) s = after s (settle s.dev)) ∧
      (0 < m → b.newBaud = [] → exec (.outputRoomResume 0 n) s = after s (settle (left b.baud []))) ∧
      (∀ k r, 0 < m → b.newBaud = [(k, r)] → k ≤ m → exec (.outputRoomResume 0 n) s = after s (settle (left r []))) ∧
      (∀ k r, 0 < m → b.newBaud = [(k, r)] → m < k → exec (.outputRoomResume 0 n) s = after s (settle (left b.baud [(k - m, r)])))) ∧
    (∀ i n, i ≠ 0 → exec (.outputRoomResume i n) s = after s (settle (aheadFeed (pump i s.dev))))

/-- Bipol messages: one for another node goes on byte for byte but a hop less; a malformed one is counted; a response line is gathered and the end line releases the response; a
command line runs in an inbound session of its origin, the 17th being refused `full`; a keep-alive renews the wait. Where lines of its tick may go before it a
message waits for the tick's end. -/
def Sys2Proof.Claims.MessagesArrive : Prop :=
  ∀ (s : State) (b : List Byte) (m : BipolMsg), Runs s → spells b m →
    let d := facing s
    let here := m.dest = d.jetty.node
    let waits := lineBehind s = true ∨ d.jetty.mgmtIn ≠ []
    let gives := fun (e : Dev) => ¬ waits → exec (.bipolMessageReceive b) s = after s (alone e)
    (waits → exec (.bipolMessageReceive b) s = after s (alone { s.dev with jetty := { s.dev.jetty with mgmtIn := s.dev.jetty.mgmtIn ++ [b] } })) ∧
    (¬ here → m.hops ≤ 1 → gives d) ∧
    (¬ here → 1 < m.hops → gives (posts { m with hops := m.hops - 1, raw := some (b.take 5 ++ [BitVec.ofNat 8 (m.hops - 1)] ++ b.drop 6) } d)) ∧
    (here → (bipServed d = false ∨ ¬ wellMade b) → gives (raise 31 2 d)) ∧
    (here → bipServed d = true → wellMade b →
      (m.type = 5 → gives (settle (withBip { d.bip with
        remote := d.bip.remote.map fun c => if c.sid = m.session ∧ c.node = m.src then { c with heard := now d } else c } d))) ∧
      (m.type = 2 → ∀ c, d.bip.remote.find? (fun c => c.sid == m.session && c.node == m.src && c.line == m.line) = some c →
        let r : BRef := { sid := c.sid, tag := c.tag }
        let gone := withBip { d.bip with remote := d.bip.remote.filter fun x => decide (x ≠ c) } d
        (m.text.take 5 ≠ textBytes "end #" → gives (settle (withBip { d.bip with
          remote := d.bip.remote.map fun x => if x = c then { c with heard := now d, got := c.got ++ [bytesText m.text] } else x } d))) ∧
        (m.text.take 5 = textBytes "end #" → waitsFor r (.remote c.node) d = true → gives (settle (say r.sid (remoteLines r c.node c.got gone) gone))) ∧
        (m.text.take 5 = textBytes "end #" → waitsFor r (.remote c.node) d = false → gives (settle gone))) ∧
      (m.type = 1 → ∀ i, 2 ≤ i → i < 18 → (sess i d).live = true → (sess i d).node = m.src → (sess i d).origin = m.session →
        (∀ k, 2 ≤ k → k < i → ¬ ((sess k d).live = true ∧ (sess k d).node = m.src ∧ (sess k d).origin = m.session)) →
        let x := sess i d
        gives (settle (takeLine i m.text false (sessSet i { x with oline := m.line, keepAt := if x.outst = [] then now d else x.keepAt } d)))) ∧
      (m.type = 1 → (∀ k, 2 ≤ k → k < 18 → ¬ ((sess k d).live = true ∧ (sess k d).node = m.src ∧ (sess k d).origin = m.session)) →
        (∀ i, 2 ≤ i → i < 18 → (sess i d).live = false → (∀ k, 2 ≤ k → k < i → (sess k d).live = true) →
          gives (settle (takeLine i m.text false (sessSet i { live := true, machine := true, node := m.src, origin := m.session, lastEnd := now d, oline := m.line,
                                                              keepAt := now d } d)))) ∧
        ((∀ k, 2 ≤ k → k < 18 → (sess k d).live = true) → ∃ tag, gives (settle (posts
          { dest := m.src, src := d.jetty.node, type := 2, hops := 32, session := m.session, line := m.line, text := textBytes ("end " ++ tag) } (posts
          { dest := m.src, src := d.jetty.node, type := 2, hops := 32, session := m.session, line := m.line, text := textBytes ("err " ++ tag ++ " full") } d))))))

/-- The times of remote commands: an inbound session that holds commands sends a keep-alive each 9,216,000 gu; a command of which nothing has been heard for
92,160,000 gu ends with `timeout`; an inbound session closes 92,160,000 gu after its last end line. -/
def Sys2Proof.Claims.RemoteTimers : Prop :=
  ∀ s : State, Runs s →
    let d := s.dev
    (∀ i, let x := sess i d
      (∀ o os, x.outst = o :: os → 2 ≤ i → x.live = true → due (x.keepAt + 9216000) d = true → exec (.keepaliveSend i) s = after s (sessSet i { x with keepAt := now d }
        (posts { dest := x.node, src := d.jetty.node, type := 5, hops := 32, session := x.origin, line := o.line, text := [] } d))) ∧
      ((x.outst = [] ∨ i < 2 ∨ x.live = false ∨ due (x.keepAt + 9216000) d = false) → exec (.keepaliveSend i) s = after s d)) ∧
    (∀ r : BRef, let of := d.bip.remote.find? fun c => c.sid == r.sid && c.tag == r.tag && due (c.heard + 92160000) d
      (of = none → exec (.remoteTimeout r) s = after s d) ∧
      (∀ c, of = some c →
        let gone := withBip { d.bip with remote := d.bip.remote.filter fun x => decide (x ≠ c) } d
        (waitsFor r (.remote c.node) d = true → exec (.remoteTimeout r) s = after s (remoteErr r c.node "timeout" gone)) ∧
        (waitsFor r (.remote c.node) d = false → exec (.remoteTimeout r) s = after s gone))) ∧
    (∀ i, let x := sess i d
      let ended := 2 ≤ i ∧ i < 18 ∧ x.live = true ∧ x.outst = [] ∧ x.outq = [] ∧ due (x.lastEnd + 92160000) d = true
      (ended → exec (.inboundSessionClose i) s = after s (sessSet i {} (withBip { d.bip with remote := d.bip.remote.filter fun c => decide (c.sid ≠ i) } d))) ∧
      (¬ ended → exec (.inboundSessionClose i) s = after s d))

/-! ### Longavel words, ticks and reset -/

/-- Encoding and decoding a slot agree: an instruction of the slot's kind with every field in its bits comes back from its word, and a word that decodes with no
bit set that must be zero is the word of what it decodes to. -/
def Obligations.SlotsRoundTrip : Prop :=
  (∀ s : Slot, slotLegal s = true → slotDecode s.slot (slotEncode s) = .instr s ∧ slotEncode s < 2 ^ 64) ∧
  (∀ (n w : Nat) (s : Slot), w < 2 ^ 64 → slotDecode n w = .instr s → s.slot = n ∧ (s.res = false → slotEncode s = w))

/-- The words that the spec encodes itself, a word of each slot kind, and what is no instruction: an empty slot is NOP, OP 0 with another bit set is illegal. -/
def Obligations.SlotWordsOfTheSpec : Prop :=
  let at' := fun (n : Nat) (op : LOp) => SlotWord.instr { slot := n, gp := 0, gs := true, res := false, op := op }
  let free := fun (n : Nat) (op : LOp) => SlotWord.instr { slot := n, gp := 0, gs := false, res := false, op := op }
  slotDecode 1 0x2002940000000001 = free 1 (.si .addi 5 5 1) ∧ slotDecode 6 0x0208400000000000 = free 6 (.tmac 1 0 1) ∧
  slotDecode 0 0x01000000FFFFFFFF = free 0 (.ctl .br 0 (-1)) ∧ slotDecode 2 0x0110888000000000 = at' 2 (.sr .add 1 2 4 0) ∧
  slotDecode 3 0x0500878000000010 = free 3 (.mem .ldw 1 1 7 16) ∧ slotDecode 7 0x0B00007000000000 = free 7 (.sldrop 7) ∧
  (∀ n, slotDecode n 0 = .nop) ∧ (∀ n w, 0 < w → w < 2 ^ 56 → slotDecode n w = .illegal)

/-- The Gauge advances by the step's units at each tick, and the step changes only where a tick's span ends at a multiple of 24 units, or of 3,000 to or from Ice. -/
def Obligations.TicksCount : Prop :=
  (∀ d : Dev, (tickEnd d).gauge = d.gauge + BitVec.ofNat 64 d.clk.gu) ∧
  ClkStep.full.gu = 6 ∧ ClkStep.step1.gu = 8 ∧ ClkStep.step2.gu = 12 ∧ ClkStep.step3.gu = 24 ∧ ClkStep.ice.gu = 375 ∧
  (∀ (d : Dev) (st : ClkStep), d.therm.pend = some st →
    let m := if st = .ice ∨ d.clk = .ice then 3000 else 24
    (spanEnd d % m = 0 → (clockTick d).clk = st ∧ (clockTick d).therm.pend = none) ∧ (spanEnd d % m ≠ 0 → clockTick d = d)) ∧
  (∀ d : Dev, d.therm.pend = none → clockTick d = d)

/-- Power-on reset: the Gauge is 0, every queue and memory is empty, and each present unit's entry stands as R41 says with generation 0 and CAUSE 6; the fuses are
those of the model's own part (log entry 4). -/
def Obligations.ResetLeaves : Prop :=
  let d := State.reset.dev
  State.reset.pending = [] ∧ d.gauge = 0 ∧ d.clk = .full ∧ d.boot.flash = [] ∧ d.boot.trip = .none ∧ d.boot.phase = 0 ∧ d.out = [] ∧ d.bip.sess = [] ∧
  d.bip.baud = 115200 ∧ d.ledger.recs = [] ∧ d.weir.items = [] ∧ d.therm.plimit = 620 ∧ d.therm.rung = 0 ∧ d.therm.rungmax = 7 ∧ d.therm.icewait = 20 ∧
  d.ledger.maxReplay = 3 ∧ d.note = [] ∧ d.ctr = [] ∧
  (∀ n, uPresent d.fuse.variant n = true → (uent n d).gen = 0 ∧ (uent n d).cause = .boot) ∧
  ustate 98 d = .ready ∧ (∀ n ∈ [0, 24, 99], ustate n d = .waking) ∧
  (∀ n, uPresent d.fuse.variant n = true → n ∉ [0, 24, 98, 99] → ustate n d = .off)

/-! ### Statements of several parts -/

/-- No command stops the block or touches the queue; a block at rest settles to itself. -/
def Obligations.CommandsKeepTheQueue : Prop :=
  Claims.CommandsAnswerNext ∧ Claims.SettleQuiet

/-- A part whose CCLK is gated stands until power, reset, a trip or a scan. -/
def Obligations.TripHoldsOverSteps : Prop :=
  Claims.GatedPartStands ∧ Claims.TripStands

/-- A command is outstanding until its end line; dup and full. -/
def Obligations.CommandsStartAndEnd : Prop :=
  Claims.CommandStarts ∧ Claims.DupAndFull ∧ Claims.ResponsesKeepTheirOrder ∧ Claims.UartResponse ∧ Claims.MailboxResponse

/-- Typed mode, bytes typed ahead and line terminators. -/
def Obligations.UartSession : Prop :=
  Claims.UartTyping ∧ Claims.TypedAhead ∧ Claims.TerminatorsTakeLines

/-- Bipol messages between nodes, inbound sessions and their times. -/
def Obligations.MessagesBetweenNodes : Prop :=
  Claims.MessagesArrive ∧ Claims.RemoteTimers

/-- Every show, list and read line answers its noun's lines and changes nothing else. -/
def Obligations.ShowCommandsAnswer : Prop :=
  Claims.SystemShowsAnswer ∧ Claims.DataShowsAnswer ∧ Claims.EngineShowsAnswer

/-- The setting and loading lines of the engines' nouns. -/
def Obligations.EngineLinesSet : Prop :=
  Claims.EngineSets ∧ Claims.AudioLinesSet

/-- The lines of the unit, link, key and mode nouns. -/
def Obligations.UnitAndModeLines : Prop :=
  Claims.UnitAndLinkLines ∧ Claims.ModeLines

/-- Requests to the Unit Directory are checked in order and answered. -/
def Obligations.DirectoryRequests : Prop :=
  Claims.UdirRequests ∧ Claims.SecondRequestWaits

/-- Acknowledged transitions, drains, faults and the Directory's bounds. -/
def Obligations.DirectoryMoves : Prop :=
  Claims.UnitAckMoves ∧ Claims.MovesAdvanceTheGeneration ∧ Claims.DrainsEndAtTheirTarget ∧ Claims.FaultsAndUpdates ∧ Claims.DirectoryBounds

/-- Host reads and writes of registers. -/
def Obligations.HostRegisterAccesses : Prop :=
  Claims.HostReadsOneRegister ∧ Claims.HostWrites ∧ Claims.AccessesKeepOrder

/-- GLB_IMASK, MSI-X messages and the pending bits. -/
def Obligations.MasksAndMessages : Prop :=
  Claims.ImaskWrites ∧ Claims.MessagesGoOrWait

/-- Events set and count; a clear in the same tick loses. -/
def Obligations.EventsAndClears : Prop :=
  Claims.EventsSetAndCount ∧ Claims.ClearsYieldToSets

/-- Host accesses to Mere and HBM, and the device's host reads. -/
def Obligations.HostMemoryAccesses : Prop :=
  Claims.HostMemoryReads ∧ Claims.HostMemoryWrites ∧ Claims.HostReadsRetryOnce

/-- Resets, power states and controls of the host function. -/
def Obligations.HostControlsTheFunction : Prop :=
  Claims.HostFunctionResets ∧ Claims.HostControls ∧ Claims.ConfigurationRequests

/-- Rings, doorbells and completion entries. -/
def Obligations.HostRings : Prop :=
  Claims.RingsEnable ∧ Claims.RingPointers ∧ Claims.CompletionEntryLeaves

/-- Producer and consumer ports of a Sluice. -/
def Obligations.SluicesCarryWords : Prop :=
  Claims.SluicesTakeWords ∧ Claims.AbsorbedPackets ∧ Claims.SluicesGiveWords

/-- Rewinds, stalls, resets, the frame pool and the settings of Sluices. -/
def Obligations.SluicesRewindAndReset : Prop :=
  Claims.BadPacketsRewind ∧ Claims.SluicesResetAndGrant ∧ Claims.PoolServesLowestClass ∧ Claims.SluiceSettings

/-- Route commits, held commits and binds. -/
def Obligations.RoutesCommit : Prop :=
  Claims.RouteCommits ∧ Claims.HeldCommitsAndBinds

/-- Stages are dispatched, their replies consumed, and Combines finish. -/
def Obligations.StagesRun : Prop :=
  Claims.StagesDispatch ∧ Claims.PayloadsArrive ∧ Claims.RepliesAreConsumed ∧ Claims.CombinesFinish

/-- Releases at the deadline or early, and amended records. -/
def Obligations.ItemsAreReleasedOnce : Prop :=
  Claims.ItemsAreReleased ∧ Claims.AmendmentsFollow

/-- Reedbed: text items, answer chunks and what they hold back. -/
def Obligations.TextAndAnswers : Prop :=
  Claims.ReedbedItems ∧ Claims.Utf8RoundTrip ∧ Claims.ChunksHoldBack

/-- Shoal's scanners and Sieve/Tarn's rows. -/
def Obligations.ScannersAndRows : Prop :=
  Claims.ShoalScanners ∧ Claims.TarnRows

/-- Basin: MAC passes and accumulators. -/
def Obligations.BasinPasses : Prop :=
  Claims.MacsStart ∧ Claims.AccumulatorsAreSet ∧ Claims.PassesAccumulate

/-- Basin: drains, group fetches and the store's patrol. -/
def Obligations.BasinStores : Prop :=
  Claims.BanksDrain ∧ Claims.GroupsFetch ∧ Claims.StorePatrol

/-- Longavel slots 1 and 2. -/
def Obligations.ScalarInstructions : Prop :=
  Claims.ScalarResults ∧ Claims.ImmediatesAndMoves ∧ Claims.ComparesAndPredicates

/-- Longavel slot 3: loads and stores. -/
def Obligations.MemoryInstructions : Prop :=
  Claims.LoadsBringBytes ∧ Claims.StoresWriteBytes

/-- Longavel slots 4 and 5: vectors. -/
def Obligations.VectorInstructions : Prop :=
  Claims.VectorLanes ∧ Claims.VectorFloats ∧ Claims.VectorCrossLanes

/-- Longavel slot 0, the causes of exceptions, and BUDGET. -/
def Obligations.ControlInstructions : Prop :=
  Claims.ControlTransfers ∧ Claims.ExceptionCauses ∧ Claims.BudgetsExpire

/-- Longavel slots 6 and 7: tiles and streams. -/
def Obligations.TileAndStreamInstructions : Prop :=
  Claims.TileSlot ∧ Claims.StreamSlot

/-- Words issue whole: guards, exceptions, reads before writes, and the words of a program. -/
def Obligations.WordsIssue : Prop :=
  Claims.ExceptionsEndTheBatch ∧ Claims.GuardsHoldBack ∧ Claims.WordsReadBeforeTheyWrite ∧ Claims.CodeIsRun

/-- The kernel's requests and batches, and what a core waits for. -/
def Obligations.KernelRequests : Prop :=
  Claims.KernelsReadRequests ∧ Claims.BatchesCloseAndAsk ∧ Claims.WaitsComplete ∧ Claims.StreamsOpen

/-- Dispatch grants and entry to a program, and the commands of entry to and exit from Ice. -/
def Obligations.Dispatch : Prop :=
  Claims.DispatchIsEvaluated ∧ Claims.GrantsEnterThePrograms ∧ Claims.IceCommandsComplete

/-- Mere's refresh and patrol; the Siphon's jobs. -/
def Obligations.MereAndSiphon : Prop :=
  Claims.MereRefreshAndPatrol ∧ Claims.SiphonTakesJobs ∧ Claims.SiphonReports

/-- The Wellhead's supplies, hops, Ripple and LISTEN. -/
def Obligations.WellheadListens : Prop :=
  Claims.SuppliesAndRamps ∧ Claims.HopsAreJudged ∧ Claims.RippleWakes ∧ Claims.ListenControls ∧ Claims.WakeCommandsComplete

/-- The Wellhead's drain, decision and frames. -/
def Obligations.WellheadFrames : Prop :=
  Claims.WakesDrain ∧ Claims.WakesAreDecided ∧ Claims.FramesAreAdmitted ∧ Claims.FrameBoundaries ∧ Claims.FrameStagesReply

/-- Jetty links: bring-up, keys, frames and timers. -/
def Obligations.JettyLinks : Prop :=
  Claims.LinksComeUp ∧ Claims.KeysAreExchanged ∧ Claims.FramesAreReceived ∧ Claims.LinkTimers

/-- Jetty transmitters, routes, fences and pages. -/
def Obligations.JettyRoutes : Prop :=
  Claims.TransmittersGrant ∧ Claims.RoutesAndTrunks ∧ Claims.FencesEnd ∧ Claims.PagesOverJetty

/-- The Ferry's token, blocks and breaks. -/
def Obligations.FerryRuns : Prop :=
  Claims.FerryPacketsInOrder ∧ Claims.FerryHoldsAndBreaks

/-- Sensors, layers and rungs of the Thermocline. -/
def Obligations.LayersAndRungs : Prop :=
  Claims.SensorsAreJudged ∧ Claims.LayersSettle ∧ Claims.RungWorkedCase ∧ Claims.ClockSwitchesWait

/-- Entry to Ice, wake sources, exit and abandonment. -/
def Obligations.IceComesAndGoes : Prop :=
  Claims.IceIsEntered ∧ Claims.IceIsLeft ∧ Claims.IceExits

/-- Mirroring between two Ledgers, the fetch, and orphans. -/
def Obligations.LedgersMirror : Prop :=
  Claims.OrphansExpire ∧ Claims.MirrorsAreServed ∧ Claims.MirrorsAreAcknowledged ∧ Claims.FetchesRecover ∧ Claims.MirrorSettings

/-- Power-on, warm reset, boot, trips, power-down and the scan port. -/
def Obligations.BootAndPower : Prop :=
  Claims.PowerOnBoots ∧ Claims.WarmResetBoots ∧ Claims.BootReachesReadyOrRecovery ∧ Claims.TripsStopThePart ∧ Claims.PowerDownStopsThePart ∧ Claims.ScanPort

/-- Records of the NV store are written page by page and read back. -/
def Obligations.NvRecords : Prop :=
  Claims.RecordsAreWritten ∧ Claims.RecordsReadBack
end

