-- ==== Sys2Proof/Laws/Sparse.lean ====
section
/-!
SUPPORT. Laws/Sparse.lean: what a read of a sparse table or memory gives after a write, and that every write keeps the
canonical form.
-/
namespace Sys2Proof.Machine

theorem tabGet_tabDrop_same {α : Type} (d : Nat → α) (t : Tab α) (k : Nat) : tabGet d (tabDrop t k) k = d k := by
  induction t with
  | nil => rfl
  | cons e t ih =>
    obtain ⟨i, a⟩ := e
    by_cases h : i = k
    · simpa [tabDrop, h] using ih
    · simpa [tabDrop, h, tabGet] using ih

theorem tabGet_tabDrop_other {α : Type} (d : Nat → α) (t : Tab α) {k j : Nat} (hj : j ≠ k) :
    tabGet d (tabDrop t k) j = tabGet d t j := by
  induction t with
  | nil => rfl
  | cons e t ih =>
    obtain ⟨i, a⟩ := e
    by_cases h : i = k
    · simpa [tabDrop, h, tabGet, Ne.symm hj] using ih
    · by_cases h2 : i = j
      · simp [tabDrop, tabGet, h2, hj]
      · simpa [tabDrop, h, tabGet, h2] using ih

/-- A read of the number just written gives the value written. -/
@[simp] theorem tabGet_tabSet_same {α : Type} [DecidableEq α] (d : Nat → α) (t : Tab α) (k : Nat) (v : α) :
    tabGet d (tabSet d t k v) k = v := by
  induction t with
  | nil => by_cases h : v = d k <;> simp [tabSet, tabGet, h]
  | cons e t ih =>
    obtain ⟨i, a⟩ := e
    rcases Nat.lt_trichotomy k i with h | h | h
    · by_cases hv : v = d k
      · simp [tabSet, h, hv, tabGet, Nat.ne_of_gt h, tabGet_tabDrop_same]
      · simp [tabSet, h, hv, tabGet]
    · subst h
      by_cases hv : v = d k
      · simp [tabSet, hv, tabGet_tabDrop_same]
      · simp [tabSet, hv, tabGet]
    · simp [tabSet, Nat.not_lt_of_lt h, Nat.ne_of_gt h, tabGet, Nat.ne_of_lt h, ih]

/-- A write leaves every other number alone. -/
theorem tabGet_tabSet_other {α : Type} [DecidableEq α] (d : Nat → α) (t : Tab α) {k j : Nat} (v : α) (hj : j ≠ k) :
    tabGet d (tabSet d t k v) j = tabGet d t j := by
  induction t with
  | nil => by_cases h : v = d k <;> simp [tabSet, tabGet, h, Ne.symm hj]
  | cons e t ih =>
    obtain ⟨i, a⟩ := e
    rcases Nat.lt_trichotomy k i with h | h | h
    · by_cases hv : v = d k
      · by_cases h2 : i = j
        · subst h2; simp [tabSet, h, hv, tabGet]
        · simp [tabSet, h, hv, tabGet, h2, tabGet_tabDrop_other d t hj]
      · simp [tabSet, h, hv, tabGet, Ne.symm hj]
    · subst h
      by_cases hv : v = d k
      · simp [tabSet, hv, tabGet, Ne.symm hj, tabGet_tabDrop_other d t hj]
      · simp [tabSet, hv, tabGet, Ne.symm hj]
    · by_cases h2 : i = j
      · subst h2; simp [tabSet, Nat.not_lt_of_lt h, Nat.ne_of_gt h, tabGet]
      · simp [tabSet, Nat.not_lt_of_lt h, Nat.ne_of_gt h, tabGet, h2, ih]

/-- Both reads in one: the written number, else the old value. -/
theorem tabGet_tabSet {α : Type} [DecidableEq α] (d : Nat → α) (t : Tab α) (k j : Nat) (v : α) :
    tabGet d (tabSet d t k v) j = if j = k then v else tabGet d t j := by
  by_cases h : j = k
  · simp [h]
  · simp [h, tabGet_tabSet_other d t v h]

theorem tabWfFrom_mono {α : Type} [DecidableEq α] (d : Nat → α) {t : Tab α} {l m : Nat} (h : tabWfFrom d m t = true)
    (hl : l ≤ m) : tabWfFrom d l t = true := by
  cases t with
  | nil => rfl
  | cons e t =>
    obtain ⟨i, a⟩ := e
    simp only [tabWfFrom, Bool.and_eq_true, decide_eq_true_eq] at h ⊢
    exact ⟨⟨Nat.le_trans hl h.1.1, h.1.2⟩, h.2⟩

theorem tabWfFrom_drop {α : Type} [DecidableEq α] (d : Nat → α) {t : Tab α} {l : Nat} (k : Nat)
    (h : tabWfFrom d l t = true) : tabWfFrom d l (tabDrop t k) = true := by
  induction t generalizing l with
  | nil => rfl
  | cons e t ih =>
    obtain ⟨i, a⟩ := e
    simp only [tabWfFrom, Bool.and_eq_true, decide_eq_true_eq] at h
    by_cases hk : i = k
    · have h1 := ih (tabWfFrom_mono d h.2 (Nat.le_succ_of_le h.1.1))
      simpa [tabDrop, hk] using h1
    · have h1 := ih h.2
      simp only [tabDrop] at h1
      simp [tabDrop, hk, tabWfFrom, h.1.1, h.1.2, h1]

theorem tabWfFrom_set {α : Type} [DecidableEq α] (d : Nat → α) {t : Tab α} {l k : Nat} (v : α) (hk : l ≤ k)
    (h : tabWfFrom d l t = true) : tabWfFrom d l (tabSet d t k v) = true := by
  induction t generalizing l with
  | nil => by_cases hv : v = d k <;> simp [tabSet, tabWfFrom, hv, hk]
  | cons e t ih =>
    obtain ⟨i, a⟩ := e
    simp only [tabWfFrom, Bool.and_eq_true, decide_eq_true_eq] at h
    rcases Nat.lt_trichotomy k i with hi | hi | hi
    · by_cases hv : v = d k
      · simp [tabSet, hi, hv, tabWfFrom, h.1.1, h.1.2, tabWfFrom_drop d k h.2]
      · simp [tabSet, hi, hv, tabWfFrom, hk, Nat.succ_le_of_lt hi, h.1.2, h.2]
    · subst hi
      by_cases hv : v = d k
      · simpa [tabSet, hv] using tabWfFrom_drop d k (tabWfFrom_mono d h.2 (Nat.le_succ_of_le hk))
      · simp [tabSet, hv, tabWfFrom, hk, h.2]
    · simp [tabSet, Nat.not_lt_of_lt hi, Nat.ne_of_gt hi, tabWfFrom, h.1.1, h.1.2,
        ih (Nat.succ_le_of_lt hi) h.2]

/-- A write keeps the canonical form of a table. -/
theorem tabWf_tabSet {α : Type} [DecidableEq α] (d : Nat → α) {t : Tab α} (k : Nat) (v : α) (h : tabWf d t = true) :
    tabWf d (tabSet d t k v) = true := tabWfFrom_set d v (Nat.zero_le k) h

/-- Memory: a byte just written reads as the byte written, every other byte as before. -/
theorem memByte_tabSet (d : Byte) (m : Mem) (k j : Nat) (v : Byte) :
    memByte d (tabSet (fun _ => d) m k v) j = if j = k then v else memByte d m j :=
  tabGet_tabSet _ m k j v

/-- A write of bytes leaves every address outside them alone. -/
theorem memByte_memWrite_outside (d : Byte) (l : List Byte) (m : Mem) {a j : Nat} (h : j < a ∨ a + l.length ≤ j) :
    memByte d (memWrite d m a l) j = memByte d m j := by
  induction l generalizing m a with
  | nil => rfl
  | cons b l ih =>
    simp only [List.length_cons] at h
    rw [memWrite, ih _ (by omega), memByte_tabSet, if_neg (by omega)]

/-- A write of bytes reads back byte by byte. -/
theorem memByte_memWrite_inside (d : Byte) (l : List Byte) (m : Mem) {a n : Nat} (h : n < l.length) :
    memByte d (memWrite d m a l) (a + n) = l[n] := by
  induction l generalizing m a n with
  | nil => simp at h
  | cons b l ih =>
    cases n with
    | zero => rw [memWrite, memByte_memWrite_outside _ _ _ (by omega), memByte_tabSet]; simp
    | succ n =>
      have h2 := ih (tabSet (fun _ => d) m a b) (a := a + 1) (n := n) (by simpa using h)
      rw [memWrite, show a + (n + 1) = a + 1 + n by omega, h2]; rfl

/-- What was written reads back whole. -/
theorem memRead_memWrite (d : Byte) (l : List Byte) (m : Mem) (a : Nat) : memRead d (memWrite d m a l) a l.length = l := by
  induction l generalizing m a with
  | nil => rfl
  | cons b l ih =>
    simp only [List.length_cons, memRead, memWrite, ih]
    rw [memByte_memWrite_outside _ _ _ (by omega), memByte_tabSet]; simp

/-- A write of bytes keeps the canonical form. -/
theorem tabWf_memWrite (d : Byte) (l : List Byte) (m : Mem) (a : Nat) (h : tabWf (fun _ => d) m = true) :
    tabWf (fun _ => d) (memWrite d m a l) = true := by
  induction l generalizing m a with
  | nil => exact h
  | cons b l ih => exact ih _ _ (tabWf_tabSet _ a b h)

end Sys2Proof.Machine
end

