-- ==== Sys2Proof/Laws/State.lean ====
section
/-!
SUPPORT. Laws/State.lean: the updates of the block. Each changes one part and leaves every other alone; what it stored is what its reader reads, and every
other number reads as before.
-/
namespace Sys2Proof.Machine
variable (d : Dev)

@[simp] theorem noteSet_fields (b : Nat) (n : Note) :
    (noteSet b n d).fuse = d.fuse ∧ (noteSet b n d).gauge = d.gauge ∧ (noteSet b n d).tickN = d.tickN ∧ (noteSet b n d).clk = d.clk ∧
    (noteSet b n d).hold = d.hold ∧ (noteSet b n d).imask = d.imask ∧ (noteSet b n d).ctr = d.ctr ∧ (noteSet b n d).udir = d.udir ∧
    (noteSet b n d).bip = d.bip ∧ (noteSet b n d).host = d.host ∧ (noteSet b n d).slu = d.slu ∧ (noteSet b n d).slubuf = d.slubuf ∧
    (noteSet b n d).slupois = d.slupois ∧ (noteSet b n d).weir = d.weir ∧ (noteSet b n d).reed = d.reed ∧ (noteSet b n d).shoal = d.shoal ∧
    (noteSet b n d).tarn = d.tarn ∧ (noteSet b n d).basin = d.basin ∧ (noteSet b n d).gstr = d.gstr ∧ (noteSet b n d).longs = d.longs ∧
    (noteSet b n d).mere = d.mere ∧ (noteSet b n d).siph = d.siph ∧ (noteSet b n d).hbm = d.hbm ∧ (noteSet b n d).well = d.well ∧
    (noteSet b n d).jetty = d.jetty ∧ (noteSet b n d).ferry = d.ferry ∧ (noteSet b n d).therm = d.therm ∧ (noteSet b n d).ledger = d.ledger ∧
    (noteSet b n d).boot = d.boot ∧ (noteSet b n d).tap = d.tap ∧ (noteSet b n d).loads = d.loads ∧ (noteSet b n d).out = d.out ∧
    (noteSet b n d).freeCtr = d.freeCtr :=
  ⟨rfl, rfl, rfl, rfl, rfl, rfl, rfl, rfl, rfl, rfl, rfl, rfl, rfl, rfl, rfl, rfl, rfl, rfl, rfl, rfl, rfl, rfl, rfl, rfl, rfl, rfl, rfl, rfl, rfl, rfl, rfl, rfl, rfl⟩
@[simp] theorem noteSet_same (b : Nat) (n : Note) : noteGet b (noteSet b n d) = n := tabGet_tabSet_same _ _ _ _
theorem noteSet_other (b : Nat) (n : Note) {j : Nat} (h : j ≠ b) : noteGet j (noteSet b n d) = noteGet j d := tabGet_tabSet_other _ _ _ h

@[simp] theorem ctrSet_fields (k : Nat) (c : Ctr) :
    (ctrSet k c d).fuse = d.fuse ∧ (ctrSet k c d).gauge = d.gauge ∧ (ctrSet k c d).tickN = d.tickN ∧ (ctrSet k c d).clk = d.clk ∧
    (ctrSet k c d).hold = d.hold ∧ (ctrSet k c d).imask = d.imask ∧ (ctrSet k c d).note = d.note ∧ (ctrSet k c d).udir = d.udir ∧
    (ctrSet k c d).bip = d.bip ∧ (ctrSet k c d).host = d.host ∧ (ctrSet k c d).slu = d.slu ∧ (ctrSet k c d).slubuf = d.slubuf ∧
    (ctrSet k c d).slupois = d.slupois ∧ (ctrSet k c d).weir = d.weir ∧ (ctrSet k c d).reed = d.reed ∧ (ctrSet k c d).shoal = d.shoal ∧
    (ctrSet k c d).tarn = d.tarn ∧ (ctrSet k c d).basin = d.basin ∧ (ctrSet k c d).gstr = d.gstr ∧ (ctrSet k c d).longs = d.longs ∧
    (ctrSet k c d).mere = d.mere ∧ (ctrSet k c d).siph = d.siph ∧ (ctrSet k c d).hbm = d.hbm ∧ (ctrSet k c d).well = d.well ∧
    (ctrSet k c d).jetty = d.jetty ∧ (ctrSet k c d).ferry = d.ferry ∧ (ctrSet k c d).therm = d.therm ∧ (ctrSet k c d).ledger = d.ledger ∧
    (ctrSet k c d).boot = d.boot ∧ (ctrSet k c d).tap = d.tap ∧ (ctrSet k c d).loads = d.loads ∧ (ctrSet k c d).out = d.out ∧
    (ctrSet k c d).freeCtr = d.freeCtr :=
  ⟨rfl, rfl, rfl, rfl, rfl, rfl, rfl, rfl, rfl, rfl, rfl, rfl, rfl, rfl, rfl, rfl, rfl, rfl, rfl, rfl, rfl, rfl, rfl, rfl, rfl, rfl, rfl, rfl, rfl, rfl, rfl, rfl, rfl⟩
@[simp] theorem ctrSet_same (k : Nat) (c : Ctr) : ctrGet k (ctrSet k c d) = c := tabGet_tabSet_same _ _ _ _
theorem ctrSet_other (k : Nat) (c : Ctr) {j : Nat} (h : j ≠ k) : ctrGet j (ctrSet k c d) = ctrGet j d := tabGet_tabSet_other _ _ _ h

@[simp] theorem uentSet_fields (n : Nat) (e : UEntry) :
    (uentSet n e d).fuse = d.fuse ∧ (uentSet n e d).gauge = d.gauge ∧ (uentSet n e d).tickN = d.tickN ∧ (uentSet n e d).clk = d.clk ∧
    (uentSet n e d).hold = d.hold ∧ (uentSet n e d).imask = d.imask ∧ (uentSet n e d).note = d.note ∧ (uentSet n e d).ctr = d.ctr ∧
    (uentSet n e d).bip = d.bip ∧ (uentSet n e d).host = d.host ∧ (uentSet n e d).slu = d.slu ∧ (uentSet n e d).slubuf = d.slubuf ∧
    (uentSet n e d).slupois = d.slupois ∧ (uentSet n e d).weir = d.weir ∧ (uentSet n e d).reed = d.reed ∧ (uentSet n e d).shoal = d.shoal ∧
    (uentSet n e d).tarn = d.tarn ∧ (uentSet n e d).basin = d.basin ∧ (uentSet n e d).gstr = d.gstr ∧ (uentSet n e d).longs = d.longs ∧
    (uentSet n e d).mere = d.mere ∧ (uentSet n e d).siph = d.siph ∧ (uentSet n e d).hbm = d.hbm ∧ (uentSet n e d).well = d.well ∧
    (uentSet n e d).jetty = d.jetty ∧ (uentSet n e d).ferry = d.ferry ∧ (uentSet n e d).therm = d.therm ∧ (uentSet n e d).ledger = d.ledger ∧
    (uentSet n e d).boot = d.boot ∧ (uentSet n e d).tap = d.tap ∧ (uentSet n e d).loads = d.loads ∧ (uentSet n e d).out = d.out ∧
    (uentSet n e d).freeCtr = d.freeCtr :=
  ⟨rfl, rfl, rfl, rfl, rfl, rfl, rfl, rfl, rfl, rfl, rfl, rfl, rfl, rfl, rfl, rfl, rfl, rfl, rfl, rfl, rfl, rfl, rfl, rfl, rfl, rfl, rfl, rfl, rfl, rfl, rfl, rfl, rfl⟩
@[simp] theorem uentSet_same (n : Nat) (e : UEntry) : uent n (uentSet n e d) = e := tabGet_tabSet_same _ _ _ _
theorem uentSet_other (n : Nat) (e : UEntry) {j : Nat} (h : j ≠ n) : uent j (uentSet n e d) = uent j d := tabGet_tabSet_other _ _ _ h

@[simp] theorem sessSet_fields (i : Nat) (s : Session) :
    (sessSet i s d).fuse = d.fuse ∧ (sessSet i s d).gauge = d.gauge ∧ (sessSet i s d).tickN = d.tickN ∧ (sessSet i s d).clk = d.clk ∧
    (sessSet i s d).hold = d.hold ∧ (sessSet i s d).imask = d.imask ∧ (sessSet i s d).note = d.note ∧ (sessSet i s d).ctr = d.ctr ∧
    (sessSet i s d).udir = d.udir ∧ (sessSet i s d).host = d.host ∧ (sessSet i s d).slu = d.slu ∧ (sessSet i s d).slubuf = d.slubuf ∧
    (sessSet i s d).slupois = d.slupois ∧ (sessSet i s d).weir = d.weir ∧ (sessSet i s d).reed = d.reed ∧ (sessSet i s d).shoal = d.shoal ∧
    (sessSet i s d).tarn = d.tarn ∧ (sessSet i s d).basin = d.basin ∧ (sessSet i s d).gstr = d.gstr ∧ (sessSet i s d).longs = d.longs ∧
    (sessSet i s d).mere = d.mere ∧ (sessSet i s d).siph = d.siph ∧ (sessSet i s d).hbm = d.hbm ∧ (sessSet i s d).well = d.well ∧
    (sessSet i s d).jetty = d.jetty ∧ (sessSet i s d).ferry = d.ferry ∧ (sessSet i s d).therm = d.therm ∧ (sessSet i s d).ledger = d.ledger ∧
    (sessSet i s d).boot = d.boot ∧ (sessSet i s d).tap = d.tap ∧ (sessSet i s d).loads = d.loads ∧ (sessSet i s d).out = d.out ∧
    (sessSet i s d).freeCtr = d.freeCtr :=
  ⟨rfl, rfl, rfl, rfl, rfl, rfl, rfl, rfl, rfl, rfl, rfl, rfl, rfl, rfl, rfl, rfl, rfl, rfl, rfl, rfl, rfl, rfl, rfl, rfl, rfl, rfl, rfl, rfl, rfl, rfl, rfl, rfl, rfl⟩
@[simp] theorem sessSet_same (i : Nat) (s : Session) : sess i (sessSet i s d) = s := tabGet_tabSet_same _ _ _ _
theorem sessSet_other (i : Nat) (s : Session) {j : Nat} (h : j ≠ i) : sess j (sessSet i s d) = sess j d := tabGet_tabSet_other _ _ _ h

@[simp] theorem sluSet_fields (n : Nat) (s : Sluice) :
    (sluSet n s d).fuse = d.fuse ∧ (sluSet n s d).gauge = d.gauge ∧ (sluSet n s d).tickN = d.tickN ∧ (sluSet n s d).clk = d.clk ∧
    (sluSet n s d).hold = d.hold ∧ (sluSet n s d).imask = d.imask ∧ (sluSet n s d).note = d.note ∧ (sluSet n s d).ctr = d.ctr ∧
    (sluSet n s d).udir = d.udir ∧ (sluSet n s d).bip = d.bip ∧ (sluSet n s d).host = d.host ∧ (sluSet n s d).slubuf = d.slubuf ∧
    (sluSet n s d).slupois = d.slupois ∧ (sluSet n s d).weir = d.weir ∧ (sluSet n s d).reed = d.reed ∧ (sluSet n s d).shoal = d.shoal ∧
    (sluSet n s d).tarn = d.tarn ∧ (sluSet n s d).basin = d.basin ∧ (sluSet n s d).gstr = d.gstr ∧ (sluSet n s d).longs = d.longs ∧
    (sluSet n s d).mere = d.mere ∧ (sluSet n s d).siph = d.siph ∧ (sluSet n s d).hbm = d.hbm ∧ (sluSet n s d).well = d.well ∧
    (sluSet n s d).jetty = d.jetty ∧ (sluSet n s d).ferry = d.ferry ∧ (sluSet n s d).therm = d.therm ∧ (sluSet n s d).ledger = d.ledger ∧
    (sluSet n s d).boot = d.boot ∧ (sluSet n s d).tap = d.tap ∧ (sluSet n s d).loads = d.loads ∧ (sluSet n s d).out = d.out ∧
    (sluSet n s d).freeCtr = d.freeCtr :=
  ⟨rfl, rfl, rfl, rfl, rfl, rfl, rfl, rfl, rfl, rfl, rfl, rfl, rfl, rfl, rfl, rfl, rfl, rfl, rfl, rfl, rfl, rfl, rfl, rfl, rfl, rfl, rfl, rfl, rfl, rfl, rfl, rfl, rfl⟩
@[simp] theorem sluSet_same (n : Nat) (s : Sluice) : slu n (sluSet n s d) = s := tabGet_tabSet_same _ _ _ _
theorem sluSet_other (n : Nat) (s : Sluice) {j : Nat} (h : j ≠ n) : slu j (sluSet n s d) = slu j d := tabGet_tabSet_other _ _ _ h

@[simp] theorem subSet_fields (n : Nat) (r : SubRing) :
    (subSet n r d).fuse = d.fuse ∧ (subSet n r d).gauge = d.gauge ∧ (subSet n r d).tickN = d.tickN ∧ (subSet n r d).clk = d.clk ∧
    (subSet n r d).hold = d.hold ∧ (subSet n r d).imask = d.imask ∧ (subSet n r d).note = d.note ∧ (subSet n r d).ctr = d.ctr ∧
    (subSet n r d).udir = d.udir ∧ (subSet n r d).bip = d.bip ∧ (subSet n r d).slu = d.slu ∧ (subSet n r d).slubuf = d.slubuf ∧
    (subSet n r d).slupois = d.slupois ∧ (subSet n r d).weir = d.weir ∧ (subSet n r d).reed = d.reed ∧ (subSet n r d).shoal = d.shoal ∧
    (subSet n r d).tarn = d.tarn ∧ (subSet n r d).basin = d.basin ∧ (subSet n r d).gstr = d.gstr ∧ (subSet n r d).longs = d.longs ∧
    (subSet n r d).mere = d.mere ∧ (subSet n r d).siph = d.siph ∧ (subSet n r d).hbm = d.hbm ∧ (subSet n r d).well = d.well ∧
    (subSet n r d).jetty = d.jetty ∧ (subSet n r d).ferry = d.ferry ∧ (subSet n r d).therm = d.therm ∧ (subSet n r d).ledger = d.ledger ∧
    (subSet n r d).boot = d.boot ∧ (subSet n r d).tap = d.tap ∧ (subSet n r d).loads = d.loads ∧ (subSet n r d).out = d.out ∧
    (subSet n r d).freeCtr = d.freeCtr :=
  ⟨rfl, rfl, rfl, rfl, rfl, rfl, rfl, rfl, rfl, rfl, rfl, rfl, rfl, rfl, rfl, rfl, rfl, rfl, rfl, rfl, rfl, rfl, rfl, rfl, rfl, rfl, rfl, rfl, rfl, rfl, rfl, rfl, rfl⟩
@[simp] theorem subSet_same (n : Nat) (r : SubRing) : subRing n (subSet n r d) = r := tabGet_tabSet_same _ _ _ _
theorem subSet_other (n : Nat) (r : SubRing) {j : Nat} (h : j ≠ n) : subRing j (subSet n r d) = subRing j d := tabGet_tabSet_other _ _ _ h

@[simp] theorem cplSet_fields (n : Nat) (r : CplRing) :
    (cplSet n r d).fuse = d.fuse ∧ (cplSet n r d).gauge = d.gauge ∧ (cplSet n r d).tickN = d.tickN ∧ (cplSet n r d).clk = d.clk ∧
    (cplSet n r d).hold = d.hold ∧ (cplSet n r d).imask = d.imask ∧ (cplSet n r d).note = d.note ∧ (cplSet n r d).ctr = d.ctr ∧
    (cplSet n r d).udir = d.udir ∧ (cplSet n r d).bip = d.bip ∧ (cplSet n r d).slu = d.slu ∧ (cplSet n r d).slubuf = d.slubuf ∧
    (cplSet n r d).slupois = d.slupois ∧ (cplSet n r d).weir = d.weir ∧ (cplSet n r d).reed = d.reed ∧ (cplSet n r d).shoal = d.shoal ∧
    (cplSet n r d).tarn = d.tarn ∧ (cplSet n r d).basin = d.basin ∧ (cplSet n r d).gstr = d.gstr ∧ (cplSet n r d).longs = d.longs ∧
    (cplSet n r d).mere = d.mere ∧ (cplSet n r d).siph = d.siph ∧ (cplSet n r d).hbm = d.hbm ∧ (cplSet n r d).well = d.well ∧
    (cplSet n r d).jetty = d.jetty ∧ (cplSet n r d).ferry = d.ferry ∧ (cplSet n r d).therm = d.therm ∧ (cplSet n r d).ledger = d.ledger ∧
    (cplSet n r d).boot = d.boot ∧ (cplSet n r d).tap = d.tap ∧ (cplSet n r d).loads = d.loads ∧ (cplSet n r d).out = d.out ∧
    (cplSet n r d).freeCtr = d.freeCtr :=
  ⟨rfl, rfl, rfl, rfl, rfl, rfl, rfl, rfl, rfl, rfl, rfl, rfl, rfl, rfl, rfl, rfl, rfl, rfl, rfl, rfl, rfl, rfl, rfl, rfl, rfl, rfl, rfl, rfl, rfl, rfl, rfl, rfl, rfl⟩
@[simp] theorem cplSet_same (n : Nat) (r : CplRing) : cplRing n (cplSet n r d) = r := tabGet_tabSet_same _ _ _ _
theorem cplSet_other (n : Nat) (r : CplRing) {j : Nat} (h : j ≠ n) : cplRing j (cplSet n r d) = cplRing j d := tabGet_tabSet_other _ _ _ h

@[simp] theorem lrecSet_fields (l : Nat) (r : LRec) :
    (lrecSet l r d).fuse = d.fuse ∧ (lrecSet l r d).gauge = d.gauge ∧ (lrecSet l r d).tickN = d.tickN ∧ (lrecSet l r d).clk = d.clk ∧
    (lrecSet l r d).hold = d.hold ∧ (lrecSet l r d).imask = d.imask ∧ (lrecSet l r d).note = d.note ∧ (lrecSet l r d).ctr = d.ctr ∧
    (lrecSet l r d).udir = d.udir ∧ (lrecSet l r d).bip = d.bip ∧ (lrecSet l r d).host = d.host ∧ (lrecSet l r d).slu = d.slu ∧
    (lrecSet l r d).slubuf = d.slubuf ∧ (lrecSet l r d).slupois = d.slupois ∧ (lrecSet l r d).weir = d.weir ∧ (lrecSet l r d).reed = d.reed ∧
    (lrecSet l r d).shoal = d.shoal ∧ (lrecSet l r d).tarn = d.tarn ∧ (lrecSet l r d).basin = d.basin ∧ (lrecSet l r d).gstr = d.gstr ∧
    (lrecSet l r d).longs = d.longs ∧ (lrecSet l r d).mere = d.mere ∧ (lrecSet l r d).siph = d.siph ∧ (lrecSet l r d).hbm = d.hbm ∧
    (lrecSet l r d).well = d.well ∧ (lrecSet l r d).jetty = d.jetty ∧ (lrecSet l r d).ferry = d.ferry ∧ (lrecSet l r d).therm = d.therm ∧
    (lrecSet l r d).boot = d.boot ∧ (lrecSet l r d).tap = d.tap ∧ (lrecSet l r d).loads = d.loads ∧ (lrecSet l r d).out = d.out ∧
    (lrecSet l r d).freeCtr = d.freeCtr :=
  ⟨rfl, rfl, rfl, rfl, rfl, rfl, rfl, rfl, rfl, rfl, rfl, rfl, rfl, rfl, rfl, rfl, rfl, rfl, rfl, rfl, rfl, rfl, rfl, rfl, rfl, rfl, rfl, rfl, rfl, rfl, rfl, rfl, rfl⟩
@[simp] theorem lrecSet_same (l : Nat) (r : LRec) : lrec l (lrecSet l r d) = r := tabGet_tabSet_same _ _ _ _
theorem lrecSet_other (l : Nat) (r : LRec) {j : Nat} (h : j ≠ l) : lrec j (lrecSet l r d) = lrec j d := tabGet_tabSet_other _ _ _ h

@[simp] theorem streamSet_fields (k : Nat) (x : StreamSt) :
    (streamSet k x d).fuse = d.fuse ∧ (streamSet k x d).gauge = d.gauge ∧ (streamSet k x d).tickN = d.tickN ∧ (streamSet k x d).clk = d.clk ∧
    (streamSet k x d).hold = d.hold ∧ (streamSet k x d).imask = d.imask ∧ (streamSet k x d).note = d.note ∧ (streamSet k x d).ctr = d.ctr ∧
    (streamSet k x d).udir = d.udir ∧ (streamSet k x d).bip = d.bip ∧ (streamSet k x d).host = d.host ∧ (streamSet k x d).slu = d.slu ∧
    (streamSet k x d).slubuf = d.slubuf ∧ (streamSet k x d).slupois = d.slupois ∧ (streamSet k x d).reed = d.reed ∧
    (streamSet k x d).shoal = d.shoal ∧ (streamSet k x d).tarn = d.tarn ∧ (streamSet k x d).basin = d.basin ∧ (streamSet k x d).gstr = d.gstr ∧
    (streamSet k x d).longs = d.longs ∧ (streamSet k x d).mere = d.mere ∧ (streamSet k x d).siph = d.siph ∧ (streamSet k x d).hbm = d.hbm ∧
    (streamSet k x d).well = d.well ∧ (streamSet k x d).jetty = d.jetty ∧ (streamSet k x d).ferry = d.ferry ∧ (streamSet k x d).therm = d.therm ∧
    (streamSet k x d).ledger = d.ledger ∧ (streamSet k x d).boot = d.boot ∧ (streamSet k x d).tap = d.tap ∧ (streamSet k x d).loads = d.loads ∧
    (streamSet k x d).out = d.out ∧ (streamSet k x d).freeCtr = d.freeCtr :=
  ⟨rfl, rfl, rfl, rfl, rfl, rfl, rfl, rfl, rfl, rfl, rfl, rfl, rfl, rfl, rfl, rfl, rfl, rfl, rfl, rfl, rfl, rfl, rfl, rfl, rfl, rfl, rfl, rfl, rfl, rfl, rfl, rfl, rfl⟩
@[simp] theorem streamSet_same (k : Nat) (x : StreamSt) : streamSt k (streamSet k x d) = x := tabGet_tabSet_same _ _ _ _
theorem streamSet_other (k : Nat) (x : StreamSt) {j : Nat} (h : j ≠ k) : streamSt j (streamSet k x d) = streamSt j d := tabGet_tabSet_other _ _ _ h

@[simp] theorem reedSlotSet_fields (k : Nat) (x : PackSlot) :
    (reedSlotSet k x d).fuse = d.fuse ∧ (reedSlotSet k x d).gauge = d.gauge ∧ (reedSlotSet k x d).tickN = d.tickN ∧ (reedSlotSet k x d).clk = d.clk ∧
    (reedSlotSet k x d).hold = d.hold ∧ (reedSlotSet k x d).imask = d.imask ∧ (reedSlotSet k x d).note = d.note ∧ (reedSlotSet k x d).ctr = d.ctr ∧
    (reedSlotSet k x d).udir = d.udir ∧ (reedSlotSet k x d).bip = d.bip ∧ (reedSlotSet k x d).host = d.host ∧ (reedSlotSet k x d).slu = d.slu ∧
    (reedSlotSet k x d).slubuf = d.slubuf ∧ (reedSlotSet k x d).slupois = d.slupois ∧ (reedSlotSet k x d).weir = d.weir ∧
    (reedSlotSet k x d).shoal = d.shoal ∧ (reedSlotSet k x d).tarn = d.tarn ∧ (reedSlotSet k x d).basin = d.basin ∧
    (reedSlotSet k x d).gstr = d.gstr ∧ (reedSlotSet k x d).longs = d.longs ∧ (reedSlotSet k x d).mere = d.mere ∧ (reedSlotSet k x d).siph = d.siph ∧
    (reedSlotSet k x d).hbm = d.hbm ∧ (reedSlotSet k x d).well = d.well ∧ (reedSlotSet k x d).jetty = d.jetty ∧ (reedSlotSet k x d).ferry = d.ferry ∧
    (reedSlotSet k x d).therm = d.therm ∧ (reedSlotSet k x d).ledger = d.ledger ∧ (reedSlotSet k x d).boot = d.boot ∧
    (reedSlotSet k x d).tap = d.tap ∧ (reedSlotSet k x d).loads = d.loads ∧ (reedSlotSet k x d).out = d.out ∧
    (reedSlotSet k x d).freeCtr = d.freeCtr :=
  ⟨rfl, rfl, rfl, rfl, rfl, rfl, rfl, rfl, rfl, rfl, rfl, rfl, rfl, rfl, rfl, rfl, rfl, rfl, rfl, rfl, rfl, rfl, rfl, rfl, rfl, rfl, rfl, rfl, rfl, rfl, rfl, rfl, rfl⟩
@[simp] theorem reedSlotSet_same (k : Nat) (x : PackSlot) : reedSlot k (reedSlotSet k x d) = x := tabGet_tabSet_same _ _ _ _
theorem reedSlotSet_other (k : Nat) (x : PackSlot) {j : Nat} (h : j ≠ k) : reedSlot j (reedSlotSet k x d) = reedSlot j d := tabGet_tabSet_other _ _ _ h

@[simp] theorem shoalSlotSet_fields (k : Nat) (x : PackSlot) :
    (shoalSlotSet k x d).fuse = d.fuse ∧ (shoalSlotSet k x d).gauge = d.gauge ∧ (shoalSlotSet k x d).tickN = d.tickN ∧
    (shoalSlotSet k x d).clk = d.clk ∧ (shoalSlotSet k x d).hold = d.hold ∧ (shoalSlotSet k x d).imask = d.imask ∧
    (shoalSlotSet k x d).note = d.note ∧ (shoalSlotSet k x d).ctr = d.ctr ∧ (shoalSlotSet k x d).udir = d.udir ∧ (shoalSlotSet k x d).bip = d.bip ∧
    (shoalSlotSet k x d).host = d.host ∧ (shoalSlotSet k x d).slu = d.slu ∧ (shoalSlotSet k x d).slubuf = d.slubuf ∧
    (shoalSlotSet k x d).slupois = d.slupois ∧ (shoalSlotSet k x d).weir = d.weir ∧ (shoalSlotSet k x d).reed = d.reed ∧
    (shoalSlotSet k x d).tarn = d.tarn ∧ (shoalSlotSet k x d).basin = d.basin ∧ (shoalSlotSet k x d).gstr = d.gstr ∧
    (shoalSlotSet k x d).longs = d.longs ∧ (shoalSlotSet k x d).mere = d.mere ∧ (shoalSlotSet k x d).siph = d.siph ∧
    (shoalSlotSet k x d).hbm = d.hbm ∧ (shoalSlotSet k x d).well = d.well ∧ (shoalSlotSet k x d).jetty = d.jetty ∧
    (shoalSlotSet k x d).ferry = d.ferry ∧ (shoalSlotSet k x d).therm = d.therm ∧ (shoalSlotSet k x d).ledger = d.ledger ∧
    (shoalSlotSet k x d).boot = d.boot ∧ (shoalSlotSet k x d).tap = d.tap ∧ (shoalSlotSet k x d).loads = d.loads ∧ (shoalSlotSet k x d).out = d.out ∧
    (shoalSlotSet k x d).freeCtr = d.freeCtr :=
  ⟨rfl, rfl, rfl, rfl, rfl, rfl, rfl, rfl, rfl, rfl, rfl, rfl, rfl, rfl, rfl, rfl, rfl, rfl, rfl, rfl, rfl, rfl, rfl, rfl, rfl, rfl, rfl, rfl, rfl, rfl, rfl, rfl, rfl⟩
@[simp] theorem shoalSlotSet_same (k : Nat) (x : PackSlot) : shoalSlot k (shoalSlotSet k x d) = x := tabGet_tabSet_same _ _ _ _
theorem shoalSlotSet_other (k : Nat) (x : PackSlot) {j : Nat} (h : j ≠ k) : shoalSlot j (shoalSlotSet k x d) = shoalSlot j d := tabGet_tabSet_other _ _ _ h

@[simp] theorem tarnSlotSet_fields (k : Nat) (x : PackSlot) :
    (tarnSlotSet k x d).fuse = d.fuse ∧ (tarnSlotSet k x d).gauge = d.gauge ∧ (tarnSlotSet k x d).tickN = d.tickN ∧ (tarnSlotSet k x d).clk = d.clk ∧
    (tarnSlotSet k x d).hold = d.hold ∧ (tarnSlotSet k x d).imask = d.imask ∧ (tarnSlotSet k x d).note = d.note ∧ (tarnSlotSet k x d).ctr = d.ctr ∧
    (tarnSlotSet k x d).udir = d.udir ∧ (tarnSlotSet k x d).bip = d.bip ∧ (tarnSlotSet k x d).host = d.host ∧ (tarnSlotSet k x d).slu = d.slu ∧
    (tarnSlotSet k x d).slubuf = d.slubuf ∧ (tarnSlotSet k x d).slupois = d.slupois ∧ (tarnSlotSet k x d).weir = d.weir ∧
    (tarnSlotSet k x d).reed = d.reed ∧ (tarnSlotSet k x d).shoal = d.shoal ∧ (tarnSlotSet k x d).basin = d.basin ∧
    (tarnSlotSet k x d).gstr = d.gstr ∧ (tarnSlotSet k x d).longs = d.longs ∧ (tarnSlotSet k x d).mere = d.mere ∧ (tarnSlotSet k x d).siph = d.siph ∧
    (tarnSlotSet k x d).hbm = d.hbm ∧ (tarnSlotSet k x d).well = d.well ∧ (tarnSlotSet k x d).jetty = d.jetty ∧ (tarnSlotSet k x d).ferry = d.ferry ∧
    (tarnSlotSet k x d).therm = d.therm ∧ (tarnSlotSet k x d).ledger = d.ledger ∧ (tarnSlotSet k x d).boot = d.boot ∧
    (tarnSlotSet k x d).tap = d.tap ∧ (tarnSlotSet k x d).loads = d.loads ∧ (tarnSlotSet k x d).out = d.out ∧
    (tarnSlotSet k x d).freeCtr = d.freeCtr :=
  ⟨rfl, rfl, rfl, rfl, rfl, rfl, rfl, rfl, rfl, rfl, rfl, rfl, rfl, rfl, rfl, rfl, rfl, rfl, rfl, rfl, rfl, rfl, rfl, rfl, rfl, rfl, rfl, rfl, rfl, rfl, rfl, rfl, rfl⟩
@[simp] theorem tarnSlotSet_same (k : Nat) (x : PackSlot) : tarnSlot k (tarnSlotSet k x d) = x := tabGet_tabSet_same _ _ _ _
theorem tarnSlotSet_other (k : Nat) (x : PackSlot) {j : Nat} (h : j ≠ k) : tarnSlot j (tarnSlotSet k x d) = tarnSlot j d := tabGet_tabSet_other _ _ _ h

@[simp] theorem basinSet_fields (b : Nat) (x : Basin) :
    (basinSet b x d).fuse = d.fuse ∧ (basinSet b x d).gauge = d.gauge ∧ (basinSet b x d).tickN = d.tickN ∧ (basinSet b x d).clk = d.clk ∧
    (basinSet b x d).hold = d.hold ∧ (basinSet b x d).imask = d.imask ∧ (basinSet b x d).note = d.note ∧ (basinSet b x d).ctr = d.ctr ∧
    (basinSet b x d).udir = d.udir ∧ (basinSet b x d).bip = d.bip ∧ (basinSet b x d).host = d.host ∧ (basinSet b x d).slu = d.slu ∧
    (basinSet b x d).slubuf = d.slubuf ∧ (basinSet b x d).slupois = d.slupois ∧ (basinSet b x d).weir = d.weir ∧ (basinSet b x d).reed = d.reed ∧
    (basinSet b x d).shoal = d.shoal ∧ (basinSet b x d).tarn = d.tarn ∧ (basinSet b x d).gstr = d.gstr ∧ (basinSet b x d).longs = d.longs ∧
    (basinSet b x d).mere = d.mere ∧ (basinSet b x d).siph = d.siph ∧ (basinSet b x d).hbm = d.hbm ∧ (basinSet b x d).well = d.well ∧
    (basinSet b x d).jetty = d.jetty ∧ (basinSet b x d).ferry = d.ferry ∧ (basinSet b x d).therm = d.therm ∧ (basinSet b x d).ledger = d.ledger ∧
    (basinSet b x d).boot = d.boot ∧ (basinSet b x d).tap = d.tap ∧ (basinSet b x d).loads = d.loads ∧ (basinSet b x d).out = d.out ∧
    (basinSet b x d).freeCtr = d.freeCtr :=
  ⟨rfl, rfl, rfl, rfl, rfl, rfl, rfl, rfl, rfl, rfl, rfl, rfl, rfl, rfl, rfl, rfl, rfl, rfl, rfl, rfl, rfl, rfl, rfl, rfl, rfl, rfl, rfl, rfl, rfl, rfl, rfl, rfl, rfl⟩
@[simp] theorem basinSet_same (b : Nat) (x : Basin) : basin b (basinSet b x d) = x := tabGet_tabSet_same _ _ _ _
theorem basinSet_other (b : Nat) (x : Basin) {j : Nat} (h : j ≠ b) : basin j (basinSet b x d) = basin j d := tabGet_tabSet_other _ _ _ h

@[simp] theorem coreSetC_fields (c : Nat) (x : Core) :
    (coreSetC c x d).fuse = d.fuse ∧ (coreSetC c x d).gauge = d.gauge ∧ (coreSetC c x d).tickN = d.tickN ∧ (coreSetC c x d).clk = d.clk ∧
    (coreSetC c x d).hold = d.hold ∧ (coreSetC c x d).imask = d.imask ∧ (coreSetC c x d).note = d.note ∧ (coreSetC c x d).ctr = d.ctr ∧
    (coreSetC c x d).udir = d.udir ∧ (coreSetC c x d).bip = d.bip ∧ (coreSetC c x d).host = d.host ∧ (coreSetC c x d).slu = d.slu ∧
    (coreSetC c x d).slubuf = d.slubuf ∧ (coreSetC c x d).slupois = d.slupois ∧ (coreSetC c x d).weir = d.weir ∧ (coreSetC c x d).reed = d.reed ∧
    (coreSetC c x d).shoal = d.shoal ∧ (coreSetC c x d).tarn = d.tarn ∧ (coreSetC c x d).basin = d.basin ∧ (coreSetC c x d).gstr = d.gstr ∧
    (coreSetC c x d).mere = d.mere ∧ (coreSetC c x d).siph = d.siph ∧ (coreSetC c x d).hbm = d.hbm ∧ (coreSetC c x d).well = d.well ∧
    (coreSetC c x d).jetty = d.jetty ∧ (coreSetC c x d).ferry = d.ferry ∧ (coreSetC c x d).therm = d.therm ∧ (coreSetC c x d).ledger = d.ledger ∧
    (coreSetC c x d).boot = d.boot ∧ (coreSetC c x d).tap = d.tap ∧ (coreSetC c x d).loads = d.loads ∧ (coreSetC c x d).out = d.out ∧
    (coreSetC c x d).freeCtr = d.freeCtr :=
  ⟨rfl, rfl, rfl, rfl, rfl, rfl, rfl, rfl, rfl, rfl, rfl, rfl, rfl, rfl, rfl, rfl, rfl, rfl, rfl, rfl, rfl, rfl, rfl, rfl, rfl, rfl, rfl, rfl, rfl, rfl, rfl, rfl, rfl⟩
@[simp] theorem coreSetC_same (c : Nat) (x : Core) : core c (coreSetC c x d) = x := tabGet_tabSet_same _ _ _ _
theorem coreSetC_other (c : Nat) (x : Core) {j : Nat} (h : j ≠ c) : core j (coreSetC c x d) = core j d := tabGet_tabSet_other _ _ _ h

@[simp] theorem mereSet_fields (m : Mere) :
    (mereSet m d).fuse = d.fuse ∧ (mereSet m d).gauge = d.gauge ∧ (mereSet m d).tickN = d.tickN ∧ (mereSet m d).clk = d.clk ∧
    (mereSet m d).hold = d.hold ∧ (mereSet m d).imask = d.imask ∧ (mereSet m d).note = d.note ∧ (mereSet m d).ctr = d.ctr ∧
    (mereSet m d).udir = d.udir ∧ (mereSet m d).bip = d.bip ∧ (mereSet m d).host = d.host ∧ (mereSet m d).slu = d.slu ∧
    (mereSet m d).slubuf = d.slubuf ∧ (mereSet m d).slupois = d.slupois ∧ (mereSet m d).weir = d.weir ∧ (mereSet m d).reed = d.reed ∧
    (mereSet m d).shoal = d.shoal ∧ (mereSet m d).tarn = d.tarn ∧ (mereSet m d).basin = d.basin ∧ (mereSet m d).gstr = d.gstr ∧
    (mereSet m d).longs = d.longs ∧ (mereSet m d).siph = d.siph ∧ (mereSet m d).hbm = d.hbm ∧ (mereSet m d).well = d.well ∧
    (mereSet m d).jetty = d.jetty ∧ (mereSet m d).ferry = d.ferry ∧ (mereSet m d).therm = d.therm ∧ (mereSet m d).ledger = d.ledger ∧
    (mereSet m d).boot = d.boot ∧ (mereSet m d).tap = d.tap ∧ (mereSet m d).loads = d.loads ∧ (mereSet m d).out = d.out ∧
    (mereSet m d).freeCtr = d.freeCtr :=
  ⟨rfl, rfl, rfl, rfl, rfl, rfl, rfl, rfl, rfl, rfl, rfl, rfl, rfl, rfl, rfl, rfl, rfl, rfl, rfl, rfl, rfl, rfl, rfl, rfl, rfl, rfl, rfl, rfl, rfl, rfl, rfl, rfl, rfl⟩

@[simp] theorem siphSet_fields (x : Siphon) :
    (siphSet x d).fuse = d.fuse ∧ (siphSet x d).gauge = d.gauge ∧ (siphSet x d).tickN = d.tickN ∧ (siphSet x d).clk = d.clk ∧
    (siphSet x d).hold = d.hold ∧ (siphSet x d).imask = d.imask ∧ (siphSet x d).note = d.note ∧ (siphSet x d).ctr = d.ctr ∧
    (siphSet x d).udir = d.udir ∧ (siphSet x d).bip = d.bip ∧ (siphSet x d).host = d.host ∧ (siphSet x d).slu = d.slu ∧
    (siphSet x d).slubuf = d.slubuf ∧ (siphSet x d).slupois = d.slupois ∧ (siphSet x d).weir = d.weir ∧ (siphSet x d).reed = d.reed ∧
    (siphSet x d).shoal = d.shoal ∧ (siphSet x d).tarn = d.tarn ∧ (siphSet x d).basin = d.basin ∧ (siphSet x d).gstr = d.gstr ∧
    (siphSet x d).longs = d.longs ∧ (siphSet x d).mere = d.mere ∧ (siphSet x d).hbm = d.hbm ∧ (siphSet x d).well = d.well ∧
    (siphSet x d).jetty = d.jetty ∧ (siphSet x d).ferry = d.ferry ∧ (siphSet x d).therm = d.therm ∧ (siphSet x d).ledger = d.ledger ∧
    (siphSet x d).boot = d.boot ∧ (siphSet x d).tap = d.tap ∧ (siphSet x d).loads = d.loads ∧ (siphSet x d).out = d.out ∧
    (siphSet x d).freeCtr = d.freeCtr :=
  ⟨rfl, rfl, rfl, rfl, rfl, rfl, rfl, rfl, rfl, rfl, rfl, rfl, rfl, rfl, rfl, rfl, rfl, rfl, rfl, rfl, rfl, rfl, rfl, rfl, rfl, rfl, rfl, rfl, rfl, rfl, rfl, rfl, rfl⟩

@[simp] theorem stackSet_fields (q : Nat) (x : HbmStack) :
    (stackSet q x d).fuse = d.fuse ∧ (stackSet q x d).gauge = d.gauge ∧ (stackSet q x d).tickN = d.tickN ∧ (stackSet q x d).clk = d.clk ∧
    (stackSet q x d).hold = d.hold ∧ (stackSet q x d).imask = d.imask ∧ (stackSet q x d).note = d.note ∧ (stackSet q x d).ctr = d.ctr ∧
    (stackSet q x d).udir = d.udir ∧ (stackSet q x d).bip = d.bip ∧ (stackSet q x d).host = d.host ∧ (stackSet q x d).slu = d.slu ∧
    (stackSet q x d).slubuf = d.slubuf ∧ (stackSet q x d).slupois = d.slupois ∧ (stackSet q x d).weir = d.weir ∧ (stackSet q x d).reed = d.reed ∧
    (stackSet q x d).shoal = d.shoal ∧ (stackSet q x d).tarn = d.tarn ∧ (stackSet q x d).basin = d.basin ∧ (stackSet q x d).gstr = d.gstr ∧
    (stackSet q x d).longs = d.longs ∧ (stackSet q x d).mere = d.mere ∧ (stackSet q x d).siph = d.siph ∧ (stackSet q x d).well = d.well ∧
    (stackSet q x d).jetty = d.jetty ∧ (stackSet q x d).ferry = d.ferry ∧ (stackSet q x d).therm = d.therm ∧ (stackSet q x d).ledger = d.ledger ∧
    (stackSet q x d).boot = d.boot ∧ (stackSet q x d).tap = d.tap ∧ (stackSet q x d).loads = d.loads ∧ (stackSet q x d).out = d.out ∧
    (stackSet q x d).freeCtr = d.freeCtr :=
  ⟨rfl, rfl, rfl, rfl, rfl, rfl, rfl, rfl, rfl, rfl, rfl, rfl, rfl, rfl, rfl, rfl, rfl, rfl, rfl, rfl, rfl, rfl, rfl, rfl, rfl, rfl, rfl, rfl, rfl, rfl, rfl, rfl, rfl⟩
@[simp] theorem stackSet_same (q : Nat) (x : HbmStack) : stackGet q (stackSet q x d) = x := tabGet_tabSet_same _ _ _ _
theorem stackSet_other (q : Nat) (x : HbmStack) {j : Nat} (h : j ≠ q) : stackGet j (stackSet q x d) = stackGet j d := tabGet_tabSet_other _ _ _ h

@[simp] theorem wellSet_fields (w : Well) :
    (wellSet w d).fuse = d.fuse ∧ (wellSet w d).gauge = d.gauge ∧ (wellSet w d).tickN = d.tickN ∧ (wellSet w d).clk = d.clk ∧
    (wellSet w d).hold = d.hold ∧ (wellSet w d).imask = d.imask ∧ (wellSet w d).note = d.note ∧ (wellSet w d).ctr = d.ctr ∧
    (wellSet w d).udir = d.udir ∧ (wellSet w d).bip = d.bip ∧ (wellSet w d).host = d.host ∧ (wellSet w d).slu = d.slu ∧
    (wellSet w d).slubuf = d.slubuf ∧ (wellSet w d).slupois = d.slupois ∧ (wellSet w d).weir = d.weir ∧ (wellSet w d).reed = d.reed ∧
    (wellSet w d).shoal = d.shoal ∧ (wellSet w d).tarn = d.tarn ∧ (wellSet w d).basin = d.basin ∧ (wellSet w d).gstr = d.gstr ∧
    (wellSet w d).longs = d.longs ∧ (wellSet w d).mere = d.mere ∧ (wellSet w d).siph = d.siph ∧ (wellSet w d).hbm = d.hbm ∧
    (wellSet w d).jetty = d.jetty ∧ (wellSet w d).ferry = d.ferry ∧ (wellSet w d).therm = d.therm ∧ (wellSet w d).ledger = d.ledger ∧
    (wellSet w d).boot = d.boot ∧ (wellSet w d).tap = d.tap ∧ (wellSet w d).loads = d.loads ∧ (wellSet w d).out = d.out ∧
    (wellSet w d).freeCtr = d.freeCtr :=
  ⟨rfl, rfl, rfl, rfl, rfl, rfl, rfl, rfl, rfl, rfl, rfl, rfl, rfl, rfl, rfl, rfl, rfl, rfl, rfl, rfl, rfl, rfl, rfl, rfl, rfl, rfl, rfl, rfl, rfl, rfl, rfl, rfl, rfl⟩

@[simp] theorem jlinkSet_fields (m : Nat) (l : JLink) :
    (jlinkSet m l d).fuse = d.fuse ∧ (jlinkSet m l d).gauge = d.gauge ∧ (jlinkSet m l d).tickN = d.tickN ∧ (jlinkSet m l d).clk = d.clk ∧
    (jlinkSet m l d).hold = d.hold ∧ (jlinkSet m l d).imask = d.imask ∧ (jlinkSet m l d).note = d.note ∧ (jlinkSet m l d).ctr = d.ctr ∧
    (jlinkSet m l d).udir = d.udir ∧ (jlinkSet m l d).bip = d.bip ∧ (jlinkSet m l d).host = d.host ∧ (jlinkSet m l d).slu = d.slu ∧
    (jlinkSet m l d).slubuf = d.slubuf ∧ (jlinkSet m l d).slupois = d.slupois ∧ (jlinkSet m l d).weir = d.weir ∧ (jlinkSet m l d).reed = d.reed ∧
    (jlinkSet m l d).shoal = d.shoal ∧ (jlinkSet m l d).tarn = d.tarn ∧ (jlinkSet m l d).basin = d.basin ∧ (jlinkSet m l d).gstr = d.gstr ∧
    (jlinkSet m l d).longs = d.longs ∧ (jlinkSet m l d).mere = d.mere ∧ (jlinkSet m l d).siph = d.siph ∧ (jlinkSet m l d).hbm = d.hbm ∧
    (jlinkSet m l d).well = d.well ∧ (jlinkSet m l d).ferry = d.ferry ∧ (jlinkSet m l d).therm = d.therm ∧ (jlinkSet m l d).ledger = d.ledger ∧
    (jlinkSet m l d).boot = d.boot ∧ (jlinkSet m l d).tap = d.tap ∧ (jlinkSet m l d).loads = d.loads ∧ (jlinkSet m l d).out = d.out ∧
    (jlinkSet m l d).freeCtr = d.freeCtr :=
  ⟨rfl, rfl, rfl, rfl, rfl, rfl, rfl, rfl, rfl, rfl, rfl, rfl, rfl, rfl, rfl, rfl, rfl, rfl, rfl, rfl, rfl, rfl, rfl, rfl, rfl, rfl, rfl, rfl, rfl, rfl, rfl, rfl, rfl⟩
@[simp] theorem jlinkSet_same (m : Nat) (l : JLink) : jlink m (jlinkSet m l d) = l := tabGet_tabSet_same _ _ _ _
theorem jlinkSet_other (m : Nat) (l : JLink) {j : Nat} (h : j ≠ m) : jlink j (jlinkSet m l d) = jlink j d := tabGet_tabSet_other _ _ _ h

@[simp] theorem jettyMod_fields (f : Jetty → Jetty) :
    (jettyMod f d).fuse = d.fuse ∧ (jettyMod f d).gauge = d.gauge ∧ (jettyMod f d).tickN = d.tickN ∧ (jettyMod f d).clk = d.clk ∧
    (jettyMod f d).hold = d.hold ∧ (jettyMod f d).imask = d.imask ∧ (jettyMod f d).note = d.note ∧ (jettyMod f d).ctr = d.ctr ∧
    (jettyMod f d).udir = d.udir ∧ (jettyMod f d).bip = d.bip ∧ (jettyMod f d).host = d.host ∧ (jettyMod f d).slu = d.slu ∧
    (jettyMod f d).slubuf = d.slubuf ∧ (jettyMod f d).slupois = d.slupois ∧ (jettyMod f d).weir = d.weir ∧ (jettyMod f d).reed = d.reed ∧
    (jettyMod f d).shoal = d.shoal ∧ (jettyMod f d).tarn = d.tarn ∧ (jettyMod f d).basin = d.basin ∧ (jettyMod f d).gstr = d.gstr ∧
    (jettyMod f d).longs = d.longs ∧ (jettyMod f d).mere = d.mere ∧ (jettyMod f d).siph = d.siph ∧ (jettyMod f d).hbm = d.hbm ∧
    (jettyMod f d).well = d.well ∧ (jettyMod f d).ferry = d.ferry ∧ (jettyMod f d).therm = d.therm ∧ (jettyMod f d).ledger = d.ledger ∧
    (jettyMod f d).boot = d.boot ∧ (jettyMod f d).tap = d.tap ∧ (jettyMod f d).loads = d.loads ∧ (jettyMod f d).out = d.out ∧
    (jettyMod f d).freeCtr = d.freeCtr :=
  ⟨rfl, rfl, rfl, rfl, rfl, rfl, rfl, rfl, rfl, rfl, rfl, rfl, rfl, rfl, rfl, rfl, rfl, rfl, rfl, rfl, rfl, rfl, rfl, rfl, rfl, rfl, rfl, rfl, rfl, rfl, rfl, rfl, rfl⟩

@[simp] theorem ferryMod_fields (f : Ferry → Ferry) :
    (ferryMod f d).fuse = d.fuse ∧ (ferryMod f d).gauge = d.gauge ∧ (ferryMod f d).tickN = d.tickN ∧ (ferryMod f d).clk = d.clk ∧
    (ferryMod f d).hold = d.hold ∧ (ferryMod f d).imask = d.imask ∧ (ferryMod f d).note = d.note ∧ (ferryMod f d).ctr = d.ctr ∧
    (ferryMod f d).udir = d.udir ∧ (ferryMod f d).bip = d.bip ∧ (ferryMod f d).host = d.host ∧ (ferryMod f d).slu = d.slu ∧
    (ferryMod f d).slubuf = d.slubuf ∧ (ferryMod f d).slupois = d.slupois ∧ (ferryMod f d).weir = d.weir ∧ (ferryMod f d).reed = d.reed ∧
    (ferryMod f d).shoal = d.shoal ∧ (ferryMod f d).tarn = d.tarn ∧ (ferryMod f d).basin = d.basin ∧ (ferryMod f d).gstr = d.gstr ∧
    (ferryMod f d).longs = d.longs ∧ (ferryMod f d).mere = d.mere ∧ (ferryMod f d).siph = d.siph ∧ (ferryMod f d).hbm = d.hbm ∧
    (ferryMod f d).well = d.well ∧ (ferryMod f d).jetty = d.jetty ∧ (ferryMod f d).therm = d.therm ∧ (ferryMod f d).ledger = d.ledger ∧
    (ferryMod f d).boot = d.boot ∧ (ferryMod f d).tap = d.tap ∧ (ferryMod f d).loads = d.loads ∧ (ferryMod f d).out = d.out ∧
    (ferryMod f d).freeCtr = d.freeCtr :=
  ⟨rfl, rfl, rfl, rfl, rfl, rfl, rfl, rfl, rfl, rfl, rfl, rfl, rfl, rfl, rfl, rfl, rfl, rfl, rfl, rfl, rfl, rfl, rfl, rfl, rfl, rfl, rfl, rfl, rfl, rfl, rfl, rfl, rfl⟩

@[simp] theorem thermSet_fields (t : Therm) :
    (thermSet t d).fuse = d.fuse ∧ (thermSet t d).gauge = d.gauge ∧ (thermSet t d).tickN = d.tickN ∧ (thermSet t d).clk = d.clk ∧
    (thermSet t d).hold = d.hold ∧ (thermSet t d).imask = d.imask ∧ (thermSet t d).note = d.note ∧ (thermSet t d).ctr = d.ctr ∧
    (thermSet t d).udir = d.udir ∧ (thermSet t d).bip = d.bip ∧ (thermSet t d).host = d.host ∧ (thermSet t d).slu = d.slu ∧
    (thermSet t d).slubuf = d.slubuf ∧ (thermSet t d).slupois = d.slupois ∧ (thermSet t d).weir = d.weir ∧ (thermSet t d).reed = d.reed ∧
    (thermSet t d).shoal = d.shoal ∧ (thermSet t d).tarn = d.tarn ∧ (thermSet t d).basin = d.basin ∧ (thermSet t d).gstr = d.gstr ∧
    (thermSet t d).longs = d.longs ∧ (thermSet t d).mere = d.mere ∧ (thermSet t d).siph = d.siph ∧ (thermSet t d).hbm = d.hbm ∧
    (thermSet t d).well = d.well ∧ (thermSet t d).jetty = d.jetty ∧ (thermSet t d).ferry = d.ferry ∧ (thermSet t d).ledger = d.ledger ∧
    (thermSet t d).boot = d.boot ∧ (thermSet t d).tap = d.tap ∧ (thermSet t d).loads = d.loads ∧ (thermSet t d).out = d.out ∧
    (thermSet t d).freeCtr = d.freeCtr :=
  ⟨rfl, rfl, rfl, rfl, rfl, rfl, rfl, rfl, rfl, rfl, rfl, rfl, rfl, rfl, rfl, rfl, rfl, rfl, rfl, rfl, rfl, rfl, rfl, rfl, rfl, rfl, rfl, rfl, rfl, rfl, rfl, rfl, rfl⟩

@[simp] theorem sensorSet_fields (n : Nat) (x : Sensor) :
    (sensorSet n x d).fuse = d.fuse ∧ (sensorSet n x d).gauge = d.gauge ∧ (sensorSet n x d).tickN = d.tickN ∧ (sensorSet n x d).clk = d.clk ∧
    (sensorSet n x d).hold = d.hold ∧ (sensorSet n x d).imask = d.imask ∧ (sensorSet n x d).note = d.note ∧ (sensorSet n x d).ctr = d.ctr ∧
    (sensorSet n x d).udir = d.udir ∧ (sensorSet n x d).bip = d.bip ∧ (sensorSet n x d).host = d.host ∧ (sensorSet n x d).slu = d.slu ∧
    (sensorSet n x d).slubuf = d.slubuf ∧ (sensorSet n x d).slupois = d.slupois ∧ (sensorSet n x d).weir = d.weir ∧ (sensorSet n x d).reed = d.reed ∧
    (sensorSet n x d).shoal = d.shoal ∧ (sensorSet n x d).tarn = d.tarn ∧ (sensorSet n x d).basin = d.basin ∧ (sensorSet n x d).gstr = d.gstr ∧
    (sensorSet n x d).longs = d.longs ∧ (sensorSet n x d).mere = d.mere ∧ (sensorSet n x d).siph = d.siph ∧ (sensorSet n x d).hbm = d.hbm ∧
    (sensorSet n x d).well = d.well ∧ (sensorSet n x d).jetty = d.jetty ∧ (sensorSet n x d).ferry = d.ferry ∧ (sensorSet n x d).ledger = d.ledger ∧
    (sensorSet n x d).boot = d.boot ∧ (sensorSet n x d).tap = d.tap ∧ (sensorSet n x d).loads = d.loads ∧ (sensorSet n x d).out = d.out ∧
    (sensorSet n x d).freeCtr = d.freeCtr :=
  ⟨rfl, rfl, rfl, rfl, rfl, rfl, rfl, rfl, rfl, rfl, rfl, rfl, rfl, rfl, rfl, rfl, rfl, rfl, rfl, rfl, rfl, rfl, rfl, rfl, rfl, rfl, rfl, rfl, rfl, rfl, rfl, rfl, rfl⟩
@[simp] theorem sensorSet_same (n : Nat) (x : Sensor) : sensor n (sensorSet n x d) = x := tabGet_tabSet_same _ _ _ _
theorem sensorSet_other (n : Nat) (x : Sensor) {j : Nat} (h : j ≠ n) : sensor j (sensorSet n x d) = sensor j d := tabGet_tabSet_other _ _ _ h

@[simp] theorem ledgMod_fields (f : Ledger → Ledger) :
    (ledgMod f d).fuse = d.fuse ∧ (ledgMod f d).gauge = d.gauge ∧ (ledgMod f d).tickN = d.tickN ∧ (ledgMod f d).clk = d.clk ∧
    (ledgMod f d).hold = d.hold ∧ (ledgMod f d).imask = d.imask ∧ (ledgMod f d).note = d.note ∧ (ledgMod f d).ctr = d.ctr ∧
    (ledgMod f d).udir = d.udir ∧ (ledgMod f d).bip = d.bip ∧ (ledgMod f d).host = d.host ∧ (ledgMod f d).slu = d.slu ∧
    (ledgMod f d).slubuf = d.slubuf ∧ (ledgMod f d).slupois = d.slupois ∧ (ledgMod f d).weir = d.weir ∧ (ledgMod f d).reed = d.reed ∧
    (ledgMod f d).shoal = d.shoal ∧ (ledgMod f d).tarn = d.tarn ∧ (ledgMod f d).basin = d.basin ∧ (ledgMod f d).gstr = d.gstr ∧
    (ledgMod f d).longs = d.longs ∧ (ledgMod f d).mere = d.mere ∧ (ledgMod f d).siph = d.siph ∧ (ledgMod f d).hbm = d.hbm ∧
    (ledgMod f d).well = d.well ∧ (ledgMod f d).jetty = d.jetty ∧ (ledgMod f d).ferry = d.ferry ∧ (ledgMod f d).therm = d.therm ∧
    (ledgMod f d).boot = d.boot ∧ (ledgMod f d).tap = d.tap ∧ (ledgMod f d).loads = d.loads ∧ (ledgMod f d).out = d.out ∧
    (ledgMod f d).freeCtr = d.freeCtr :=
  ⟨rfl, rfl, rfl, rfl, rfl, rfl, rfl, rfl, rfl, rfl, rfl, rfl, rfl, rfl, rfl, rfl, rfl, rfl, rfl, rfl, rfl, rfl, rfl, rfl, rfl, rfl, rfl, rfl, rfl, rfl, rfl, rfl, rfl⟩

@[simp] theorem hostMod_fields (f : HostLink → HostLink) :
    (hostMod f d).fuse = d.fuse ∧ (hostMod f d).gauge = d.gauge ∧ (hostMod f d).tickN = d.tickN ∧ (hostMod f d).clk = d.clk ∧
    (hostMod f d).hold = d.hold ∧ (hostMod f d).imask = d.imask ∧ (hostMod f d).note = d.note ∧ (hostMod f d).ctr = d.ctr ∧
    (hostMod f d).udir = d.udir ∧ (hostMod f d).bip = d.bip ∧ (hostMod f d).slu = d.slu ∧ (hostMod f d).slubuf = d.slubuf ∧
    (hostMod f d).slupois = d.slupois ∧ (hostMod f d).weir = d.weir ∧ (hostMod f d).reed = d.reed ∧ (hostMod f d).shoal = d.shoal ∧
    (hostMod f d).tarn = d.tarn ∧ (hostMod f d).basin = d.basin ∧ (hostMod f d).gstr = d.gstr ∧ (hostMod f d).longs = d.longs ∧
    (hostMod f d).mere = d.mere ∧ (hostMod f d).siph = d.siph ∧ (hostMod f d).hbm = d.hbm ∧ (hostMod f d).well = d.well ∧
    (hostMod f d).jetty = d.jetty ∧ (hostMod f d).ferry = d.ferry ∧ (hostMod f d).therm = d.therm ∧ (hostMod f d).ledger = d.ledger ∧
    (hostMod f d).boot = d.boot ∧ (hostMod f d).tap = d.tap ∧ (hostMod f d).loads = d.loads ∧ (hostMod f d).out = d.out ∧
    (hostMod f d).freeCtr = d.freeCtr :=
  ⟨rfl, rfl, rfl, rfl, rfl, rfl, rfl, rfl, rfl, rfl, rfl, rfl, rfl, rfl, rfl, rfl, rfl, rfl, rfl, rfl, rfl, rfl, rfl, rfl, rfl, rfl, rfl, rfl, rfl, rfl, rfl, rfl, rfl⟩

@[simp] theorem bootMod_fields (f : Boot → Boot) :
    (bootMod f d).fuse = d.fuse ∧ (bootMod f d).gauge = d.gauge ∧ (bootMod f d).tickN = d.tickN ∧ (bootMod f d).clk = d.clk ∧
    (bootMod f d).hold = d.hold ∧ (bootMod f d).imask = d.imask ∧ (bootMod f d).note = d.note ∧ (bootMod f d).ctr = d.ctr ∧
    (bootMod f d).udir = d.udir ∧ (bootMod f d).bip = d.bip ∧ (bootMod f d).host = d.host ∧ (bootMod f d).slu = d.slu ∧
    (bootMod f d).slubuf = d.slubuf ∧ (bootMod f d).slupois = d.slupois ∧ (bootMod f d).weir = d.weir ∧ (bootMod f d).reed = d.reed ∧
    (bootMod f d).shoal = d.shoal ∧ (bootMod f d).tarn = d.tarn ∧ (bootMod f d).basin = d.basin ∧ (bootMod f d).gstr = d.gstr ∧
    (bootMod f d).longs = d.longs ∧ (bootMod f d).mere = d.mere ∧ (bootMod f d).siph = d.siph ∧ (bootMod f d).hbm = d.hbm ∧
    (bootMod f d).well = d.well ∧ (bootMod f d).jetty = d.jetty ∧ (bootMod f d).ferry = d.ferry ∧ (bootMod f d).therm = d.therm ∧
    (bootMod f d).ledger = d.ledger ∧ (bootMod f d).tap = d.tap ∧ (bootMod f d).loads = d.loads ∧ (bootMod f d).out = d.out ∧
    (bootMod f d).freeCtr = d.freeCtr :=
  ⟨rfl, rfl, rfl, rfl, rfl, rfl, rfl, rfl, rfl, rfl, rfl, rfl, rfl, rfl, rfl, rfl, rfl, rfl, rfl, rfl, rfl, rfl, rfl, rfl, rfl, rfl, rfl, rfl, rfl, rfl, rfl, rfl, rfl⟩

@[simp] theorem flashPut_fields (a : Nat) (l : List Byte) :
    (flashPut a l d).fuse = d.fuse ∧ (flashPut a l d).gauge = d.gauge ∧ (flashPut a l d).tickN = d.tickN ∧ (flashPut a l d).clk = d.clk ∧
    (flashPut a l d).hold = d.hold ∧ (flashPut a l d).imask = d.imask ∧ (flashPut a l d).note = d.note ∧ (flashPut a l d).ctr = d.ctr ∧
    (flashPut a l d).udir = d.udir ∧ (flashPut a l d).bip = d.bip ∧ (flashPut a l d).host = d.host ∧ (flashPut a l d).slu = d.slu ∧
    (flashPut a l d).slubuf = d.slubuf ∧ (flashPut a l d).slupois = d.slupois ∧ (flashPut a l d).weir = d.weir ∧ (flashPut a l d).reed = d.reed ∧
    (flashPut a l d).shoal = d.shoal ∧ (flashPut a l d).tarn = d.tarn ∧ (flashPut a l d).basin = d.basin ∧ (flashPut a l d).gstr = d.gstr ∧
    (flashPut a l d).longs = d.longs ∧ (flashPut a l d).mere = d.mere ∧ (flashPut a l d).siph = d.siph ∧ (flashPut a l d).hbm = d.hbm ∧
    (flashPut a l d).well = d.well ∧ (flashPut a l d).jetty = d.jetty ∧ (flashPut a l d).ferry = d.ferry ∧ (flashPut a l d).therm = d.therm ∧
    (flashPut a l d).ledger = d.ledger ∧ (flashPut a l d).tap = d.tap ∧ (flashPut a l d).loads = d.loads ∧ (flashPut a l d).out = d.out ∧
    (flashPut a l d).freeCtr = d.freeCtr :=
  ⟨rfl, rfl, rfl, rfl, rfl, rfl, rfl, rfl, rfl, rfl, rfl, rfl, rfl, rfl, rfl, rfl, rfl, rfl, rfl, rfl, rfl, rfl, rfl, rfl, rfl, rfl, rfl, rfl, rfl, rfl, rfl, rfl, rfl⟩

@[simp] theorem tapMod_fields (f : TapPort → TapPort) :
    (tapMod f d).fuse = d.fuse ∧ (tapMod f d).gauge = d.gauge ∧ (tapMod f d).tickN = d.tickN ∧ (tapMod f d).clk = d.clk ∧
    (tapMod f d).hold = d.hold ∧ (tapMod f d).imask = d.imask ∧ (tapMod f d).note = d.note ∧ (tapMod f d).ctr = d.ctr ∧ (tapMod f d).udir = d.udir ∧
    (tapMod f d).bip = d.bip ∧ (tapMod f d).host = d.host ∧ (tapMod f d).slu = d.slu ∧ (tapMod f d).slubuf = d.slubuf ∧
    (tapMod f d).slupois = d.slupois ∧ (tapMod f d).weir = d.weir ∧ (tapMod f d).reed = d.reed ∧ (tapMod f d).shoal = d.shoal ∧
    (tapMod f d).tarn = d.tarn ∧ (tapMod f d).basin = d.basin ∧ (tapMod f d).gstr = d.gstr ∧ (tapMod f d).longs = d.longs ∧
    (tapMod f d).mere = d.mere ∧ (tapMod f d).siph = d.siph ∧ (tapMod f d).hbm = d.hbm ∧ (tapMod f d).well = d.well ∧ (tapMod f d).jetty = d.jetty ∧
    (tapMod f d).ferry = d.ferry ∧ (tapMod f d).therm = d.therm ∧ (tapMod f d).ledger = d.ledger ∧ (tapMod f d).boot = d.boot ∧
    (tapMod f d).loads = d.loads ∧ (tapMod f d).out = d.out ∧ (tapMod f d).freeCtr = d.freeCtr :=
  ⟨rfl, rfl, rfl, rfl, rfl, rfl, rfl, rfl, rfl, rfl, rfl, rfl, rfl, rfl, rfl, rfl, rfl, rfl, rfl, rfl, rfl, rfl, rfl, rfl, rfl, rfl, rfl, rfl, rfl, rfl, rfl, rfl, rfl⟩

/-- The queue is no part of the block. -/
@[simp] theorem runLive_running (f : Dev → Dev) (s : State) (h : s.dev.boot.trip = .none) : runLive f s = .next { s with dev := f s.dev } := by
  simp [runLive, whenRunning, running, h]
@[simp] theorem runLive_gated (f : Dev → Dev) (s : State) (h : s.dev.boot.trip ≠ .none) : runLive f s = .next s := by
  simp [runLive, whenRunning, running, h]
@[simp] theorem foldSt_nil {α σ : Type} (f : α → σ → σ) (x : σ) : foldSt [] f x = x := rfl
@[simp] theorem foldSt_cons {α σ : Type} (a : α) (l : List α) (f : α → σ → σ) (x : σ) : foldSt (a :: l) f x = foldSt l f (f a x) := rfl
/-- A response nobody waits for is not sent. -/
theorem answer_gone (r : BRef) (o : WaitObj) (e : Option String) (b : List String) (h : waitsFor r o d = false) : answer r o e b d = d := by
  simp [answer, h]
theorem due_iff (t : Nat) : due t d = true ↔ t < spanEnd d := by simp [due]

/-- The memories hold the canonical form, and every operation on one keeps it. -/
theorem memory_wf_write {x : Byte} {m : Mem} (a : Nat) (l : List Byte) (h : Memory.wf x m = true) : Memory.wf x (memWrite x m a l) = true :=
  tabWf_memWrite x l m a h
theorem memory_wf_reset : Memory.wf 0 State.reset.dev.mere.mem = true ∧ Memory.wf 0 State.reset.dev.hbm.mem = true ∧
    Memory.wf 0xFF State.reset.dev.boot.flash = true ∧ State.reset.dev.basin = [] := by decide

theorem tabWfFrom_filter {α : Type} [DecidableEq α] (x : Nat → α) (p : Nat × α → Bool) {t : Tab α} {l : Nat} (h : tabWfFrom x l t = true) :
    tabWfFrom x l (t.filter p) = true := by
  induction t generalizing l with
  | nil => rfl
  | cons e t ih =>
    obtain ⟨i, a⟩ := e
    simp only [tabWfFrom, Bool.and_eq_true, decide_eq_true_eq] at h
    have h1 := ih h.2
    by_cases hp : p (i, a) = true
    · simp [List.filter, hp, tabWfFrom, h.1.1, h.1.2, h1]
    · simp only [List.filter, hp]
      exact tabWfFrom_mono x h1 (Nat.le_succ_of_le h.1.1)

/-- A flash program and a flash erase keep the flash's canonical form. -/
theorem memory_wf_flash (a n : Nat) (l : List Byte) (h : Memory.wf 0xFF d.boot.flash = true) :
    Memory.wf 0xFF (flashPut a l d).boot.flash = true ∧ Memory.wf 0xFF (flashErase a n d).boot.flash = true :=
  ⟨tabWf_memWrite _ l _ a h, tabWfFrom_filter _ _ h⟩

end Sys2Proof.Machine
end

