-- ==== Sys2Proof/Machine/Package.lean ====
section
/-!
DEFINITION. Machine/Package.lean: where every ball of the package lies and what it carries (20 R446 to R453): the row letters, the Jetty formula,
the host lanes, the signal balls and the supplies. The map is the same on every variant and stepping of a seal class (R448, 19 R441).
-/
namespace Sys2Proof.Machine

/-- The letters of rows (20, "Rows and the ball map"). -/
def rowLetters : List Char := "ABCDEFGHJKLMNPTUVWY".toList

/-- The letters of row n, 1 to 69. -/
def rowName (n : Nat) : List Char :=
  let letter := fun (i : Nat) => rowLetters.getD i 'A'
  if n ≤ 19 then [letter (n - 1)] else [letter ((n - 20) / 19), letter ((n - 20) % 19)]

/-- The number of the row with these letters. -/
def rowNo (s : String) : Nat :=
  match s.toList with
  | [a] => rowLetters.idxOf a + 1
  | [a, b] => 20 + 19 * rowLetters.idxOf a + rowLetters.idxOf b
  | _ => 0

/-- The supplies (Table 20-4). -/
inductive Supply where
  | vss | core | mere | ser | serh | hbmq | hbmc | io | aud | audhv
  deriving DecidableEq, Repr

/-- What a ball carries: a Jetty SerDes line, a signal, or a supply (R448). -/
inductive Ball where
  | jetty (link lane : Nat) (rx neg : Bool)
  | pcie (lane : Nat) (rx neg : Bool)
  | sig (name : String)
  | supply (s : Supply)
  deriving DecidableEq, Repr

/-- The blocks of links lie in rows 1 to 16 and 54 to 69, columns 3 to 66 (R449). -/
def inLinks (r c : Nat) : Bool := (within r 1 16 || within r 54 69) && within c 3 66

/-- The first row and column of the block of link j (R449). -/
def linkRow (j : Nat) : Nat := (if j / 32 = 0 then 1 else 54) + 4 * (j % 32 / 8)
def linkCol (j : Nat) : Nat := 3 + 8 * (j % 8)

/-- Row and column of a Jetty ball (R449). -/
def jettyBall (j l : Nat) (rx neg : Bool) : Nat × Nat := (linkRow j + (if rx then 2 else 0), linkCol j + 2 * l + (if neg then 1 else 0))

/-- The ball at a place of a block of links. -/
def linkBall (r c : Nat) : Ball :=
  let b := if r ≤ 16 then 0 else 1
  let q := if r ≤ 16 then r - 1 else r - 54
  let m := (c - 3) % 8
  if q % 2 = 1 then .supply .vss else .jetty (32 * b + 8 * (q / 4) + (c - 3) / 8) (m / 2) (q % 4 == 2) (m % 2 == 1)

/-- Signal balls of Table 20-2 but the MIC inputs: row letters, column, name (R451). -/
def sigBalls : List (String × Nat × String) :=
  [("BN", 2, "PCIE_REFCLK_P"), ("BN", 3, "PCIE_REFCLK_N"), ("BN", 5, "PERST_n"), ("AY", 67, "REF24_P"), ("AY", 68, "REF24_N"), ("BB", 67, "PWR_GOOD"),
   ("BB", 68, "SYS_RST_n"), ("BD", 67, "THERMTRIP_n"), ("BF", 67, "UART_TXD"), ("BF", 68, "UART_RXD"), ("BH", 67, "TCK"), ("BH", 68, "TMS"),
   ("BK", 67, "TDI"), ("BK", 68, "TDO"), ("BM", 67, "TRST_n"), ("BM", 68, "VR_ALERT_n"), ("BP", 67, "VR_SCL"), ("BP", 68, "VR_SDA")] ++
  [("AY", 64, "XSPI_DQ0"), ("BA", 64, "XSPI_DQ1"), ("BB", 64, "XSPI_DQ2"), ("BC", 64, "XSPI_DQ3"), ("BD", 64, "XSPI_DQ4"), ("BE", 64, "XSPI_DQ5"),
   ("BF", 64, "XSPI_DQ6"), ("BG", 64, "XSPI_DQ7"), ("BH", 64, "XSPI_DQS"), ("BJ", 64, "XSPI_CK"), ("BK", 64, "XSPI_CS_n"), ("BL", 64, "XSPI_RST_n"),
   ("AT", 67, "MICBIAS_A"), ("AT", 68, "MICBIAS_B"), ("AV", 67, "AUD_VREF")]

/-- The MIC balls: rows 18 + 2k, columns 67 and 68 (R451). -/
def micBalls : List (Nat × Nat × String) :=
  (List.range 8).flatMap fun k => [(18 + 2 * k, 67, "MIC" ++ Nat.repr k ++ "_P"), (18 + 2 * k, 68, "MIC" ++ Nat.repr k ++ "_N")]

/-- Every signal ball with its row number. -/
def signals : List (Nat × Nat × String) := sigBalls.map (fun (r, c, n) => (rowNo r, c, n)) ++ micBalls

/-- The PCI Express ball at a place: lane i lies in row 18 + 2i (R450). -/
def pcieBall (r c : Nat) : Option Ball :=
  if within r 18 48 && r % 2 == 0 then
    match c with
    | 2 => some (.pcie ((r - 18) / 2) false false) | 3 => some (.pcie ((r - 18) / 2) false true)
    | 5 => some (.pcie ((r - 18) / 2) true false) | 6 => some (.pcie ((r - 18) / 2) true true)
    | _ => none
  else none

/-- The supply at a place that R449 to R451 leave (R452). -/
def supplyAt (r c : Nat) : Supply :=
  if r ≤ 16 ∨ 54 ≤ r then
    if c = 1 ∨ c = 68 then .ser else if c = 2 ∨ c = 69 then .serh else .vss
  else if r = 17 ∨ r = 53 then (if c % 2 = 1 then .serh else .ser)
  else if c ≤ 7 then .vss
  else if c = 8 then (if r % 2 = 0 then .ser else .serh)
  else if c ≤ 62 then
    if (r + c) % 2 = 0 then .vss
    else if c ≤ 11 then .hbmq else if c ≤ 14 then .hbmc else if c ≤ 56 then .core else .mere
  else if c = 63 then (if r ≤ 37 then .vss else .io)
  else if c ≤ 68 then .vss
  else if r ≤ 33 then .aud else if r ≤ 37 then .audhv else .io

/-- The ball at row r and column c, 1 to 69 each: none is left without a function (R448). -/
def ballAt (r c : Nat) : Ball :=
  if inLinks r c then linkBall r c
  else match pcieBall r c with
    | some b => b
    | none => match signals.find? (fun x => x.1 == r && x.2.1 == c) with
      | some (_, _, n) => .sig n
      | none => .supply (supplyAt r c)

/-- Every place of the 69 × 69 grid (R446). -/
def ballGrid : List (Nat × Nat) := (List.range 69).flatMap fun r => (List.range 69).map fun c => (r + 1, c + 1)

/-- Whether a ball belongs to a unit the variant lacks, so that the board may leave it unconnected (R453). -/
def ballSpare (v : Variant) : Ball → Bool
  | .jetty j _ _ _ => decide (nJetty v ≤ j)
  | .sig n => v == .hg4 && (n.toList.take 3 == "MIC".toList || n == "AUD_VREF")
  | _ => false

end Sys2Proof.Machine
end

