-- ==== Sys2Proof/Safety.lean ====
section
/-!
DEFINITION. Safety.lean: what counts as a safe step.
-/
namespace Sys2Proof.Machine

/-- A step that neither faults nor is refused. -/
def stepsOn (s : State) : Bool := match step s with | .next _ => true | _ => false

end Sys2Proof.Machine
end

