-- ==== Sys2Proof/Tests/States.lean ====
section
/-!
SUPPORT. Tests/States.lean: small states of the block, images and packets for the tests. The images are signed with the test key of log entry 4.
-/
open Sys2Proof Sys2Proof.Machine Sys2Proof.Claims

namespace Sys2Proof.Tests

/-- Units present in each variant, but the Jetty links beyond the third. -/
def unitsOf : Variant → List Nat
  | .hg8 => [0, 1, 2, 3, 4, 5, 6, 8, 9, 10, 11, 12, 13, 14, 15, 16, 17, 18, 19, 20, 21, 22, 23, 24, 25, 26, 27, 28, 29, 30, 32, 33, 34, 96, 97, 98, 99]
  | .hg4 => [0, 1, 2, 3, 4, 5, 6, 8, 9, 10, 11, 16, 17, 18, 19, 24, 25, 26, 27, 32, 33, 34, 96, 97, 98, 99]
  | .hg2w => [0, 1, 2, 3, 4, 5, 6, 8, 9, 16, 17, 24, 25, 26, 27, 30, 32, 33, 34, 96, 97, 98, 99]
/-- Those units READY. -/
def allReady (v : Variant) : Tab UEntry := (unitsOf v).map fun n => (n, { state := .ready })
/-- A small block that runs: every unit READY, the UART session typed and the mailbox session in machine mode. -/
def upDev (v : Variant) : Dev :=
  let d := devReset { hg8Fuse with variant := v }
  { d with udir := { d.udir with ent := allReady v }, boot := { d.boot with phase := 4 },
           bip := { d.bip with sess := [(0, { live := true }), (1, { live := true, machine := true })] } }
def st (d : Dev) : State := { dev := d, pending := [] }
def up : State := st (upDev .hg8)
def up4 : State := st (upDev .hg4)
def up2 : State := st (upDev .hg2w)
def uart : BRef := { sid := 0, tag := "" }
def mbox : BRef := { sid := 1, tag := "a1" }
/-- The mailbox session with the given commands outstanding. -/
def outDev (l : List String) : Dev :=
  let d := upDev .hg8
  { d with bip := { d.bip with sess := [(0, { live := true }), (1, { live := true, machine := true, outst := l.map fun t => { tag := t, obj := .output } })] } }
def upDup : State := st (outDev ["a1", "b"])
def upFull : State := st (outDev (List.replicate 32 "b"))
def imgReed : List Byte := toBe 11264 0x4d58494d01000300000001000000000000280000000000008ca6e2e127ecfd871a014eab6f6b1b480a8633eae46a237678d553e721c8520f3ed2d0974687eb40f4b4a326a9ca298cc3260e891e2643eb265ce61650576a1c12c39c429a47cd21a25bda016bd3dbf9a903106a990928b4d2889ff08c4de161d1217c516bddd91a12e7fc22a8b5bacf2b8308c9a1e4023e375183a81577ac3f70cceeb7adfd61a79a56a019dec3ec720000000000000000000000000000000000000000000000000000000000000000000000000000000000000000000000000000000000000000000000000000000000000000000000000000000000000000000000000000000000000000000000000000000000000000000000000000000000000000000000000000000000000000000000000000000000000000000000000000000000000000000000000000000000000000000000000000000000000000000000000000000000000000000000000000000000000000000000000000000000000000000000000000000000000000000000000000000000000000000000000000000000000000000000000000000000000000000000000000000000000000000000000000000000000000000000000000000000000000000000000000000000000000000000000000000000000000000000000000000000000000000000000000000000000000000000000000000000000000000000000000000000000000000000000000000000000000000000000000000000000000000000000000000000000000000000000000000000000000000000000000000000000000000000000000000000000000000000000000000000000000000000000000000000000000000000000000000000000000000000000000000000000000000000000000000000000000000000000000000000000000000000000000000000000000000000000000000000000000000000000000000000000000000000000000000000000000000000000000000000000000000000000000000000000000000000000000000000000000000000000000000000000000000000000000000000000000000000000000000000000000000000000000000000000000000000000000000000000000000000000000000000000000000000000000000000000000000000000000000000000000000000000000000000000000000000000000000000000000000000000000000000000000000000000000000000000000000000000000000000000000000000000000000073bb93691320892d0902da5c0b2b2a041c76a5ef2c72d48965fb14dfff0ea2b9687642d0c2408621bbc003b5b51de64cb693ec78fa83695c89ccd5455ff4ddd1fa8dd59aacbbd3428338eab70607f7e7e260bb5dfae2a75d834612cfbe8cffe75242504b01000000002800000001000008010101000000000000000022156f2c0000000000000000000000000000000000000000000000000000000000000000c000000000000000c000000000000000c000000000000000c000000000000000c000000000000000c000000000000000c000000000000000c000000000100000c010000000040000c014000000020000c016000000000000c016000008110000c82700001000000000000000000000000000000000000000000000000000000000000000000000000000000000000000000000000000000000000000000000000000000000000000000000000000000000000000000000000000000000000000000000000000000000000000000000000000000000000000000000000000000000000000000000000000000000000000000000000000000000000000000000000000000000000000000000000000000000000000000000000000000000000000000000000000000000000000000000000000000000000000000000000000000000000000000000000000000000000000000000000000000000000000000000000000000000000000000000000000000000000000000000000000000000000000000000000000000000000000000000000000000000000000000000000000000000000000000000000000000000000000000000000000000000000000000000000000000000000000000000000000000000000000000000000000000000000000000000000000000000000000000000000000000000000000000000000000000000000000000000000000000000000000000000000000000000000000000000000000000000000000000000000000000000000000000000000000000000000000000000000000000000000000000000000000000000000000000000000000000000000000000000000000000000000000000000000000000000000000000000000000000000000000000000000000000000000000000000000000000000000000000000000000000000000000000000000000000000000000000000000000000000000000000000000000000000000000000000000000000000000000000000000000000000000000000000000000000000000000000000000000000000000000000000000000000000000000000000000000000000000000000000000000000000000000000000000000000000000000000000000000000000000000000000000000000000000000000000000000000000000000000000000000000000000000000000000000000000000000000000000000000000000000000000000000000000000000000000000000000000000000000000000000000000000000000000000000000000000000000000000000000000000000000000000000000000000000000000000000000000000000000000000000000000000000000000000000000000000000000000000000000000000000000000000000000000000000000000000000000000000000000000000000000000000000000000000000000000000000000000000000000000000000000000000000000000000000000000000000000000000000000000000000000000000000000000000000000000000000000000000000000000000000000000000000000000000000000000000000000000000000000000000000000000000000000000000000000000000000000000000000000000000000000000000000000000000000000000000000000000000000000000000000000000000000000000000000000000000000000000000000000000000000000000000000000000000000000000000000000000000000000000000000000000000000000000000000000000000000000000000000000000000000000000000000000000000000000000000000000000000000000000000000000000000000000000000000000000000000000000000000000000000000000000000000000000000000000000000000000000000000000000000000000000000000000000000000000000000000000000000000000000000000000000000000000000000000000000000000000000000000000000000000000000000000000000000000000000000000000000000000000000000000000000000000000000000000000000000000000000000000000000000000000000000000000000000000000000000000000000000000000000000000000000000000000000000000000000000000000000000000000000000000000000000000000000000000000000000000000000000000000000000000000000000000000000000000000000000000000000000000000000000000000000000000000000000000000000000000000000000000000000000000000000000000000000000000000000000000000000000000000000000000000000000000000000000000000000000000000000000000000000000000000000000000000000000000000000000000000000000000000000000000000000000000000000000000000000000000000000000000000000000000000000000000000000000000000000000000000000000000000000000000000000000000000000000000000000000000000000000000000000000000000000000000000000000000000000000000000000000000000000000000000000000000000000000000000000000000000000000000000000000000000000000000000000000000000000000000000000000000000000000000000000000000000000000000000000000000000000000000000000000000000000000000000000000000000000000000000000000000000000000000000000000000000000000000000000000000000000000000000000000000000000000000000000000000000000000000000000000000000000000000000000000000000000000000000000000000000000000000000000000000000000000000000000000000000000000000000000000000000000000000000000000000000000000000000000000000000000000000000000000000000000000000000000000000000000000000000000000000000000000000000000000000000000000000000000000000000000000000000000000000000000000000000000000000000000000000000000000000000000000000000000000000000000000000000000000000000000000000000000000000000000000000000000000000000000000000000000000000000000000000000000000000000000000000000000000000000000000000000000000000000000000000000000000000000000000000000000000000000000000000000000000000000000000000000000000000000000000000000000000000000000000000000000000000000000000000000000000000000000000000000000000000000000000000000000000000000000000000000000000000000000000000000000000000000000000000000000000000000000000000000000000000000000000000000000000000000000000000000000000000000000000000000000000000000000000000000000000000000000000000000000000000000000000000000000000000000000000000000000000000000000000000000000000000000000000000000000000000000000000000000000000000000000000000000000000000000000000000000000000000000000000000000000000000000000000000000000000000000000000000000000000000000000000000000000000000000000000000000000000000000000000000000000000000000000000000000000000000000000000000000000000000000000000000000000000000000000000000000000000000000000000000000000000000000000000000000000000000000000000000000000000000000000000000000000000000000000000000000000000000000000000000000000000000000000000000000000000000000000000000000000000000000000000000000000000000000000000000000000000000000000000000000000000000000000000000000000000000000000000000000000000000000000000000000000000000000000000000000000000000000000000000000000000000000000000000000000000000000000000000000000000000000000000000000000000000000000000000000000000000000000000000000000000000000000000000000000000000000000000000000000000000000000000000000000000000000000000000000000000000000000000000000000000000000000000000000000000000000000000000000000000000000000000000000000000000000000000000000000000000000000000000000000000000000000000000000000000000000000000000000000000000000000000000000000000000000000000000000000000000000000000000000000000000000000000000000000000000000000000000000000000000000000000000000000000000000000000000000000000000000000000000000000000000000000000000000000000000000000000000000000000000000000000000000000000000000000000000000000000000000000000000000000000000000000000000000000000000000000000000000000000000000000000000000000000000000000000000000000000000000000000000000000000000000000000000000000000000000000000000000000000000000000000000000000000000000000000000000000000000000000000000000000000000000000000000000000000000000000000000000000000000000000000000000000000000000000000000000000000000000000000000000000000000000000000000000000000000000000000000000000000000000000000000000000000000000000000000000000000000000000000000000000000000000000000000000000000000000000000000000000000000000000000000000000000000000000000000000000000000000000000000000000000000000000000000000000000000000000000000000000000000000000000000000000000000000000000000000000000000000000000000000000000000000000000000000000000000000000000000000000000000000000000000000000000000000000000000000000000000000000000000000000000000000000000000000000000000000000000000000000000000000000000000000000000000000000000000000000000000000000000000000000000000000000000000000000000000000000000000000000000000000000000000000000000000000000000000000000000000000000000000000000000000000000000000000000000000000000000000000000000000000000000000000000000000000000000000000000000000000000000000000000000000000000000000000000000000000000000000000000000000000000000000000000000000000000000000000000000000000000000000000000000000000000000000000000000000000000000000000000000000000000000000000000000000000000000000000000000000000000000000000000000000000000000000000000000000000000000000000000000000000000000000000000000000000000000000000000000000000000000000000000000000000000000000000000000000000000000000000000000000000000000000000000000000000000000000000000000000000000000000000000000000000000000000000000000000000000000000000000000000000000000000000000000000000000000000000000000000000000000000000000000000000000000000000000000000000000000000000000000000000000000000000000000000000000000000000000000000000000000000000000000000000000000000000000000000000000000000000000000000000000000000000000000000000000000000000000000000000000000000000000000000000000000000000000000000000000000000000000000000000000000000000000000000000000000000000000000000000000000000000000000000000000000000000000000000000000000000000000000000000000000000000000000000000000000000000000000000000000000000000000000000000000000000000000000000000000000000000000000000000000000000000000000000000000000000000000000000000000000000000000000000000000000000000000000000000000000000000000000000000000000000000000000000000000000000000000000000000000000000000000000000000000000000000000000000000000000000000000000000000000000000000000000000000000000000000000000000000000000000000000000000000000000000000000000000000000000000000000000000000000000000000000000000000000000000000000000000000000000000000000000000000000000000000000000000000000000000000000000000000000000000000000000000000000000000000000000000000000000000000000000000000000000000000000000000000000000000000000000000000000000000000000000000000000000000000000000000000000000000000000000000000000000000000000000000000000000000000000000000000000000000000000000000000000000000000000000000000000000000000000000000000000000000000000000000000000000000000000000000000000000000000000000000000000000000000000000000000000000000000000000000000000000000000000000000000000000000000000000000000000000000000000000000000000000000000000000000000000000000000000000000000000000000000000000000000000000000000000000000000000000000000000000000000000000000000000000000000000000000000000000000000000000000000000000000000000000000000000000000000000000000000000000000000000000000000000000000000000000000000000000000000000000000000000000000000000000000000000000000000000000000000000000000000000000000000000000000000000000000000000000000000000000000000000000000000000000000000000000000000000000000000000000000000000000000000000000000000000000000000000000000000000000000000000000000000000000000000000000000000000000000000000000000000000000000000000000000000000000000000000000000000000000000000000000000000000000000000000000000000000000000000000000000000000000000000000000000000000000000000000000000000000000000000000000000000000000000000000000000000000000000000000000000000000000000000000000000000000000000000000000000000000000000000000000000000000000000000000000000000000000000000000000000000000000000000000000000000000000000000000000000000000000000000000000000000000000000000000000000000000000000000000000000000000000000000000000000000000000000000000000000000000000000000000000000000000000000000000000000000000000000000000000000000000000000000000000000000000000000000000000000000000000000000000000000000000000000000000000000000000000000000000000000000000000000000000000000000000000000000000000000000000000000000000000000000000000000000000000000000000000000000000000000000000000000000000000000000000000000000000000000000000000000000000000000000000000000000000000000000000000000000000000000000000000000000000000000000000000000000000000000010000000000000002000000414200000000000000000000000000000000000000000000000000000000000000000000000000000000000000000000000000000000000000000000000000000000000000000000000000000000000000000000000000000000000000000000000000000000000000000000000000000000000000000000000000000000000000000000000000000000000000000000000000000000000000000000000000000000000000000000000000000000000000000000000000000000000000000000000000000000000000000000000000000000000000000000000000000000000000000000000000000000000000000000000000000000000000000000000000000000000000000000000000000000000000000000000000000000000000000000000000000000000000000000000000000000000000000000000000000000000000000000000000000000000000000000000000000000000000000000000000000000000000000000000000000000000000000000000000000000000000000000000000000000000000000000000000000000000000000000000000000000000000000000000000000000000000000000000000000000000000000000000000000000000000000000000000000000000000000000000000000000000000000000000000000000000000000000000000000000000000000000000000000000000000000000000000000000000000000000000000000000000000000000000000000000000000000000000000000000000000000000000000000000000000000000000000000000000000000000000000000000000000000000000000000000000000000000000000000000000000000000000000000000000000000000000000000000000000000000000000000000000000000000000000000000000000000000000000000000000000000000000000000000000000000000000000000000000000000000000000000000000000000000000000000000000000000000000000000000000000000000000000000000000000000000000000000000000000000000000000000000000000000000000000000000000000000000000000000000000000000000000000000000000000000000000000000000000000000000000000000000000000000000000000000000000000000000000000000000000000000000000000000000000000000000000000000000000000000000000000000000000000000000000000000000000000000000000000000000000000000000000000000000000000000000000000000000000000000000000000000000000000000000000000000000000000000000000000000000000000000000000000000000000000000000000000000000000000000000000000000000000000000000000000000000000000000000000000000000000000000000000000000000000000000000000000000000000000000000000000000000000000000000000000000000000000000000000000000000000000000000000000000000000000000000000000000000000000000000000000000000000000000000000000000000000000000000000000000000000000000000000000000000000000000000000000000000000000000000000000000000000000000000000000000000000000000000000000000000000000000000000000000000000000000000000000000000000000000000000000000000000000000000000000000000000000000000000000000000000000000000000000000000000000000000000000000000000000000000000000000000000000000000000000000000000000000000000000000000000000000000000000000000000000000000000000000000000000000000000000000000000000000000000000000000000000000000000000000000000000000000000000000000000000000000000000000000000000000000000000000000000000000000000000000000000000000000000000000000000000000000000000000000000000000000000000000000000000000000000000000000000000000000000000000000000000000000000000000000000000000000000000000000000000000000000000000000000000000000000000000000000000000000000000000000000000000000000000000000000000000000000000000000000000000000000000000000000000000000000000000000000000000000000000000000000000000000000000000000000000000000000000000000000000000000000000000000000000000000000000000000000000000000000000000000000000000000000000000000000000000000000000000000000000000000000000000000000000000000000000000000000000000000000000000000000000000000000000000000000000000000000000000000000000000000000000000000000000000000000000000000000000000000000000000000000000000000000000000000000000000000000000000000000000000000000000000000000000000000000000000000000000000000000000000000000000000000000000000000000000000000000000000000000000000000000000000000000000000000000000000000000000000000000000000000000000000000000000000000000000000000000000000000000000000000000000000000000000000000000000000000000000000000000000000000000000000000000000000000000000000000000000000000000000000000000000000000000000000000000000000000000000000000000000000000000000000000000000000000000000000000000000000000000000000000000000000000000000000000000000000000000000000000000000000000000000000000000000000000000000000000000000000000000000000000000000000000000000000000000000000000000000000000000000000000000000000000000000000000000000000000000000000000000000000000000000000000000000000000000000000000000000000000000000000000000000000000000000000000000000000000000000000000000000000000000000000000000000000000000000000000000000000000000000000000000000000000000000000000000000000000000000000000000000000000000000000000000000000000000000000000000000000000000000000000000000000000000000000000000000000000000000000000000000000000000000000000000000000000000000000000000000000000000000000000000000000000000000000000000000000000000000000000000000000000000000000000000000000000000000000000000000000000000000000000000000000000000000000000000000000000000000000000000000000000000000000000000000000000000000000000000000000000000000000000000000000000000000000000000000000000000000000000000000000000000000000000000000000000000000000000000000000000000000000000000000000000000000000000000000000000000000000000000000000000000000000000000000000000000000000000000000000000000000000000000000000000000000000000000000000000000000000000000000000000000000000000000000000000000000000000000000000000000000000000000000000000000000000000000000000000000000000000000000000000000000000000000000000000000000000000000000000000000000000000000000000000000000000000000000000000000000000000000000000000000000000000000000000000000000000000000000000000000000000000000000000000000000000000000000000000000000000000000000000000000000000000000000000000000000000000000000000000000000000000000000000000000000000000000000000000000000000000000000000000000000000000000000000000000000000000000000000000000000000000000000000000000000000000000000000000000000000000000000000000000000000000000000000000000000000000000000000000000000000000000000000000000000000000000000000000000000000000000000000000000000000000000000000000000000000000000000000000000000000000000000000000000000000000000000000000000000000000000000000000000000000000000000000000000000000000000000000000000000000000000000000000000000000000000000000000000000000000000000000000000000000000000000000000000000000000000000000000000000000000000000000000000000000000000000000000000000000000000000000000000000000000000000000000000000000000000000000000000000000000000000000000000000000000000000000000000000000000000000000000000000000000000000000000000000000000000000000000000000000000000000000000000000000000000000000000000000000000000000000000000000000000000000000000000000000000000000000000000000000000000000000000000000000000000000000000000000000000000000000000000000000000000000000000000000000000000000000000000000000000000000000000000000000000000000000000000000000000000000000000000000000000000000000000000000000000000000000000000000000000000000000000000000000000000000000000000000000000000000000000000000000000000000000000000000000000000000000000000000000000000000000000000000000000000000000000000000000000000000000000000000000000000000000000000000000000000000000000000000000000000000000000000000000000000000000000000000000000000000000000000000000000000000000000000000000000000000000000000000000000000000000000000000000000000000000000000000000000000000000000000000000000000000000000000000000000000000000000000000000000000000000000000000000000000000000000000000000000000000000000000000000000000000000000000000000000000000000000000000000000000000000000000000000000000000000000000000000000000000000000000000000000000000000000000000000000000000000000000000000000000000000000000000000000000000000000000000000000000000000000000000000000000000000000000000000000000000000000000000000000000000000000000000000000000000000000000000000000000000000000000000000000000000000000000000000000000000000000000000000000000000000000000000000000000000000000000000000000000000000000000000000000000000000000000000000000000000000000000000000000000000000000000000000000000000000000000000000000000000000000000000000000000000000000000000000000000000000000000000000000000000000000000000000000000000000000000000000000000000000000000000000000000000000000000000000000000000000000000000000000000000000000000000000000000000000000000000000000000000000000000000000000000000000000000000000000000000000000000000000000000000000000000000000000000000000000000000000000000000000000000000000000000000000000000000000000000000000000000000000000000000000000000000000000000000000000000000000000000000000000000000000000000000000000000000000000000000000000000000000000000000000000000000000000000000000000000000004000000001000000000000000000000000000000000000000000000000000000000000000000000000000000000000000000000000000000
def imgShoal : List Byte := toBe 1536 0x4d58494d0100030000000100000000000002000000000000c562a35b45d5d3958005ff2e7a8e56f8a1df327cd0c92b329ccc9c224f7a17de3a75e9ff49fa15395d40cce2f5cdf4a2c3260e891e2643eb265ce61650576a1c12c39c429a47cd21a25bda016bd3dbf9a903106a990928b4d2889ff08c4de161d1217c516bddd91a12e7fc22a8b5bacf2b8308c9a1e4023e375183a81577ac3f70cceeb7adfd61a79a56a019dec3ec72000000000000000000000000000000000000000000000000000000000000000000000000000000000000000000000000000000000000000000000000000000000000000000000000000000000000000000000000000000000000000000000000000000000000000000000000000000000000000000000000000000000000000000000000000000000000000000000000000000000000000000000000000000000000000000000000000000000000000000000000000000000000000000000000000000000000000000000000000000000000000000000000000000000000000000000000000000000000000000000000000000000000000000000000000000000000000000000000000000000000000000000000000000000000000000000000000000000000000000000000000000000000000000000000000000000000000000000000000000000000000000000000000000000000000000000000000000000000000000000000000000000000000000000000000000000000000000000000000000000000000000000000000000000000000000000000000000000000000000000000000000000000000000000000000000000000000000000000000000000000000000000000000000000000000000000000000000000000000000000000000000000000000000000000000000000000000000000000000000000000000000000000000000000000000000000000000000000000000000000000000000000000000000000000000000000000000000000000000000000000000000000000000000000000000000000000000000000000000000000000000000000000000000000000000000000000000000000000000000000000000000000000000000000000000000000000000000000000000000000000000000000000000000000000000000000000000000000000000000000000000000000000000000000000000000000000000000000000000000000000000000000000000000000000000000000000000000000000000000000000000000000000000000003b2ae5c8a077dfb82728a98c9c79de4607eace054fb6c12aedb0c5bddf0cd398023dfc168cce58c841183c0bd82138ea38a501831500f108e5d95a54c96216037ea697508d63f819c5483861f184073146d0c48c832b7ad685955cc663a7e69e5348504b01000000000200000100000001000000010001000000000000000000c70eb0560000000000000000000000000000000000000000000000000000000000000000000000000000000000000000000000000000000000000000000000000000000000000000000000000000000000000000000000000000000000000000000000000000000000000000000000000000000000000000000000000000000000000000000000000000000000000000000000000000000000000000000000000000000000000000000000000000000000000000000000000000000000000000000000000000000000000000000000000000000000000000000000000000000000000000000000000000000000000000000000000000000000000000000000000000000000000000000000000000000000000000000000000000000000000000000001000000000000000000000000000000000000000000000000000000000000000000000000000000000000000000000000000000000000000000000000000001000000000000000000000000000000000000000000000000000000000000000000000000000000000000000000000000000000000000000000000000000000000000000000000000000000000000000000000000000000000000000000000000000000000000000000000000000000000000000000000000000000000000
def imgTarn : List Byte := toBe 1200 0x4d58494d010003000000010000000000b000000000000000dae72ffa5163120b619dc54a68e71035ed2c914bc0ee7619de33b91cb66ca410d078bb3dbd5e766c5d4b231e72a40fccc3260e891e2643eb265ce61650576a1c12c39c429a47cd21a25bda016bd3dbf9a903106a990928b4d2889ff08c4de161d1217c516bddd91a12e7fc22a8b5bacf2b8308c9a1e4023e375183a81577ac3f70cceeb7adfd61a79a56a019dec3ec7200000000000000000000000000000000000000000000000000000000000000000000000000000000000000000000000000000000000000000000000000000000000000000000000000000000000000000000000000000000000000000000000000000000000000000000000000000000000000000000000000000000000000000000000000000000000000000000000000000000000000000000000000000000000000000000000000000000000000000000000000000000000000000000000000000000000000000000000000000000000000000000000000000000000000000000000000000000000000000000000000000000000000000000000000000000000000000000000000000000000000000000000000000000000000000000000000000000000000000000000000000000000000000000000000000000000000000000000000000000000000000000000000000000000000000000000000000000000000000000000000000000000000000000000000000000000000000000000000000000000000000000000000000000000000000000000000000000000000000000000000000000000000000000000000000000000000000000000000000000000000000000000000000000000000000000000000000000000000000000000000000000000000000000000000000000000000000000000000000000000000000000000000000000000000000000000000000000000000000000000000000000000000000000000000000000000000000000000000000000000000000000000000000000000000000000000000000000000000000000000000000000000000000000000000000000000000000000000000000000000000000000000000000000000000000000000000000000000000000000000000000000000000000000000000000000000000000000000000000000000000000000000000000000000000000000000000000000000000000000000000000000000000000000000000000000000000000000000000000000000000000000000000000000f78f067b15ac39c18c542337758123073167c63ffbc89b845a20788bedba6def007f661f27703ba2404267f88f3040e3415433cf7bdb4e5dd3337edb8c7dc931dc65dc7ee3db503fc9f8216074fe194575c6990abd1516b3ab6e2f8f76310e83544e504b01000100b000000001000000010000000100010000000000000000000000000014dd58ba00000000000000000000000000000000000000000000000001000100000000000000000500000000000000000000000000000000000000000000000000000000000000000000000000000000000000000000000000000000000000000000000000000000000000000000000000000000000000000000000000200000000000000000000000000000
def imgWell : List Byte := toBe 1536 0x4d58494d01000300000001000000000000020000000000005467f91103fb44920313c15c5295658093320a9f510626a9c4932ac105f24c09b47cd60b74cdfc95f0c7dac2dfa42e1ec3260e891e2643eb265ce61650576a1c12c39c429a47cd21a25bda016bd3dbf9a903106a990928b4d2889ff08c4de161d1217c516bddd91a12e7fc22a8b5bacf2b8308c9a1e4023e375183a81577ac3f70cceeb7adfd61a79a56a019dec3ec7200000000000000000000000000000000000000000000000000000000000000000000000000000000000000000000000000000000000000000000000000000000000000000000000000000000000000000000000000000000000000000000000000000000000000000000000000000000000000000000000000000000000000000000000000000000000000000000000000000000000000000000000000000000000000000000000000000000000000000000000000000000000000000000000000000000000000000000000000000000000000000000000000000000000000000000000000000000000000000000000000000000000000000000000000000000000000000000000000000000000000000000000000000000000000000000000000000000000000000000000000000000000000000000000000000000000000000000000000000000000000000000000000000000000000000000000000000000000000000000000000000000000000000000000000000000000000000000000000000000000000000000000000000000000000000000000000000000000000000000000000000000000000000000000000000000000000000000000000000000000000000000000000000000000000000000000000000000000000000000000000000000000000000000000000000000000000000000000000000000000000000000000000000000000000000000000000000000000000000000000000000000000000000000000000000000000000000000000000000000000000000000000000000000000000000000000000000000000000000000000000000000000000000000000000000000000000000000000000000000000000000000000000000000000000000000000000000000000000000000000000000000000000000000000000000000000000000000000000000000000000000000000000000000000000000000000000000000000000000000000000000000000000000000000000000000000000000000000000000000000000000000000000000000a2d28a557a97584c9ecca44fbe8fb96b94252179b0db573810e30beb91c5009b85bf09b5a5aee50012c9cb7931834126514ba2aae00b7cfa374e4d4e235b4a0d32a28a2329761b04284f31c2272560f3290808e4883d7a00b2d0a4b4f41f0e195748504b01000100000200001597b65800000000000000000000000000000000010000000000000000000000000000008001000000000000000000000000000000000000000000000000000000000000000000000000000000000000000000000000000000000000000000000000000000000000000000000000000000000000000000000000000000000000000000000000000000000000000000000000000000000000000000000000000000000000000000000000000000000000000000000000000000000000000000000000000000000000000000000000000000000000000000000000000000000000000000000000000000000000000000000000000000000000000000000000000000000000000000000000000000000000000000000000000000000000000000000000000000000000000000000000000000000000000000000000000000000000000000000000000000000000000000000000000000000000000000000000000000000000000000000000000000000000000000000000000000000000000000000000000000000000000000000000000000000000000000000000000000000000000000000000000000000000000000000000000000000000000000000000000000000000000000000000000000000000000000000000000000000000000000000000000000000000000000000000000000000000
def imgLong : List Byte := toBe 1344 0x4d58494d01000400000001000000000040010000000000001020f03cf80dfb49aaffa747bbc7e125d3f5913478147ade539bf896c9207cd6f86189e5c1ee7688306583fc0028264dc3260e891e2643eb265ce61650576a1c12c39c429a47cd21a25bda016bd3dbf9a903106a990928b4d2889ff08c4de161d1217c516bddd91a12e7fc22a8b5bacf2b8308c9a1e4023e375183a81577ac3f70cceeb7adfd61a79a56a019dec3ec7200000000000000000000000000000000000000000000000000000000000000000000000000000000000000000000000000000000000000000000000000000000000000000000000000000000000000000000000000000000000000000000000000000000000000000000000000000000000000000000000000000000000000000000000000000000000000000000000000000000000000000000000000000000000000000000000000000000000000000000000000000000000000000000000000000000000000000000000000000000000000000000000000000000000000000000000000000000000000000000000000000000000000000000000000000000000000000000000000000000000000000000000000000000000000000000000000000000000000000000000000000000000000000000000000000000000000000000000000000000000000000000000000000000000000000000000000000000000000000000000000000000000000000000000000000000000000000000000000000000000000000000000000000000000000000000000000000000000000000000000000000000000000000000000000000000000000000000000000000000000000000000000000000000000000000000000000000000000000000000000000000000000000000000000000000000000000000000000000000000000000000000000000000000000000000000000000000000000000000000000000000000000000000000000000000000000000000000000000000000000000000000000000000000000000000000000000000000000000000000000000000000000000000000000000000000000000000000000000000000000000000000000000000000000000000000000000000000000000000000000000000000000000000000000000000000000000000000000000000000000000000000000000000000000000000000000000000000000000000000000000000000000000000000000000000000000000000000000000000000000000000000000000000000c93898592d8b37ff01fdca90fd5a840e311c891d6cc6fa999fb10c0661333176a86614a6e9d4acd7075b5bad034eb3c2849f406dd6725afed3c28deb36e9a29bad6f0092b254098bc259b9c2c1169c3b829d0d25dca850166ae08506ea3fb9334c47494d0100000040000000000000000000000000000000000000000000010101000000000000000000000000407e050000000000000000000000005c2b42b700000000000000000000000000000000000000000000000000000000000000000000000000000000000000000000000000000000000000000000000000000000000000000000000000000000000000000000000000000000000000000000000000000000000000000000000000000000000000000000000000000000000000000000000000000000000000000000000000000000000000000000000000000000000000000000000000000000000000000000000000000000000000000000000000000000000000000000000000000000000000000000000000000000000000000000000000000000000000000000000000000000000000000000000000000000
def imgShore : List Byte := toBe 1088 0x4d58494d0100010000000100000000004000000000000000c516aa8d3b457c636c6826937099c0d23a13f2c3701a388b3c8fe4bc2073281b0c4462610369884c4ababa8e97b6debec3260e891e2643eb265ce61650576a1c12c39c429a47cd21a25bda016bd3dbf9a903106a990928b4d2889ff08c4de161d1217c516bddd91a12e7fc22a8b5bacf2b8308c9a1e4023e375183a81577ac3f70cceeb7adfd61a79a56a019dec3ec720000000000000000000000000000000000000000000000000000000000000000000000000000000000000000000000000000000000000000000000000000000000000000000000000000000000000000000000000000000000000000000000000000000000000000000000000000000000000000000000000000000000000000000000000000000000000000000000000000000000000000000000000000000000000000000000000000000000000000000000000000000000000000000000000000000000000000000000000000000000000000000000000000000000000000000000000000000000000000000000000000000000000000000000000000000000000000000000000000000000000000000000000000000000000000000000000000000000000000000000000000000000000000000000000000000000000000000000000000000000000000000000000000000000000000000000000000000000000000000000000000000000000000000000000000000000000000000000000000000000000000000000000000000000000000000000000000000000000000000000000000000000000000000000000000000000000000000000000000000000000000000000000000000000000000000000000000000000000000000000000000000000000000000000000000000000000000000000000000000000000000000000000000000000000000000000000000000000000000000000000000000000000000000000000000000000000000000000000000000000000000000000000000000000000000000000000000000000000000000000000000000000000000000000000000000000000000000000000000000000000000000000000000000000000000000000000000000000000000000000000000000000000000000000000000000000000000000000000000000000000000000000000000000000000000000000000000000000000000000000000000000000000000000000000000000000000000000000000000000000000000000000000000000049b12ac20fe5f4cba2ce18cfbd496363925a30b494664d9ca1371797cef13d2e087e4e6d73dcff02dbd375d80103c701dd2a72e9da11030db439b0dd0819432858d309bac68e86c2e343c2f8675217c0d50aa9ebdf4a7785d711d8a866f2b12100000000000000000000000000000000000000000000000000000000000000000000000000000000000000000000000000000000000000000000000000000000
def imgKern : List Byte := toBe 1088 0x4d58494d0100020000000100000000004000000000000000c516aa8d3b457c636c6826937099c0d23a13f2c3701a388b3c8fe4bc2073281b0c4462610369884c4ababa8e97b6debec3260e891e2643eb265ce61650576a1c12c39c429a47cd21a25bda016bd3dbf9a903106a990928b4d2889ff08c4de161d1217c516bddd91a12e7fc22a8b5bacf2b8308c9a1e4023e375183a81577ac3f70cceeb7adfd61a79a56a019dec3ec72000000000000000000000000000000000000000000000000000000000000000000000000000000000000000000000000000000000000000000000000000000000000000000000000000000000000000000000000000000000000000000000000000000000000000000000000000000000000000000000000000000000000000000000000000000000000000000000000000000000000000000000000000000000000000000000000000000000000000000000000000000000000000000000000000000000000000000000000000000000000000000000000000000000000000000000000000000000000000000000000000000000000000000000000000000000000000000000000000000000000000000000000000000000000000000000000000000000000000000000000000000000000000000000000000000000000000000000000000000000000000000000000000000000000000000000000000000000000000000000000000000000000000000000000000000000000000000000000000000000000000000000000000000000000000000000000000000000000000000000000000000000000000000000000000000000000000000000000000000000000000000000000000000000000000000000000000000000000000000000000000000000000000000000000000000000000000000000000000000000000000000000000000000000000000000000000000000000000000000000000000000000000000000000000000000000000000000000000000000000000000000000000000000000000000000000000000000000000000000000000000000000000000000000000000000000000000000000000000000000000000000000000000000000000000000000000000000000000000000000000000000000000000000000000000000000000000000000000000000000000000000000000000000000000000000000000000000000000000000000000000000000000000000000000000000000000000000000000000000000000000000000000000000005db0240f486f53a0cb531f781767bcaadf7b3e1ebfbe8cb05c5c75a743904b6515d232ed2680cbf7177ccda69d532bc33544ae5cfe8b94b7f86c2a18507b50dc001f46798222ffa9b5d7a1122676f935b556c411f3254933997bd9af7339c9b300000000000000000000000000000000000000000000000000000000000000000000000000000000000000000000000000000000000000000000000000000000
def nzMem (a : Nat) (b : List Byte) : Mem := (((List.range b.length).map (a + ·)).zip b).filter fun x => x.2 ≠ 0
def onUp (f : Dev → Dev) : State := st (f (upDev .hg8))
def onUp2 (f : Dev → Dev) : State := st (f (upDev .hg2w))
def staged (b : List Byte) : State := onUp fun d => { d with mere := { d.mere with mem := nzMem 0x6000000 b } }
def stored (v : Variant) (n : Nat) (b : List Byte) : State := let d := upDev v
  st { d with boot := { d.boot with flash := (((List.range b.length).map (0x1000000 + ·)).zip b).filter (fun x => x.2 ≠ 0xFF), dir := [{ n := n, copyB := false, hbm := false, addr := 0x1000000, len := b.length, active := true }] } }
def withSess (i : Nat) (s : Session) : State := onUp fun d => { d with bip := { d.bip with sess := tabSet (fun _ => {}) d.bip.sess i s } }
def ents (l : List (Nat × UEntry)) (d : Dev) : Dev := l.foldl (fun d x => uentSet x.1 x.2 d) d
def mixA : State := onUp fun d => { ents [(4, { state := .draining, target := some .off, gen := 3 }), (5, { state := .draining, target := some .reset, cause := .req, drainEnd := 100 }), (6, { state := .updating }),
  (25, { state := .waking, wakeEnd := 50 }), (9, { state := .off }), (8, { state := .faulted, pend := some .off, who := some (.udir 3), ackBy := 2 }),
  (16, { state := .ready, pend := some .off, who := some (.udir 1) }), (17, { state := .ready, pend := some .ice, who := some .thermo }), (18, { state := .off, pend := some .on, who := some (.bipol 1 "a1" true) }),
  (19, { state := .faulted, pend := some .reset, who := some .agent }), (20, { state := .off, pend := some .update, who := some .load }), (21, { state := .ice, pend := some .exit, who := some .thermo }),
  (22, { state := .ice, pend := some .abandon, who := some .thermo }), (23, { state := .ready, pend := some .reset, who := some (.bipol 1 "b" false) }), (30, { state := .draining, target := some .update }), (7, { state := .draining, target := some .ice, drainEnd := 20000000 }),
  (33, { state := .waking, wakeEnd := 1 }) ] d with gauge := 1000 }
def takenSt : State := onUp fun d => { d with udir := { d.udir with taken := true } }
def waitSt : State := onUp fun d => { d with udir := { d.udir with waiting := [{ path := .udir 3, unit := 16, act := 3, gen := 0 }] } }
def msiSt : State := onUp fun d => { d with host := { d.host with bme := true, msixEn := true, vecTab := ((List.range 2048).map fun v => (4 * v + 3, (0 : W32))), bar4 := 34 }, imask := [(3, true), (5, true)], note := [(1, { bits := 3, en := 1 }), (2, { bits := 1, en := 3, sets := 1 })] }
def msiMask : State := onUp fun d => { d with host := { d.host with bme := true, msixEn := true } }
def ringSt : State := onUp fun d => { d with gauge := 100000, host := { d.host with bme := true, msixEn := true, sub := [(3, { enable := true, log2 := 4, cq := 5, head := 1, tail := 3, next := 1 }), (9, { log2 := 4 })], cpl := [(5, { enable := true, log2 := 4, head := 0, tail := 2, time := 1, since := 1, firstAt := 99000, count := 2 }), (7, { enable := true, log2 := 4, tail := 2, time := 1, since := 1, firstAt := 3 })] } }
def desc (kindStream flags plen : Nat) (inl : List Byte := []) : List Byte := padTo 64 (toLe 2 kindStream ++ toLe 2 flags ++ toLe 4 plen ++ toLe 8 77 ++ toLe 8 0x1000 ++ toLe 8 0x2000 ++ toLe 4 256 ++ inl)
def routeSt : State := let s := ringSt; { s with dev := { s.dev with weir := { s.dev.weir with live := [(2, [{ epoch := 1, img := padTo 128 [0, 1, 0xC0, 255, 0,0,0,0, 0,0,0x10,0] }])], bind := [(5, 0x01020102)] } } }
def retrySt (n x due : Nat) : State := let s := routeSt; { s with dev := { s.dev with host := { s.dev.host with retries := [{ ring := n, lidx := x, due := due }] } } }
def sluX (n : Nat) (f : Sluice → Sluice) : State := onUp fun d => sluSet n (f (slu n d)) d
def w0 : SWord := { data := List.replicate 64 1, first := true, last := false, valid := 64, fresh := false }
def w1 : SWord := { data := List.replicate 64 2, first := false, last := false, valid := 64, fresh := false }
def w2 : SWord := { data := List.replicate 64 3, first := false, last := true, valid := 5, fresh := false }
def rImg (fl1 fl2 dl win : Nat) (st : List (List Nat)) : List Byte := padTo 128 (toLe 1 0 ++ toLe 1 fl1 ++ toLe 1 fl2 ++ toLe 1 0x2A ++ toLe 2 1 ++ toLe 2 0 ++ toLe 8 dl ++ toLe 8 win ++ toLe 40 0 ++ st.flatMap (fun l => padTo 8 (l.map (BitVec.ofNat 8))))
def img4 : List Byte := rImg 0x1D 0xC5 200000 500000 [[1, 0, 0, 0], [2, 0, 0, 0], [3], [4, 3], [6, 0, 0x0B, 0, 0]]
def it0 : Item := { stream := 5, kind := 1, dir := 0, seq := 4, route := 2, epoch := 1, admitAt := 0, deadline := 200000, early := false, payload := [0x61, 0x62], whole := true, host := true, cq := 5, stages := [.idle, .idle, .idle, .idle, .idle], products := [[], [], [], [], []] }
def itemDev (img : List Byte) (it : Item) (r : LRec) (d : Dev) : Dev := { d with gauge := 100000, tickN := 20000, weir := { d.weir with live := [(2, [{ epoch := 1, img := img }])], items := [(7, it)] }, ledger := { d.ledger with recs := [(7, r)] } }
def rec0 : LRec := { phase := 1, stream := 5, kind := 1, route := 2, epoch := 1, seq := 4, cq := 5 }
def itemSt (it : Item) (r : LRec := rec0) (img : List Byte := img4) : State := onUp (itemDev img it r)
def itR : Item := { it0 with stages := [.sent 0 0, .sent 0 0, .done abstain, .sent 0 0, .idle] }
def itDone : Item := { it0 with stages := [.done { prop := .pass }, .done { prop := .mask, spans := [(0, 1)] }, .done abstain, .done { prop := .pass }, .combining 15000] }
def staleRoute : State := onUp fun d => routeStageSet 3 (rImg 1 0xC2 200000 500000 [[2], [6, 0, 1]]) { d with weir := { d.weir with live := [(3, [{ epoch := 1, img := img4 }])] } }
def cw (r e : Nat) : CommitWait := { hold := true, sid := 1, tag := "a1", route := r, epoch := e }
def holdSt (okImg : Bool) (e : Nat) (two : Bool) : State := onUp fun d => routeStageSet 3 (if okImg then rImg 1 0xC2 200000 500000 [[2], [6, 0, 1]] else rImg 1 0xCF 0 0 []) { d with weir := { d.weir with waits := [cw 3 e], live := [(3, { epoch := 1, img := img4 } :: (if two then [{ epoch := 0, img := img4 }] else []))] }, bip := { d.bip with sess := [(1, { live := true, machine := true, outst := [{ tag := "a1", obj := .commit 3 }] })] } }
def adm0 : AdmitIn := { stream := 5, kind := 1, dir := 0, payload := [1, 2], whole := true, host := true, src := 0, rbuf := 0, rlen := 0, cookie := 77, subidx := 1, subring := 3, cq := 5, settle := false }
def reply (k : Nat) (p : Pkt) (it : Item) : State := onUp fun d => let d := itemDev img4 it rec0 d; let d := (putPkt k p d).getD d; sluMod k (fun x => { x with words := x.words.map fun w => { w with fresh := false } }) d
def rbody (i f ep sq : Nat) (prod : List Byte := []) : List Byte := toLe 1 i ++ toLe 1 f ++ toLe 2 0 ++ toLe 12 0 ++ toLe 2 ep ++ toLe 2 0 ++ toLe 4 sq ++ toLe 28 0 ++ prod
def itAll : List Item := [it0, itR, itDone,
  { it0 with kind := 3 }, { it0 with kind := 4 }, { it0 with stages := [.waiting, .idle, .idle, .idle, .idle] }, { it0 with stages := [.done { prop := .pass }, .waiting, .idle, .idle, .idle] },
  { it0 with stages := [.done { prop := .pass }, .sent 0 0, .idle, .idle, .idle] }, { it0 with stages := [.sent 0 0, .sent 0 0, .done abstain, .idle, .idle] },
  { itDone with result := some { prop := .pass }, readyAt := 90000, early := true, deadline := 150000 }, { itDone with result := some { prop := .mask, spans := [(0, 1)] }, readyAt := 99990, early := true, deadline := 150000 },
  { itDone with result := some { prop := .pass }, readyAt := 99990, deadline := 100000, early := true }, { it0 with deadline := 99000 }, { it0 with kind := 2, dir := 1, deadline := 100001 },
  { itDone with stages := itDone.stages.set 4 (.combining 19995) }, { itDone with stages := [.done { prop := .pass }, .combining 9990, .done abstain, .done { prop := .pass }, .idle] },
  { it0 with released := true, late := true, deadline := 90000, result := some { prop := .block }, readyAt := 95000 }, { it0 with released := true, late := true, deadline := 90000, result := some { prop := .block }, readyAt := 99999 },
  { it0 with released := true, late := true, deadline := 90000 }]
def itStates : List State := (itAll.map fun it => itemSt it) ++ (itAll.map fun it => itemSt it { rec0 with mark := 3, refetch := true }) ++ (itAll.map fun it => itemSt it { rec0 with deliv := 1 }) ++
  (itAll.map fun it => st (uentSet 4 { state := .draining } (itemDev img4 it rec0 (upDev .hg8)))) ++ (itAll.map fun it => st (uentSet 5 { state := .off } (uentSet 4 { state := .off } (itemDev img4 it rec0 (upDev .hg8))))) ++
  (itAll.map fun it => st (let d := itemDev img4 it rec0 (upDev .hg8); cplSet 5 { enable := true, log2 := 4 } { d with weir := { d.weir with streams := [(11, { cuts := [(0, 0)], ansN := 0 })] } })) ++
  (itAll.map fun it => st (let d := itemDev (rImg 0x19 0xC5 200000 5000 [[1, 0, 0, 0], [6, 0, 1], [3], [5], [6, 0, 0x0B, 0, 0]]) it rec0 (upDev .hg8); cplSet 5 { enable := true, log2 := 4 } d)) ++
  (itAll.map fun it => st (let d := itemDev img4 it rec0 (upDev .hg8); sluMod 143 (fun x => { x with opened := true }) d))
def itK4 : Item := { it0 with stages := [.done { prop := .pass }, .sent 0 0, .done abstain, .idle, .idle], products := [padTo 192 [1], [], [], [], []] }
def itK5 : Item := { it0 with kind := 4, stages := [.done abstain, .idle, .done abstain, .idle, .idle] }
def img5 : List Byte := rImg 0x19 0xC5 200000 5000 [[1, 0, 0, 0], [6, 0, 1], [3], [5], [6, 0, 0x0B, 0, 0]]
def pk (l gen : Nat) (absent aborted : Bool) (b : List Byte) : Pkt := { stream := 5, kind := 1, gen := gen, lidx := l, absent := absent, aborted := aborted, body := b }
def commitS (k : Nat) (d : Dev) : Dev := sluMod k (fun x => { x with words := x.words.map fun w => { w with fresh := false } }) d
def withPkt (k : Nat) (p : Pkt) (d : Dev) : Dev := commitS k ((putPkt k p d).getD d)
def reqPkt (it : Item) (table : Nat) (flush : Bool := false) : Pkt := { stream := it.stream, kind := it.kind, lidx := 7, body := engineBody it 1 table flush .payload }
def withPacks (d : Dev) : Dev := tarnSlotSet 0 { base := 0, bytes := imgPayload imgTarn } (shoalSlotSet 0 { base := 0, bytes := imgPayload imgShoal } (reedSlotSet 0 { base := 0, bytes := imgPayload imgReed } d))
def packUp (f : Dev → Dev) : State := st (f (withPacks (upDev .hg8)))
def itAns : Item := { it0 with kind := 2, dir := 1, payload := toLe 4 65 ++ toLe 4 66 }
def reedStates : List State := [it0, { it0 with payload := [0x61] }, { itAns with payload := toLe 4 67 }, { it0 with payload := List.replicate 70 0x61 }, itAns, { itAns with kind := 6, payload := [] }].flatMap fun it =>
  [packUp (withPkt 143 (reqPkt it 0)), packUp (withPkt 143 (reqPkt it 1)),
   packUp fun d => withPkt 143 (reqPkt it 0) (reedCarrySet 5 { now := { held := [1] }, seq := 3, mark := false } d), packUp fun d => withPkt 143 (reqPkt it 0) (reedCarrySet 5 { now := { held := [1] }, seq := 9, mark := false } d),
   packUp fun d => withPkt 143 (reqPkt it 0) (reedCarrySet 5 { was := { held := [2] }, seq := 4, mark := false } d), packUp fun d => withPkt 143 (reqPkt it 0) { d with reed := { d.reed with reload := [0] } }]
def pkR : Pkt := { stream := 5, kind := 1, lidx := 7, body := rbody 1 1 1 4 }
def openStates : List State := [packUp fun d => { d with reed := { d.reed with waiting := [pkR] } }, packUp fun d => sluMod 144 (fun x => { x with opened := true }) { d with reed := { d.reed with waiting := [pkR, pkR] } },
  packUp fun d => sluMod 144 (fun x => { x with words := [{ w0 with fresh := true, last := true }] }) { d with reed := { d.reed with waiting := [pkR] } }]
def shoalStates : List State := [it0, itAns, { itAns with kind := 6, payload := [] }].flatMap fun it =>
  let p := reqPkt it 0
  [packUp (withPkt 145 p), packUp fun d => withPkt 145 p (scannerSet 0 (some (reqPkt itAns 0)) d), packUp fun d => withPkt 145 p (forN 16 (fun i d => scannerSet i (some { p with stream := 90 + i }) d) d),
   packUp (scannerSet 2 (some p)), packUp fun d => scannerSet 2 (some p) { d with shoal := { d.shoal with reload := [0] } }, packUp fun d => scannerSet 2 (some p) (sluMod 146 (fun x => { x with opened := true }) d)]
def itRow : Item := { it0 with kind := 3, payload := [7] }
def rowA : TarnRow := { pkt := reqPkt itRow 0, slot := 0, prof := 0, sums := [0] }
def tarnT (f : Tarn → Tarn) : State := packUp fun d => { d with tarn := f d.tarn }
def tarnStates : List State := [packUp (withPkt 147 (reqPkt itRow 0)), packUp (withPkt 147 (reqPkt itRow 1)), packUp (withPkt 147 (reqPkt { itRow with payload := [1, 2, 3] } 0)), tarnT fun t => { t with sieve := some rowA },
  tarnT fun t => { t with walk := List.replicate 16 rowA, sieve := some rowA }, tarnT fun t => { t with walk := [rowA] }, tarnT fun t => { t with walk := [{ rowA with nextT := 1 }, rowA] }, tarnT fun t => { t with walk := [{ rowA with bad := 1 }] },
  packUp fun d => sluMod 148 (fun x => { x with opened := true }) { d with tarn := { d.tarn with walk := [{ rowA with nextT := 1 }] } }]
def tA : Tile := { off := 0, row0 := 2, nrows := 3, len := 4, fmt := 0, bad := false }
def tF : Tile := { off := 64, row0 := 2, nrows := 3, len := 5, fmt := 7, bad := false }
def stm : Sys2Proof.Machine.Stream := { src := .hbm 0, len := streamLen 4 6 0 0, k := 4, ncol := 6, wfmt := 0, lay := 0, group := none, twin := false, named := true }
def bst0 : Basin := { store := ((List.range 200).map fun i => (laneAt (2 + i / 64) (i % 64), BitVec.ofNat 8 (3 * i + 1))).filter (fun x => x.2 ≠ 0) |> fun l => l.foldl (fun m x => tabSet (fun _ => 0) m x.1 x.2) [], pois := [(laneAt 3 0 / 64, true)], acc := [(512 * 2 + 1, 9), (512 * 3 + 2, 0x7FFFFFF0), (262144 + 512 * 4, 5)], accPois := [(4, true)] }
def basSt (q : List BQ) : State := onUp fun d => { basinSet 1 { bst0 with queue := q } d with hbm := { d.hbm with mem := (List.range 400).map fun i => (i, BitVec.ofNat 8 (i % 250 + 1)) } }
def qAcc : BQ := { op := .acc 0 tF 5 true (some tF), started := false }
def qMac : BQ := { op := .mac 0 tA stm 3, started := true }
def qDrn : BQ := { op := .drain 0 { tF with off := 128, fmt := 0 } 0 3 1 2 false 0, started := false }
def gsX : GStream := { st := { stm with group := some 2 }, members := 2 }
def rnd (n : Nat) : Nat := (n * 6364136223846793005 + 1442695040888963407) / 65536 % 18446744073709551616
def vreg (k : Nat) : List Byte := (List.range 512).map fun i => BitVec.ofNat 8 (rnd (512 * k + i))
def fvreg (k : Nat) : List Byte := (List.range 128).flatMap fun i => toLe 4 (0x3F000000 + rnd (128 * k + i) % 0x2000000)
def core0 : Core := { pc := 64, p := 0x55, g := [(1, 0), (2, BitVec.ofInt 64 (-3)), (3, 128), (4, 0x8000000000000000), (5, 7), (6, 0x0123456789ABCDEF), (8, 0x7FFFF00), (9, 0x8000000), (31, 64)], gP := [(5, true)], v := [(1, vreg 1), (2, fvreg 2), (3, vreg 3), (5, fvreg 5), (7, List.replicate 512 0xFF)], vP := [(8 * 3 + 2, true)], t := [(1, toLe 16 (64 + 2 * 2 ^ 14)), (2, padTo 16 [1, 2, 3, 4, 5, 6, 7])] }
def coreDev (k : Core) (d : Dev) : Dev := { d with gauge := 5000, longs := { d.longs with core := [(1, k)] } }
def ker : State := onUp (coreDev core0)
def modelHdr (code : Nat) : List Byte := (imgPayload imgLong).take 8 ++ toLe 4 code ++ ((imgPayload imgLong).drop 12).take 244
def bi0 : BItem := { lidx := 7, stream := 5, dir := 0, kind := 1, epoch := 1, seq := 4, stage := 3, row0 := 0, nrows := 1, inaddr := 0x500000, inlen := 64, deadline := 200000, prio := 1 }
def bat0 : Batch := { slot := 2, entry := 0, items := [bi0], lane := 1, openAt := 4000, input := 64 }
def prg0 : Core := { core0 with prog := true, running := some bat0, budget := 9000000, slots := [(2, { hdr := modelHdr 4096, dataAt := 0xC00000 })], batchK := 0x400000, dataK := 0xC00000 }
def prg : State := onUp (coreDev prg0)
def coreStates : List State := [ker, prg, onUp (coreDev { core0 with gP := [(5, true), (3, true)], vP := [] })]
def drainHdr : Nat := 3 + 2 ^ 32 * 1 + 2 ^ 40 * 2
def coreT : Core := { prg0 with t := [(1, toLe 16 (64 + 2 * 2 ^ 16 + 3 * 2 ^ 32 + 4 * 2 ^ 48)), (2, padTo 16 [1, 2, 3, 4, 5, 6, 7]), (3, toLe 16 (64 + 2 * 2 ^ 16 + 3 * 2 ^ 32 + 5 * 2 ^ 48 + 7 * 2 ^ 64))], handles := [(1, some { stm with named := false }), (2, some { stm with named := true })], g := core0.g ++ [(10, BitVec.ofNat 64 drainHdr), (11, 64), (12, 2), (13, BitVec.ofNat 64 (64 + 65536 * 2)), (14, 0x500000), (15, 1024)], gP := [] }
def tileStates : List State := [onUp (coreDev coreT), onUp fun d => basinSet 1 { bst0 with queue := [qMac] } (coreDev coreT d), onUp (coreDev { coreT with prog := false }), onUp fun d => sessDirPut 2 { rows := 8, rowb := 128, fmt := 1, opened := true, first := 0, last := 0 } (coreDev coreT d), onUp fun d => sessDirPut 2 { rows := 8, rowb := 128, fmt := 1, opened := true, first := 0, last := 0 } (coreDev { coreT with prog := false } d)]
def sluK (i : Nat) (f : Sluice → Sluice) (k : Core) : State := onUp fun d => let d := coreDev k d; sluSet (idxSluice 1 i) (f (slu (idxSluice 1 i) d)) d
def slotStates : List State := tileStates ++ [0, 2, 8].flatMap fun i => [sluK i (fun x => { x with words := [w0, w2] }) coreT, sluK i (fun x => { x with words := [w0, w2] }) { coreT with prog := false }, sluK i (fun x => { x with abortP := true, abortS := 3 }) { coreT with prog := false }]
def wrStates : List State := [1, 4, 3].flatMap fun i => [sluK i (fun x => { x with opened := true, openN := 2 }) { coreT with prog := i ≠ 3 }, sluK i (fun x => { x with words := List.replicate (64 * x.res) w1, opened := true, openN := 5 }) { coreT with prog := i ≠ 3 }, sluK i (fun x => x) { coreT with prog := i ≠ 3, discard := 2 ^ i }, sluK i (fun x => { x with words := List.replicate (64 * x.res) w1 }) { coreT with prog := i ≠ 3, discard := 2 ^ i }]
def lHdr (lanes gather : Nat) (kind : Nat := 0) (stm : Nat := 0) : List Byte := padTo 256 ((imgPayload imgLong).take 28 ++ toLe 2 stm ++ [1, 1] ++ toLe 2 lanes ++ toLe 2 0 ++ toLe 8 gather ++ toLe 8 92160000 ++ [3] ++ toLe 1 kind)
def kBody (table inlen kind : Nat) : List Byte := toLe 1 4 ++ toLe 1 kind ++ toLe 2 table ++ toLe 4 inlen ++ toLe 2 1 ++ [0] ++ [2] ++ toLe 4 9 ++ toLe 8 200000 ++ padTo 28 [] ++ List.replicate inlen 7
def kPk (table inlen kind : Nat) (ab : Bool := false) : Pkt := { stream := 5, kind := 1, lidx := 7, aborted := ab, body := kBody table inlen kind }
def kCore (f : Core → Core) : Core := f { slots := [(2, { hdr := lHdr 4 5000 }), (3, { hdr := lHdr 2 50000 1 })] }
def kSt (f : Core → Core) (p : Pkt) : State := onUp fun d => coreDev (kCore f) { withPkt 150 p d with gauge := 5000 }
def bat (l : Nat) (sl : Nat := 2) (o : Nat := 1000) : Batch := { slot := sl, entry := 0, items := [{ bi0 with deadline := 300000 - o }], lane := l, openAt := o, input := 64 }
def kReqs : List Pkt := [kPk 2 64 0, kPk 3 8 1, kPk 2 64 1, kPk 5 64 0, kPk 0x102 64 0, kPk 2 64 0 true]
def kCores : List (Core → Core) := [id, fun k => { k with openB := [bat 4] }, fun k => { k with openB := [bat 510] }, fun k => { k with openB := [bat 508], closed := [bat 512 3] }, fun k => { k with openB := [bat 4 2 100, bat 6 3 4900] }]
def kStates : List State := kCores.flatMap fun f => kReqs.map fun p => kSt f p
def kDevs : List Dev := (kCores.map fun f => (kSt f (kPk 2 64 0)).dev) ++ [(kSt (fun k => { k with closed := [bat 512 3 100, bat 512 2 200], lastRun := [(2, 55)] }) (kPk 2 64 0)).dev, (kSt (fun k => { k with closed := [bat 512 3 100, bat 512 2 100] }) (kPk 2 64 0)).dev, prg.dev]
def grantSt : State := kSt (fun k => { k with closed := [bat 512 3 100, bat 512 2 200], asked := some 3 }) (kPk 2 64 0) |> fun s => { s with dev := withPkt 189 { stream := 0, kind := 0, lidx := 0, body := [1] } s.dev }
def dq (c a p : Nat) : DReq := { core := c, arrived := a, eclass := 1, deadline := 20000000 - a, prio := p, ticks := 100 }
def dispSt (rung : Nat) : State := onUp fun d => { d with gauge := 20000000, longs := { d.longs with core := [] }, therm := { d.therm with rung := rung, reqs := [dq 1 19999000 2, dq 2 10000 1, dq 3 19000000 3, dq 4 5000 0, dq 5 19000000 3], evalNow := true } }
def bwait (f : Core → Core) (g : Dev → Dev := id) : State := onUp fun d => g (coreDev { f coreT with budget := 4000 } d)
def waitStates : List State := [bwait id, bwait (fun k => { k with budget := 9000 }), bwait fun k => { k with tileWait := true }, bwait fun k => { k with tileWait := true, ret := true }, bwait (fun k => { k with tileWait := true }) (fun d => basinSet 1 { bst0 with queue := [qMac] } d),
  bwait fun k => { k with wait := .write 1 w0.data true false 64 false }, bwait fun k => { k with wait := .write 1 w0.data false false 64 false }, bwait (fun k => { k with wait := .write 1 w0.data false false 64 false }) (fun d => sluSet (idxSluice 1 1) { slu (idxSluice 1 1) d with words := List.replicate (64 * (slu (idxSluice 1 1) d).res) w1, opened := true, openN := 4 } d),
  bwait fun k => { k with wait := .wait 0 4000 }, bwait fun k => { k with wait := .wait 0 9000 }, bwait (fun k => { k with wait := .wait 0 9000 }) (fun d => sluSet (idxSluice 1 0) { slu (idxSluice 1 0) d with words := [w0, w2] } d),
  bwait (fun k => { k with wait := .read 1 2 5 0 }) (fun d => sluSet (idxSluice 1 0) { slu (idxSluice 1 0) d with words := [w0, w2] } d), bwait (fun k => { k with wait := .read 1 2 5 0 }) (fun d => sluSet (idxSluice 1 0) { slu (idxSluice 1 0) d with started := true } d),
  bwait (fun k => { k with wait := .append 2 0x500000 2 }) (fun d => sessDirPut 2 { rows := 8, rowb := 128, fmt := 1, opened := true, first := 0, last := 0 } d), bwait (fun k => { k with wait := .append 2 0x500000 2 }) (fun d => sessDirPut 2 { rows := 0, rowb := 128, fmt := 1, opened := true, first := 0, last := 0 } { d with hbm := { d.hbm with sessions := 0 } }),
  bwait (fun k => { k with wait := .sent 2 2 10 0 0 [] }), bwait (fun k => { k with wait := .sent 2 2 10 0 0 [], ret := true }) ]
def tblCore (f : Core → Core) (fl : Nat) : Core := f { prg0 with slots := [(2, { hdr := (padTo 6 ((lHdr 4 5000 0 2).take 6)) ++ toLe 2 fl ++ ((lHdr 4 5000 0 2).drop 8), dataAt := 0xC00000, wgtAt := 0x1000, table := padTo 32 (toLe 8 64 ++ toLe 4 (streamLen 4 6 0 0) ++ [0, 0] ++ toLe 2 4 ++ toLe 2 6 ++ toLe 2 1) ++ padTo 32 (toLe 8 128 ++ toLe 4 (streamLen 4 6 1 0) ++ [1, 0] ++ toLe 2 4 ++ toLe 2 6 ++ toLe 2 0xFFFF) })] }
def soSt (src a b : Nat) (grp : Bool) (fl : Nat) (f : Core → Core) (g : Dev → Dev) : State := onUp fun d => g (coreDev (tblCore (fun k => f { k with wait := .open' 1 src grp a b 0 6 100 }) fl) d)
def gOn (d : Dev) : Dev := basinSet 1 { (basin 1 d) with groupEn := true, gid := 3 } d
def soStates : List State := [soSt 0 0 0 false 0 id id, soSt 0 0 0 false 1 id (fun d => { d with therm := { d.therm with shlevel := 2 } }), soSt 1 0 0 false 0 id id, soSt 2 2 1 false 0 id (fun d => sessDirPut 2 { rows := 8, rowb := 128, fmt := 1, opened := true, first := 0, last := 0 } d),
  soSt 0 0 0 false 0 (fun k => { k with handles := [(2, some stm), (3, some stm)] }) id, soSt 0 0 0 true 0 id gOn, soSt 0 1 0 true 0 id id] ++
  [gStr 2 0 0, gStr 2 1 0, gStr 0 0 0, gStr 2 3 2, gStr 2 0 1].map fun g => soSt 0 0 0 true 0 id fun d => gstrPut 3 (some g) (gOn d)
where gStr (m nx nh : Nat) : GStream := { st := { (strmOf (progOf 2 (tblCore id 0)) 0 (.hbm (0x1000 + 64)) (some 3) false) with ncol := if nh = 1 then 7 else 6 }, members := m, next := nx, held := if nh = 2 then [{ idx := 0, data := [], bad := false, took := 0 }] else [] }
def sd (sp dp src dst rl nr : Nat) (ss ds : Int) (rs : Bool := false) : SDesc := { jobid := 9, ssp := sp, sb := 1, dsp := dp, db := 1, rsvd := rs, src := src, dst := dst, rowlen := rl, nrows := nr, sstride := ss, dstride := ds }
def sds : List SDesc := [sd 0 1 100 153545080800 70 1 0 0, sd 0 0 100 200 70 1 0 0, sd 0 0 100 130 70 1 0 0, sd 0 0 130 100 70 1 0 0, sd 0 0 100 100 70 1 0 0, sd 0 2 100 64 10 3 10 64, sd 2 0 64 300 10 3 64 10, sd 1 0 64 300 10 3 (-10) 10, sd 0 0 100 0x7FFFFFF 70 1 0 0, sd 0 1 100 0xFF0000000 70 1 0 0, sd 0 0 100 120 10 3 15 30, sd 0 0 1000 2000 10 3 15 (-5), sd 0 0 100 200 70 1 0 0 true]
def siphBase (d : Dev) : Dev := { d with mere := { d.mere with mem := nzMem 64 ((List.range 300).map fun i => BitVec.ofNat 8 (i + 1)), pois := [] }, hbm := { d.hbm with mem := nzMem 0 ((List.range 300).map fun i => BitVec.ofNat 8 (i + 3)) }, basin := [(1, bst0)] }
def shj (w : Bool) : SSub := .shore 1 "a1" w
def siphSt (f : Siphon → Siphon) : State := onUp fun d => let d := siphBase d; { d with siph := f d.siph, bip := { d.bip with sess := [(1, { live := true, machine := true, outst := [{ tag := "a1", obj := .siphon 9 }] })] } }
def siphQ : List State := sds.map fun x => siphSt fun s => { s with queue := [{ sub := shj true, d := x }, { sub := shj false, d := x }] }
def siphC : List State := [0, 2].flatMap fun pg => (sds ++ [sd 0 2 0x500000 64 10 3 10 64, sd 2 0 64 0x500000 10 3 64 10, sd 0 0 0x500000 0x500000 5 1 0 0, sd 0 1 0x500000 0x3C0000000 70 1 0 0]).map fun x => let s := siphSt id; { s with dev := sluMod 185 (fun y => { y with words := y.words.map fun w => { w with prog := pg } }) (withPkt 185 { stream := 0, kind := 0, lidx := 0, body := List.replicate 52 0 ++ toLe 4 9 ++ toLe 1 (x.ssp + 4 * x.sb) ++ toLe 1 (x.dsp + 4 * x.db) ++ [0, if x.rsvd then 1 else 0] ++ toLe 8 x.src ++ toLe 8 x.dst ++ toLe 4 x.rowlen ++ toLe 4 x.nrows ++ toLe 8 (low 64 x.sstride) ++ toLe 8 (low 64 x.dstride) ++ List.replicate 16 0 } s.dev) }
def mids (subs : List SSub) : List State := subs.flatMap fun su => sds.filterMap fun x => let s := siphSt fun s => { s with queue := [{ sub := shj false, d := x }] }
  match execSiphonJob 8 64 [] s with | .next t => some { t with dev := { t.dev with siph := { t.dev.siph with active := t.dev.siph.active.map fun j => { j with sub := su } } } } | _ => none
def actSts : List State := mids [shj true, shj false, .core 1 false]
def actFull : State := let s := (mids [.core 1 false]).headD up; { s with dev := sluMod 184 (fun x => { x with words := List.replicate (64 * x.res) w2, opened := true, openN := 0 }) s.dev }
def stopSts : List State := [siphSt fun s => { s with stopped := [{ sub := shj true, d := sd 0 0 100 200 70 1 0 0, done := 5 }] }, siphSt fun s => { s with stopped := [{ sub := .core 1 true, d := sd 0 0 100 200 70 1 0 0 }] }]
def wpk (nl : Nat) : List Byte := padTo 1024 ((imgPayload imgWell).take 7 ++ [1] ++ ((imgPayload imgWell).drop 8).take 24 ++ [1, 0, 0, 0, 0, 0, 0, 0, 0, 0, 0, 0, 0, 0, 0, 0] ++ toLe 4 384 ++ padTo 12 [] ++ [0, 2, BitVec.ofNat 8 nl, 0])
def wv : Well := { pack := wpk 0, lmic := 1, stream := 5, rthr := 5, ntrig := 2, hang := 3, rtime := 2, whang := 4, map := [(0, { en := true, inp := 1 }), (2, { en := true, inp := 3 })], live := [(0, { en := true, inp := 1 })], inp := [(3, { ramp := 100000000 }), (1, { powered := true, bias := 1 }), (2, { powered := true, bias := 2, ramp := 900000000 })], supA := { on := true }, supB := { on := true }, aEn := true, abaseLo := 0x40000, openttl := 100 }
def wSt (f : Well → Well) (g : Dev → Dev := id) : State := st (g { upDev .hg2w with well := f wv, gauge := 500000000 })
def ringN (n : Nat) : List (List Int) := (List.range n).map fun i => List.replicate 160 (Int.ofNat i)
def lst : List LState := [.off, .seep, .ripple, .opened, .awake, .capture]
def wAll : List State := lst.flatMap fun l => [wSt fun w => { w with lstate := l }, wSt fun w => { w with lstate := l, active := 3, inactive := 5, hops := 7, fresh := true, ring := ringN 200, hist := [[1], [2]] }, wSt fun w => { w with lstate := l, gate := true, drained := true, draining := true, drain := ringN 2, drainAt := 400000000, ring := ringN 3 }, wSt fun w => { w with lstate := l, gate := true, drained := true, draining := true, drain := ringN 1, drainAt := 400000000, ring := ringN 3, lastVerdict := some 4 }, wSt fun w => { w with lstate := l, cur := some (0, 1, [1, 3]), hops := 9, inactive := 9, lastVerdict := some 2, nowFlen := 1, gate := true }, wSt (fun w => { w with lstate := l, rthr := 0x80000000, fresh := true, hist := [[1], [2]], pack := [], supA := {} }), wSt (fun w => { w with lstate := l, rthr := 0x80000000, fresh := true, gate := true, lastVerdict := some 0, flen := 1, ring := ringN 5 }) fun d => { d with therm := { d.therm with istate := 1 } }]
def wFull : State := let s := wSt fun w => { w with lstate := .opened, gate := true, drained := true, draining := true, drain := ringN 1 }; { s with dev := sluMod 165 (fun x => { x with cap := x.res, words := List.replicate (64 * x.res) w2, fr := List.replicate x.res 0 }) s.dev }
def wCut : State := wSt fun w => { w with lstate := .awake, cur := some (0, 1, [1, 3]) }
def wCutD : State := wSt fun w => { w with lstate := .opened, gate := true, drained := true, draining := true, drain := ringN 2, cur := some (0, 1, [1]) }
def hops : List (List Int) := [List.replicate 160 0, (List.range 160).map fun i => if i % 8 < 4 then 20000 else -20000]
def wF (last : Bool) (s : State) : State := { s with dev := commitS 165 (wellEmit [0, 0, if last then 4 else 0, 0] s.dev) }
def wfs : List State := [wF true (wSt fun w => { w with lstate := .opened }), wF true (wF false (wSt id))] ++ (([id, fun d => { d with ledger := { d.ledger with recs := (List.range 65536).take 3 |>.map fun i => (i, rec0) } }] : List (Dev → Dev)).map fun g => wF true (wSt (fun w => { w with lstate := .opened }) fun d => g { d with weir := { d.weir with live := [(2, [{ epoch := 1, img := img4 }])], bind := [(5, 0x01020102)] } }))
def fItem (p : List Byte) (h : Bool) : Item := { it0 with kind := 4, payload := p, host := h, stages := [.sent 0 0, .idle, .idle, .idle, .idle] }
def fPay : List Byte := wellFrameBytes 0 0 false false false [1] 77 [List.replicate 160 5]
def ffs : List State := [(fPay, false), ([1, 2], false), (fPay, true)].flatMap fun p => [wSt id (itemDev (rImg 1 0xC2 200000 500000 [[5, 0, 0, 0], [6, 0, 1]]) (fItem p.1 p.2) rec0), wSt id (itemDev (rImg 1 0xC2 200000 500000 [[5, 2, 2, 2], [6, 0, 1]]) (fItem p.1 p.2) rec0)]
def fb (f : JFrame) : List Byte := let h := frameHead f ++ f.data; h ++ crcBytes h
def hello (node enc : Nat) : JFrame := { src := node, type := 4, first := true, last := true, nw := 1, valid := 64, data := padTo 64 (toLe 2 node ++ [3, 2, 1] ++ toLe 1 enc) }
def lk0 : JLink := { st := .up, rxAny := true, free0 := 2, used0 := 3, my0 := 1 }
def lkSt (f : JLink → JLink) (g : Dev → Dev := id) : State := onUp fun d => g (jlinkSet 1 (f lk0) { d with gauge := 2000000, jetty := { d.jetty with node := 7, route := [(9, 0x11), (12, 0x12)], trunk := [(1, 2), (2, 4)] } })
def sentF (n : Nat) (r : Nat) : JSent := { frame := { dest := 9, src := 7, type := 1, cls := 2, first := true, last := true, nw := 1, valid := 64, fseq := n, data := List.replicate 64 1 }, replays := r }
def lkStates : List State := [.down, .train, .align, .hello, .key, .up].flatMap (fun st => [lkSt fun l => { l with st := st }, lkSt fun l => { l with st := st, helloAt := 9000000, helloRx := true }, lkSt fun l => { l with st := st, encNow := true, kv0 := true, keys := [(0, 5)], helloTx := true, keyHold := true }, lkSt fun l => { l with st := st, encNow := true, keyRx := true, ctr := 3, kv0 := true }, lkSt fun l => { l with st := st, ackAt := 1999999, advAt := 1999990, sent := [sentF 3 0] }, lkSt fun l => { l with st := st, sent := [sentF 4095 0, sentF 0 16] }, lkSt (fun l => { l with st := st, faultAt := some 5, auto := true }) (fun d => uentSet 33 { state := .faulted } { d with gauge := 200000000 }), lkSt fun l => { l with st := st, faultAt := some 5, auto := true }])
def datF (q : Nat) (fl ll : Bool) (t : Nat := 1) (vl : Nat := 0) : JFrame := { dest := 7, src := 9, type := t, cls := 2, vl := vl, first := fl, last := ll, nw := 1, valid := 64, hops := 60, fseq := q, ackseq := 4095, ackv := true, cr0 := 9, cr1 := 8, data := padTo 64 (headWord 3 1 false false 0 noLidx) }
def rxF : List JFrame := [datF 0 true true, datF 0 true false, datF 1 true true, datF 3000 true true, datF 4095 false true, { datF 0 true true with type := 0, nw := 0, valid := 0, data := [] }, { datF 0 true true with nak := true }, datF 0 true true 2 1, datF 0 true true 3 0]
def mp (dest t o D m : Nat) : JPkt := jpkt dest o t 3 (markerWord o D m 0 false 0)
def rxSt (p : JPkt) (vl : Nat) (g : Dev → Dev := id) : State := lkSt (fun l => if vl = 0 then { l with rx0 := [p] } else { l with rx1 := [p] }) g
def gotM (d : Dev) : Dev := { d with jetty := { d.jetty with got := [(9, 5, 2)], fences := [{ dest := 7, old := 1, mark := 5, due := 10 }, { dest := 12, old := 1, mark := 6, due := 99999999 }] } }
def mkSts : List State := [rxSt (mp 7 2 9 7 5) 0, rxSt (mp 7 2 9 7 5) 0 gotM, rxSt (mp 7 3 9 7 5) 0 gotM, rxSt (mp 7 3 9 12 6) 1 gotM, rxSt (mp 7 1 9 7 5) 0, rxSt (mp 9 2 12 9 5) 0, rxSt (mp 9 3 12 9 5) 0]
def tr (t : Nat) : State := rxSt (mp 9 t 12 9 5) 0 fun d => jlinkSet 2 lk0 { d with jetty := { d.jetty with route := [(9, 0x12)], trunk := [(2, 4)] } }
def mkSts2 : List State := [rxSt (mp 7 3 9 7 9) 0 gotM, tr 2, tr 3]
def txSts : List State := [lkSt (fun l => { l with free0 := 5 }), lkSt (fun l => { l with st := .down }), lkSt (fun l => { l with slotNo := 3, rr := [(2, 5)] }) (fun d => { d with jetty := { d.jetty with outbox := [jpkt 9 7 1 2 (List.replicate 300 5), jpkt 12 7 1 1 [1, 2], jpkt 33 7 1 0 [5]] } }), lkSt (fun l => l) (fun d => jlinkSet 2 { lk0 with rx0 := [{ (jpkt 9 12 1 2 (List.replicate 700 5)) with hops := 4 }], rx1 := [jpkt 77 12 1 0 [1]] } d), lkSt (fun l => { l with slotNo := 15 }) (fun d => jlinkSet 2 { lk0 with rx0 := [{ (jpkt 9 12 1 1 (List.replicate 700 5)) with hops := 4 }], rx1 := [jpkt 9 12 1 0 [1]] } d)]
def pthSts : List State := [lkSt id fun d => jlinkSet 2 lk0 { d with jetty := { d.jetty with path := [(9, 2), (12, 3)] } }, lkSt id fun d => jlinkSet 2 lk0 { d with jetty := { d.jetty with path := [(9, 2), (12, 3)], fences := List.replicate 16 { dest := 30, old := 1, mark := 5, due := 10 } } }]
def memP (op off len page : Nat) (data : List Byte) : JPkt := jpkt 7 9 1 2 (List.replicate 12 0 ++ padTo 52 (toLe 1 op ++ [0, 0, 0] ++ toLe 4 page ++ toLe 2 off ++ toLe 2 len) ++ data)
def memSt (p : JPkt) (lend : Bool) (g : Dev → Dev := id) : State := lkSt id fun d => g { d with jetty := { d.jetty with memIn := [p], lend := lend } }
def pgSts : List State := [memSt (memP 0 64 128 3 []) true, memSt (memP 1 64 128 3 (List.replicate 128 9)) true, memSt (memP 0 65 128 3 []) true, memSt (memP 0 64 128 3 []) false, memSt (memP 2 64 128 3 []) true]
def mrq (w : Bool) (du : Nat) : MemReq := { tag := 4, node := 9, write := w, due := du, basin := 1, page := 3, off := 64, len := 128 }
def mrqSts : List State := [mrq false 5, mrq true 5, mrq true 99999999].map fun q => lkSt id fun d => coreDev { coreT with wait := .sent 2 2 10 0 0 [] } { d with jetty := { d.jetty with memreq := [q, { q with tag := 6 }] } }
def fp (t blk rev seq : Nat) : FPkt := { type := t, ring := 0, slot := 1, block := blk, nblock := 4, rev := rev, seq := seq, len := 4096, src := 2, data := padTo 4096 [7, 7] }
def fySt (f : Ferry → Ferry) (g : Dev → Dev := id) : State := onUp fun d => let d := coreDev { coreT with wait := .open' 1 1 false 0 1 0 6 500 } { d with gauge := 400000000 }; g { d with gauge := 400000000, ferry := f { index := 1, next := 9, nslot := 3, nstop := 3, run := true, rev := 6, exp := [(2, 5)] } }
def gFerry (nx : Nat) : GStream := { st := { stm with src := .ferry 1 }, members := 2, next := nx }
def fySts : List State := [fySt id, fySt fun f => { f with index := 0 }, fySt fun f => { f with waits := [{ src := 2, seq := 9, tok := false, rev := 6, blk := { slot := 1, block := 1, nblock := 4, rev := 6, len := 4096, data := [], at' := 5, mine := false } }] }, fySt fun f => { f with waits := [{ src := 2, seq := 6, tok := false, rev := 6, blk := { slot := 1, block := 1, nblock := 4, rev := 6, len := 4096, data := [], at' := 5, mine := false } }] },
  fySt fun f => { f with run := false, token := true }, fySt fun f => { f with index := 0, revAt := 399999999, heard := 399999999 }, fySt fun f => { f with heard := 399999999 }] ++ ([399999999, 5].flatMap fun t => [fySt fun f => { f with inHand := [{ slot := 1, block := 0, nblock := 4, rev := 6, len := 4096, data := [1], at' := t, mine := true }] }])
def fyFull (t : Nat) : State := fySt (fun f => { f with inHand := [{ slot := 1, block := 0, nblock := 4, rev := 6, len := 4096, data := [1], at' := t, mine := true }] }) (fun d => { d with gstr := [(3, { gFerry 0 with held := List.replicate 32 { idx := 0, data := [], bad := false, took := 0 } })] })
def thSt (f : Therm → Therm) (g : Dev → Dev := id) : State := onUp fun d => let d := g d; { d with therm := f d.therm }
def snSts : List State := [thSt id, thSt fun t => { t with sens := [(1, { valid := true, temp := 300, good := 16, missed := 1, hot := 1 }), (2, { valid := false, good := 15 }), (3, { valid := true, good := 3 })], tmaxNow := some 100 }]
def lySts : List State := [(500000, some 352, 0, 0), (500000, some 300, 7, 3), (500000, some 300, 3, 3), (700000, some 385, 0, 6), (100000, some 410, 0, 1), (100000, none, 7, 2)].flatMap fun (em, tm, ca, ru) => [0, 18000].flatMap fun de => [0, 1, 2].map fun i => thSt (fun t => { t with tmaxNow := tm, tmax := 352, calm := ca, rung := ru, debt := de, plimit := 500, plimNow := 500, istate := i, bootHold := false, elast := em, layer := 0, sens := if ru = 6 then [(1, { valid := false })] else (List.range 8).map fun k => (k, { valid := true }) }) (fun d => { d with gauge := 9216000, clk := if i = 2 then .ice else rungStep ru })
def iceSts : List State := [0, 1, 2, 3].flatMap fun i => [thSt (fun t => { t with istate := i, auto := true }) (fun d => { d with gauge := 92160000000 }), thSt (fun t => { t with istate := i, icewake := 3, raise := some (.full, 100) }) (fun d => { d with gauge := 92160000000, clk := .ice }), thSt (fun t => { t with istate := i, iceTodo := [16, 17], iceReq := [1, 16, 17] }) (fun d => { d with gauge := 92160000000 }), thSt (fun t => { t with istate := i, iceGo := true, iceReq := [16], lowered := none }) (fun d => uentSet 16 { state := .ice } { d with gauge := 92160000000 }),
  thSt (fun t => { t with istate := i, iceGo := true, iceReq := [16, 27, 97], exitTodo := [16, 17], lowered := some 5, abandon := i = 3, exitGo := if i = 3 then some 9 else none }) (fun d => uentSet 17 { state := .ice } (uentSet 16 { state := .ice } { d with gauge := 92160000000 })), thSt (fun t => { t with istate := i, exitTodo := [16, 17], abandon := i = 3 }) (fun d => uentSet 17 { state := .draining, target := some .ice } (uentSet 16 { state := .draining, target := some .ice } { d with gauge := 92160000000 })), thSt (fun t => { t with istate := i, iceReq := [16, 27, 97], exitTodo := [16, 17] }) (fun d => uentSet 17 { state := .ice } (uentSet 16 { state := .ice } { d with gauge := 92160000000 })), thSt (fun t => { t with istate := i, iceReq := [16, 27, 97], pend := none }) (fun d => uentSet 1 { state := .off } { d with clk := .ice, gauge := 92160000000 }), thSt (fun t => { t with istate := i, iceAt := 92160000000, lastAdm := 92160000000, icewake := 7, lowered := some 92160000000, exitGo := some 9999999999999, raise := some (.full, 9999999999999) }) (fun d => { d with gauge := 92160000000, clk := .ice }), thSt (fun t => { t with istate := i, waitIn := [(1, "a1")], enterReq := true }) (fun d => { d with gauge := 92160000000, udir := { d.udir with taken := true } })]
def lgSt (f : Ledger → Ledger) (g : Dev → Dev := id) : State := onUp fun d => g { d with gauge := 50000000, ledger := f { d.ledger with recs := [(2, { rec0 with phase := 3, deliv := 2, relAt := 4 }), (5, { rec0 with phase := 1 }), (9, { rec0 with phase := 3, deliv := 1 })], mseq := 70, peer := 8, peerV := true }, jetty := { d.jetty with node := 7 } }
def orSts : List State := [lgSt (fun g => { g with orphTtl := 1 }), lgSt (fun g => { g with orphTtl := 1, mirrorOn := true }), lgSt id, lgSt (fun g => { g with orphTtl := 1, recs := [(2, { rec0 with phase := 2, deliv := 2, relAt := 4 })] })]
def mPk (op org q l : Nat) (r : Option LRec := none) (bd : Nat := 0) : Pkt := { stream := 0, kind := 0, lidx := l, body := toLe 1 0 ++ toLe 1 op ++ toLe 2 org ++ toLe 4 q ++ padTo 44 [] ++ (match r with | some r => recBytes l r | none => List.replicate bd 0) }
def mPs : List Pkt := [mPk 0 8 71 5 (some rec0), mPk 0 8 60 5 (some rec0), mPk 0 9 71 5 (some rec0), mPk 3 8 71 5, mPk 3 8 71 5, mPk 5 8 1 0xFFFFFFFF, mPk 5 9 1 0xFFFFFFFF, mPk 1 7 71 5, mPk 2 7 71 5, mPk 1 7 72 9, mPk 1 7 99 9, mPk 4 7 3 4 (some rec0), mPk 4 7 3 4 (some { rec0 with phase := 3, deliv := 1 }), mPk 4 7 3 4 (some { rec0 with phase := 2, deliv := 0 }), mPk 4 7 3 5 (some rec0), mPk 4 7 3 4, mPk 6 7 3 0xFFFFFFFF, mPk 4 8 3 4 (some rec0), mPk 0 8 71 4294967295 (some rec0)]
def lgs : List (Ledger → Ledger) := [id, fun g => { g with serveNow := true, mirrorSeq := [(5, 66)], mirror := [(5, rec0), (6, rec0)] }, fun g => { g with mirrorOn := true, degraded := true, unacked := [{ lidx := 5, mseq := 71, due := 5, again := false }] }, fun g => { g with mirrorOn := true, unacked := [{ lidx := 5, mseq := 71, due := 5, again := true }, { lidx := 9, mseq := 72, due := 5, again := false }, { lidx := 4, mseq := 73, due := 5, again := false }, { lidx := 9, mseq := 74, due := 5, again := false }] }, fun g => { g with fetchDue := some 5 }, fun g => { g with fetchDue := some 99999999, fetchWho := some (1, "a1"), mirrorOn := true }]
def mrSts : List State := lgs.flatMap fun f => mPs.map fun p => lgSt f fun d => withPkt 167 p { d with bip := { d.bip with sess := [(1, { live := true, machine := true, outst := [{ tag := "a1", obj := .other 5 }] })] } }
def mOf (s : State) : Option (MirrorPkt × Dev) := (takePkt 167 s.dev).map fun (p, d) => ({ op := fieldLe p.body 1 1, origin := fieldLe p.body 2 2, mseq := fieldLe p.body 4 4, lidx := p.lidx, rcd := if 180 ≤ p.body.length then some (recOf (slice p.body 52 128)) else none }, d)
def nvSt (js : List NvJob) (f : Boot → Boot := id) : State := onUp fun d => { d with gauge := 20000000000, bip := { d.bip with sess := [(1, { live := true, machine := true, outst := [{ tag := "a1", obj := .other 6 }] })] }, boot := f { d.boot with flash := (List.range 300).map (fun i => (0x10000 + i, (3 : Byte))), jobs := js } }
def nvP : NvOp := .page 0x10000 (List.replicate 256 (BitVec.ofNat 8 0x55))
def nvE : NvOp := .erase 0x10000 0x8000
def nvSts : List State := [nvSt [], nvSt [{ kind := 1, slot := 0, ops := [nvP, nvE], fin := .none, wait := none }], nvSt [{ kind := 1, slot := 0, ops := [nvE], fin := .none, wait := some (1, "a1") }], nvSt [{ kind := 3, slot := 0, ops := [nvP], fin := .seqOf 3 7 [1, 2], wait := none }, { kind := 0, slot := 1, ops := [nvE, nvP], fin := .seqOf 0 7 [1, 2], wait := none }], nvSt [{ kind := 9, slot := 4, ops := [nvE], fin := .none, wait := none }], nvSt [] fun b => { b with newEv := [[1, 2], [3]], evAt := some 5 }, nvSt [] fun b => { b with newEv := [[1, 2], [3]], evAt := some 19999999999 }, nvSt [] fun b => { b with newEv := [[1, 2], [3]] }]
def bipSt (f : Bipol → Bipol) (g : Dev → Dev := id) : State := onUp fun d => g { d with gauge := 200000000, jetty := { d.jetty with node := 7 }, bip := f d.bip }
def s0 (x : Session) : State := bipSt fun b => { b with sess := tabSet (fun _ => {}) b.sess 0 x }
def lvx : Session := { live := true }
def oOut (t : String) (o : WaitObj := .output) : Outst := { tag := t, obj := o }
def tySts : List State := [s0 lvx, s0 { lvx with part := [0x61, 0x62] }, s0 { lvx with part := List.replicate 1024 0x61 }, s0 { lvx with cr := true }, s0 { lvx with machine := true, part := [0x61] }, s0 {}, s0 { lvx with bad := true, part := "show gauge".toList.map fun c => BitVec.ofNat 8 c.toNat }] ++ [s0 lvx].map fun s => { s with dev := { s.dev with tap := { ir := 0, bsr := 0 } } }
def rc (sid : Nat) (t : String) (node line heard : Nat) : RemoteCmd := { sid := sid, tag := t, node := node, line := line, heard := heard, got := ["one"] }
def ahSts : List State := [s0 { lvx with outst := [oOut ""] }, s0 { lvx with outst := [oOut ""], ahead := List.replicate 1024 (some 0x61) }, s0 { lvx with outst := [oOut "" (.siphon 9)] }, s0 { lvx with outst := [oOut "" (.unit 16)] }, bipSt fun b => { b with sess := tabSet (fun _ => {}) b.sess 0 { lvx with outst := [oOut "" (.remote 9)] }, remote := [rc 0 "" 9 4 5] }, s0 { lvx with outst := [oOut "" (.unit 16)], ahead := [some 0x61] }]
def asc (t : String) : List Byte := t.toList.map fun c => BitVec.ofNat 8 c.toNat
def mailSts : List State := [bipSt id, bipSt fun b => { b with chead := 100, ctail := 100, rhead := 500, rtail := 400, cmdRing := [(101, 65), (102, 10)] }, bipSt fun b => { b with chead := 4196, ctail := 100 }, bipSt (fun b => { b with chead := 5, ctail := 5 }) (uentSet 0 { state := .off }), bipSt (fun b => { b with chead := 8190, ctail := 8190 })]
def brSts : List State := [bipSt fun b => { b with uartOut := [1, 2, 3], newBaud := [], inBreak := true }, bipSt fun b => { b with uartOut := [1, 2, 3], newBaud := [(2, 9600)] }, bipSt fun b => { b with uartOut := [1, 2, 3] }, bipSt (fun b => { b with uartOut := [1, 2, 3] }) fun d => { d with tap := { ir := 0, bsr := 0 } }]
def bmsg (dest src type hops sess line : Nat) (t : List Byte) : List Byte := toLe 2 dest ++ toLe 2 src ++ toLe 1 type ++ toLe 1 hops ++ toLe 2 sess ++ toLe 4 line ++ toLe 2 t.length ++ [0, 0] ++ t
def inb (k node origin : Nat) (f : Session → Session := id) : Nat × Session := (k, f { live := true, machine := true, node := node, origin := origin })
def msSts : List State := [bipSt fun b => { b with remote := [rc 1 "a1" 9 4 5], sess := [(1, { live := true, machine := true, outst := [oOut "a1" (.remote 9)] })] }, bipSt fun b => { b with remote := [rc 1 "a1" 9 4 5] }, bipSt fun b => { b with sess := [inb 2 9 1, inb 3 8 0] }, bipSt fun b => { b with sess := (List.range 16).map fun k => inb (k + 2) 8 k }, bipSt id (uentSet 0 { state := .off })]
def rtSts : List State := [bipSt fun b => { b with remote := [rc 1 "a1" 9 4 5], sess := [(1, { live := true, machine := true, outst := [oOut "a1" (.remote 9)] })] }, bipSt fun b => { b with remote := [rc 1 "a1" 9 4 5] }, bipSt fun b => { b with remote := [rc 1 "a1" 9 4 199999999] }, bipSt fun b => { b with sess := [inb 2 9 1, inb 3 8 0 fun x => { x with outst := [oOut "b"] }, inb 4 8 0 fun x => { x with keepAt := 199999999, lastEnd := 199999999, outst := [oOut "b"] }] }]
def bmList : List (List Byte) := [bmsg 9 3 1 5 1 4 [], bmsg 9 3 1 1 1 4 [], bmsg 7 9 5 5 1 4 [], bmsg 7 9 2 5 1 4 (asc "body line"), bmsg 7 9 2 5 1 4 (asc "end #a1"), bmsg 7 9 1 5 1 4 (asc "#a1 show gauge"), bmsg 7 9 1 5 7 4 (asc "#a1 show gauge"), bmsg 7 9 9 5 1 4 (asc "x")]
def bmOf (b : List Byte) : BipolMsg := { dest := fieldLe b 0 2, src := fieldLe b 2 2, type := fieldLe b 4 1, hops := fieldLe b 5 1, session := fieldLe b 6 2, line := fieldLe b 8 4, text := (b.drop 16).take (fieldLe b 12 2) }
def lnPool : List (List Byte) := [asc "#a1 show gauge", asc "#1 show gauge *BD", asc "#1 show gauge *BE", asc "show  gauge", [], asc ";x"]
def cfgB : List Byte := cfgBytes [(2, [7, 0]), (12, [100, 0, 3, 0])]
def fwBoot (f : Boot → Boot) (g : Dev → Dev := id) : State := onUp fun d => g { d with boot := f d.boot }
def fwSts : List State := [staged imgShore, staged imgKern, staged imgReed, staged imgLong, staged cfgB, onUp fun d => { d with hbm := { d.hbm with mem := nzMem 0x1000 imgReed } }, fwBoot (fun b => { b with flash := flashP [(0x140000, imgShore), (0x340000, imgShore), (0x540000, imgKern), (0x640000, imgKern)] }), fwBoot (fun b => { b with guarded := true, shoreImg := imgShore, kernImg := imgKern }), fwBoot (fun b => { b with guarded := true, shoreImg := imgShore }), stored .hg8 3 imgReed]
where flashP (l : List (Nat × List Byte)) : Mem := l.foldl (fun m x => memWrite 0xFF m x.1 x.2) []
def offSt : State := onUp fun d => { d with boot := { d.boot with trip := .powerDown } }
def hotSts : List State := [thSt fun t => { t with sens := [(1, { valid := true, hot := 2 })] }, onUp fun d => { d with boot := { d.boot with thermtrip := false } }, onUp fun d => { d with tap := { d.tap with ir := 0 } }]
def rlSts : List State := [onUp fun d => { d with boot := { d.boot with config := cfgBytes [(8, [1, 0, 3, 1])] }, reed := { d.reed with reload := [0] } }]
def fullIn : Batch := { (bat 4) with items := [{ bi0 with inaddr := inputBase 1, inlen := 0x100000 - 0x8080 }] }
def kStop : List State := [kSt id (kPk 2 64 0), kSt (fun k => { k with closed := [fullIn] }) (kPk 2 64 0)].flatMap fun s => [s, { s with dev := { s.dev with longs := { s.dev.longs with stopped := [(2, true)] } } }]
def appSts : List State := [bwait (fun k => { k with wait := .append 2 0x500000 2 }) fun d => sessDirPut 2 { rows := 512, rowb := 128, fmt := 1, opened := true, first := pageEnt 7 131072, last := pageEnt 7 131072 } { d with hbm := { d.hbm with sessions := 1, pages := [(131072, 131072)] }, jetty := { d.jetty with node := 7 } },
  bwait (fun k => { k with wait := .sent 2 2 10 0 0 [] }) fun d => { d with jetty := { d.jetty with memreq := [mrq true 99999999] } }]
def wfs2 : List State := wfs.map fun s => { s with dev := uentSet 97 { state := .off } s.dev }
def ffs2 : List State := ffs.map fun s => { s with dev := sluMod 165 (fun x => { x with words := List.replicate (64 * x.res) w2, opened := true, openN := 3 }) s.dev }
def idleSts : List State := [thSt (fun t => { t with auto := true }) fun d => uentSet 1 { state := .off } { d with gauge := 92160000000 }, thSt (fun t => { t with auto := true, raise := some (.full, 100) }) fun d => { d with gauge := 92160000000 }]
def unSts : List State := [true, false].flatMap fun a => [5, 8].map fun l => lgSt fun g => { g with mirrorOn := true, unacked := [{ lidx := l, mseq := 71, due := 5, again := a }] }
def mM (s : State) : MirrorPkt := ((mOf s).getD ({ op := 0, origin := 0, mseq := 0, lidx := 0, rcd := none }, s.dev)).1
def mD (s : State) : Dev := ((mOf s).getD ({ op := 0, origin := 0, mseq := 0, lidx := 0, rcd := none }, s.dev)).2
def later (s : State) : State := { s with dev := { s.dev with gauge := 200000000 } }
def flashWith (l : List (Nat × List Byte)) : Mem := l.foldl (fun m x => memWrite 0xFF m x.1 x.2) []
def bootSt (l : List (Nat × List Byte)) : State := let d := devReset hg8Fuse; st { d with boot := { d.boot with flash := flashWith l } }
def bootSts : List State := [bootSt [], bootSt [(0x140000, imgShore)], bootSt [(0x140000, imgKern)]]
def recSts : List State := [up, staged imgShore].map fun s => { s with dev := { s.dev with boot := { s.dev.boot with phase := 5, recaddr := 0x6000000 } } }
def kfr (k salt : Nat) (l : JLink) : List Byte :=
  let f : JFrame := { src := 9, type := 5, first := true, last := true, nw := 1, valid := 64, data := padTo 64 (toLe 1 k ++ toLe 4 salt) }
  let h := frameHead f ++ f.data
  h ++ (gcmSeal (keyBytes k l) (frameIv salt 0) h []).2
def sl0 : Slot := { slot := 2, res := false, op := .movi 1 5, gp := 0, gs := false }
def slotWord (s : Slot) : Nat := slotEncode s
def pendSts : List State := [0, 7].map fun g => thSt (fun t => { t with pend := some .ice }) fun d => { d with gauge := 3000 * 5 - BitVec.ofNat 64 d.clk.gu + g }
def cl0 : CfgLoad := { engine := 1, slot := 0, image := 0, cores := 0 }
def popD (j vl : Nat) (d : Dev) : Dev := let l := jlink j d
  if vl = 0 then jlinkSet j { l with rx0 := l.rx0.tail, my0 := (l.my0 + ((l.rx0.head?.map pktFrames).getD 0)) % 256 } d else jlinkSet j { l with rx1 := l.rx1.tail, my1 := (l.my1 + ((l.rx1.head?.map pktFrames).getD 0)) % 256 } d
def sessHere (rows : Nat) (d : Dev) : Dev :=
  sessDirPut 2 { rows := rows, rowb := 128, fmt := 1, opened := true, first := pageEnt 7 131072, last := pageEnt 7 131072 } { d with
    hbm := { d.hbm with sessions := 1, pages := [(131072, 1), (131088, 16)] }, jetty := { d.jetty with node := 7 } }
def sessAway (rows : Nat) (d : Dev) : Dev :=
  sessDirPut 2 { rows := rows, rowb := 128, fmt := 1, opened := true, first := pageEnt 9 5, last := pageEnt 9 5 } { d with jetty := { d.jetty with node := 7 } }
def sessSts : List State := [bwait (fun k => { k with wait := .append 2 0x500000 2 }) (sessHere 0), bwait (fun k => { k with wait := .append 2 0x500000 2 }) (sessAway 8),
  bwait (fun k => { k with wait := .free 2 (some (128, 1)) }) (sessAway 8), bwait (fun k => { k with wait := .free 2 none }) (sessHere 8)]
def accSt : State := onUp fun d => { d with host := { d.host with acc := [.write 0x20 4 15 1] } }
def accD1 : Dev := (onUp fun d => { d with host := { d.host with acc := [.write 0x20 4 15 1, .read 8 4] } }).dev
def accD2 : Dev := (onUp fun d => { d with weir := { d.weir with committed := true }, host := { d.host with acc := [.write 0x50001C 4 15 3, .read 8 4] } }).dev
def behindSt : State := { up with pending := [.onUnit uart 9 none false] }
def lineBehindSt : State := { up with pending := [.lineTerminator 0 []] }
def ackSts : List State := [onUp (uentSet 9 { state := .draining, target := some .off, who := some .agent, leaving := some .req, ackBy := 3 }),
  onUp (uentSet 9 { state := .updating, who := some .load, leaving := some .shore, ackBy := 3 }), onUp (uentSet 9 { state := .draining, target := some .off, who := some .agent })]
def shutSt : State := onUp (withHost fun h => { h with linkUp := false, fnReset := true })
def itCut : Item := { it0 with kind := 2, dir := 1, stages := [.sent 0 0, .idle, .done abstain, .idle, .idle] }
def cutSt : State := onUp fun d => sluMod 144 (fun x => { x with opened := true, openN := 4, words := [{ w0 with data := headWord 5 1 false false 0 7 }, w1, w1, w1] }) (itemDev img4 itCut rec0 d)
def imgNoCore : List Byte := rImg 0x1D 0xC5 200000 500000 [[1, 0, 0, 0], [2, 0, 0, 0], [3], [4, 0x80], [6, 0, 0x0B, 0, 0]]
def itIn : Item := { it0 with whole := false, payload := [] }
def inSt (r : LRec) : Dev := withPkt 140 { stream := 5, kind := 1, lidx := 7, body := List.replicate 52 0 ++ [1, 2] } (itemDev img4 itIn r (upDev .hg8))
def itLate : Item := { it0 with released := true, late := true, deadline := 90000, result := some { prop := .block }, readyAt := 95000, readyTick := 19995 }
def ordSts : List State := [[⟨"b", none⟩], [⟨"b", none⟩, ⟨"a1", none⟩], [⟨"a1", none⟩], [⟨"a1", none⟩, ⟨"c", some [{ text := "x" }]⟩]].map fun (o : List Owed) => withSess 1 { live := true, machine := true, order := o }
def itReload : State := packUp fun d => withPkt 147 (reqPkt itRow 0) { d with tarn := { d.tarn with reload := [0] } }
def rowDone : TarnRow := { rowA with nextT := 1, addT := 1 }
def mac0 : BQ := { qMac with got := [] }
def mac1 : BQ := { qMac with got := List.replicate 400 1 }
def mac2 : BQ := { qMac with got := List.replicate 400 1, run := 3 }
def awaySt : State := onUp fun d => sessAway 8 (coreDev { coreT with prog := false } d)
def mv2 : Slot := { slot := 2, res := false, op := .movi 1 5, gp := 0, gs := false }
def tqSt : State := onUp fun d => basinSet 1 { bst0 with queue := List.replicate 4 { qMac with started := false } } (coreDev coreT d)
def codeSt (ss : List Slot) : State := onUp (coreDev { prg0 with slots := [(2, { hdr := modelHdr 4096, dataAt := 0xC00000, code := List.replicate 64 0 ++ toLe 64 (ss.map fun s => slotEncode s * 2 ^ (64 * s.slot)).sum })] })
def ld3 : Slot := { slot := 3, res := false, op := .mem .ldd 5 3 0 8, gp := 0, gs := false }
def needSt : State := soSt 0 0 0 true 0 id fun d => gstrPut 3 (some { st := { stm with len := 77, group := some 3, named := false }, members := 2 }) (let d := gOn d; basinSet 1 { (basin 1 d) with queue := [{ op := .mac 0 tA { stm with len := 77, group := some 3, named := false } 3, started := false }] } d)
def abJob : State := let s := siphSt id; { s with dev := withPkt 185 { stream := 0, kind := 0, lidx := 0, aborted := true, body := List.replicate 128 0 } s.dev }
def hops2 : List (List Int) := hops.map fun x => x.map (65536 * ·)
def wLoud : List State := [wSt fun w => { w with lstate := .seep, ethr := 0, zmin := 0, zmax := 200 }]
def ffShut : List State := ffs2
def wMore : List State := [wSt fun w => { w with lstate := .opened, gate := true }, wSt fun w => { w with lstate := .opened, lastVerdict := some 0 }, wSt fun w => { w with lstate := .off, cur := some (0, 1, [1]) }, wF false (wSt id)]
def iceMore : List State := [thSt id]
def qLay1 : BQ := { op := .mac 0 tA { stm with lay := 1 } 3, started := false }
def copySt : State := siphSt fun s => { s with queue := [{ sub := .shore 0 "" false, d := sd 0 0 100 130 70 1 0 0 }], turn := 8 }
def macR : BQ := { qMac with got := (List.range 400).map fun i => BitVec.ofNat 8 (i % 250 + 1), run := 4 }
def heldP : JPkt := jpkt 7 9 2 3 (markerWord 9 7 5 0 true 2)
def heldSt : State := rxSt heldP 0 fun d => jlinkSet 2 { lk0 with peerNode := 9, rx0 := [jpkt 7 9 1 2 [1]] } (jlinkMod 1 (fun l => { l with peerNode := 9, rx0 := [heldP] }) d)
def fyBlk (t : Nat) : FBlock := { slot := 1, block := 0, nblock := 4, rev := 6, len := 4096, data := [1], at' := t, mine := true }
def fmSts : List State := [none, some (1, "a1")].map fun w => lgSt (fun g => { g with fetchDue := some 99999999, fetchWho := w }) fun d =>
  withPkt 167 (mPk 2 7 1 0xFFFFFFFF) { d with bip := { d.bip with sess := [(1, { live := true, machine := true, outst := [{ tag := "a1", obj := .other 5 }] })] } }
def hotSt : State := thSt fun t => { t with sens := [(1, { valid := true, temp := 1100, good := 16, hot := 2 })] }
def fyBlks : List FBlock := fySts.flatMap fun s => s.dev.ferry.inHand

end Sys2Proof.Tests
end

