-- ==== Sys2Proof/Tests/Images.lean ====
section
/-!
SUPPORT. Tests/Images.lean: witnesses for the statements whose hypotheses ask for a signed image. The image is found where it was written by
the laws of memory; its signature and its payload's checks are evaluated.
-/
open Sys2Proof Sys2Proof.Machine Sys2Proof.Claims

namespace Sys2Proof.Tests

set_option Elab.async false
set_option maxRecDepth 100000

/-- A run of bytes none of which fails. -/
theorem readRun_eq (rd : Nat → Option Byte) (a : Nat) (l : List Byte) (h : ∀ i (hi : i < l.length), rd (a + i) = some l[i]) :
    readRun rd a l.length = (l, false) := by
  have e : (List.range l.length).map (fun i => rd (a + i)) = l.map some := by
    apply List.ext_getElem (by simp)
    intro i h1 h2
    simp only [List.length_map] at h2
    simp [h i h2]
  simp only [readRun, e]
  simp [Function.comp_def]

/-- An image whose bytes all read is read whole. -/
theorem readImage_eq (rd : Nat → Option Byte) (a lim : Nat) (b : List Byte) (h : ∀ i (hi : i < b.length), rd (a + i) = some b[i])
    (h0 : 1024 ≤ b.length) (hn : 1024 + fieldLe b 16 8 = b.length) (hl : a + b.length ≤ lim) : readImage rd a lim = (b, false) := by
  have t : (b.take 1024).length = 1024 := by simp; omega
  have r1 : readRun rd a 1024 = (b.take 1024, false) := by
    rw [← t]; refine (readRun_eq rd a (b.take 1024) fun i hi => ?_).trans (by rw [t])
    rw [t] at hi
    rw [h i (by omega)]; simp
  have f : fieldLe (b.take 1024) 16 8 = fieldLe b 16 8 := by
    simp only [Sys2Proof.Machine.fieldLe, slice, List.drop_take, List.take_take]; rfl
  have dl : (b.drop 1024).length = fieldLe b 16 8 := by simp; omega
  have r2 : readRun rd (a + 1024) (fieldLe b 16 8) = (b.drop 1024, false) := by
    rw [← dl]; refine readRun_eq rd _ _ fun i hi => ?_
    rw [dl] at hi
    rw [show a + 1024 + i = a + (1024 + i) by omega, h (1024 + i) (by omega)]; simp
  unfold readImage
  rw [if_neg (by omega), r1]
  simp only [f]
  rw [if_neg (by omega), r2]
  simp

theorem imageMere_eq (a : Nat) (b : List Byte) (d : Dev) (hm : d.mere.mem = memWrite 0 [] a b) (hp : d.mere.pois = []) (hs : memServes 24 d = true)
    (h0 : 1024 ≤ b.length) (hn : 1024 + fieldLe b 16 8 = b.length) (hl : a + b.length ≤ stageEnd a) : imageMere a d = (b, false) := by
  refine readImage_eq _ a _ b (fun i hi => ?_) h0 hn hl
  simp [mereByte, hs, hp, tabGet, hm, memByte_memWrite_inside, hi]

theorem imageFlash_eq (a lim : Nat) (b : List Byte) (d : Dev) (hm : d.boot.flash = memWrite 0xFF [] a b)
    (h0 : 1024 ≤ b.length) (hn : 1024 + fieldLe b 16 8 = b.length) (hl : a + b.length ≤ lim) : imageFlash a lim d = (b, false) := by
  refine readImage_eq _ a _ b (fun i hi => ?_) h0 hn hl
  simp [flashByte, hm, memByte_memWrite_inside, hi]

/-- The rules of an image look at the fuses alone. -/
theorem imageRules_fuse (types : List Nat) (b : List Byte) (bad : Bool) (d e : Dev) (h : d.fuse = e.fuse) : imageRules types b bad d = imageRules types b bad e := by
  unfold imageRules minSvn; rw [h]

def stagedW (b : List Byte) : State := onUp fun d => { d with mere := { d.mere with mem := memWrite 0 [] 0x6000000 b } }
def flashW (a : Nat) (b : List Byte) (v : Variant) (f : Boot → Boot := id) : State := let d := upDev v; st { d with boot := f { d.boot with flash := memWrite 0xFF [] a b } }


theorem staged_image (b : List Byte) (h0 : 1024 ≤ b.length) (hn : 1024 + fieldLe b 16 8 = b.length) (hl : 0x6000000 + b.length ≤ stageHi) :
    imageOf (.mere 0x6000000) (begun uart (stagedW b).dev) = (b, false) :=
  imageMere_eq _ b (begun uart (stagedW b).dev) rfl rfl (show memServes 24 (begun uart (stagedW []).dev) = true by decide +kernel) h0 hn (Nat.le_trans hl (by decide))

theorem load_shoal : ∃ (s : State) (r : BRef) (k : Nat) (src : LoadSrc), Taken r s.dev ∧ LoadGoes 5 k 4 0 src (begun r s.dev) := by
  refine ⟨stagedW imgShoal, uart, 3, .mere 0x6000000, by decide +kernel, ?_⟩
  have h : imageOf (.mere 0x6000000) (begun uart (stagedW imgShoal).dev) = (imgShoal, false) :=
    staged_image _ (by decide +kernel) (by decide +kernel) (by decide +kernel)
  simp only [LoadGoes, h]; decide +kernel

theorem load_tarn : ∃ (s : State) (r : BRef) (k : Nat) (src : LoadSrc), Taken r s.dev ∧ LoadGoes 6 k 4 0 src (begun r s.dev) := by
  refine ⟨stagedW imgTarn, uart, 0, .mere 0x6000000, by decide +kernel, ?_⟩
  have h : imageOf (.mere 0x6000000) (begun uart (stagedW imgTarn).dev) = (imgTarn, false) :=
    staged_image _ (by decide +kernel) (by decide +kernel) (by decide +kernel)
  simp only [LoadGoes, h]; decide +kernel

theorem load_long : ∃ (s : State) (r : BRef) (k : Nat) (src : LoadSrc) (cores : Nat), Taken r s.dev ∧ LoadGoes 16 k 16 cores src (begun r s.dev) := by
  refine ⟨stagedW imgLong, uart, 15, .mere 0x6000000, 3, by decide +kernel, ?_⟩
  have h : imageOf (.mere 0x6000000) (begun uart (stagedW imgLong).dev) = (imgLong, false) :=
    staged_image _ (by decide +kernel) (by decide +kernel) (by decide +kernel)
  simp only [LoadGoes, h]; decide +kernel
theorem fw_shore_staged : ∃ (s : State) (r : BRef) (kernel : Bool) (a : Nat), Taken r s.dev ∧ uready 99 s.dev = true ∧ r.sid < 2 ∧
    (let d := begun r s.dev; let t := if kernel then 2 else 1; let x := if kernel then d.boot.bst.kern else d.boot.bst.shore
     let slot := if x.activeB then 0 else 1; let b := (imageMere a d).1
     inStage a d = true ∧ firmCheck [t] b (imageMere a d).2 d = none ∧ b.length ≤ (fwSlot t slot).2 ∧ (d.boot.guarded && x.trial) = false ∧ nvKindBusy (3 + t) d = false) := by
  refine ⟨stagedW imgShore, uart, false, 0x6000000, by decide +kernel, by decide +kernel, by decide, ?_⟩
  have h : imageMere 0x6000000 (begun uart (stagedW imgShore).dev) = (imgShore, false) := staged_image imgShore (by decide +kernel) (by decide +kernel) (by decide +kernel)
  simp only [h]; decide +kernel

theorem tarn_ok : firstFail (imageRules [3, 4] imgTarn false up.dev) = none ∧ imgCompat imgTarn = [] ∧ payloadOwn imgTarn = none := by decide +kernel

theorem tarn_firm (d : Dev) (h : d.fuse = up.dev.fuse) : firmCheck [3, 4] imgTarn false d = none := by
  unfold firmCheck compatOk
  rw [imageRules_fuse [3, 4] imgTarn false d up.dev h, tarn_ok.1, tarn_ok.2.1, tarn_ok.2.2]
  simp

theorem fw_store_staged : ∃ (s : State) (r : BRef) (n a : Nat), Taken r s.dev ∧ uready 99 s.dev = true ∧ r.sid < 2 ∧
    (let d := begun r s.dev; let b := (imageMere a d).1
     n < 64 ∧ inStage a d = true ∧ firmCheck [3, 4] b (imageMere a d).2 d = none ∧ nvKindBusy 6 d = false ∧
     (placeIn (flashSize - storeBase) ((b.length + 65535) / 65536 * 65536) (storeUsed d)).isSome = true) := by
  refine ⟨stagedW imgTarn, uart, 63, 0x6000000, by decide +kernel, by decide +kernel, by decide, ?_⟩
  have h : imageMere 0x6000000 (begun uart (stagedW imgTarn).dev) = (imgTarn, false) := staged_image imgTarn (by decide +kernel) (by decide +kernel) (by decide +kernel)
  have f : firmCheck [3, 4] imgTarn false (begun uart (stagedW imgTarn).dev) = none := tarn_firm _ ((fun _ => rfl : ∀ b, (begun uart (stagedW b).dev).fuse = up.dev.fuse) imgTarn)
  simp only [h, f]; decide +kernel

def hbmW (b : List Byte) : State := onUp fun d => { d with hbm := { d.hbm with mem := memWrite 0 [] 0x1000 b } }

theorem hbm_byte (b : List Byte) (i : Nat) (hi : i < b.length) (hl : b.length ≤ 1200) : hbmByte (0x1000 + i) (begun uart (hbmW b).dev) = some b[i] := by
  have h0 : (0x1000 + i) / 4096 = 1 := by omega
  have h1 : hbmStackOf (0x1000 + i) (begun uart (hbmW b).dev) = 1 := by unfold hbmStackOf; rw [h0]; rfl
  have h2 : memServes 27 (begun uart (hbmW b).dev) = true := show memServes 27 (begun uart (hbmW []).dev) = true by decide +kernel
  have h3 : ¬ ledgBase (begun uart (hbmW b).dev) ≤ 0x1000 + i := by
    have h : 0x3000 ≤ ledgBase (begun uart (hbmW []).dev) := by decide +kernel
    show ¬ ledgBase (begun uart (hbmW []).dev) ≤ 0x1000 + i
    omega
  have h4 : hbmPois (0x1000 + i) (begun uart (hbmW b).dev) = false := by unfold hbmPois; rw [if_neg h3]; rfl
  have h5 : memByte 0 (begun uart (hbmW b).dev).hbm.mem (0x1000 + i) = b[i] := memByte_memWrite_inside 0 b [] hi
  unfold hbmByte
  rw [h1, h2, h4, if_neg (by decide), if_neg h3, h5]

theorem hbm_image (b : List Byte) (h0 : 1024 ≤ b.length) (hn : 1024 + fieldLe b 16 8 = b.length) (hl : b.length ≤ 1200) :
    readImage (fun x => hbmByte x (begun uart (hbmW b).dev)) 0x1000 (sessBase (begun uart (hbmW b).dev)) = (b, false) := by
  refine readImage_eq _ _ _ b (fun i hi => hbm_byte b i hi hl) h0 hn ?_
  have h : 0x3000 ≤ sessBase (begun uart (hbmW []).dev) := by decide +kernel
  show 0x1000 + b.length ≤ sessBase (begun uart (hbmW []).dev)
  omega

theorem fw_store_hbm : ∃ (s : State) (r : BRef) (n a : Nat), Taken r s.dev ∧ uready 99 s.dev = true ∧ r.sid < 2 ∧
    (let d := begun r s.dev; let i := readImage (fun x => hbmByte x d) a (sessBase d)
     n < 64 ∧ a < sessBase d ∧ firmCheck [3, 4] i.1 i.2 d = none ∧ nvKindBusy 6 d = false) := by
  refine ⟨hbmW imgTarn, uart, 0, 0x1000, by decide +kernel, by decide +kernel, by decide, ?_⟩
  have f : firmCheck [3, 4] imgTarn false (begun uart (hbmW imgTarn).dev) = none := tarn_firm _ ((fun _ => rfl : ∀ b, (begun uart (hbmW b).dev).fuse = up.dev.fuse) imgTarn)
  simp only [hbm_image imgTarn (by decide +kernel) (by decide +kernel) (by decide +kernel), f]; decide +kernel

theorem flashW_flash (a : Nat) (b : List Byte) : (begun uart (flashW a b .hg8).dev).boot.flash = memWrite 0xFF [] a b := rfl

/-- A slot that holds a signed image. -/
theorem slot_image (t k : Nat) (b : List Byte) (d : Dev) (hm : d.boot.flash = memWrite 0xFF [] (fwSlot t k).1 b) (hd : d.fuse = up.dev.fuse)
    (h0 : 1024 ≤ b.length) (hn : 1024 + fieldLe b 16 8 = b.length) (hl : b.length ≤ (fwSlot t k).2) :
    slotImage t k d = (b, firstFail (imageRules [t] b false up.dev)) := by
  have h := imageFlash_eq (fwSlot t k).1 ((fwSlot t k).1 + (fwSlot t k).2) b d hm h0 hn (by omega)
  unfold slotImage
  simp only [h, imageRules_fuse [t] b false d up.dev hd]

theorem shore_ok : firstFail (imageRules [1] imgShore false up.dev) = none := by decide +kernel
theorem kern_ok : firstFail (imageRules [2] imgKern false up.dev) = none := by decide +kernel

theorem shore_slot (d : Dev) (hm : d.boot.flash = memWrite 0xFF [] 0x140000 imgShore) (hd : d.fuse = up.dev.fuse) : slotImage 1 0 d = (imgShore, none) := by
  rw [slot_image 1 0 imgShore d hm hd (by decide +kernel) (by decide +kernel) (by decide +kernel), shore_ok]

theorem fw_select_shore : ∃ (s : State) (r : BRef) (toB : Bool), Taken r s.dev ∧ uready 99 s.dev = true ∧ r.sid < 2 ∧
    (let d := begun r s.dev; (slotImage 1 (b2n toB) d).2 = none) := by
  refine ⟨flashW 0x140000 imgShore .hg8, uart, false, by decide +kernel, by decide +kernel, by decide, ?_⟩
  show (slotImage 1 0 (begun uart (flashW 0x140000 imgShore .hg8).dev)).2 = none
  rw [shore_slot _ (flashW_flash _ _) rfl]

theorem fw_select_kernel : ∃ (s : State) (r : BRef) (toB : Bool), Taken r s.dev ∧ uready 99 s.dev = true ∧ r.sid < 2 ∧
    (let d := begun r s.dev; (slotImage 2 (b2n toB) d).2 = none) := by
  refine ⟨flashW 0x640000 imgKern .hg8, uart, true, by decide +kernel, by decide +kernel, by decide, ?_⟩
  show (slotImage 2 1 (begun uart (flashW 0x640000 imgKern .hg8).dev)).2 = none
  rw [slot_image 2 1 imgKern (begun uart (flashW 0x640000 imgKern .hg8).dev) (flashW_flash 0x640000 imgKern) rfl (by decide +kernel) (by decide +kernel) (by decide +kernel), kern_ok]

def storeW (v : Variant) (n : Nat) (b : List Byte) : State := flashW 0x1000000 b v fun x => { x with dir := [{ n := n, copyB := false, hbm := false, addr := 0x1000000, len := b.length, active := true }] }

theorem store_image (v : Variant) (n : Nat) (b : List Byte) (h0 : 1024 ≤ b.length) (hn : 1024 + fieldLe b 16 8 = b.length) :
    imageEnt { n := n, copyB := false, hbm := false, addr := 0x1000000, len := b.length, active := true } (begun uart (storeW v n b).dev) = (b, false) :=
  imageFlash_eq 0x1000000 (0x1000000 + b.length) b _ rfl h0 hn (Nat.le_refl _)

theorem fw_select_image : ∃ (s : State) (r : BRef) (n : Nat) (toB : Bool), Taken r s.dev ∧ uready 99 s.dev = true ∧ r.sid < 2 ∧
    (let d := begun r s.dev; n < 64 ∧ ∃ e, (d.boot.dir.find? fun e => e.n == n && e.copyB == toB) = some e ∧ firmCheck [3, 4] (imageEnt e d).1 (imageEnt e d).2 d = none) := by
  refine ⟨storeW .hg8 63 imgTarn, uart, 63, false, by decide +kernel, by decide +kernel, by decide, by decide, _, rfl, ?_⟩
  have f : firmCheck [3, 4] imgTarn false (begun uart (storeW .hg8 63 imgTarn).dev) = none :=
    tarn_firm _ ((fun _ => rfl : ∀ b, (begun uart (storeW .hg8 63 b).dev).fuse = up.dev.fuse) imgTarn)
  simp only [store_image .hg8 63 imgTarn (by decide +kernel) (by decide +kernel), f]

theorem load_well : ∃ (s : State) (r : BRef) (n : Nat), Taken r s.dev ∧ wellHere s.dev = true ∧ n < 64 ∧ DirFree s.dev ∧
    (let i := imageOf (.image n) (begun r s.dev); loadCheck 30 0 0 i.1 i.2 (begun r s.dev) = none) ∧ uready 99 s.dev = true ∧
    (let q : UReq := { path := .load, unit := 30, act := 4, gen := ugen 30 s.dev }; dirCheck q s.dev = .accepted) := by
  refine ⟨storeW .hg2w 63 imgWell, uart, 63, by decide +kernel, by decide +kernel, by decide, by decide +kernel, ?_, by decide +kernel, by decide +kernel⟩
  have h : imageOf (.image 63) (begun uart (storeW .hg2w 63 imgWell).dev) = (imgWell, false) := store_image .hg2w 63 imgWell (by decide +kernel) (by decide +kernel)
  simp only [h]; decide +kernel


def recW (b : List Byte) : State := onUp fun d => { d with mere := { d.mere with mem := memWrite 0 [] 0x6000000 b }, boot := { d.boot with phase := 5, recaddr := 0x6000000 } }

theorem flash0 (b : List Byte) : (flashW 0x140000 b .hg8).dev.boot.flash = memWrite 0xFF [] 0x140000 b ∧ (flashW 0x140000 b .hg8).dev.fuse = up.dev.fuse := ⟨rfl, rfl⟩
theorem flash0_pairs (b c : List Byte) : shoreIncompat (flashW 0x140000 b .hg8).dev c = shoreIncompat (flashW 0x140000 [] .hg8).dev c := rfl

theorem flash_slot : slotImage 1 0 (flashW 0x140000 imgShore .hg8).dev = (imgShore, none) := shore_slot _ (flash0 _).1 (flash0 _).2

theorem boot_finds : ∃ d : Dev, ¬ noShore d := by
  refine ⟨(flashW 0x140000 imgShore .hg8).dev, fun hn => ?_⟩
  have h := hn 0 (by decide)
  rw [flash_slot, flash0_pairs] at h
  have p : shoreIncompat (flashW 0x140000 [] .hg8).dev imgShore = false := by decide +kernel
  rw [p] at h
  simp at h

theorem boot_tries : (∃ (t s : Nat) (bad : List Byte → Bool) (d : Dev), (slotImage t s d).2 = none ∧ bad (slotImage t s d).1 = false) ∧
    (∃ (t s : Nat) (bad : List Byte → Bool) (d : Dev), (slotImage t s d).2 = none ∧ bad (slotImage t s d).1 = true) :=
  ⟨⟨1, 0, fun _ => false, _, congrArg Prod.snd flash_slot, rfl⟩, ⟨1, 0, fun _ => true, _, congrArg Prod.snd flash_slot, rfl⟩⟩

theorem recW_image (b : List Byte) (h0 : 1024 ≤ b.length) (hn : 1024 + fieldLe b 16 8 = b.length) (hl : 0x6000000 + b.length ≤ stageHi) :
    imageMere 0x6000000 (recW b).dev = (b, false) :=
  imageMere_eq _ b _ rfl rfl (show memServes 24 (recW []).dev = true by decide +kernel) h0 hn (Nat.le_trans hl (by decide))

theorem recW_rest (b : List Byte) : Runs (recW b) ∧ (recW b).dev.boot.phase = 5 ∧ (recW b).dev.boot.recaddr = 0x6000000 ∧ (recW b).dev.fuse = up.dev.fuse :=
  ⟨rfl, rfl, rfl, rfl⟩

theorem recovery_goes : ∃ s : State, Runs s ∧ s.dev.boot.phase = 5 ∧ (let r := imageMere s.dev.boot.recaddr s.dev; firstFail (imageRules [1] r.1 r.2 s.dev) = none) := by
  refine ⟨recW imgShore, (recW_rest _).1, (recW_rest _).2.1, ?_⟩
  simp only [(recW_rest imgShore).2.2.1, recW_image imgShore (by decide +kernel) (by decide +kernel) (by decide +kernel)]
  rw [imageRules_fuse [1] imgShore false (recW imgShore).dev up.dev (recW_rest imgShore).2.2.2, shore_ok]

end Sys2Proof.Tests
end

