-- ==== Sys2Proof/Tests/Slice0.lean ====
section
/-!
SUPPORT. Tests/Slice0.lean: what the spec's own numbers say of one command or one word, terms that WellFormed refuses, and for every part
`Claims.P` of an obligation that has hypotheses a theorem `wit_P`: for each clause, a state and operands that meet its hypotheses together.
-/
open Sys2Proof Sys2Proof.Machine Sys2Proof.Claims

namespace Sys2Proof.Tests

set_option Elab.async false
set_option maxRecDepth 100000

/-! ### The spec's own numbers, and the published check values of the standards it names -/

theorem test_reset_queue : State.reset.pending = [] := by decide

/-- Chapter 4's worked case: the check code of the line `#1 show gauge` is BD. -/
theorem test_check_code : crc8 ("#1 show gauge".toList.map fun c => BitVec.ofNat 8 c.toNat) = 0xBD := by decide +kernel

/-- R7's CRC-32 on the nine digits, the check value of its standard. -/
theorem test_crc32 : crc32 ((List.range 9).map fun i => BitVec.ofNat 8 (0x31 + i)) = 0xCBF43926 := by decide +kernel

/-- FIPS 180-4's SHA-384 of "abc". -/
theorem test_sha384 : ofLe (sha384 [0x61, 0x62, 0x63]).reverse =
    0xcb00753f45a35e8bb5a03d699ac65007272c32ab0eded1631a8b605a43ff5bed8086072ba1e7cc2358baeca134c825a7 := by decide +kernel

/-- FIPS 197's AES-256 example: key 00 to 1F, block 00 11 … FF. -/
theorem test_aes256 : (aesBlock (aesKeys ((List.range 32).map (BitVec.ofNat 8))) ((List.range 16).map (17 * ·))).foldl (fun a b => a * 256 + b) 0 =
    0x8ea2b7ca516745bfeafc49904b496089 := by decide +kernel

/-- Chapter 11's worked case: 2²⁴, 1 and −2²⁴ added in ascending order of k give +0, in descending order 1.0; the E5M2 bytes are 0x6C, 0x3C and 0xEC. -/
theorem test_mac_order : (macCell (macMode 3 3) 3 3 [(0x6C, 0x6C), (0x3C, 0x3C), (0xEC, 0x6C)] 0).1 = 0 ∧
    (macCell (macMode 3 3) 3 3 [(0xEC, 0x6C), (0x3C, 0x3C), (0x6C, 0x6C)] 0).1 = 0x3F800000 := by decide +kernel

/-- Chapter 13's worked case as a core runs it: ADDI g5, g5, 1 in slot 1 of the word at the pc; and a word whose slot 0 encodes nothing raises ILLEGAL. -/
def fetchSt (w : Nat) : Dev := (onUp (coreDev { prg0 with slots := [(2, { hdr := modelHdr 4096, code := List.replicate 64 0 ++ toLe 64 w, dataAt := 0xC00000 })] })).dev

theorem test_fetch_issues : (gRead 5 (Sys2Proof.Machine.core 1 (coreFetch 1 (fetchSt (0x2002940000000001 * 2 ^ 64))))).toNat = 8 ∧
    (Sys2Proof.Machine.core 1 (coreFetch 1 (fetchSt (0x2002940000000001 * 2 ^ 64)))).pc = 128 := by decide +kernel

theorem test_fetch_illegal : (Sys2Proof.Machine.core 1 (coreFetch 1 (fetchSt (2 ^ 63)))).ecause % 4096 = 1 := by decide +kernel

/-- R449's worked case: J41_RX2_N is ball CC16; row 69 is row CM; and R452's counts of VSS and VDD_CORE balls. -/
theorem test_ball_of_link : ballAt (rowNo "CC") 16 = .jetty 41 2 true true ∧ rowName 69 = "CM".toList := by decide +kernel

theorem test_ball_counts : (ballGrid.countP (fun p => ballAt p.1 p.2 == .supply .vss), ballGrid.countP fun p => ballAt p.1 p.2 == .supply .core) = (2328, 735) := by
  decide +kernel

/-- Chapter 13's worked case: the two slot words it encodes. -/
theorem test_slot_words : slotDecode 1 0x2002940000000001 = .instr { slot := 1, gp := 0, gs := false, res := false, op := .si .addi 5 5 1 } ∧
    slotDecode 6 0x0208400000000000 = .instr { slot := 6, gp := 0, gs := false, res := false, op := .tmac 1 0 1 } := by decide +kernel

/-! ### Terms that WellFormed refuses, one for each of its checks, beside terms of the same commands that it accepts -/

theorem test_wf_accepts0 : ([.powerOn false 1 1 1, .hardwareTrip 1, .vrAlert 1, .rcFieldRead 1 1, .imaskWrite 1 1, .hostMemoryAccess 2 1 1 none false 1, .bar4Resize 30,
   .udirOn 1 1 1, .unitAck 1, .uartByte 1 false, .lineTerminator 1 [], .mailboxCheadWrite 1, .mailboxRtailWrite 1, .bipolMessageReceive [],
   .keepaliveSend 2, .ringEnable false 1 1, .descriptorAdmit (List.replicate 64 0) none, .hostReadFail 1 1 1, .completionHeadWrite 1 1,
   .spdmRequest false [0, 0, 0, 0], .sluiceWordWrite 1 (List.replicate 64 0) false false 1 false, .commitWaitRetire 1, .bindWrite 1 0,
   .stageDispatch 1 1, .engineReloadAfterOn 1, .shoalScanComplete 1, .basinMacStart 1 1, .groupBlockFetch 1 [], .basinPatrol 1 1 1,
   .kernelRequestRead 1, .br 1 1 1 false false 0 false 1, .jr 1 1 1 false false 1 false 1] : List Instr).all wellFormed = true := by decide +kernel

theorem test_wf_accepts1 : ([.add 1 1 1 false false 1 1 1 false 1, .sel 1 1 1 false false 1 1 1 1 false 1, .movh 1 1 1 false false 1 1 false 1,
   .mfk 1 1 1 false false 1 1 false 1, .ldb 1 1 1 false false 1 1 0 false 1, .vld64 1 1 1 false false 1 1 1 0 false 1,
   .vadd 1 1 1 false false 1 1 1 1 1 1 1 false 1, .tacc 1 1 1 false false 1 1 1 false false 1 false 1, .tmac 1 1 1 false false 1 1 1 false 1,
   .tdrn 1 1 1 false false 1 1 1 1 1 false 1, .tset 1 1 1 false false 1 1 1 false 1, .sopen 1 1 1 false false 1 1 false 1 1 1 1 false 1,
   .slrd 1 1 1 false false 1 1 1 1 false 1, .slwr 1 1 1 false false 1 1 1 false false 1 false 1, .sapp 1 1 1 false false 1 1 1 false 1,
   .siphonJob 1 1 [], .copySiphon uart 1 1 1 1 1 1 1 none none none false, .biasOverload 1, .inputRampEnd 1, .listenWrite 1, .linkTrainDone 1,
   .jettyRouteWrite 1 1, .jettyTrunkWrite 1 false 1, .drainMarkerReceive 1 1, .keyWordWrite 1 1 1 1, .keyLinkSlot uart 1 1 1 1 1 1, .extest 1 1,
   .bypass 3 1 1, .functionResetComplete 1 1, .functionMaskWrite 4 1 1] : List Instr).all wellFormed = true := by decide +kernel

theorem test_wf_refuses0 : ([.powerOn false 16 1 1, .powerOn false 1 201 1, .hardwareTrip 0, .hardwareTrip 256, .vrAlert 65536, .rcFieldRead 67108864 1, .rcFieldRead 1 0,
   .imaskWrite 4 1, .imaskWrite 1 4294967296, .hostMemoryAccess 3 1 1 none false 1, .bar4Resize 29, .bar4Resize 39, .udirOn 128 1 1,
   .udirOn 1 65536 1, .udirOn 1 1 16, .unitAck 100, .uartByte 256 false, .lineTerminator 18 [], .lineTerminator 1 (List.replicate 4096 0),
   .mailboxCheadWrite 8192, .mailboxRtailWrite 131072, .bipolMessageReceive (List.replicate 1041 0), .keepaliveSend 1, .keepaliveSend 18,
   .ringEnable false 256 1, .descriptorAdmit (List.replicate 65 0) none, .hostReadFail 1 1 4, .completionHeadWrite 256 1,
   .spdmRequest false (List.replicate 3 0), .sluiceWordWrite 1 (List.replicate 65 0) false false 1 false,
   .sluiceWordWrite 1 (List.replicate 64 0) false false 0 false, .sluiceWordWrite 1 (List.replicate 64 0) false false 65 false] : List Instr).all (fun i => !wellFormed i) = true := by decide +kernel

theorem test_wf_refuses1 : ([.commitWaitRetire 256, .bindWrite 4096 0, .stageDispatch 1 8, .engineReloadAfterOn 100, .shoalScanComplete 16, .basinMacStart 8 1,
   .groupBlockFetch 16 [], .basinPatrol 1 131072 1, .basinPatrol 1 1 3, .kernelRequestRead 8, .br 1 8 1 false false 0 false 1,
   .br 1 1 8 false false 0 false 1, .br 1 1 1 false false 0 false 3, .jr 1 1 1 false false 32 false 1, .add 1 1 1 false false 32 1 1 false 1,
   .add 1 1 1 false false 1 1 32 false 1, .sel 1 1 1 false false 1 1 1 8 false 1, .movh 1 1 1 false false 1 140737488355328 false 1,
   .mfk 1 1 1 false false 32 1 false 1, .mfk 1 1 1 false false 1 64 false 1, .ldb 1 1 1 false false 32 1 0 false 1,
   .vld64 1 1 1 false false 1 1 8 0 false 1, .vadd 1 1 1 false false 16 1 1 1 1 1 1 false 1, .vadd 1 1 1 false false 1 16 1 1 1 1 1 false 1,
   .vadd 1 1 1 false false 1 1 16 1 1 1 1 false 1, .vadd 1 1 1 false false 1 1 1 16 1 1 1 false 1,
   .vadd 1 1 1 false false 1 1 1 1 4 1 1 false 1, .vadd 1 1 1 false false 1 1 1 1 1 1 65536 false 1,
   .tacc 1 1 1 false false 2 1 1 false false 1 false 1, .tacc 1 1 1 false false 1 8 1 false false 1 false 1,
   .tacc 1 1 1 false false 1 1 8 false false 1 false 1, .tacc 1 1 1 false false 1 1 1 false false 513 false 1] : List Instr).all (fun i => !wellFormed i) = true := by decide +kernel

theorem test_wf_refuses2 : ([.tmac 1 1 1 false false 1 8 1 false 1, .tmac 1 1 1 false false 1 1 4 false 1, .tdrn 1 1 1 false false 1 1 16 1 1 false 1,
   .tdrn 1 1 1 false false 1 1 1 32 1 false 1, .tdrn 1 1 1 false false 1 1 1 1 32 false 1, .tset 1 1 1 false false 1 8 1 false 1,
   .sopen 1 1 1 false false 1 4 false 1 1 1 1 false 1, .sopen 1 1 1 false false 1 1 false 1 1 2 1 false 1,
   .slrd 1 1 1 false false 16 1 1 1 false 1, .slrd 1 1 1 false false 1 1 1 16 false 1, .slwr 1 1 1 false false 1 1 1 false false 128 false 1,
   .sapp 1 1 1 false false 1 1 513 false 1, .siphonJob 25 1 [], .copySiphon uart 4 1 1 1 1 1 1 none none none false,
   .copySiphon uart 1 1 1 4 1 1 1 none none none false, .biasOverload 3, .inputRampEnd 8, .listenWrite 4, .linkTrainDone 64,
   .jettyRouteWrite 65536 1, .jettyTrunkWrite 16 false 1, .drainMarkerReceive 1 2, .keyWordWrite 1 2 1 1, .keyWordWrite 1 1 8 1,
   .keyLinkSlot uart 1 1 18446744073709551616 1 1 1, .keyLinkSlot uart 1 1 1 18446744073709551616 1 1,
   .keyLinkSlot uart 1 1 1 1 18446744073709551616 1, .keyLinkSlot uart 1 1 1 1 1 18446744073709551616, .extest 1 281474976710656,
   .extest 281474976710656 1, .bypass 2 1 1, .bypass 16 1 1] : List Instr).all (fun i => !wellFormed i) = true := by decide +kernel

theorem test_wf_refuses3 : ([.functionResetComplete 0 1, .functionResetComplete 7 1, .functionResetComplete 1 0, .functionResetComplete 1 17, .functionMaskWrite 4096 1 1,
   .functionMaskWrite 5 1 1, .functionMaskWrite 4 16 1] : List Instr).all (fun i => !wellFormed i) = true := by decide +kernel

/-! ### Witnesses for the statements about more than one command -/

theorem wit_WordsReadBeforeTheyWrite : ∃ (s : State) (c a b err : Nat) (s1 s2 : State) (n : Nat), CoreReady c s ∧ 1 ≤ a ∧ a < 32 ∧ 1 ≤ b ∧ b < 32 ∧ a ≠ b ∧
    exec (.ori c 1 0 false false a b 0 true err) s = .next s1 ∧ exec (.ori c 2 0 false false b a 0 false err) s1 = .next s2 ∧ Quiet s.dev ∧ n ≠ a ∧ n ≠ b :=
  ⟨ker, 1, 2, 3, 0, _, _, 5, by decide +kernel, by decide, by decide, by decide, by decide, by decide, rfl, rfl, by decide +kernel, by decide, by decide⟩

def copied : SDesc := sd 0 0 100 130 70 1 0 0

theorem wit_SiphonCopiesMere : ∃ (s s1 s2 : State) (x : SDesc) (n : Nat), (Runs s ∧ siphonFree s.dev ∧ Quiet s.dev ∧ s.dev.siph.active = [] ∧
    s.dev.siph.queue = [{ sub := .shore 0 "" false, d := x }] ∧ srcTurn s.dev = some 8 ∧ userves 24 s.dev = true ∧ s.dev.mere.pois = [] ∧ x.ssp = 0 ∧ x.dsp = 0 ∧
    jobCheck (.shore 0 "" false) 0 x s.dev = 0 ∧ x.nrows = 1 ∧ n ≤ x.rowlen) ∧ exec (.siphonJob 8 n []) s = .next s1 ∧ exec (.siphonCompletion 0) s1 = .next s2 ∧
    (∃ i, i < x.rowlen) ∧ (∃ a, a < x.dst ∨ x.dst + x.rowlen ≤ a) :=
  ⟨copySt, _, _, copied, 7, by decide +kernel, rfl, rfl, ⟨69, by decide⟩, ⟨129, by decide⟩⟩

/-! ### Witnesses -/

theorem wit_IdleStepTicks :
    (∃ s : State, s.pending = [] ∧ s.dev.boot.trip ≠ .none) ∧
    (∃ s : State, s.pending = [] ∧ s.dev.boot.trip = .none ∧ hotMap s.dev = 0) ∧
    (∃ s : State, s.pending = [] ∧ s.dev.boot.trip = .none ∧ hotMap s.dev ≠ 0) :=
  ⟨⟨offSt, by decide +kernel⟩,
   ⟨up, by decide +kernel⟩,
   ⟨hotSt, by decide +kernel⟩⟩

theorem wit_GatedPartStands :
    (∃ s : State, ∃ i, s.dev.boot.trip ≠ .none ∧ actsGated i = false) ∧
    (∃ s : State, s.dev.boot.trip ≠ .none ∧ s.pending = []) :=
  ⟨⟨offSt, .rcFieldRead 12 1, by decide +kernel⟩,
   ⟨offSt, by decide +kernel⟩⟩

theorem wit_TripStands : ∃ s : State, s.dev.boot.trip ≠ .none ∧ (∀ i ∈ s.pending, actsGated i = false) :=
  ⟨offSt, by decide +kernel⟩

theorem wit_SettleQuiet : ∃ d : Dev, Quiet d :=
  ⟨ringSt.dev, by decide +kernel⟩

theorem wit_CommandStarts : ∃ r : BRef, ∃ d : Dev, ∃ i, Taken r d ∧ i ≠ r.sid :=
  ⟨mbox, waitSt.dev, 20, by decide +kernel⟩

theorem wit_DupAndFull :
    (∃ r : BRef, ∃ d : Dev, bipServed d = true ∧ (sess r.sid d).live = true ∧ (sess r.sid d).machine = true ∧ tagForm r.tag = true ∧
     (∃ o ∈ (sess r.sid d).outst, o.tag = r.tag)) ∧
    (∃ r : BRef, ∃ d : Dev, bipServed d = true ∧ (sess r.sid d).live = true ∧ (sess r.sid d).machine = true ∧ tagForm r.tag = true ∧
     (∀ o ∈ (sess r.sid d).outst, o.tag ≠ r.tag) ∧ 32 ≤ (sess r.sid d).outst.length) :=
  ⟨⟨mbox, upDup.dev, by decide +kernel⟩,
   ⟨mbox, upFull.dev, by decide +kernel⟩⟩

theorem wit_ResponsesKeepTheirOrder :
    (∃ r : BRef, ∃ d : Dev, (sess r.sid d).live = true ∧ (sess r.sid d).outq = [] ∧ (sess r.sid d).events = [] ∧
     (let s := sess r.sid d; (∃ o ∈ s.order.head?, (∀ o ∈ s.outst, o.tag = r.tag → o.obj = .output) ∧ o.lines = none ∧ (∀ p ∈ s.order, p.tag ≠ r.tag)))) ∧
    (∃ r : BRef, ∃ d : Dev, (sess r.sid d).live = true ∧ (sess r.sid d).outq = [] ∧ (sess r.sid d).events = [] ∧
     (let s := sess r.sid d; (∃ o ∈ s.order.head?, let os := s.order.tail; (∀ o ∈ s.outst, o.tag = r.tag → o.obj = .output) ∧ o.lines = none ∧ o.tag ≠ r.tag ∧ (∃ p ∈ os, p.tag = r.tag ∧ p.lines = none)))) ∧
    (∃ r : BRef, ∃ d : Dev, (sess r.sid d).live = true ∧ (sess r.sid d).outq = [] ∧ (sess r.sid d).events = [] ∧
     (let s := sess r.sid d; (∃ o ∈ s.order.head?, let os := s.order.tail; (∀ o ∈ s.outst, o.tag = r.tag → o.obj = .output) ∧ o = ⟨r.tag, none⟩ ∧ (∀ p ∈ os, p.lines = none)))) ∧
    (∃ r : BRef, ∃ d : Dev, ∃ o, ∃ p, ∃ os, (sess r.sid d).live = true ∧ (sess r.sid d).outq = [] ∧ (sess r.sid d).events = [] ∧
     (let s := sess r.sid d; (∀ o ∈ s.outst, o.tag = r.tag → o.obj = .output) ∧ s.order = o :: p :: os ∧ o = ⟨r.tag, none⟩ ∧ (∃ ms ∈ p.lines, (∀ q ∈ os, q.lines = none)))) ∧
    (∃ r : BRef, ∃ d : Dev, (∃ o ∈ (sess r.sid d).outst, o.tag = r.tag ∧ o.obj ≠ .output)) :=
  ⟨⟨{ sid := 1, tag := "a1" }, (ordSts.getD 0 up).dev, by decide +kernel⟩,
   ⟨{ sid := 1, tag := "a1" }, (ordSts.getD 1 up).dev, by decide +kernel⟩,
   ⟨{ sid := 1, tag := "a1" }, (ordSts.getD 2 up).dev, by decide +kernel⟩,
   ⟨{ sid := 1, tag := "a1" }, (ordSts.getD 3 up).dev, ⟨"a1", none⟩, ⟨"c", some [{ text := "x" }]⟩, [], by decide +kernel⟩,
   ⟨{ sid := 1, tag := "a1" }, (withSess 1 { live := true, machine := true, outst := [{ tag := "a1", obj := .siphon 9 }] }).dev, by decide +kernel⟩⟩

theorem wit_UartResponse : ∃ tag : String, ∃ word : Option String, ∃ body : List String, ∃ d : Dev, ∃ i,
    (let r : BRef := { sid := 0, tag := tag }; (let s := sess 0 d; s.live = true ∧ s.outq = [] ∧ s.events = [] ∧ (s.order = [] ∨ ∃ o ∈ s.outst, o.tag = tag ∧ o.obj ≠ .output) ∧ d.bip.uartOut.length + (responseBytes r word body s).length ≤ 65536 ∧ i ≠ 0)) :=
  ⟨"", (some "a1"), ["one", "two"], msiMask.dev, 255, by decide +kernel⟩

theorem wit_MailboxResponse : ∃ tag : String, ∃ word : Option String, ∃ body : List String, ∃ d : Dev,
    (let r : BRef := { sid := 1, tag := tag }; (let s := sess 1 d; s.live = true ∧ s.machine = true ∧ s.outq = [] ∧ s.events = [] ∧ (s.order = [] ∨ ∃ o ∈ s.outst, o.tag = tag ∧ o.obj ≠ .output) ∧ rspUsed d.bip + (responseBytes r word body s).length ≤ 65536 ∧ d.bip.rhead < 131072 ∧ d.bip.rtail < 131072)) :=
  ⟨"unit", (some "a1"), ["one", "two"], mixA.dev, by decide +kernel⟩

theorem wit_SystemShowsAnswer :
    (∃ s : State, ∃ r : BRef, ∃ t, Taken r s.dev ∧ (stateOfName t).isSome = true) ∧
    (∃ s : State, ∃ r : BRef, ∃ n, Taken r s.dev ∧ uAssigned n = true) ∧
    (∃ s : State, ∃ r : BRef, ∃ n, Taken r s.dev ∧ 1 ≤ n ∧ n ≤ 4096) ∧
    (∃ s : State, ∃ r : BRef, ∃ t, Taken r s.dev ∧ (nouns.find? (fun x => x.1 == t) = none)) ∧
    (∃ s : State, ∃ r : BRef, ∃ t, Taken r s.dev ∧ (nouns.find? (fun x => x.1 == t)).isSome = true) ∧
    (∃ s : State, ∃ r : BRef, ∃ l, Taken r s.dev ∧ l < ledgSize s.dev) ∧
    (∃ s : State, ∃ r : BRef, ∃ a, ∃ n, Taken r s.dev ∧ uready 99 s.dev = true ∧ r.sid < 2 ∧ 1 ≤ n ∧ n ≤ 256 ∧ a + n ≤ flashSize) :=
  ⟨⟨ringSt, uart, "ready", by decide +kernel⟩,
   ⟨mixA, mbox, 25, by decide +kernel⟩,
   ⟨upFull, uart, 8, by decide +kernel⟩,
   ⟨msiSt, mbox, "ready", by decide +kernel⟩,
   ⟨upFull, uart, "unit", by decide +kernel⟩,
   ⟨msiSt, uart, 4, by decide +kernel⟩,
   ⟨msiSt, mbox, 4096, 6, by decide +kernel⟩⟩

theorem wit_DataShowsAnswer :
    (∃ s : State, ∃ r : BRef, ∃ ring : Option Nat, Taken r s.dev ∧ ring.getD 0 < 256) ∧
    (∃ s : State, ∃ r : BRef, ∃ n, Taken r s.dev ∧ sluNameErr n s.dev = none) ∧
    (∃ s : State, ∃ r : BRef, ∃ n, Taken r s.dev ∧ n < 256) ∧
    (∃ s : State, ∃ r : BRef, ∃ a, ∃ n, Taken r s.dev ∧ 1 ≤ n ∧ n ≤ 256 ∧ a + n ≤ mereSize ∧ memServes 24 s.dev = true) ∧
    (∃ s : State, ∃ r : BRef, ∃ h, Taken r s.dev ∧ h < nHbm s.dev.fuse.variant) ∧
    (∃ s : State, ∃ r : BRef, ∃ j, Taken r s.dev ∧ j < 64 ∧ linkHere j s.dev = true) ∧
    (∃ s : State, ∃ r : BRef, ∃ D, Taken r s.dev ∧ D < 65536) :=
  ⟨⟨ringSt, uart, (some 9), by decide +kernel⟩,
   ⟨upFull, uart, 8, by decide +kernel⟩,
   ⟨msiMask, uart, 0, by decide +kernel⟩,
   ⟨msiMask, mbox, 22, 22, by decide +kernel⟩,
   ⟨upDup, uart, 0, by decide +kernel⟩,
   ⟨up2, uart, 1, by decide +kernel⟩,
   ⟨msiSt, mbox, 4096, by decide +kernel⟩⟩

theorem wit_EngineShowsAnswer :
    (∃ s : State, ∃ r : BRef, ∃ k : Option Nat, Taken r s.dev ∧ uready 4 s.dev = true ∧ k.getD 0 < 8) ∧
    (∃ s : State, ∃ r : BRef, ∃ k : Option Nat, Taken r s.dev ∧ uready 5 s.dev = true ∧ k.getD 0 < 4) ∧
    (∃ s : State, ∃ r : BRef, ∃ k : Option Nat, Taken r s.dev ∧ uready 6 s.dev = true ∧ k.getD 0 < 4) ∧
    (∃ s : State, ∃ r : BRef, ∃ k : Option Nat, Taken r s.dev ∧ uready 4 s.dev = false ∧ k.getD 0 < 8) ∧
    (∃ s : State, ∃ r : BRef, ∃ k : Option Nat, Taken r s.dev ∧ uready 5 s.dev = false ∧ k.getD 0 < 4) ∧
    (∃ s : State, ∃ r : BRef, ∃ k : Option Nat, Taken r s.dev ∧ uready 6 s.dev = false ∧ k.getD 0 < 4) ∧
    (∃ s : State, ∃ r : BRef, ∃ b, ∃ p, Taken r s.dev ∧ b < nBasin s.dev.fuse.variant ∧ p < 16) ∧
    (∃ s : State, ∃ r : BRef, Taken r s.dev ∧ wellHere s.dev = true) :=
  ⟨⟨ringSt, uart, (some 0), by decide +kernel⟩,
   ⟨ringSt, uart, (some 1), by decide +kernel⟩,
   ⟨upFull, uart, (some 0), by decide +kernel⟩,
   ⟨mixA, uart, (some 5), by decide +kernel⟩,
   ⟨mixA, mbox, (some 0), by decide +kernel⟩,
   ⟨mixA, mbox, (some 2), by decide +kernel⟩,
   ⟨upDup, uart, 2, 7, by decide +kernel⟩,
   ⟨msiMask, mbox, by decide +kernel⟩⟩

theorem wit_DataLinesSet :
    (∃ s : State, ∃ r : BRef, ∃ l, ∃ lv, Taken r s.dev ∧ (l, lv) ∈ [(none, LogLevel.warn), (some 0, .info), (some 1, .warn), (some 2, .fault)]) ∧
    (∃ s : State, ∃ r : BRef, ∃ x, Taken r s.dev ∧ x < 2) ∧
    (∃ s : State, ∃ r : BRef, ∃ n, ∃ valid : Option Nat, ∃ deadline : Option Nat, ∃ early : Option Nat, ∃ dlv : Option Nat, ∃ amend : Option Nat,
     ∃ window : Option Nat, ∃ hold : Option Nat, ∃ prio : Option Nat, ∃ emptyv : Option Nat, ∃ dirs : Option Nat, ∃ maskb : Option Nat,
     ∃ stages : Option Nat, Taken r s.dev ∧ n < 256 ∧ optLt valid 2 = true ∧ optIn deadline deadlineMin deadlineMax = true ∧ optLt early 2 = true ∧
     optLt dlv 2 = true ∧ optLt amend 2 = true ∧ optIn window 0 deadlineMax = true ∧ optLt hold 2 = true ∧ optLt prio 4 = true ∧ optLt emptyv 3 = true ∧
     optLt dirs 4 = true ∧ optLt maskb 257 = true ∧ optIn stages 1 8 = true) ∧
    (∃ s : State, ∃ r : BRef, ∃ n, ∃ x, Taken r s.dev ∧ n < 256 ∧ deadlineMax < x) ∧
    (∃ s : State, ∃ r : BRef, ∃ n, ∃ x, Taken r s.dev ∧ n < 256 ∧ x < deadlineMin) ∧
    (∃ s : State, ∃ r : BRef, ∃ n, ∃ x, Taken r s.dev ∧ n < 256 ∧ (x = 0 ∨ 8 < x)) ∧
    (∃ s : State, ∃ r : BRef, ∃ n, ∃ i, ∃ kind, ∃ table, ∃ cores, ∃ rule, ∃ inputs, ∃ k, ∃ stop, ∃ slots, Taken r s.dev ∧ n < 256 ∧ i < 8 ∧
     stageKeysOk kind table cores rule inputs k stop slots = true) ∧
    (∃ s : State, ∃ r : BRef, ∃ n, ∃ e, ∃ wait, Taken r s.dev ∧ n < 256 ∧ e < 65536 ∧ asleep 3 s.dev = false ∧ s.dev.weir.committed = false ∧
     (wait = false ∨ routeLiveN n s.dev < 2)) ∧
    (∃ s : State, ∃ r : BRef, ∃ n, ∃ st, Taken r s.dev ∧ n < 256 ∧ st < 4096) ∧
    (∃ s : State, ∃ r : BRef, ∃ n, ∃ c, ∃ t, Taken r s.dev ∧ n < 256 ∧ 1 ≤ c ∧ c ≤ 255 ∧ t < 16777216) ∧
    (∃ s : State, ∃ r : BRef, ∃ n, Taken r s.dev ∧ n < 256 ∧ asleep 2 s.dev = false ∧ (cplRing n s.dev).enable = true ∧ s.dev.host.fetchRing = none) ∧
    (∃ s : State, ∃ r : BRef, ∃ n, ∃ ct : Nat, ∃ hi : Nat, ∃ lo : Nat, Taken r s.dev ∧ sluNameErr n s.dev = none ∧
     sluSetOk n { sluSettings (slu n s.dev) with ct := ct } s.dev = true ∧ lo < hi ∧ hi ≤ 65535) :=
  ⟨⟨ringSt, uart, (some 0), .info, by decide +kernel⟩,
   ⟨upFull, uart, 0, by decide +kernel⟩,
   ⟨upFull, uart, 8, (some 0), none, none, (some 1), none, (some 1), none, (some 1), none, none, (some 6), none, by decide +kernel⟩,
   ⟨ringSt, mbox, 255, 92160000001, by decide +kernel⟩,
   ⟨msiSt, mbox, 19, 9215, by decide +kernel⟩,
   ⟨upFull, uart, 1, 9, by decide +kernel⟩,
   ⟨upDup, uart, 2, 7, 6, none, none, some 1, some 3, some 2, none, [(0, 1, 2)], by decide +kernel⟩,
   ⟨msiMask, mbox, 22, 22, false, by decide +kernel⟩,
   ⟨msiMask, mbox, 7, 255, by decide +kernel⟩,
   ⟨up2, uart, 9, 19, 25, by decide +kernel⟩,
   ⟨onUp (cplSet 3 { enable := true, log2 := 4 }), mbox, 3, by decide +kernel⟩,
   ⟨up2, uart, 2, 22, 4, 0, by decide +kernel⟩⟩

theorem wit_EngineSets :
    (∃ s : State, ∃ r : BRef, ∃ k, Taken r s.dev ∧ k < 8 ∧ uready 4 s.dev = true ∧ reedInUse k s.dev = false) ∧
    (∃ s : State, ∃ r : BRef, ∃ n, Taken r s.dev ∧ n < 4096 ∧ uready 4 s.dev = true ∧ (∀ p ∈ s.dev.reed.waiting, p.stream = n → p.kind = 1)) ∧
    (∃ s : State, ∃ r : BRef, ∃ k, Taken r s.dev ∧ k < 4 ∧ uready 6 s.dev = true ∧ tarnInUse k s.dev = false) ∧
    (∃ s : State, ∃ r : BRef, ∃ b, ∃ g, Taken r s.dev ∧ b < nBasin s.dev.fuse.variant ∧ g < 8) ∧
    (∃ s : State, ∃ r : BRef, ∃ b, Taken r s.dev ∧ b < nBasin s.dev.fuse.variant ∧ (basin b s.dev).gid < 8) ∧
    (∃ s : State, ∃ r : BRef, ∃ p, Taken r s.dev ∧ p < 16) :=
  ⟨⟨ringSt, uart, 7, by decide +kernel⟩,
   ⟨ringSt, uart, 7, by decide +kernel⟩,
   ⟨upFull, uart, 3, by decide +kernel⟩,
   ⟨msiSt, mbox, 5, 3, by decide +kernel⟩,
   ⟨upFull, uart, 1, by decide +kernel⟩,
   ⟨upDup, uart, 2, by decide +kernel⟩⟩

theorem wit_SystemLinesSet :
    (∃ s : State, ∃ r : BRef, ∃ ssp, ∃ sb, ∃ src, ∃ dsp, ∃ db, ∃ dst, ∃ len, ∃ n, Taken r s.dev ∧ 1 ≤ len ∧ len ≤ 16777216 ∧ 1 ≤ n ∧ n ≤ 65536 ∧
     len * n ≤ 4294967296 ∧ spaceBad ssp sb src s.dev = none ∧ spaceBad dsp db dst s.dev = none ∧ uready 25 s.dev = true) ∧
    (∃ s : State, ∃ r : BRef, ∃ l, ∃ n, Taken r s.dev ∧ 1 ≤ l ∧ l ≤ 16 ∧ n ≠ 0 ∧ (l + n + 8) * gib + 67108864 ≤ hbmBytes s.dev.fuse.variant ∧
     uready 99 s.dev = true ∧ nvKindBusy 3 s.dev = false) ∧
    (∃ s : State, ∃ r : BRef, ∃ a, Taken r s.dev ∧ a < hbmBytes s.dev.fuse.variant ∧
     repairsAsked (hbmStackOf a s.dev) s.dev < (stackGet (hbmStackOf a s.dev) s.dev).spares ∧ uready 99 s.dev = true ∧ nvKindBusy 3 s.dev = false) ∧
    (∃ s : State, ∃ r : BRef, ∃ plimit, ∃ rungmax, ∃ deferprio, ∃ eweight, ∃ urgent, ∃ efirst, ∃ ecost, ∃ iceauto, ∃ iceidle, ∃ icewait, ∃ icewake,
     Taken r s.dev ∧ thermSetOk ⟨plimit, rungmax, deferprio, eweight, urgent, efirst, ecost, iceauto, iceidle, icewait, icewake⟩ s.dev = true) ∧
    (∃ s : State, ∃ r : BRef, Taken r s.dev ∧ s.dev.therm.istate = 0 ∧ s.dev.therm.enterReq = false) ∧
    (∃ s : State, ∃ r : BRef, Taken r s.dev ∧ s.dev.therm.istate ≠ 0) ∧
    (∃ s : State, ∃ r : BRef, ∃ maxreplay : Option Nat, ∃ peer : Option (Option Nat), ∃ serve : Option Nat, ∃ ttl : Option Nat, ∃ mirto : Option Nat,
     Taken r s.dev ∧ s.dev.ledger.forced = false ∧ maxreplay.getD 0 < 16 ∧ (peer.getD none).getD 0 < 65536 ∧ serve.getD 0 < 2 ∧ ttl.getD 0 % 9216000 = 0 ∧
     ttl.getD 0 / 9216000 < 4294967296 ∧ within (mirto.getD 92160) 92160 92160000 = true) ∧
    (∃ s : State, ∃ r : BRef, Taken r s.dev ∧ uready 97 s.dev = true ∧ s.dev.ledger.peerV = true ∧ s.dev.ledger.fetchDue = none) ∧
    (∃ s : State, ∃ r : BRef, ∃ ring : Nat, ∃ index : Nat, ∃ stops : Nat, ∃ slots : Nat, ∃ next : Nat, ∃ revb : Nat, ∃ hold : Nat, Taken r s.dev ∧
     s.dev.ferry.run = false ∧ ring < 256 ∧ index < 65536 ∧ 1 ≤ stops ∧ stops ≤ 65536 ∧ 1 ≤ slots ∧ slots ≤ 4096 ∧ next < 65536 ∧ index < stops ∧
     revb < 4294967296 ∧ hold < 4294967296) ∧
    (∃ s : State, ∃ r : BRef, ∃ k, ∃ n, ∃ a, ∃ l, Taken r s.dev ∧ s.dev.ferry.run = false ∧ k < 256 ∧ n < 4096 ∧ a % 4096 = 0 ∧ 1 ≤ l ∧ l ≤ 16777216 ∧
     a + l ≤ sessBase s.dev) ∧
    (∃ s : State, ∃ r : BRef, Taken r s.dev ∧ s.dev.ferry.run = false ∧ uready 96 s.dev = true) :=
  ⟨⟨up, uart, 0, 0, 0, 0, 0, 4096, 64, 1, by decide +kernel⟩,
   ⟨ringSt, uart, 7, 5, by decide +kernel⟩,
   ⟨mixA, mbox, 25, by decide +kernel⟩,
   ⟨upFull, uart, some 100, some 3, none, some 9216, none, none, some (3, 7), some 1, some 9216000, none, some 9216000, by decide +kernel⟩,
   ⟨upFull, uart, by decide +kernel⟩,
   ⟨onUp (thermMod fun t => { t with istate := 2 }), uart, by decide +kernel⟩,
   ⟨upFull, uart, (some 3), (some (some 25)), (some 0), (some 0), none, by decide +kernel⟩,
   ⟨onUp (fun d => { d with ledger := { d.ledger with peerV := true } }), uart, by decide +kernel⟩,
   ⟨msiMask, mbox, 7, 255, 4096, 1, 255, 30, 2, by decide +kernel⟩,
   ⟨msiSt, uart, 4, 23, 4096, 22, by decide +kernel⟩,
   ⟨upDup, uart, by decide +kernel⟩⟩

theorem wit_UnitAndLinkLines :
    (∃ s : State, ∃ r : BRef, ∃ a : Nat, ∃ n : Nat, ∃ g : Nat, ∃ wait : Bool, Taken r s.dev ∧ DirFree s.dev ∧
     (let q : UReq := { path := .bipol r.sid r.tag wait, unit := n, act := a, gen := g }; dirCheck q s.dev = .accepted ∧ a = 1)) ∧
    (∃ s : State, ∃ r : BRef, ∃ a : Nat, ∃ n : Nat, ∃ g : Nat, ∃ wait : Bool, Taken r s.dev ∧ DirFree s.dev ∧
     (let q : UReq := { path := .bipol r.sid r.tag wait, unit := n, act := a, gen := g }; dirCheck q s.dev = .accepted ∧ a = 2)) ∧
    (∃ s : State, ∃ r : BRef, ∃ a : Nat, ∃ n : Nat, ∃ g : Nat, ∃ wait : Bool, Taken r s.dev ∧ DirFree s.dev ∧
     (let q : UReq := { path := .bipol r.sid r.tag wait, unit := n, act := a, gen := g }; dirCheck q s.dev = .accepted ∧ a = 3)) ∧
    (∃ s : State, ∃ r : BRef, ∃ j : Nat, ∃ g : Nat, ∃ wait : Bool, Taken r s.dev ∧ DirFree s.dev ∧ j < 64 ∧ linkHere j s.dev = true ∧
     (let q := fun (a : Nat) => ({ path := .bipol r.sid r.tag wait, unit := 32 + j, act := a, gen := g } : UReq); dirCheck (q 1) s.dev ≠ .accepted ∧ dirCheck (q 1) s.dev ≠ .done)) ∧
    (∃ s : State, ∃ r : BRef, ∃ j : Nat, ∃ g : Nat, ∃ wait : Bool, Taken r s.dev ∧ DirFree s.dev ∧ j < 64 ∧ linkHere j s.dev = true ∧
     (let q := fun (a : Nat) => ({ path := .bipol r.sid r.tag wait, unit := 32 + j, act := a, gen := g } : UReq); dirCheck (q 1) s.dev = .accepted)) ∧
    (∃ s : State, ∃ r : BRef, ∃ j : Nat, ∃ g : Nat, ∃ wait : Bool, Taken r s.dev ∧ DirFree s.dev ∧ j < 64 ∧ linkHere j s.dev = true ∧
     (let q := fun (a : Nat) => ({ path := .bipol r.sid r.tag wait, unit := 32 + j, act := a, gen := g } : UReq); dirCheck (q 2) s.dev = .accepted)) ∧
    (∃ s : State, ∃ r : BRef, ∃ j, ∃ k, Taken r s.dev ∧ DirFree s.dev ∧ j < 64 ∧ k < 2 ∧ linkHere j s.dev = true ∧ r.sid < 2) :=
  ⟨⟨onUp (uentSet 9 { state := .off, gen := 2 }), uart, 1, 9, 2, false, by decide +kernel⟩,
   ⟨ringSt, uart, 2, 5, 0, false, by decide +kernel⟩,
   ⟨mixA, mbox, 3, 2, 0, false, by decide +kernel⟩,
   ⟨upFull, uart, 30, 7, true, by decide +kernel⟩,
   ⟨onUp (uentSet 33 { state := .off, gen := 2 }), uart, 1, 2, false, by decide +kernel⟩,
   ⟨ringSt, mbox, 2, 0, false, by decide +kernel⟩,
   ⟨msiMask, uart, 0, 1, by decide +kernel⟩⟩

theorem wit_AudioLinesSet :
    (∃ s : State, ∃ r : BRef, ∃ rate, ∃ flen, ∃ mic, ∃ stream, Taken r s.dev ∧ wellHere s.dev = true ∧ rate < 4 ∧ flen < 2 ∧ mic < 8 ∧ stream < 4096) ∧
    (∃ s : State, ∃ r : BRef, ∃ l, Taken r s.dev ∧ wellHere s.dev = true ∧ listenOk l s.dev = true) ∧
    (∃ s : State, ∃ r : BRef, ∃ n, ∃ gain, ∃ bias, Taken r s.dev ∧ wellHere s.dev = true ∧ n < 8 ∧ gain ≤ 28 ∧ bias < 3) ∧
    (∃ s : State, ∃ r : BRef, ∃ v, Taken r s.dev ∧ wellHere s.dev = true ∧ v ≤ 10) ∧
    (∃ s : State, ∃ r : BRef, ∃ c, ∃ n, Taken r s.dev ∧ wellHere s.dev = true ∧ c < 8 ∧ n < 8) ∧
    (∃ s : State, ∃ r : BRef, ∃ ethr, ∃ zmin, ∃ zmax, ∃ ntrig, ∃ hang, Taken r s.dev ∧ wellHere s.dev = true ∧ ethr < 4294967296 ∧ zmin < 256 ∧
     zmax < 256 ∧ 1 ≤ ntrig ∧ ntrig ≤ 15 ∧ 1 ≤ hang ∧ hang ≤ 255) ∧
    (∃ s : State, ∃ r : BRef, ∃ thr, ∃ time, ∃ whang, ∃ us, Taken r s.dev ∧ wellHere s.dev = true ∧ thr < 4294967296 ∧ 1 ≤ time ∧ time ≤ 255 ∧
     whang < 65536 ∧ 1000 ≤ us ∧ us ≤ 1000000) ∧
    (∃ s : State, ∃ r : BRef, Taken r s.dev ∧ wellHere s.dev = true ∧ s.dev.well.gate = false) ∧
    (∃ s : State, ∃ r : BRef, Taken r s.dev ∧ wellHere s.dev = true ∧ s.dev.well.gate = true) :=
  ⟨⟨ringSt, uart, 0, 1, 2, 1, by decide +kernel⟩,
   ⟨ringSt, uart, 0, by decide +kernel⟩,
   ⟨mixA, mbox, 3, 6, 1, by decide +kernel⟩,
   ⟨upFull, uart, 5, by decide +kernel⟩,
   ⟨ringSt, mbox, 6, 1, by decide +kernel⟩,
   ⟨msiSt, mbox, 19, 16, 23, 8, 1, by decide +kernel⟩,
   ⟨upFull, uart, 1, 2, 4096, 4096, by decide +kernel⟩,
   ⟨msiMask, mbox, by decide +kernel⟩,
   ⟨onUp2 (wellMod fun w => { w with gate := true }), mbox, by decide +kernel⟩⟩

theorem wit_ModeLines :
    (∃ s : State, ∃ r : BRef, Taken r s.dev ∧ (sess r.sid s.dev).outst = [] ∧ r.sid < 2) ∧
    (∃ s : State, ∃ r : BRef, Taken r s.dev ∧ (sess r.sid s.dev).outst = [] ∧ r.sid = 0) ∧
    (∃ s : State, ∃ r : BRef, Taken r s.dev ∧ (∃ o ∈ (sess r.sid s.dev).outst, o.tag ≠ r.tag) ∧ r.sid < 2 ∧ r.sid = 0) ∧
    (∃ s : State, ∃ r : BRef, Taken r s.dev ∧ r.sid ≠ 0) ∧
    (∃ s : State, ∃ r : BRef, Taken r s.dev ∧ 2 ≤ r.sid) ∧
    (∃ s : State, ∃ r : BRef, ∃ n, Taken r s.dev ∧ bauds.contains n = true ∧ r.sid = 0) :=
  ⟨⟨ringSt, uart, by decide +kernel⟩,
   ⟨ringSt, uart, by decide +kernel⟩,
   ⟨withSess 0 { live := true, machine := true, outst := [{ tag := "a1", obj := .output }] }, { sid := 0, tag := "c" }, by decide +kernel⟩,
   ⟨up, mbox, by decide +kernel⟩,
   ⟨withSess 5 { live := true, machine := true }, { sid := 5, tag := "c" }, by decide +kernel⟩,
   ⟨msiMask, uart, 230400, by decide +kernel⟩⟩

theorem wit_FirmwareLines :
    (∃ s : State, ∃ r : BRef, ∃ a : Nat, ∃ len : Nat, Taken r s.dev ∧ uready 99 s.dev = true ∧ r.sid < 2 ∧
     (let d := begun r s.dev; (let b := readRun (fun x => mereByte x d) a len; inStage a d = true ∧ a + len ≤ stageEnd a ∧ len ≤ 0x80000 - 256 ∧ b.2 = false ∧ cfgOk b.1 = true ∧ nvKindBusy 3 d = false))) ∧
    (∃ s : State, ∃ r : BRef, Taken r s.dev ∧ uready 99 s.dev = true ∧ r.sid < 2 ∧ s.dev.boot.guarded = false) ∧
    (∃ s : State, ∃ r : BRef, Taken r s.dev ∧ uready 99 s.dev = true ∧ r.sid < 2 ∧ s.dev.boot.guarded = true) :=
  ⟨⟨(fwSts.getD 4 up), mbox, 0x6000000, cfgB.length, by decide +kernel⟩,
   ⟨(fwSts.getD 4 up), mbox, by decide +kernel⟩,
   ⟨(fwSts.getD 8 up), { sid := 1, tag := "c7" }, by decide +kernel⟩⟩

theorem wit_UdirRequests : ∃ s : State, ∃ n : Nat, ∃ g : Nat, ∃ t : Nat, Runs s ∧ HostFree s ∧ First s ∧ DirFree s.dev ∧ n < 128 ∧ g < 65536 ∧ t < 16 :=
  ⟨ringSt, 0, 3, 9, by decide +kernel⟩

theorem wit_SecondRequestWaits :
    (∃ s : State, ∃ n : Nat, ∃ g : Nat, ∃ t : Nat, Runs s ∧ n < 128 ∧ g < 65536 ∧ t < 16 ∧ HostFree s ∧ First s ∧ s.dev.udir.taken = true ∧
     udirAnswer 3 n g s.dev = .accepted) ∧
    (∃ s : State, ∃ n : Nat, ∃ g : Nat, ∃ t : Nat, Runs s ∧ n < 128 ∧ g < 65536 ∧ t < 16 ∧ HostFree s ∧ askBehind s = true) ∧
    (∃ s : State, ∃ n : Nat, ∃ g : Nat, ∃ t : Nat, Runs s ∧ n < 128 ∧ g < 65536 ∧ t < 16 ∧ s.dev.udir.taken = false ∧
     s.dev.udir.waiting = [{ path := .udir t, unit := n, act := 3, gen := g }]) :=
  ⟨⟨takenSt, 4, 0, 4, by decide +kernel⟩,
   ⟨behindSt, 1, 1, 8, by decide +kernel⟩,
   ⟨waitSt, 16, 0, 3, by decide +kernel⟩⟩

theorem wit_UnitAckMoves :
    (∃ s : State, ∃ n : Nat, Runs s ∧
     (∃ w ∈ (uent n s.dev).who, (let e := uent n s.dev; (e.pend = some .on ∨ e.pend = some .exit ∨ (e.pend = some .reset ∧ e.state = .faulted))))) ∧
    (∃ s : State, ∃ n : Nat, Runs s ∧
     (∃ w ∈ (uent n s.dev).who, (let e := uent n s.dev; e.state = .ready ∧ (∃ a ∈ e.pend, (a = .off ∨ a = .reset ∨ a = .ice ∨ a = .update))))) ∧
    (∃ s : State, ∃ n : Nat, Runs s ∧ (∃ w ∈ (uent n s.dev).who, (let e := uent n s.dev; e.state = .faulted ∧ e.pend = some .off))) ∧
    (∃ s : State, ∃ n : Nat, Runs s ∧ (∃ w ∈ (uent n s.dev).who, (let e := uent n s.dev; e.state ≠ .ready ∧ e.pend = some .update))) ∧
    (∃ s : State, ∃ n : Nat, Runs s ∧ (∃ w ∈ (uent n s.dev).who, (let e := uent n s.dev; e.pend = some .abandon))) ∧
    (∃ s : State, ∃ n : Nat, Runs s ∧ (∃ w ∈ (uent n s.dev).who, (let e := uent n s.dev; e.pend = none ∧ (∃ v ∈ e.leaving, e.state = .draining)))) ∧
    (∃ s : State, ∃ n : Nat, Runs s ∧ (∃ w ∈ (uent n s.dev).who, (let e := uent n s.dev; e.pend = none ∧ (∃ v ∈ e.leaving, e.state = .updating)))) ∧
    (∃ s : State, ∃ n : Nat, Runs s ∧ (∃ w ∈ (uent n s.dev).who, (let e := uent n s.dev; e.pend = none ∧ e.leaving = none))) :=
  ⟨⟨mixA, 19, by decide +kernel⟩,
   ⟨mixA, 16, by decide +kernel⟩,
   ⟨mixA, 8, by decide +kernel⟩,
   ⟨mixA, 20, by decide +kernel⟩,
   ⟨mixA, 22, by decide +kernel⟩,
   ⟨(ackSts.getD 0 up), 9, by decide +kernel⟩,
   ⟨(ackSts.getD 1 up), 9, by decide +kernel⟩,
   ⟨(ackSts.getD 2 up), 9, by decide +kernel⟩⟩

theorem wit_MovesAdvanceTheGeneration :
    (∃ n : Nat, ∃ st : UState, ∃ d : Dev, (n = 25 → st = .ready → d.siph.stopped = []) ∧ st = .draining) ∧
    (∃ n : Nat, ∃ st : UState, ∃ d : Dev, (n = 25 → st = .ready → d.siph.stopped = []) ∧ st = .waking) ∧
    (∃ n : Nat, ∃ st : UState, ∃ d : Dev, ∃ k, (n = 25 → st = .ready → d.siph.stopped = []) ∧ k ≠ n) ∧
    (∃ n : Nat, ∃ st : UState, ∃ d : Dev, (n = 25 → st = .ready → d.siph.stopped = []) ∧ st = .faulted) :=
  ⟨⟨25, .draining, up.dev, by decide +kernel⟩,
   ⟨1, .waking, upDup.dev, by decide +kernel⟩,
   ⟨16, .ice, msiSt.dev, 2, by decide +kernel⟩,
   ⟨23, .faulted, msiMask.dev, by decide +kernel⟩⟩

theorem wit_DirectoryBounds :
    (∃ s : State, ∃ n : Nat, Runs s ∧ (let e := uent n s.dev; (e.pend ≠ none ∨ e.leaving ≠ none) ∧ e.ackBy ≤ s.dev.tickN)) ∧
    (∃ s : State, ∃ n : Nat, Runs s ∧ (let e := uent n s.dev; s.dev.tickN < e.ackBy)) ∧
    (∃ s : State, ∃ n : Nat, Runs s ∧
     (let e := uent n s.dev; e.state = .draining ∧ e.pend = none ∧ e.leaving = none ∧ e.drainEnd < now s.dev + s.dev.clk.gu)) ∧
    (∃ s : State, ∃ n : Nat, Runs s ∧
     (let e := uent n s.dev; e.state = .draining ∧ e.pend = none ∧ e.leaving = none ∧ now s.dev + s.dev.clk.gu ≤ e.drainEnd)) ∧
    (∃ s : State, ∃ n : Nat, Runs s ∧ (let e := uent n s.dev; e.state = .waking ∧ (n < 32 ∨ 96 ≤ n ∨ (jlink (n - 32) s.dev).st = .up))) ∧
    (∃ s : State, ∃ n : Nat, Runs s ∧ (let e := uent n s.dev; e.state = .waking ∧ wakeBound n s.dev ≠ 0 ∧ e.wakeEnd < now s.dev + s.dev.clk.gu)) :=
  ⟨⟨mixA, 22, by decide +kernel⟩,
   ⟨onUp (uentSet 9 { state := .off, pend := some .on, ackBy := 9000 }), 9, by decide +kernel⟩,
   ⟨mixA, 30, by decide +kernel⟩,
   ⟨mixA, 7, by decide +kernel⟩,
   ⟨mixA, 25, by decide +kernel⟩,
   ⟨mixA, 25, by decide +kernel⟩⟩

theorem wit_DrainsEndAtTheirTarget :
    (∃ n : Nat, ∃ d : Dev, (uent n d).target = some .off) ∧
    (∃ n : Nat, ∃ d : Dev, (uent n d).target = some .reset) ∧
    (∃ n : Nat, ∃ d : Dev, (uent n d).target = some .update) ∧
    (∃ n : Nat, ∃ d : Dev, (uent n d).target = some .ice) :=
  ⟨⟨4, mixA.dev, by decide +kernel⟩,
   ⟨5, mixA.dev, by decide +kernel⟩,
   ⟨30, mixA.dev, by decide +kernel⟩,
   ⟨7, mixA.dev, by decide +kernel⟩⟩

theorem wit_FaultsAndUpdates :
    (∃ s : State, ∃ n : Nat, Runs s ∧ (ustate n s.dev = .ready ∨ ustate n s.dev = .draining ∨ ustate n s.dev = .waking)) ∧
    (∃ s : State, ∃ n : Nat, Runs s ∧ ustate n s.dev = .updating ∧ (uent n s.dev).leaving = none ∧ updJob n s.dev = none) ∧
    (∃ s : State, ∃ n : Nat, Runs s ∧ ustate n s.dev = .updating ∧ (uent n s.dev).leaving = none ∧
     (∃ j ∈ updJob n s.dev, (∃ d ∈ jobInstall j (2 ^ jobBit j n) s.dev, ustate n d = .updating))) ∧
    (∃ s : State, ∃ u, ∃ k, Runs s ∧
     (∃ j ∈ s.dev.loads.find? (fun j => j.unit == u && j.slot == k && !j.upd), (∀ m ∈ loadUnits u j.cores, userves m s.dev = true) ∧ (jobInstall j j.cores s.dev).isSome = true)) :=
  ⟨⟨ringSt, 0, by decide +kernel⟩,
   ⟨mixA, 6, by decide +kernel⟩,
   ⟨onUp fun d => uentSet 17 { state := .updating } { d with loads := [{ unit := 16, slot := 2, cores := 2, left := 2, image := imgPayload imgLong, upd := true }] }, 17, by decide +kernel⟩,
   ⟨onUp fun d => { d with loads := [{ unit := 5, slot := 2, image := imgPayload imgShoal, upd := false }] }, 5, 2, by decide +kernel⟩⟩

theorem wit_GaugeReadsLatch :
    (∃ s : State, ∃ q : Nat, Runs s ∧ q ≠ 0) ∧
    (∃ s : State, ∃ i : Nat, ∃ n : Nat, Runs s ∧ hostReaches s.dev = true ∧ HostFree s ∧ 0 < n ∧ i + n ≤ 4) :=
  ⟨⟨ringSt, 4, by decide +kernel⟩,
   ⟨msiMask, 2, 1, by decide +kernel⟩⟩

theorem wit_HostReadsOneRegister :
    (∃ s : State, ∃ a : Nat, ∃ n : Nat, Runs s ∧ hostReaches s.dev = true ∧ HostFree s ∧ 0 < n ∧ a % 4 + n ≤ 4 ∧ a < 0x4000000 ∧
     (regRead (a / 4 * 4) s.dev).isSome = true) ∧
    (∃ s : State, ∃ a : Nat, ∃ n : Nat, Runs s ∧ hostReaches s.dev = true ∧ HostFree s ∧ 0 < n ∧ a % 4 + n ≤ 4 ∧ a < 0x4000000 ∧
     regRead (a / 4 * 4) s.dev = none) ∧
    (∃ s : State, ∃ a : Nat, ∃ n : Nat, Runs s ∧ hostReaches s.dev = true ∧ HostFree s ∧ 0 < n ∧ a % 4 + n ≤ 4 ∧ a < 0x4000000 ∧ 0x1420000 ≤ a) ∧
    (∃ s : State, ∃ a : Nat, ∃ n : Nat, Runs s ∧ hostReaches s.dev = true ∧ HostFree s ∧ 0 < n ∧ a % 4 + n ≤ 4 ∧ a < 0x4000000 ∧ a / 4 * 4 = 0x10) :=
  ⟨⟨up, 4, 2, by decide +kernel⟩,
   ⟨mixA, 63, 1, by decide +kernel⟩,
   ⟨upFull, 0x1420000, 4, by decide +kernel⟩,
   ⟨ringSt, 0x10, 1, by decide +kernel⟩⟩

theorem wit_HostWrites :
    (∃ s : State, ∃ a : Nat, ∃ n : Nat, ∃ be : Nat, ∃ v : Nat, Runs s ∧ hostReaches s.dev = true ∧ HostFree s ∧ 0 < n ∧ a + n ≤ 0x4000000 ∧ n = 4 ∧
     a % 4 = 0 ∧ be = 15 ∧ v < 2 ^ 32) ∧
    (∃ s : State, ∃ a : Nat, ∃ n : Nat, ∃ be : Nat, ∃ v : Nat, Runs s ∧ hostReaches s.dev = true ∧ HostFree s ∧ 0 < n ∧ a + n ≤ 0x4000000 ∧ n = 8 ∧
     a % 8 = 0 ∧ be = 255 ∧ v < 2 ^ 64) ∧
    (∃ s : State, ∃ a : Nat, ∃ n : Nat, ∃ be : Nat, Runs s ∧ hostReaches s.dev = true ∧ HostFree s ∧ 0 < n ∧ a + n ≤ 0x4000000 ∧
     (¬ (n = 4 ∧ a % 4 = 0 ∧ be % 16 = 15)) ∧ (¬ (n = 8 ∧ a % 8 = 0 ∧ be % 256 = 255))) ∧
    (∃ s : State, ∃ a : Nat, ∃ n : Nat, Runs s ∧ hostReaches s.dev = true ∧ HostFree s ∧ 0 < n ∧ a + n ≤ 0x4000000 ∧ 0x1420000 ≤ a) :=
  ⟨⟨ringSt, 0x20, 4, 15, 0, by decide +kernel⟩,
   ⟨ringSt, 0x10, 8, 255, 17, by decide +kernel⟩,
   ⟨mixA, 63, 16, 4, by decide +kernel⟩,
   ⟨upFull, 0x1420000, 30, by decide +kernel⟩⟩

theorem wit_AccessesKeepOrder :
    (∃ s : State, Runs s ∧ s.dev.host.acc ≠ []) ∧
    (∃ d : Dev, (∃ x ∈ d.host.acc.head?, (let e := hostAct x { d with host := { d.host with acc := [] } }; e.host.acc = []))) ∧
    (∃ d : Dev, (∃ x ∈ d.host.acc.head?, (let e := hostAct x { d with host := { d.host with acc := [] } }; e.host.acc ≠ []))) :=
  ⟨⟨accSt, by decide +kernel⟩,
   ⟨accD1, by decide +kernel⟩,
   ⟨accD2, by decide +kernel⟩⟩

theorem wit_ImaskWrites : ∃ s : State, ∃ k : Nat, Runs s ∧ hostReaches s.dev = true ∧ HostFree s ∧ k < 4 ∧ (∀ i, i < 32 → Sends (512 + 32 * k + i) s.dev) :=
  ⟨msiSt, 2, by decide +kernel⟩

theorem wit_MessagesGoOrWait :
    (∃ v : Nat, ∃ d : Dev, Sends v d) ∧
    (∃ v : Nat, ∃ d : Dev, ∃ w, v < 2048 ∧ d.host.msixEn = true ∧ ¬ Sends v d ∧ w ≠ v) ∧
    (∃ v : Nat, ∃ d : Dev, (2048 ≤ v ∨ d.host.msixEn = false)) :=
  ⟨⟨7, msiSt.dev, by decide +kernel⟩,
   ⟨2, msiMask.dev, 22, by decide +kernel⟩,
   ⟨255, upDup.dev, by decide +kernel⟩⟩

theorem wit_EventsSetAndCount :
    (∃ b : Nat, ∃ i : Nat, ∃ c, i < 8 ∧ c ≠ b) ∧
    (∃ b : Nat, ∃ i : Nat, ∃ k, i < 8 ∧ k ≠ 16 * b + i) ∧
    (∃ b : Nat, ∃ i : Nat, ∃ d : Dev, i < 8 ∧ Sends (512 + noteSrc b) d ∧ (tabGet (fun _ => false) d.imask (noteSrc b) = false)) ∧
    (∃ b : Nat, ∃ i : Nat, ∃ d : Dev, i < 8 ∧ (tabGet (fun _ => false) d.imask (noteSrc b) = true)) :=
  ⟨⟨6, 6, 4, by decide +kernel⟩,
   ⟨255, 6, 1, by decide +kernel⟩,
   ⟨30, 7, msiSt.dev, by decide +kernel⟩,
   ⟨1, 1, { (upDev .hg8) with imask := [(1, true)] }, by decide +kernel⟩⟩

theorem wit_ClearsYieldToSets :
    (∃ i, i < 8) ∧
    (∃ b : Nat, ∃ c, c ≠ b) :=
  ⟨⟨2, by decide +kernel⟩,
   ⟨6, 0, by decide +kernel⟩⟩

theorem wit_HostMemoryReads :
    (∃ s : State, ∃ a : Nat, ∃ n : Nat, Runs s ∧ hostReaches s.dev = true ∧ HostFree s ∧ 0 < n ∧
     (let poisoned := fun x => tabGet (fun _ => false) s.dev.mere.pois (x / 64); a + n ≤ 2 ^ 27 ∧ userves 24 s.dev = true ∧ (∀ i, i < n → poisoned (a + i) = false))) ∧
    (∃ s : State, ∃ a : Nat, ∃ n : Nat, Runs s ∧ hostReaches s.dev = true ∧ HostFree s ∧ 0 < n ∧
     (let poisoned := fun x => tabGet (fun _ => false) s.dev.mere.pois (x / 64); a + n ≤ 2 ^ 27 ∧ userves 24 s.dev = true ∧ (∃ i, i < n ∧ poisoned (a + i) = true))) ∧
    (∃ s : State, ∃ a : Nat, ∃ n : Nat, Runs s ∧ hostReaches s.dev = true ∧ HostFree s ∧ 0 < n ∧ a + n ≤ 2 ^ s.dev.host.bar4 ∧ s.dev.therm.istate ≠ 2 ∧
     a + n ≤ ovfBase s.dev ∧
     (∀ i, i < n → userves (26 + hbmStackOf (a + i) s.dev) s.dev = true ∧ tabGet (fun _ => false) s.dev.hbm.pois ((a + i) / 64) = false)) ∧
    (∃ s : State, ∃ a : Nat, ∃ n : Nat, Runs s ∧ hostReaches s.dev = true ∧ HostFree s ∧ 0 < n ∧ a + n ≤ 2 ^ s.dev.host.bar4 ∧ s.dev.therm.istate ≠ 2 ∧
     hbmBytes s.dev.fuse.variant ≤ a) ∧
    (∃ s : State, ∃ a : Nat, ∃ n : Nat, Runs s ∧ hostReaches s.dev = true ∧ HostFree s ∧ 0 < n ∧ a + n ≤ 2 ^ s.dev.host.bar4 ∧ s.dev.therm.istate = 2) :=
  ⟨⟨up, 0x7000, 8, by decide +kernel⟩,
   ⟨onUp (fun d => { d with mere := { d.mere with pois := [(1, true)] } }), 63, 3, by decide +kernel⟩,
   ⟨upFull, 4, 8, by decide +kernel⟩,
   ⟨st { upDev .hg4 with host := { (upDev .hg4).host with bar4 := 38 } }, 154618822656, 5, by decide +kernel⟩,
   ⟨onUp (thermMod fun t => { t with istate := 2 }), 4096, 6, by decide +kernel⟩⟩

theorem wit_HostMemoryWrites :
    (∃ s : State, ∃ a : Nat, ∃ b : List Byte, Runs s ∧ hostReaches s.dev = true ∧ HostFree s ∧ b ≠ [] ∧ a + b.length ≤ 0x4000000) ∧
    (∃ s : State, ∃ a : Nat, ∃ b : List Byte, Runs s ∧ hostReaches s.dev = true ∧ HostFree s ∧ b ≠ [] ∧ a + b.length ≤ 2 ^ 27 ∧
     (∃ i, i < b.length ∧ mereProtected s.dev.fuse.variant (a + i))) ∧
    (∃ s : State, ∃ a : Nat, ∃ b : List Byte, Runs s ∧ hostReaches s.dev = true ∧ HostFree s ∧ b ≠ [] ∧ a + b.length ≤ 2 ^ 27 ∧ userves 24 s.dev = true ∧
     (∀ i, i < b.length → ¬ mereProtected s.dev.fuse.variant (a + i))) ∧
    (∃ s : State, ∃ a : Nat, ∃ b : List Byte, Runs s ∧ hostReaches s.dev = true ∧ HostFree s ∧ b ≠ [] ∧ a + b.length ≤ 2 ^ s.dev.host.bar4 ∧
     s.dev.therm.istate ≠ 2 ∧ ovfBase s.dev < a + b.length) ∧
    (∃ s : State, ∃ a : Nat, ∃ b : List Byte, Runs s ∧ hostReaches s.dev = true ∧ HostFree s ∧ b ≠ [] ∧ a + b.length ≤ 2 ^ s.dev.host.bar4 ∧
     s.dev.therm.istate ≠ 2 ∧ a + b.length ≤ ovfBase s.dev ∧ (∀ i, i < b.length → userves (26 + hbmStackOf (a + i) s.dev) s.dev = true)) :=
  ⟨⟨ringSt, 0, (List.replicate 64 0), by decide +kernel⟩,
   ⟨mixA, 63, (List.replicate 64 0), by decide +kernel⟩,
   ⟨upFull, 0x7000000, [1, 2], by decide +kernel⟩,
   ⟨st { upDev .hg4 with host := { (upDev .hg4).host with bar4 := 38 } }, 154618822656, (toLe 8 0x123456789A), by decide +kernel⟩,
   ⟨msiMask, 3, (toLe 8 0x123456789A), by decide +kernel⟩⟩

theorem wit_HostFunctionResets :
    (∃ s : State, Runs s ∧ cfgOpen s.dev = false) ∧
    (∃ s : State, Runs s ∧ ballsSeen s.dev = true) ∧
    (∃ s : State, Runs s ∧ s.dev.host.d3 = true ∧ cfgOpen s.dev = true) ∧
    (∃ s : State, Runs s ∧ s.dev.host.fnReset = true ∧ s.dev.host.perst = false) :=
  ⟨⟨shutSt, by decide +kernel⟩,
   ⟨upFull, by decide +kernel⟩,
   ⟨onUp (withHost fun h => { h with d3 := true }), by decide +kernel⟩,
   ⟨onUp (withHost fun h => { h with fnReset := true }), by decide +kernel⟩⟩

theorem wit_HostControls :
    (∃ s : State, ∃ k, Runs s ∧ 30 ≤ k ∧ k ≤ 38 ∧ cfgOpen s.dev = true) ∧
    (∃ s : State, ∃ k, Runs s ∧ (k < 30 ∨ 38 < k)) ∧
    (∃ s : State, ∃ v, Runs s ∧ Sends v s.dev ∧ (tabGet (fun _ => false) s.dev.host.pba v = true)) ∧
    (∃ s : State, ∃ q : List Byte, Runs s ∧ cfgOpen s.dev = true ∧ fieldLe q 1 1 = 0x84) ∧
    (∃ s : State, ∃ q : List Byte, Runs s ∧ cfgOpen s.dev = true ∧ (fieldLe q 0 1 = 0x12 ∨ fieldLe q 0 1 = 0x13) ∧ fieldLe q 1 1 = 0xE1) ∧
    (∃ s : State, ∃ q : List Byte, Runs s ∧ cfgOpen s.dev = true ∧ fieldLe q 0 1 ≠ 0x12 ∧ fieldLe q 0 1 ≠ 0x13 ∧ fieldLe q 1 1 ≠ 0x84) ∧
    (∃ s : State, ∃ q : List Byte, Runs s ∧ cfgOpen s.dev = true ∧ fieldLe q 0 1 = 0) :=
  ⟨⟨upFull, 30, by decide +kernel⟩,
   ⟨upFull, 4, by decide +kernel⟩,
   ⟨onUp fun d => { msiSt.dev with host := { msiSt.dev.host with pba := [(7, true)] } }, 7, by decide +kernel⟩,
   ⟨upFull, [0x12, 0x84, 0, 0], by decide +kernel⟩,
   ⟨upDup, [0x12, 0xE1, 0, 0], by decide +kernel⟩,
   ⟨msiMask, [0x10, 0x10, 0, 0], by decide +kernel⟩,
   ⟨msiMask, [0, 0, 0, 0], by decide +kernel⟩⟩

theorem wit_ConfigurationRequests :
    (∃ s : State, Runs s ∧ cfgOpen s.dev = false) ∧
    (∃ s : State, ∃ be : Nat, Runs s ∧ cfgOpen s.dev = true ∧ be % 16 = 0) ∧
    (∃ s : State, ∃ v : Nat, Runs s ∧ cfgOpen s.dev = true ∧ v < 2 ^ 32 ∧ v % 4 = 3) ∧
    (∃ s : State, ∃ v : Nat, ∃ k, Runs s ∧ cfgOpen s.dev = true ∧ v < 2 ^ 32 ∧ 30 ≤ k ∧ k ≤ 38 ∧ v / 256 % 64 = k - 20) ∧
    (∃ s : State, ∃ v : Nat, Runs s ∧ cfgOpen s.dev = true ∧ v < 2 ^ 32 ∧ v.testBit 2 = true ∧ s.dev.host.bme = false) ∧
    (∃ s : State, ∃ v : Nat, Runs s ∧ cfgOpen s.dev = true ∧ v < 2 ^ 32 ∧ v.testBit 2 = false ∧ s.dev.host.bme = true) ∧
    (∃ s : State, ∃ v : Nat, Runs s ∧ cfgOpen s.dev = true ∧ v < 2 ^ 32 ∧ v.testBit 15 = true) :=
  ⟨⟨shutSt, by decide +kernel⟩,
   ⟨ringSt, 4096, by decide +kernel⟩,
   ⟨upFull, 3, by decide +kernel⟩,
   ⟨upFull, 0x1200, 38, by decide +kernel⟩,
   ⟨up2, 30, by decide +kernel⟩,
   ⟨msiMask, 8, by decide +kernel⟩,
   ⟨msiSt, 0x8000, by decide +kernel⟩⟩

theorem wit_RingsEnable :
    (∃ s : State, ∃ n : Nat, ∃ l : Nat, ∃ c : Nat, ∃ v : Nat, Runs s ∧ HostFree s ∧ l < 16 ∧ c < 256 ∧ v < 2048 ∧ (¬ (512 ≤ v ∧ v ≤ 639)) ∧
     (let r := subRing n s.dev; r.enable = false ∧ 4 ≤ l ∧ (cplRing c s.dev).enable = true)) ∧
    (∃ s : State, ∃ n : Nat, ∃ l : Nat, ∃ c : Nat, ∃ v : Nat, Runs s ∧ HostFree s ∧ l < 16 ∧ c < 256 ∧ v < 2048 ∧ (¬ (512 ≤ v ∧ v ≤ 639)) ∧
     (let r := subRing n s.dev; r.enable = false ∧ (l < 4 ∨ (cplRing c s.dev).enable = false))) ∧
    (∃ s : State, ∃ n : Nat, ∃ l : Nat, ∃ c : Nat, ∃ v : Nat, Runs s ∧ HostFree s ∧ l < 16 ∧ c < 256 ∧ v < 2048 ∧ (¬ (512 ≤ v ∧ v ≤ 639)) ∧
     (let r := subRing n s.dev; r.enable = true ∧ (l ≠ r.log2 ∨ c ≠ r.cq))) ∧
    (∃ s : State, ∃ n : Nat, ∃ l : Nat, ∃ c : Nat, ∃ v : Nat, Runs s ∧ HostFree s ∧ l < 16 ∧ c < 256 ∧ v < 2048 ∧ (¬ (512 ≤ v ∧ v ≤ 639)) ∧
     (let r := subRing n s.dev; r.enable = true ∧ l = r.log2 ∧ c = r.cq)) ∧
    (∃ s : State, ∃ n : Nat, ∃ l : Nat, ∃ c : Nat, ∃ v : Nat, Runs s ∧ HostFree s ∧ l < 16 ∧ c < 256 ∧ v < 2048 ∧ (¬ (512 ≤ v ∧ v ≤ 639)) ∧
     (let q := cplRing n s.dev; q.enable = false ∧ 4 ≤ l)) ∧
    (∃ s : State, ∃ n : Nat, ∃ l : Nat, ∃ c : Nat, ∃ v : Nat, Runs s ∧ HostFree s ∧ l < 16 ∧ c < 256 ∧ v < 2048 ∧ (¬ (512 ≤ v ∧ v ≤ 639)) ∧
     (let q := cplRing n s.dev; q.enable = false ∧ l < 4)) ∧
    (∃ s : State, ∃ n : Nat, ∃ l : Nat, ∃ c : Nat, ∃ v : Nat, Runs s ∧ HostFree s ∧ l < 16 ∧ c < 256 ∧ v < 2048 ∧ (¬ (512 ≤ v ∧ v ≤ 639)) ∧
     (let q := cplRing n s.dev; q.enable = true ∧ l ≠ q.log2)) ∧
    (∃ s : State, ∃ l : Nat, ∃ c : Nat, ∃ v : Nat, ∃ w, Runs s ∧ HostFree s ∧ l < 16 ∧ c < 256 ∧ v < 2048 ∧ (¬ (512 ≤ v ∧ v ≤ 639)) ∧ 512 ≤ w ∧ w ≤ 639) :=
  ⟨⟨ringSt, 9, 4, 5, 7, by decide +kernel⟩,
   ⟨ringSt, 1, 1, 22, 16, by decide +kernel⟩,
   ⟨ringSt, 3, 2, 1, 25, by decide +kernel⟩,
   ⟨ringSt, 3, 4, 5, 255, by decide +kernel⟩,
   ⟨ringSt, 4096, 6, 22, 3, by decide +kernel⟩,
   ⟨ringSt, 25, 0, 17, 22, by decide +kernel⟩,
   ⟨ringSt, 5, 1, 4, 25, by decide +kernel⟩,
   ⟨ringSt, 0, 19, 7, 512, by decide +kernel⟩⟩

theorem wit_RingPointers :
    (∃ s : State, ∃ n : Nat, ∃ p : Nat, Runs s ∧ HostFree s ∧ p < 131072 ∧
     (let r := subRing n s.dev; p % 65536 < 2 ^ r.log2 ∧ r.enable = true ∧ between r.log2 r.head r.tail ≤ between r.log2 r.head p ∧ between r.log2 r.head p ≤ 2 ^ r.log2)) ∧
    (∃ s : State, ∃ n : Nat, ∃ p : Nat, Runs s ∧ HostFree s ∧ p < 131072 ∧
     (let r := subRing n s.dev; p % 65536 < 2 ^ r.log2 ∧ (r.enable = false ∨ between r.log2 r.head p < between r.log2 r.head r.tail ∨ 2 ^ r.log2 < between r.log2 r.head p))) ∧
    (∃ s : State, ∃ n : Nat, ∃ p : Nat, ∃ v, Runs s ∧ HostFree s ∧ p < 131072 ∧ (let r := subRing n s.dev; 2 ^ r.log2 ≤ v % 65536)) ∧
    (∃ s : State, ∃ n : Nat, ∃ p : Nat, Runs s ∧ HostFree s ∧ p < 131072 ∧
     (let q := cplRing n s.dev; p % 65536 < 2 ^ q.log2 ∧ q.enable = true ∧ between q.log2 q.head p ≤ between q.log2 q.head q.tail ∧ q.held = [] ∧ s.dev.host.fetchRing = none)) ∧
    (∃ s : State, ∃ n : Nat, ∃ p : Nat, Runs s ∧ HostFree s ∧ p < 131072 ∧
     (let q := cplRing n s.dev; p % 65536 < 2 ^ q.log2 ∧ (q.enable = false ∨ between q.log2 q.head q.tail < between q.log2 q.head p))) ∧
    (∃ s : State, ∃ n : Nat, ∃ p : Nat, ∃ v, Runs s ∧ HostFree s ∧ p < 131072 ∧ (let q := cplRing n s.dev; 2 ^ q.log2 ≤ v % 65536)) ∧
    (∃ s : State, ∃ n : Nat, ∃ p : Nat, Runs s ∧ HostFree s ∧ p < 131072 ∧
     (let q := cplRing n s.dev; n < 256 ∧ asleep 2 s.dev = false ∧ q.enable = true ∧ s.dev.host.fetchRing = none)) ∧
    (∃ s : State, ∃ n : Nat, ∃ p : Nat, Runs s ∧ HostFree s ∧ p < 131072 ∧
     (let q := cplRing n s.dev; n < 256 ∧ asleep 2 s.dev = false ∧ (q.enable = false ∨ s.dev.host.fetchRing ≠ none))) ∧
    (∃ s : State, ∃ n : Nat, ∃ p : Nat, Runs s ∧ HostFree s ∧ p < 131072 ∧
     (let q := cplRing n s.dev; q.time ≠ 0 ∧ q.since ≠ 0 ∧ q.firstAt + q.time * 9216 < now s.dev + s.dev.clk.gu)) ∧
    (∃ s : State, ∃ n : Nat, ∃ p : Nat, Runs s ∧ HostFree s ∧ p < 131072 ∧
     (let q := cplRing n s.dev; q.time ≠ 0 ∧ q.since ≠ 0 ∧ now s.dev + s.dev.clk.gu ≤ q.firstAt + q.time * 9216)) :=
  ⟨⟨ringSt, 3, 7, by decide +kernel⟩,
   ⟨ringSt, 1, 0, by decide +kernel⟩,
   ⟨ringSt, 6, 6, 18, by decide +kernel⟩,
   ⟨ringSt, 5, 2, by decide +kernel⟩,
   ⟨ringSt, 5, 5, by decide +kernel⟩,
   ⟨ringSt, 4096, 6, 22, by decide +kernel⟩,
   ⟨ringSt, 7, 25, by decide +kernel⟩,
   ⟨ringSt, 1, 4, by decide +kernel⟩,
   ⟨ringSt, 7, 2, by decide +kernel⟩,
   ⟨ringSt, 5, 255, by decide +kernel⟩⟩

theorem wit_CompletionEntryLeaves :
    (∃ c : Nat, ∃ d : Dev, (let q := cplRing c d; q.since + 1 < q.count)) ∧
    (∃ c : Nat, ∃ d : Dev, (let q := cplRing c d; q.count ≤ q.since + 1)) :=
  ⟨⟨8, cplSet 8 { count := 3, since := 1, log2 := 4, tail := 17 } up.dev, by decide +kernel⟩,
   ⟨1, upDup.dev, by decide +kernel⟩⟩

theorem wit_DescriptorsAreTaken :
    (∃ s : State, Runs s ∧ ((slu 140 s.dev).wait ≠ [] ∨ ringTurn s.dev = none ∨ inMastering s.dev = false ∨ uready 1 s.dev = false)) ∧
    (∃ s : State, ∃ b : List Byte, Runs s ∧ uready 1 s.dev = true ∧ inMastering s.dev = true ∧ (slu 140 s.dev).wait = [] ∧
     (∃ n ∈ ringTurn s.dev, b.length = 64 ∧ descBad b = true)) ∧
    (∃ s : State, ∃ b : List Byte, Runs s ∧ uready 1 s.dev = true ∧ inMastering s.dev = true ∧ (slu 140 s.dev).wait = [] ∧
     (∃ n ∈ ringTurn s.dev, b.length = 64 ∧ (let st := fieldLe b 0 2 % 4096; (let dir := fieldLe b 2 1 % 2; descBad b = false ∧ boundRoute st dir s.dev = none)))) ∧
    (∃ s : State, ∃ b : List Byte, Runs s ∧ uready 1 s.dev = true ∧ inMastering s.dev = true ∧ (slu 140 s.dev).wait = [] ∧
     (∃ n ∈ ringTurn s.dev, b.length = 64 ∧ (let st := fieldLe b 0 2 % 4096; (let dir := fieldLe b 2 1 % 2; descBad b = false ∧ (∃ q0 ∈ boundRoute st dir s.dev, (s.dev.host.admitted = true ∨ uready 3 s.dev = false ∨ ledgOpen s.dev = false ∨ ledgPick s.dev = none)))))) ∧
    (∃ s : State, ∃ b : List Byte, Runs s ∧ uready 1 s.dev = true ∧ inMastering s.dev = true ∧ (slu 140 s.dev).wait = [] ∧
     (∃ n ∈ ringTurn s.dev, b.length = 64 ∧ (let st := fieldLe b 0 2 % 4096; (let dir := fieldLe b 2 1 % 2; descBad b = false ∧ (∃ q0 ∈ boundRoute st dir s.dev, s.dev.host.admitted = false ∧ uready 3 s.dev = true ∧ ledgOpen s.dev = true ∧ (ledgPick s.dev).isSome = true))))) :=
  ⟨⟨up, by decide +kernel⟩,
   ⟨routeSt, desc 0x7005 0 0, by decide +kernel⟩,
   ⟨routeSt, desc 0x1006 0 0, by decide +kernel⟩,
   ⟨{ routeSt with dev := { routeSt.dev with host := { routeSt.dev.host with admitted := true } } }, desc 0x1005 2 4 [1,2,3,4], by decide +kernel⟩,
   ⟨routeSt, desc 0x1005 2 4 [1,2,3,4], by decide +kernel⟩⟩

theorem wit_HostReadsRetryOnce :
    (∃ s : State, ∃ n : Nat, ∃ x : Nat, Runs s ∧ uready 1 s.dev = true ∧ inMastering s.dev = true ∧ reading n x s.dev = true) ∧
    (∃ s : State, ∃ n : Nat, ∃ x : Nat, Runs s ∧ uready 1 s.dev = true ∧ inMastering s.dev = true ∧
     (∃ q ∈ s.dev.host.retries.find? (fun q => q.ring == n && q.lidx == x), now s.dev + s.dev.clk.gu ≤ q.due)) ∧
    (∃ s : State, ∃ n : Nat, ∃ x : Nat, Runs s ∧ uready 1 s.dev = true ∧ inMastering s.dev = true ∧
     (∃ q ∈ s.dev.host.retries.find? (fun q => q.ring == n && q.lidx == x), q.due < now s.dev + s.dev.clk.gu ∧ x = 0)) ∧
    (∃ s : State, ∃ n : Nat, ∃ x : Nat, Runs s ∧ uready 1 s.dev = true ∧ inMastering s.dev = true ∧
     (∃ q ∈ s.dev.host.retries.find? (fun q => q.ring == n && q.lidx == x), q.due < now s.dev + s.dev.clk.gu ∧ x ≠ 0)) :=
  ⟨⟨ringSt, 3, 0, by decide +kernel⟩,
   ⟨retrySt 3 0 200000, 3, 0, by decide +kernel⟩,
   ⟨retrySt 3 0 5, 3, 0, by decide +kernel⟩,
   ⟨retrySt 3 2 5, 3, 2, by decide +kernel⟩⟩

theorem wit_SluicesTakeWords :
    (∃ s : State, ∃ n : Nat, ∃ first : Bool, Runs s ∧ sluiceTakes n s.dev ∧
     (let x := slu n s.dev; hasRoom n s.dev ∧ x.openN < 1040 ∧ (first = true → x.opened = false) ∧ (first = false → x.opened = true ∧ x.openN < (if 76 ≤ n ∧ n < 140 then 68 else 1040)) ∧ (first = true → userves (sluConsumer n) s.dev = true) ∧ (first = true → ustate (sluConsumer n) s.dev = .draining → sluConsumer n = sluProducer n) ∧ (first = false ∨ n < 76 ∨ 140 ≤ n))) ∧
    (∃ s : State, ∃ n : Nat, ∃ first : Bool, Runs s ∧ sluiceTakes n s.dev ∧
     (let x := slu n s.dev; hasRoom n s.dev ∧ x.openN < 1040 ∧ (first = true → x.opened = false) ∧ (first = false → x.opened = true ∧ x.openN < (if 76 ≤ n ∧ n < 140 then 68 else 1040)) ∧ (first = true → userves (sluConsumer n) s.dev = true) ∧ (first = true → ustate (sluConsumer n) s.dev = .draining → sluConsumer n = sluProducer n) ∧ 76 ≤ n ∧ n < 140 ∧ first = true)) ∧
    (∃ s : State, ∃ n : Nat, Runs s ∧ sluiceTakes n s.dev ∧ (let x := slu n s.dev; ¬ hasRoom n s.dev ∧ x.opened = true ∧ x.openN < 68)) ∧
    (∃ s : State, ∃ n : Nat, Runs s ∧ sluiceTakes n s.dev ∧
     (let x := slu n s.dev; x.opened = false ∧ x.openN = 0 ∧ userves (sluConsumer n) s.dev = true ∧ (¬ hasRoom n s.dev ∨ sluShut n s.dev = true) ∧ replyOf n = none)) ∧
    (∃ s : State, ∃ n : Nat, Runs s ∧ sluiceTakes n s.dev ∧
     (let x := slu n s.dev; x.opened = false ∧ x.openN = 0 ∧ userves (sluConsumer n) s.dev = true ∧ (¬ hasRoom n s.dev ∨ sluShut n s.dev = true) ∧ (replyOf n).isSome = true)) ∧
    (∃ s : State, ∃ n : Nat, Runs s ∧ sluiceTakes n s.dev ∧
     (let x := slu n s.dev; x.opened = true ∧ x.openN < 1040 ∧ (n < 76 ∨ 140 ≤ n) ∧ (let e := raise 7 1 (sluBad n s.dev); hasRoom n e ∧ (slu n e).wait = [] ∧ sluShut n e = false ∧ userves (sluConsumer n) e = true))) ∧
    (∃ s : State, ∃ n : Nat, Runs s ∧ sluiceTakes n s.dev ∧ (let x := slu n s.dev; x.opened = false ∧ x.openN = 0 ∧ sluShut n s.dev = false)) ∧
    (∃ s : State, ∃ n : Nat, Runs s ∧ sluiceTakes n s.dev ∧ (let x := slu n s.dev; x.opened = true ∧ 1040 ≤ x.openN ∧ (n < 76 ∨ 140 ≤ n))) ∧
    (∃ s : State, ∃ n : Nat, Runs s ∧ sluiceTakes n s.dev ∧ (let x := slu n s.dev; x.opened = true ∧ 68 ≤ x.openN ∧ 76 ≤ n ∧ n < 140)) ∧
    (∃ s : State, ∃ n : Nat, ∃ t : State, Runs s ∧ sluiceTakes n s.dev ∧ Runs t ∧ sluOk t.dev.fuse.variant n = true ∧
     userves (sluProducer n) t.dev = true ∧ 0 < (slu n t.dev).resetT ∧ (slu n t.dev).resetT < 9 ∧ (slu n t.dev).openN < 68) :=
  ⟨⟨ringSt, 0, true, by decide +kernel⟩,
   ⟨ringSt, 77, true, by decide +kernel⟩,
   ⟨sluX 12 fun x => { x with words := List.replicate (64 * x.res) w1, opened := true, openN := 5 }, 12, by decide +kernel⟩,
   ⟨sluX 12 fun x => { x with words := List.replicate (64 * x.res) w1 }, 12, by decide +kernel⟩,
   ⟨sluX 145 fun x => { x with words := List.replicate (64 * x.res) w1 }, 145, by decide +kernel⟩,
   ⟨sluX 12 fun x => { x with opened := true, openN := 3, words := [w0] }, 12, by decide +kernel⟩,
   ⟨msiSt, 8, by decide +kernel⟩,
   ⟨sluX 12 fun x => { x with opened := true, openN := 1040 }, 12, by decide +kernel⟩,
   ⟨sluX 76 fun x => { x with opened := true, openN := 68 }, 76, by decide +kernel⟩,
   ⟨msiMask, 12, sluX 12 fun x => { x with resetT := 4 }, by decide +kernel⟩⟩

theorem wit_AbsorbedPackets :
    (∃ s : State, ∃ n : Nat, Runs s ∧ sluOk s.dev.fuse.variant n = true ∧ userves (sluProducer n) s.dev = true ∧
     ((slu n s.dev).resetT = 0 ∨ 9 ≤ (slu n s.dev).resetT) ∧ (slu n s.dev).wait = [] ∧
     (let x := slu n s.dev; x.opened = false ∧ x.openN = 0 ∧ x.absorb = false ∧ userves (sluConsumer n) s.dev = false ∧ (replyOf n).isSome = true)) ∧
    (∃ s : State, ∃ n : Nat, Runs s ∧ sluOk s.dev.fuse.variant n = true ∧ userves (sluProducer n) s.dev = true ∧
     ((slu n s.dev).resetT = 0 ∨ 9 ≤ (slu n s.dev).resetT) ∧ (slu n s.dev).wait = [] ∧
     (let x := slu n s.dev; x.opened = true ∧ x.absorb = true ∧ x.openN < 68 ∧ x.answer = false)) ∧
    (∃ s : State, ∃ n : Nat, Runs s ∧ sluOk s.dev.fuse.variant n = true ∧ userves (sluProducer n) s.dev = true ∧
     ((slu n s.dev).resetT = 0 ∨ 9 ≤ (slu n s.dev).resetT) ∧ (slu n s.dev).wait = [] ∧
     (let x := slu n s.dev; x.opened = true ∧ x.absorb = true ∧ x.openN < 68 ∧ x.answer = true ∧ (replyOf n).isSome = true)) :=
  ⟨⟨onUp (uentSet 5 { state := .off }), 145, by decide +kernel⟩,
   ⟨sluX 12 fun x => { x with opened := true, absorb := true, openN := 3 }, 12, by decide +kernel⟩,
   ⟨sluX 145 fun x => { x with opened := true, absorb := true, openN := 3, answer := true }, 145, by decide +kernel⟩⟩

theorem wit_SluicesGiveWords :
    (∃ s : State, ∃ n : Nat, Runs s ∧ sluOk s.dev.fuse.variant n = true ∧ userves (sluConsumer n) s.dev = true ∧
     (let x := slu n s.dev; (let out := x.resetT = 0 ∨ 9 ≤ x.resetT; out ∧ x.abortP = true))) ∧
    (∃ s : State, ∃ n : Nat, Runs s ∧ sluOk s.dev.fuse.variant n = true ∧ userves (sluConsumer n) s.dev = true ∧
     (let x := slu n s.dev; (let out := x.resetT = 0 ∨ 9 ≤ x.resetT; x.abortP = false ∧ out ∧ (x.started = true ∨ startable x) ∧ (∃ w ∈ x.words.head?, w.fresh = false)))) ∧
    (∃ s : State, ∃ n : Nat, Runs s ∧ sluOk s.dev.fuse.variant n = true ∧ userves (sluConsumer n) s.dev = true ∧
     (let x := slu n s.dev; x.abortP = false ∧ x.started = true ∧ (∀ w ∈ x.words.head?, w.fresh = true))) ∧
    (∃ s : State, ∃ n : Nat, Runs s ∧ sluOk s.dev.fuse.variant n = true ∧ userves (sluConsumer n) s.dev = true ∧
     (let x := slu n s.dev; (let out := x.resetT = 0 ∨ 9 ≤ x.resetT; ¬ out ∧ (x.started = true ∨ x.abortP = true)))) ∧
    (∃ s : State, ∃ n : Nat, Runs s ∧ sluOk s.dev.fuse.variant n = true ∧ userves (sluConsumer n) s.dev = true ∧
     (let x := slu n s.dev; (let out := x.resetT = 0 ∨ 9 ≤ x.resetT; x.abortP = false ∧ x.started = false ∧ (¬ out ∨ ¬ startable x)))) ∧
    (∃ s : State, ∃ n : Nat, Runs s ∧ sluOk s.dev.fuse.variant n = true ∧ userves (sluConsumer n) s.dev = true ∧
     (let x := slu n s.dev; x.started = true ∧ x.abortP = true)) ∧
    (∃ s : State, ∃ n : Nat, Runs s ∧ sluOk s.dev.fuse.variant n = true ∧ userves (sluConsumer n) s.dev = true ∧
     (let x := slu n s.dev; x.started = true ∧ x.abortP = false ∧ (frontPkt x.words).isSome = true)) ∧
    (∃ s : State, ∃ n : Nat, Runs s ∧ sluOk s.dev.fuse.variant n = true ∧ userves (sluConsumer n) s.dev = true ∧
     (let x := slu n s.dev; x.started = true ∧ x.abortP = false ∧ frontPkt x.words = none ∧ x.words ≠ [])) ∧
    (∃ s : State, ∃ n : Nat, Runs s ∧ sluOk s.dev.fuse.variant n = true ∧ userves (sluConsumer n) s.dev = true ∧
     (let x := slu n s.dev; x.started = true ∧ x.abortP = false ∧ frontPkt x.words = none ∧ x.words = [])) :=
  ⟨⟨sluX 12 fun x => { x with abortP := true, abortS := 3 }, 12, by decide +kernel⟩,
   ⟨sluX 12 fun x => { x with words := [w0, w2] }, 12, by decide +kernel⟩,
   ⟨sluX 12 fun x => { x with started := true }, 12, by decide +kernel⟩,
   ⟨sluX 12 fun x => { x with started := true, resetT := 3 }, 12, by decide +kernel⟩,
   ⟨upFull, 12, by decide +kernel⟩,
   ⟨sluX 12 fun x => { x with started := true, abortP := true }, 12, by decide +kernel⟩,
   ⟨sluX 12 fun x => { x with started := true, words := [w1, w2, w0] }, 12, by decide +kernel⟩,
   ⟨sluX 12 fun x => { x with started := true, words := [w1, w1], opened := true }, 12, by decide +kernel⟩,
   ⟨sluX 12 fun x => { x with started := true }, 12, by decide +kernel⟩⟩

theorem wit_BadPacketsRewind : ∃ n : Nat, ∃ d : Dev, ∃ k, n < 140 ∧ (let x := slu n d; x.opened = true ∧ x.absorb = false ∧ (∀ w ∈ x.words, w.bad = false) ∧ k ≠ n) :=
  ⟨12, (sluX 12 fun x => { x with opened := true, openN := 2, words := [w0, w2, { w0 with fresh := true }, { w1 with fresh := true }] }).dev, 2, by decide +kernel⟩

theorem wit_SluicesResetAndGrant :
    (∃ s : State, ∃ n : Nat, Runs s ∧
     (let x := slu n s.dev; sluOk s.dev.fuse.variant n = true ∧ x.opened = true ∧ x.lastAt + s.dev.slu.stall < now s.dev + s.dev.clk.gu)) ∧
    (∃ s : State, ∃ n : Nat, Runs s ∧ (let x := slu n s.dev; sluOk s.dev.fuse.variant n = true ∧ now s.dev + s.dev.clk.gu ≤ x.lastAt + s.dev.slu.stall)) ∧
    (∃ s : State, ∃ n : Nat, Runs s ∧ sluOk s.dev.fuse.variant n = true ∧ (n = 0 ∨ n = 1 ∨ n = 140 ∨ n = 141)) ∧
    (∃ s : State, ∃ n : Nat, Runs s ∧ sluOk s.dev.fuse.variant n = true ∧ n ≠ 0 ∧ n ≠ 1 ∧ n ≠ 140 ∧ n ≠ 141) ∧
    (∃ s : State, ∃ n : Nat, Runs s ∧ (let x := slu n s.dev; x.resetT = 1)) ∧
    (∃ s : State, Runs s ∧ s.dev.slu.granted = true) ∧
    (∃ s : State, Runs s ∧ (∃ n ∈ poolWinner s.dev, s.dev.slu.granted = false ∧ 0 < poolFree s.dev)) ∧
    (∃ s : State, Runs s ∧ (∃ n ∈ poolWinner s.dev, (let x := slu n s.dev; s.dev.slu.granted = false ∧ poolFree s.dev = 0 ∧ x.ovf = true ∧ x.ovr < 16384))) :=
  ⟨⟨onUp fun d => sluSet 12 { (slu 12 d) with opened := true } { d with gauge := 9300000 }, 12, by decide +kernel⟩,
   ⟨ringSt, 17, by decide +kernel⟩,
   ⟨mixA, 0, by decide +kernel⟩,
   ⟨upFull, 30, by decide +kernel⟩,
   ⟨sluX 12 fun x => { x with resetT := 1 }, 12, by decide +kernel⟩,
   ⟨onUp fun d => { d with slu := { d.slu with granted := true } }, by decide +kernel⟩,
   ⟨sluX 12 fun x => { x with words := List.replicate (64 * x.res) w1 }, by decide +kernel⟩,
   ⟨onUp fun d => sluSet 142 { (slu 142 d) with ovf := true, words := List.replicate (64 * (slu 142 d).res) w1 } ((List.range 12).foldl (fun d i => sluSet (12 + i) { (slu (12 + i) d) with borrowed := 3000 } d) d), by decide +kernel⟩⟩

theorem wit_PoolServesLowestClass :
    (∃ d : Dev, (∃ n ∈ poolWinner d, poolFree d = 0)) ∧
    (∃ d : Dev, ∃ m,
     (∃ n ∈ poolWinner d, (let wants := fun m => sluOk d.fuse.variant m = true ∧ poolWants (slu m d) = true ∧ (slu m d).paceT = 0 ∧ (poolFree d = 0 → (slu m d).ovf = true ∧ (slu m d).ovr < 16384); wants m))) :=
  ⟨⟨(onUp fun d => sluSet 142 { (slu 142 d) with ovf := true, words := List.replicate (64 * (slu 142 d).res) w1 } ((List.range 12).foldl (fun d i => sluSet (12 + i) { (slu (12 + i) d) with borrowed := 3000 } d) d)).dev, by decide +kernel⟩,
   ⟨(sluX 12 fun x => { x with words := List.replicate (64 * x.res) w1 }).dev, 12, by decide +kernel⟩⟩

theorem wit_SluiceSettings :
    (∃ s : State, ∃ n : Nat, ∃ v : W32, Runs s ∧ HostFree s ∧
     (let x := slu n s.dev; (let y : SluSet := { cap := v.toNat % 1048576, res := x.res, ct := x.ct, ovf := x.ovf }; sluOk s.dev.fuse.variant n = true ∧ sluSetOk n y s.dev = true))) ∧
    (∃ s : State, ∃ n : Nat, ∃ v : W32, Runs s ∧ HostFree s ∧
     (let x := slu n s.dev; (let y : SluSet := { cap := v.toNat % 1048576, res := x.res, ct := x.ct, ovf := x.ovf }; sluOk s.dev.fuse.variant n = true ∧ sluSetOk n y s.dev = false))) ∧
    (∃ s : State, ∃ n : Nat, ∃ v : W32, Runs s ∧ HostFree s ∧
     (let x := slu n s.dev; (let z : SluSet := { cap := x.cap, res := v.toNat / 65536 % 64, ct := v.toNat % 1024, ovf := if n = 142 then v.getLsbD 29 else x.ovf }; sluOk s.dev.fuse.variant n = true ∧ sluSetOk n z s.dev = true))) ∧
    (∃ s : State, ∃ n : Nat, ∃ v : W32, Runs s ∧ HostFree s ∧
     (let x := slu n s.dev; (let z : SluSet := { cap := x.cap, res := v.toNat / 65536 % 64, ct := v.toNat % 1024, ovf := if n = 142 then v.getLsbD 29 else x.ovf }; sluOk s.dev.fuse.variant n = true ∧ sluSetOk n z s.dev = false))) ∧
    (∃ s : State, ∃ n : Nat, ∃ y : SluSet, Runs s ∧ HostFree s ∧ sluSetOk n y s.dev = true ∧ y.ct = 0) ∧
    (∃ s : State, ∃ n : Nat, ∃ y : SluSet, Runs s ∧ HostFree s ∧ sluSetOk n y s.dev = true ∧ y.ct ≠ 0) ∧
    (∃ s : State, ∃ n : Nat, ∃ y : SluSet, Runs s ∧ HostFree s ∧ sluSetOk n y s.dev = true ∧ 1024 < y.cap) ∧
    (∃ s : State, ∃ n : Nat, ∃ y : SluSet, Runs s ∧ HostFree s ∧ (let x := slu n s.dev; sluSetOk n y s.dev = true ∧ y.ovf ≠ x.ovf)) ∧
    (∃ s : State, ∃ n : Nat, ∃ y : SluSet, Runs s ∧ HostFree s ∧ sluSetOk n y s.dev = true ∧ 4 ≤ n ∧ n ≤ 11) ∧
    (∃ s : State, ∃ n : Nat, ∃ y : SluSet, Runs s ∧ HostFree s ∧ (let x := slu n s.dev; sluSetOk n y s.dev = true ∧ x.res < y.res)) ∧
    (∃ s : State, ∃ n : Nat, ∃ y : SluSet, Runs s ∧ HostFree s ∧ (let x := slu n s.dev; sluSetOk n y s.dev = true ∧ y.res ≠ x.res)) :=
  ⟨⟨ringSt, 0, 0x80, by decide +kernel⟩,
   ⟨ringSt, 17, 0, by decide +kernel⟩,
   ⟨mixA, 12, 0x10000, by decide +kernel⟩,
   ⟨upFull, 30, 0, by decide +kernel⟩,
   ⟨msiSt, 12, { sluSettings (slu 12 up.dev) with ct := 0 }, by decide +kernel⟩,
   ⟨upFull, 12, sluSettings (slu 12 up.dev), by decide +kernel⟩,
   ⟨upDup, 142, { sluSettings (slu 142 up.dev) with cap := 1025, ovf := true }, by decide +kernel⟩,
   ⟨onUp fun d => sluSet 142 { (slu 142 d) with ovf := false } d, 142, { sluSettings (slu 142 up.dev) with ovf := true }, by decide +kernel⟩,
   ⟨msiMask, 5, sluSettings (slu 5 up.dev), by decide +kernel⟩,
   ⟨upDup, 12, { sluSettings (slu 12 up.dev) with res := 9, cap := 32 }, by decide +kernel⟩,
   ⟨upDup, 3, sluSettings (slu 12 up.dev), by decide +kernel⟩⟩

theorem wit_RouteCommits :
    (∃ s : State, ∃ v : W32, Runs s ∧ HostFree s ∧ shoreBehind s = false ∧ s.dev.weir.committed = false ∧
     (let r := v.toNat % 256; (let m := routeStage r s.dev; routeOk m = false))) ∧
    (∃ s : State, ∃ v : W32, Runs s ∧ HostFree s ∧ shoreBehind s = false ∧ s.dev.weir.committed = false ∧
     (let r := v.toNat % 256; (let e := v.toNat / 65536; (let m := routeStage r s.dev; (let old := routeNew r s.dev; routeOk m = true ∧ e ≠ old.epoch))))) ∧
    (∃ s : State, ∃ v : W32, Runs s ∧ HostFree s ∧ shoreBehind s = false ∧ s.dev.weir.committed = false ∧
     (let r := v.toNat % 256; (let e := v.toNat / 65536; (let m := routeStage r s.dev; (let old := routeNew r s.dev; routeOk m = true ∧ e = old.epoch ∧ 2 ≤ (routeLive r s.dev).length))))) ∧
    (∃ s : State, ∃ v : W32, Runs s ∧ HostFree s ∧ shoreBehind s = false ∧ s.dev.weir.committed = false ∧
     (let r := v.toNat % 256; (let e := v.toNat / 65536; (let m := routeStage r s.dev; (let old := routeNew r s.dev; routeOk m = true ∧ e = old.epoch ∧ (routeLive r s.dev).length < 2))))) ∧
    (∃ s : State, Runs s ∧ (s.dev.weir.committed = true ∨ shoreBehind s = true)) :=
  ⟨⟨onUp (routeStageSet 3 (rImg 1 0xCF 0 0 [])), 3, by decide +kernel⟩,
   ⟨staleRoute, 0x3, by decide +kernel⟩,
   ⟨onUp fun d => routeStageSet 3 (rImg 1 0xC2 200000 500000 [[2], [6, 0, 1]]) { d with weir := { d.weir with live := [(3, [{ epoch := 1, img := img4 }, { epoch := 0, img := img4 }])] } }, 0x10003, by decide +kernel⟩,
   ⟨staleRoute, 0x10003, by decide +kernel⟩,
   ⟨onUp fun d => { d with weir := { d.weir with committed := true } }, by decide +kernel⟩⟩

theorem wit_HeldCommitsAndBinds :
    (∃ s : State, ∃ r : Nat, Runs s ∧
     (∃ w ∈ (s.dev.weir.waits.filter fun w => w.route == r).head?, (s.dev.weir.committed = true ∨ 2 ≤ (routeLive r s.dev).length))) ∧
    (∃ s : State, ∃ r : Nat, Runs s ∧
     (∃ w ∈ (s.dev.weir.waits.filter fun w => w.route == r).head?, s.dev.weir.committed = false ∧ (routeLive r s.dev).length < 2 ∧ (let d : Dev := { s.dev with weir := { s.dev.weir with waits := s.dev.weir.waits.erase w } }; (let m := routeStage r d; routeOk m = false)))) ∧
    (∃ s : State, ∃ r : Nat, Runs s ∧
     (∃ w ∈ (s.dev.weir.waits.filter fun w => w.route == r).head?, s.dev.weir.committed = false ∧ (routeLive r s.dev).length < 2 ∧ (let d : Dev := { s.dev with weir := { s.dev.weir with waits := s.dev.weir.waits.erase w } }; (let m := routeStage r d; routeOk m = true ∧ w.epoch ≠ (routeNew r d).epoch)))) ∧
    (∃ s : State, ∃ r : Nat, Runs s ∧
     (∃ w ∈ (s.dev.weir.waits.filter fun w => w.route == r).head?, s.dev.weir.committed = false ∧ (routeLive r s.dev).length < 2 ∧ (let d : Dev := { s.dev with weir := { s.dev.weir with waits := s.dev.weir.waits.erase w } }; (let m := routeStage r d; routeOk m = true ∧ w.epoch = (routeNew r d).epoch)))) ∧
    (∃ s : State, Runs s ∧ HostFree s) :=
  ⟨⟨holdSt true 1 true, 3, by decide +kernel⟩,
   ⟨holdSt false 1 false, 3, by decide +kernel⟩,
   ⟨holdSt true 9 false, 3, by decide +kernel⟩,
   ⟨holdSt true 1 false, 3, by decide +kernel⟩,
   ⟨upFull, by decide +kernel⟩⟩

theorem wit_AdmissionStamps :
    (∃ a : AdmitIn, ∃ l : Nat, ∃ d : Dev, ∃ q, item? l d = none ∧ (let k := 2 * a.stream + a.dir; q ≠ k)) ∧
    (∃ l : Nat, ∃ d : Dev, ∃ q, item? l d = none ∧ q ≠ l) :=
  ⟨⟨adm0, 6, takenSt.dev, 4, by decide +kernel⟩,
   ⟨20, mixA.dev, 25, by decide +kernel⟩⟩

theorem wit_StagesDispatch :
    (∃ s : State, ∃ l : Nat, ∃ i : Nat, Runs s ∧
     (∃ it ∈ item? l s.dev, (let img := routeAt it.route it.epoch s.dev; (let st := rStage img i; (let k := stKind st; (let src := inputOf img it k i; stageReady l it img i s.dev = true ∧ 1 ≤ k ∧ k ≤ 3 ∧ (let u := 3 + k; (let p : Pkt := { stream := it.stream, kind := it.kind, gen := ugen 3 s.dev, lidx := l, body := engineBody it i (stTable st) it.flush src }; (let d0 := setStage l i (.sent 0 (ugen u s.dev)) s.dev; uready u s.dev = true ∧ ((match src with | .wait _ => false | _ => true) = true) ∧ (putPkt (141 + 2 * k) p d0).isSome = true))))))))) ∧
    (∃ s : State, ∃ l : Nat, ∃ i : Nat, Runs s ∧
     (∃ it ∈ item? l s.dev, (let img := routeAt it.route it.epoch s.dev; (let st := rStage img i; (let k := stKind st; (let src := inputOf img it k i; stageReady l it img i s.dev = true ∧ 1 ≤ k ∧ k ≤ 3 ∧ (let u := 3 + k; (let p : Pkt := { stream := it.stream, kind := it.kind, gen := ugen 3 s.dev, lidx := l, body := engineBody it i (stTable st) it.flush src }; (let d0 := setStage l i (.sent 0 (ugen u s.dev)) s.dev; uready u s.dev = true ∧ ((match src with | .wait _ => false | _ => true) = true) ∧ putPkt (141 + 2 * k) p d0 = none))))))))) ∧
    (∃ s : State, ∃ l : Nat, ∃ i : Nat, ∃ j, Runs s ∧
     (∃ it ∈ item? l s.dev, (let img := routeAt it.route it.epoch s.dev; (let st := rStage img i; (let k := stKind st; (let src := inputOf img it k i; stageReady l it img i s.dev = true ∧ 1 ≤ k ∧ k ≤ 3 ∧ (let u := 3 + k; uready u s.dev = true ∧ src = .wait j))))))) ∧
    (∃ s : State, ∃ l : Nat, ∃ i : Nat, Runs s ∧
     (∃ it ∈ item? l s.dev, (let img := routeAt it.route it.epoch s.dev; (let st := rStage img i; (let k := stKind st; (let src := inputOf img it k i; (let marked := bitOf (lrec l s.dev).mark i; stageReady l it img i s.dev = true ∧ 1 ≤ k ∧ k ≤ 3 ∧ (let u := 3 + k; ustate u s.dev = .draining ∧ marked = false ∧ ((match src with | .wait _ => false | _ => true) = true))))))))) ∧
    (∃ s : State, ∃ l : Nat, ∃ i : Nat, Runs s ∧
     (∃ it ∈ item? l s.dev, (let img := routeAt it.route it.epoch s.dev; (let st := rStage img i; (let k := stKind st; (let marked := bitOf (lrec l s.dev).mark i; stageReady l it img i s.dev = true ∧ 1 ≤ k ∧ k ≤ 3 ∧ (let u := 3 + k; uready u s.dev = false ∧ marked = true))))))) ∧
    (∃ s : State, ∃ l : Nat, ∃ i : Nat, Runs s ∧
     (∃ it ∈ item? l s.dev, (let img := routeAt it.route it.epoch s.dev; (let st := rStage img i; (let k := stKind st; (let marked := bitOf (lrec l s.dev).mark i; stageReady l it img i s.dev = true ∧ 1 ≤ k ∧ k ≤ 3 ∧ (let u := 3 + k; uready u s.dev = false ∧ ustate u s.dev ≠ .draining ∧ marked = false))))))) ∧
    (∃ s : State, ∃ l : Nat, ∃ i : Nat, Runs s ∧
     (∃ it ∈ item? l s.dev, (let img := routeAt it.route it.epoch s.dev; (let st := rStage img i; (let k := stKind st; (let src := inputOf img it k i; stageReady l it img i s.dev = true ∧ k = 4 ∧ ((match src with | .wait _ => false | _ => true) = true) ∧ (∃ c ∈ coreFor (stCores st) s.dev, uready (16 + c) s.dev = true ∧ (let p : Pkt := { stream := it.stream, kind := it.kind, gen := ugen 3 s.dev, lidx := l, body := basinBody it i (stTable st) (basinInput it src) }; (let d0 := setStage l i (.sent c (ugen (16 + c) s.dev)) s.dev; (putPkt (149 + c) p d0).isSome = true))))))))) ∧
    (∃ s : State, ∃ l : Nat, ∃ i : Nat, Runs s ∧
     (∃ it ∈ item? l s.dev, (let img := routeAt it.route it.epoch s.dev; (let st := rStage img i; (let k := stKind st; (let src := inputOf img it k i; stageReady l it img i s.dev = true ∧ k = 4 ∧ ((match src with | .wait _ => false | _ => true) = true) ∧ (∃ c ∈ coreFor (stCores st) s.dev, uready (16 + c) s.dev = true ∧ (let p : Pkt := { stream := it.stream, kind := it.kind, gen := ugen 3 s.dev, lidx := l, body := basinBody it i (stTable st) (basinInput it src) }; (let d0 := setStage l i (.sent c (ugen (16 + c) s.dev)) s.dev; putPkt (149 + c) p d0 = none))))))))) ∧
    (∃ s : State, ∃ l : Nat, ∃ i : Nat, Runs s ∧
     (∃ it ∈ item? l s.dev, (let img := routeAt it.route it.epoch s.dev; (let st := rStage img i; (let k := stKind st; stageReady l it img i s.dev = true ∧ k = 4 ∧ coreFor (stCores st) s.dev = none))))) ∧
    (∃ s : State, ∃ l : Nat, ∃ i : Nat, Runs s ∧
     (∃ it ∈ item? l s.dev, (let img := routeAt it.route it.epoch s.dev; (let st := rStage img i; (let k := stKind st; stageReady l it img i s.dev = true ∧ k = 5 ∧ uready 30 s.dev = true))))) ∧
    (∃ s : State, ∃ l : Nat, ∃ i : Nat, Runs s ∧
     (∃ it ∈ item? l s.dev, (let img := routeAt it.route it.epoch s.dev; (let st := rStage img i; (let k := stKind st; (let marked := bitOf (lrec l s.dev).mark i; stageReady l it img i s.dev = true ∧ k = 5 ∧ uready 30 s.dev = false ∧ marked = false)))))) ∧
    (∃ s : State, ∃ l : Nat, ∃ i : Nat, Runs s ∧ (∃ it ∈ item? l s.dev, (let img := routeAt it.route it.epoch s.dev; stageReady l it img i s.dev = false))) ∧
    (∃ s : State, ∃ l : Nat, ∃ i : Nat, Runs s ∧
     (∃ it ∈ item? l s.dev, (let img := routeAt it.route it.epoch s.dev; (let st := rStage img i; (let k := stKind st; (k = 1 ∨ k = 2 ∨ k = 3) ∧ it.stages.getD i .idle = .waiting ∧ uready (3 + k) s.dev = true))))) ∧
    (∃ s : State, ∃ l : Nat, ∃ i : Nat, Runs s ∧ (∃ it ∈ item? l s.dev, it.stages.getD i .idle ≠ .waiting)) ∧
    (∃ s : State, ∃ l : Nat, ∃ i : Nat, Runs s ∧
     (∃ it ∈ item? l s.dev, (let marked := bitOf (lrec l s.dev).mark i; marked = true ∧ (let e := stageDispatch l i (replayReady l i (stageResume l i s.dev)); (∃ x ∈ item? l e, x.stages.getD i .idle ≠ .idle))))) ∧
    (∃ s : State, ∃ l : Nat, ∃ i : Nat, Runs s ∧
     (∃ it ∈ item? l s.dev, (let marked := bitOf (lrec l s.dev).mark i; marked = true ∧ (let e := stageDispatch l i (replayReady l i (stageResume l i s.dev)); (∃ x ∈ item? l e, x.stages.getD i .idle = .idle))))) ∧
    (∃ s : State, ∃ l : Nat, Runs s ∧ (∃ it ∈ item? l s.dev, (lrec l s.dev).refetch = true ∧ it.inn = false)) ∧
    (∃ s : State, ∃ l : Nat, Runs s ∧ (∃ it ∈ item? l s.dev, ((lrec l s.dev).refetch = false ∨ it.inn = true))) ∧
    (∃ s : State, ∃ l : Nat, Runs s ∧ (∃ it ∈ item? l s.dev, (let img := routeAt it.route it.epoch s.dev; rHold img = true))) :=
  ⟨⟨itemSt it0, 7, 0, by decide +kernel⟩,
   ⟨(itStates.getD 146 up), 7, 0, by decide +kernel⟩,
   ⟨cutSt, 7, 1, 0, by decide +kernel⟩,
   ⟨(itStates.getD 69 up), 7, 0, by decide +kernel⟩,
   ⟨st (uentSet 5 { state := .off } (uentSet 4 { state := .off } (itemDev img4 it0 { rec0 with mark := 3, refetch := true } (upDev .hg8)))), 7, 0, by decide +kernel⟩,
   ⟨(itStates.getD 93 up), 7, 0, by decide +kernel⟩,
   ⟨itemSt itK4, 7, 3, by decide +kernel⟩,
   ⟨onUp fun d => sluMod 149 (fun x => { x with opened := true }) (itemDev img4 itK4 rec0 d), 7, 3, by decide +kernel⟩,
   ⟨st (itemDev imgNoCore itK4 rec0 (upDev .hg2w)), 7, 3, by decide +kernel⟩,
   ⟨itemSt itK5 rec0 img5, 7, 3, by decide +kernel⟩,
   ⟨st (uentSet 30 { state := .off } (itemDev img5 itK5 rec0 (upDev .hg8))), 7, 3, by decide +kernel⟩,
   ⟨(itStates.getD 150 up), 7, 1, by decide +kernel⟩,
   ⟨(itStates.getD 44 up), 7, 1, by decide +kernel⟩,
   ⟨(itStates.getD 56 up), 7, 3, by decide +kernel⟩,
   ⟨(itStates.getD 29 up), 7, 0, by decide +kernel⟩,
   ⟨(itStates.getD 24 up), 7, 1, by decide +kernel⟩,
   ⟨(itStates.getD 28 up), 7, by decide +kernel⟩,
   ⟨(itStates.getD 3 up), 7, by decide +kernel⟩,
   ⟨(itStates.getD 48 up), 7, by decide +kernel⟩⟩

theorem wit_PayloadsArrive :
    (∃ d : Dev, userves 3 d = true ∧ holdOpen d = true ∧
     (∃ q0 ∈ takePkt 140 d, let p := q0.1; let e := q0.2; (∃ it ∈ item? p.lidx e, p.aborted = false ∧ it.whole = false ∧ it.failed = false ∧ (let l := p.lidx; (lrec l e).refetch = false)))) ∧
    (∃ d : Dev, userves 3 d = true ∧ holdOpen d = true ∧
     (∃ q0 ∈ takePkt 140 d, let p := q0.1; let e := q0.2; (∃ it ∈ item? p.lidx e, p.aborted = false ∧ it.whole = false ∧ it.failed = false ∧ (let l := p.lidx; (lrec l e).refetch = true)))) ∧
    (∃ d : Dev, holdOpen d = false) ∧
    (∃ d : Dev, ∃ w, w ∈ (slu 142 (holdSweep d)).words ∧ w.first = true ∧ (wordKey w).2.1 ≠ noLidx) :=
  ⟨⟨inSt rec0, by decide +kernel⟩,
   ⟨inSt { rec0 with refetch := true }, by decide +kernel⟩,
   ⟨sluSet 142 { slu 142 (inSt rec0) with wait := [[{ data := [], first := true, last := true, valid := 64, fresh := false }]] } (inSt rec0), by decide +kernel⟩,
   ⟨itemPut 142 7 [1, 2] (inSt rec0), (slu 142 (holdSweep (itemPut 142 7 [1, 2] (inSt rec0)))).words.getD 0 { data := [], first := true, last := true, valid := 64, fresh := false }, by decide +kernel⟩⟩

theorem wit_RepliesAreConsumed :
    (∃ s : State, ∃ n : Nat, Runs s ∧ stageFront n s.dev = none) ∧
    (∃ s : State, ∃ n : Nat, Runs s ∧ (∃ q0 ∈ stageFront n s.dev, let p := q0.1; let d := q0.2; (let l := p.lidx; item? l d = none))) ∧
    (∃ s : State, ∃ n : Nat, Runs s ∧
     (∃ q0 ∈ stageFront n s.dev, let p := q0.1; let d := q0.2; (let l := p.lidx; (∃ it ∈ item? l d, it.stream = p.stream ∧ (let sentBefore := fun i => match it.stages.getD i .idle with | .sent _ g => decide ((p.gen + 65536 - g) % 65536 < 32768) | _ => false; p.absent = false ∧ p.aborted = false ∧ (let i := fieldLe p.body 0 1 % 8; sentBefore i = false)))))) ∧
    (∃ s : State, ∃ n : Nat, Runs s ∧
     (∃ q0 ∈ stageFront n s.dev, let p := q0.1; let d := q0.2; (let l := p.lidx; (let u := sluProducer n; (∃ it ∈ item? l d, it.stream = p.stream ∧ (let sentBefore := fun i => match it.stages.getD i .idle with | .sent _ g => decide ((p.gen + 65536 - g) % 65536 < 32768) | _ => false; p.absent = false ∧ p.aborted = false ∧ (let i := fieldLe p.body 0 1 % 8; sentBefore i = true ∧ p.gen ≠ ugen u d ∧ ustate u d ≠ .draining))))))) ∧
    (∃ s : State, ∃ n : Nat, Runs s ∧
     (∃ q0 ∈ stageFront n s.dev, let p := q0.1; let d := q0.2; (let l := p.lidx; (let u := sluProducer n; (∃ it ∈ item? l d, it.stream = p.stream ∧ (let img := routeAt it.route it.epoch d; (let sentBefore := fun i => match it.stages.getD i .idle with | .sent _ g => decide ((p.gen + 65536 - g) % 65536 < 32768) | _ => false; p.absent = false ∧ p.aborted = false ∧ (let i := fieldLe p.body 0 1 % 8; sentBefore i = true ∧ p.gen = ugen u d ∧ replyRead (stKind (rStage img i)) it p.body = none)))))))) ∧
    (∃ s : State, ∃ n : Nat, Runs s ∧
     (∃ q0 ∈ stageFront n s.dev, let p := q0.1; let d := q0.2; (let l := p.lidx; (let u := sluProducer n; (∃ it ∈ item? l d, it.stream = p.stream ∧ (let img := routeAt it.route it.epoch d; (let sentBefore := fun i => match it.stages.getD i .idle with | .sent _ g => decide ((p.gen + 65536 - g) % 65536 < 32768) | _ => false; p.absent = false ∧ p.aborted = false ∧ (let i := fieldLe p.body 0 1 % 8; sentBefore i = true ∧ p.gen = ugen u d ∧ (∃ r ∈ replyRead (stKind (rStage img i)) it p.body, bitOf (lrec l d).mark i = false))))))))) ∧
    (∃ s : State, ∃ n : Nat, Runs s ∧
     (∃ q0 ∈ stageFront n s.dev, let p := q0.1; let d := q0.2; (let l := p.lidx; (let u := sluProducer n; (∃ it ∈ item? l d, it.stream = p.stream ∧ (let img := routeAt it.route it.epoch d; (let sentBefore := fun i => match it.stages.getD i .idle with | .sent _ g => decide ((p.gen + 65536 - g) % 65536 < 32768) | _ => false; (p.absent = true ∨ p.aborted = true) ∧ (∃ i ∈ (if p.stage ≠ 0 then some (p.stage - 1) else sentTo it img u), sentBefore i = true ∧ p.aborted = true)))))))) ∧
    (∃ s : State, ∃ n : Nat, Runs s ∧
     (∃ q0 ∈ stageFront n s.dev, let p := q0.1; let d := q0.2; (let l := p.lidx; (let u := sluProducer n; (∃ it ∈ item? l d, it.stream = p.stream ∧ (let img := routeAt it.route it.epoch d; (let sentBefore := fun i => match it.stages.getD i .idle with | .sent _ g => decide ((p.gen + 65536 - g) % 65536 < 32768) | _ => false; (p.absent = true ∨ p.aborted = true) ∧ (∃ i ∈ (if p.stage ≠ 0 then some (p.stage - 1) else sentTo it img u), sentBefore i = true ∧ p.absent = true ∧ p.aborted = false ∧ p.gen = ugen u d)))))))) :=
  ⟨⟨ringSt, 146, by decide +kernel⟩,
   ⟨reply 146 (pk 99 0 false false (rbody 1 1 1 4)) itR, 146, by decide +kernel⟩,
   ⟨reply 146 (pk 7 65535 false false (rbody 1 1 1 4)) itR, 146, by decide +kernel⟩,
   ⟨reply 146 (pk 7 1 false false (rbody 1 1 1 4)) itR, 146, by decide +kernel⟩,
   ⟨reply 146 (pk 7 0 false false (rbody 1 1 9 4)) itR, 146, by decide +kernel⟩,
   ⟨reply 146 (pk 7 0 false false (rbody 1 1 1 4)) itR, 146, by decide +kernel⟩,
   ⟨onUp fun d => sluMod 146 (fun x => { x with abortP := true, abortS := 5, abortL := 7, rdG := 1 }) (itemDev img4 itR rec0 d), 146, by decide +kernel⟩,
   ⟨reply 146 (pk 7 0 true false []) itR, 146, by decide +kernel⟩⟩

theorem wit_CombinesFinish :
    (∃ s : State, ∃ l : Nat, ∃ i : Nat, ∃ t : Nat, Runs s ∧ (∃ it ∈ item? l s.dev, it.stages.getD i .idle = .combining t ∧ s.dev.tickN < t + 10)) ∧
    (∃ s : State, ∃ l : Nat, ∃ i : Nat, ∃ t : Nat, Runs s ∧
     (∃ it ∈ item? l s.dev, it.stages.getD i .idle = .combining t ∧ (let img := routeAt it.route it.epoch s.dev; t + 10 ≤ s.dev.tickN ∧ it.result = none ∧ (i + 1 = rNStage img ∨ (bitOf (fieldLe (rStage img i) 2 2) 12 = true ∧ (combine img it i).prop = .block))))) ∧
    (∃ s : State, ∃ l : Nat, ∃ i : Nat, ∃ t : Nat, Runs s ∧
     (∃ it ∈ item? l s.dev, it.stages.getD i .idle = .combining t ∧ (let img := routeAt it.route it.epoch s.dev; t + 10 ≤ s.dev.tickN ∧ (it.result ≠ none ∨ (i + 1 ≠ rNStage img ∧ bitOf (fieldLe (rStage img i) 2 2) 12 = false))))) ∧
    (∃ img : List Byte, ∃ it : Item, ∃ i : Nat, ∃ v, (let st := rStage img i; (let vs := votesOf st it; vs ≠ [] ∧ stCores st = 0 ∧ v ∈ vs))) ∧
    (∃ img : List Byte, ∃ it : Item, ∃ i : Nat,
     (let st := rStage img i; (let vs := votesOf st it; vs ≠ [] ∧ stCores st = 1 ∧ ((vs.filter fun v => v.prop != .pass).length < stK st)))) ∧
    (∃ img : List Byte, ∃ it : Item, ∃ i : Nat, (let st := rStage img i; (let vs := votesOf st it; vs ≠ [] ∧ stCores st = 2 ∧ (∃ v ∈ vs, v.prop = .pass)))) ∧
    (∃ img : List Byte, ∃ it : Item, ∃ i : Nat,
     (let st := rStage img i; (let vs := votesOf st it; vs = [] ∧ (∃ j, j < rNStage img ∧ stKind (rStage img j) ≠ 6 ∧ it.stages.getD j .idle ≠ .skipped)))) :=
  ⟨⟨(itStates.getD 109 up), 7, 4, 19995, by decide +kernel⟩,
   ⟨(itStates.getD 135 up), 7, 4, 15000, by decide +kernel⟩,
   ⟨(itStates.getD 86 up), 7, 4, 15000, by decide +kernel⟩,
   ⟨img4, itDone, 4, { prop := .pass }, by decide +kernel⟩,
   ⟨rImg 1 0xE5 0 0 [[1], [2], [3], [4], [6, 1, 0x0B, 2]], itDone, 4, by decide +kernel⟩,
   ⟨rImg 1 0xC5 0 0 [[1], [2], [3], [4], [6, 2, 0x0B]], (itAll.getD 7 it0), 4, by decide +kernel⟩,
   ⟨rImg 1 0xC5 0 0 [[1], [2], [3], [4], [6, 2, 0x0B]], (itAll.getD 9 it0), 2, by decide +kernel⟩⟩

theorem wit_ItemsAreReleased :
    (∃ s : State, ∃ l : Nat, Runs s ∧ (∃ it ∈ item? l s.dev, s.dev.gauge.toNat + s.dev.clk.gu ≤ it.deadline)) ∧
    (∃ s : State, ∃ l : Nat, Runs s ∧
     (∃ it ∈ item? l s.dev, (let before := (s.dev.weir.items.map (·.1)).takeWhile (· != l); (let first := ∀ m ∈ before, ∀ x, item? m s.dev = some x → releaseGauge x s.dev = none; (let pending := fun (x : Item) => x.stream = it.stream ∧ x.dir = it.dir ∧ x.released = false ∧ (x.seq + 1) % 2 ^ 32 = it.seq; (let prior := ∃ m ∈ s.dev.weir.items, pending m.2; it.deadline < s.dev.gauge.toNat + s.dev.clk.gu ∧ first ∧ it.released = false ∧ (it.early = false ∨ inTime it s.dev = false ∨ prior))))))) ∧
    (∃ s : State, ∃ l : Nat, Runs s ∧
     (∃ it ∈ item? l s.dev, (let pending := fun (x : Item) => x.stream = it.stream ∧ x.dir = it.dir ∧ x.released = false ∧ (x.seq + 1) % 2 ^ 32 = it.seq; (let prior := ∃ m ∈ s.dev.weir.items, pending m.2; (it.early = false ∨ inTime it s.dev = false ∨ it.released = true ∨ prior ∨ s.dev.tickN < it.readyTick + 10))))) ∧
    (∃ s : State, ∃ l : Nat, Runs s ∧
     (∃ it ∈ item? l s.dev, (let before := (s.dev.weir.items.map (·.1)).takeWhile (· != l); (let first := ∀ m ∈ before, ∀ x, item? m s.dev = some x → releaseGauge x s.dev = none; (let pending := fun (x : Item) => x.stream = it.stream ∧ x.dir = it.dir ∧ x.released = false ∧ (x.seq + 1) % 2 ^ 32 = it.seq; (let prior := ∃ m ∈ s.dev.weir.items, pending m.2; it.released = false ∧ it.early = true ∧ inTime it s.dev = true ∧ first ∧ ¬ prior ∧ it.readyTick + 10 ≤ s.dev.tickN ∧ (∀ p ∈ (streamSt (2 * it.stream + it.dir) s.dev).rels, (p.1 + 1) % 2 ^ 32 = it.seq → p.2 + 10 ≤ s.dev.tickN))))))) ∧
    (∃ s : State, ∃ l : Nat, Runs s ∧
     (∃ it ∈ item? l s.dev, (let c := (lrec l s.dev).cq; it.released = false ∧ entryWaits it c s.dev ∧ (let forced := it.kind = 2 ∧ it.dir = 1 ∧ it.failed = false ∧ ∃ x ∈ (streamSt (2 * it.stream + it.dir) s.dev).cuts, x.1 = it.ans ∧ 0 < (it.seq + 2 ^ 32 - x.2) % 2 ^ 32 ∧ (it.seq + 2 ^ 32 - x.2) % 2 ^ 32 < 2 ^ 31; ¬ forced ∧ inTime it s.dev = false)))) ∧
    (∃ s : State, ∃ l : Nat, Runs s ∧
     (∃ it ∈ item? l s.dev, (let c := (lrec l s.dev).cq; it.released = false ∧ entryWaits it c s.dev ∧ (let forced := it.kind = 2 ∧ it.dir = 1 ∧ it.failed = false ∧ ∃ x ∈ (streamSt (2 * it.stream + it.dir) s.dev).cuts, x.1 = it.ans ∧ 0 < (it.seq + 2 ^ 32 - x.2) % 2 ^ 32 ∧ (it.seq + 2 ^ 32 - x.2) % 2 ^ 32 < 2 ^ 31; ¬ forced ∧ inTime it s.dev = true ∧ (it.result).isSome = true)))) ∧
    (∃ s : State, ∃ l : Nat, Runs s ∧
     (∃ it ∈ item? l s.dev, (let c := (lrec l s.dev).cq; it.released = false ∧ entryWaits it c s.dev ∧ (let forced := it.kind = 2 ∧ it.dir = 1 ∧ it.failed = false ∧ ∃ x ∈ (streamSt (2 * it.stream + it.dir) s.dev).cuts, x.1 = it.ans ∧ 0 < (it.seq + 2 ^ 32 - x.2) % 2 ^ 32 ∧ (it.seq + 2 ^ 32 - x.2) % 2 ^ 32 < 2 ^ 31; forced)))) :=
  ⟨⟨(itStates.getD 27 up), 7, by decide +kernel⟩,
   ⟨(itStates.getD 70 up), 7, by decide +kernel⟩,
   ⟨(itStates.getD 99 up), 7, by decide +kernel⟩,
   ⟨(itStates.getD 86 up), 7, by decide +kernel⟩,
   ⟨(itStates.getD 120 up), 7, by decide +kernel⟩,
   ⟨(itStates.getD 124 up), 7, by decide +kernel⟩,
   ⟨(itStates.getD 108 up), 7, by decide +kernel⟩⟩

theorem wit_AmendmentsFollow :
    (∃ s : State, ∃ l : Nat, Runs s ∧
     (∃ it ∈ item? l s.dev, it.released = true ∧ it.late = true ∧ (let img := routeAt it.route it.epoch s.dev; (∃ o ∈ it.result, rAmend img = true ∧ it.readyAt < it.deadline + rWindow img ∧ (s.dev.tickN < it.readyTick + 10 ∨ s.dev.tickN ≤ it.relTick))))) ∧
    (∃ s : State, ∃ l : Nat, Runs s ∧
     (∃ it ∈ item? l s.dev, it.released = true ∧ it.late = true ∧ (let img := routeAt it.route it.epoch s.dev; (let c := (lrec l s.dev).cq; (∃ o ∈ it.result, rAmend img = true ∧ it.readyAt < it.deadline + rWindow img ∧ it.readyTick + 10 ≤ s.dev.tickN ∧ it.relTick < s.dev.tickN ∧ (lrec l s.dev).deliv = 0 ∧ entryWaits it c s.dev))))) ∧
    (∃ s : State, ∃ l : Nat, Runs s ∧
     (∃ it ∈ item? l s.dev, it.released = true ∧ it.late = true ∧ (let img := routeAt it.route it.epoch s.dev; it.result = none ∧ it.deadline + rWindow img < s.dev.gauge.toNat + s.dev.clk.gu))) ∧
    (∃ s : State, ∃ l : Nat, Runs s ∧
     (∃ it ∈ item? l s.dev, it.released = true ∧ it.late = true ∧ (let img := routeAt it.route it.epoch s.dev; s.dev.gauge.toNat + s.dev.clk.gu ≤ it.deadline + rWindow img))) :=
  ⟨⟨st (itemDev (rImg 0x1D 0xC5 200000 500000 []) itLate rec0 (upDev .hg8)), 7, by decide +kernel⟩,
   ⟨(itStates.getD 111 up), 7, by decide +kernel⟩,
   ⟨st (itemDev (rImg 0x1D 0xC5 200000 5000 []) { it0 with released := true, late := true, deadline := 90000 } rec0 (upDev .hg8)), 7, by decide +kernel⟩,
   ⟨(itStates.getD 113 up), 7, by decide +kernel⟩⟩

theorem wit_ReedbedItems :
    (∃ s : State, Runs s ∧ userves 4 s.dev = true ∧
     (∃ q0 ∈ takePkt 143 s.dev, let p := q0.1; let d := q0.2; (let q := reqOf p; (let k := q.table % 8; (p.kind = 1 ∨ p.kind = 2 ∨ p.kind = 6) ∧ (p.kind ≠ 1 → ∀ w ∈ s.dev.reed.waiting, w.stream = p.stream → w.kind = 1) ∧ k ∈ d.reed.reload)))) ∧
    (∃ s : State, Runs s ∧ userves 4 s.dev = true ∧
     (∃ q0 ∈ takePkt 143 s.dev, let p := q0.1; let d := q0.2; (let q := reqOf p; (let k := q.table % 8; (let pack := (reedSlot k d).bytes; (let pr := rpProfile pack (bitsOf q.table 11 8); (p.kind = 1 ∨ p.kind = 2 ∨ p.kind = 6) ∧ (p.kind ≠ 1 → ∀ w ∈ s.dev.reed.waiting, w.stream = p.stream → w.kind = 1) ∧ k ∉ d.reed.reload ∧ p.kind = 1 ∧ reedBad q.table d = false ∧ (let r := reedText pack pr q.input; (let cuts := b2n r.truncB + b2n r.truncT; r.nRepl = 0 ∧ cuts = 0)))))))) ∧
    (∃ s : State, Runs s ∧ userves 4 s.dev = true ∧
     (∃ q0 ∈ takePkt 143 s.dev, let p := q0.1; let d := q0.2; (let q := reqOf p; (let k := q.table % 8; (let pack := (reedSlot k d).bytes; (let pr := rpProfile pack (bitsOf q.table 11 8); (p.kind = 1 ∨ p.kind = 2 ∨ p.kind = 6) ∧ (p.kind ≠ 1 → ∀ w ∈ s.dev.reed.waiting, w.stream = p.stream → w.kind = 1) ∧ k ∉ d.reed.reload ∧ p.kind = 1 ∧ reedBad q.table d = false ∧ (let r := reedText pack pr q.input; (let cuts := b2n r.truncB + b2n r.truncT; r.nRepl = 0 ∧ cuts ≠ 0)))))))) ∧
    (∃ s : State, Runs s ∧ userves 4 s.dev = true ∧
     (∃ q0 ∈ takePkt 143 s.dev, let p := q0.1; let d := q0.2; (let q := reqOf p; (let k := q.table % 8; (p.kind = 1 ∨ p.kind = 2 ∨ p.kind = 6) ∧ (p.kind ≠ 1 → ∀ w ∈ s.dev.reed.waiting, w.stream = p.stream → w.kind = 1) ∧ k ∉ d.reed.reload ∧ p.kind = 1 ∧ reedBad q.table d = true)))) ∧
    (∃ s : State, Runs s ∧ userves 4 s.dev = true ∧
     (∃ q0 ∈ takePkt 143 s.dev, let p := q0.1; let d := q0.2; (let q := reqOf p; (let k := q.table % 8; (p.kind = 1 ∨ p.kind = 2 ∨ p.kind = 6) ∧ (p.kind ≠ 1 → ∀ w ∈ s.dev.reed.waiting, w.stream = p.stream → w.kind = 1) ∧ k ∉ d.reed.reload ∧ p.kind ≠ 1 ∧ (let c := reedCarry q.stream d; (let d := if q.flush = true ∧ (c.seq ≠ q.seq ∨ c.mark = true) then reedClear q.stream d else d; (let c := reedCarry q.stream d; c.mark = false ∧ q.seq ≠ (c.seq + 1) % 2 ^ 32 ∧ q.seq ≠ c.seq ∧ reedBad q.table d = false))))))) ∧
    (∃ s : State, ∃ st, Runs s ∧ userves 4 s.dev = true ∧
     (∃ q0 ∈ takePkt 143 s.dev, let p := q0.1; let d := q0.2; (let q := reqOf p; (let k := q.table % 8; (p.kind = 1 ∨ p.kind = 2 ∨ p.kind = 6) ∧ (p.kind ≠ 1 → ∀ w ∈ s.dev.reed.waiting, w.stream = p.stream → w.kind = 1) ∧ k ∉ d.reed.reload ∧ p.kind ≠ 1 ∧ (let c := reedCarry q.stream d; (let d := if q.flush = true ∧ (c.seq ≠ q.seq ∨ c.mark = true) then reedClear q.stream d else d; (let c := reedCarry q.stream d; (let uses := fun (st : ReedSt) => (c.mark = true ∧ st = {}) ∨ (c.mark = false ∧ q.seq = (c.seq + 1) % 2 ^ 32 ∧ st = c.now) ∨ (c.mark = false ∧ q.seq ≠ (c.seq + 1) % 2 ^ 32 ∧ q.seq = c.seq ∧ st = c.was); uses st ∧ reedBad q.table d = true)))))))) ∧
    (∃ s : State, ∃ st, Runs s ∧ userves 4 s.dev = true ∧
     (∃ q0 ∈ takePkt 143 s.dev, let p := q0.1; let d := q0.2; (let q := reqOf p; (let k := q.table % 8; (p.kind = 1 ∨ p.kind = 2 ∨ p.kind = 6) ∧ (p.kind ≠ 1 → ∀ w ∈ s.dev.reed.waiting, w.stream = p.stream → w.kind = 1) ∧ k ∉ d.reed.reload ∧ p.kind ≠ 1 ∧ (let c := reedCarry q.stream d; (let d := if q.flush = true ∧ (c.seq ≠ q.seq ∨ c.mark = true) then reedClear q.stream d else d; (let c := reedCarry q.stream d; (let uses := fun (st : ReedSt) => (c.mark = true ∧ st = {}) ∨ (c.mark = false ∧ q.seq = (c.seq + 1) % 2 ^ 32 ∧ st = c.now) ∨ (c.mark = false ∧ q.seq ≠ (c.seq + 1) % 2 ^ 32 ∧ q.seq = c.seq ∧ st = c.was); uses st ∧ reedBad q.table d = false ∧ p.kind = 6)))))))) ∧
    (∃ s : State, ∃ st, Runs s ∧ userves 4 s.dev = true ∧
     (∃ q0 ∈ takePkt 143 s.dev, let p := q0.1; let d := q0.2; (let q := reqOf p; (let k := q.table % 8; (let pack := (reedSlot k d).bytes; (p.kind = 1 ∨ p.kind = 2 ∨ p.kind = 6) ∧ (p.kind ≠ 1 → ∀ w ∈ s.dev.reed.waiting, w.stream = p.stream → w.kind = 1) ∧ k ∉ d.reed.reload ∧ p.kind ≠ 1 ∧ (let c := reedCarry q.stream d; (let d := if q.flush = true ∧ (c.seq ≠ q.seq ∨ c.mark = true) then reedClear q.stream d else d; (let c := reedCarry q.stream d; (let uses := fun (st : ReedSt) => (c.mark = true ∧ st = {}) ∨ (c.mark = false ∧ q.seq = (c.seq + 1) % 2 ^ 32 ∧ st = c.now) ∨ (c.mark = false ∧ q.seq ≠ (c.seq + 1) % 2 ^ 32 ∧ q.seq = c.seq ∧ st = c.was); uses st ∧ reedBad q.table d = false ∧ p.kind = 2 ∧ (let x := decodeChunk pack (q.input.length + 1) q.input; (let o := chunkStep (rpStops pack (bitsOf q.table 7 4)) st x.1; x.2.2 = 0 ∧ (o.cut).isSome = true))))))))))) ∧
    (∃ s : State, ∃ st, Runs s ∧ userves 4 s.dev = true ∧
     (∃ q0 ∈ takePkt 143 s.dev, let p := q0.1; let d := q0.2; (let q := reqOf p; (let k := q.table % 8; (let pack := (reedSlot k d).bytes; (p.kind = 1 ∨ p.kind = 2 ∨ p.kind = 6) ∧ (p.kind ≠ 1 → ∀ w ∈ s.dev.reed.waiting, w.stream = p.stream → w.kind = 1) ∧ k ∉ d.reed.reload ∧ p.kind ≠ 1 ∧ (let c := reedCarry q.stream d; (let d := if q.flush = true ∧ (c.seq ≠ q.seq ∨ c.mark = true) then reedClear q.stream d else d; (let c := reedCarry q.stream d; (let uses := fun (st : ReedSt) => (c.mark = true ∧ st = {}) ∨ (c.mark = false ∧ q.seq = (c.seq + 1) % 2 ^ 32 ∧ st = c.now) ∨ (c.mark = false ∧ q.seq ≠ (c.seq + 1) % 2 ^ 32 ∧ q.seq = c.seq ∧ st = c.was); uses st ∧ reedBad q.table d = false ∧ p.kind = 2 ∧ (let x := decodeChunk pack (q.input.length + 1) q.input; (let o := chunkStep (rpStops pack (bitsOf q.table 7 4)) st x.1; x.2.2 = 0 ∧ o.cut = none))))))))))) ∧
    (∃ s : State, Runs s ∧
     (∃ p ∈ s.dev.reed.waiting.head?, userves 4 s.dev = true ∧ (∀ w ∈ (slu 144 s.dev).words, w.fresh = false) ∧ portFree 144 s.dev = true)) ∧
    (∃ s : State, Runs s ∧
     (∃ p ∈ s.dev.reed.waiting.head?, userves 4 s.dev = true ∧ ((∃ w ∈ (slu 144 s.dev).words, w.fresh = true) ∨ portFree 144 s.dev = false))) :=
  ⟨⟨((reedStates ++ openStates).getD 11 up), by decide +kernel⟩,
   ⟨((reedStates ++ openStates).getD 10 up), by decide +kernel⟩,
   ⟨((reedStates ++ openStates).getD 2 up), by decide +kernel⟩,
   ⟨((reedStates ++ openStates).getD 7 up), by decide +kernel⟩,
   ⟨((reedStates ++ openStates).getD 15 up), by decide +kernel⟩,
   ⟨((reedStates ++ openStates).getD 25 up), {}, by decide +kernel⟩,
   ⟨((reedStates ++ openStates).getD 30 up), {}, by decide +kernel⟩,
   ⟨((reedStates ++ openStates).getD 28 up), { held := [2] }, by decide +kernel⟩,
   ⟨((reedStates ++ openStates).getD 16 up), { held := [2] }, by decide +kernel⟩,
   ⟨((reedStates ++ openStates).getD 36 up), by decide +kernel⟩,
   ⟨((reedStates ++ openStates).getD 38 up), by decide +kernel⟩⟩

theorem wit_Utf8RoundTrip : ∃ c : Nat, scalarValue c :=
  ⟨7, by decide +kernel⟩

theorem wit_ChunksHoldBack :
    (∃ st : ReedSt, st.stopped = true) ∧
    (∃ stops : List (List Byte), ∃ st : ReedSt, ∃ dec : List Byte, ∃ k,
     (let o := chunkStep stops st dec; (let w := st.held ++ dec; st.stopped = false ∧ o.cut = none ∧ k < 64 ∧ k ≤ w.length ∧ (∃ x ∈ stops, k < x.length ∧ x.take k = w.drop (w.length - k))))) ∧
    (∃ stops : List (List Byte), ∃ st : ReedSt, ∃ dec : List Byte, (let o := chunkStep stops st dec; st.stopped = false ∧ (o.cut).isSome = true)) :=
  ⟨⟨{ stopped := true }, by decide +kernel⟩,
   ⟨[[0x63], [0x62, 0x62, 0x62]], {}, [], 0, by decide +kernel⟩,
   ⟨[[0x63], [0x62, 0x62, 0x62]], {}, [0x62, 0x62, 0x63], by decide +kernel⟩⟩

theorem wit_ShoalScanners :
    (∃ s : State, Runs s ∧ userves 5 s.dev = true ∧
     (∃ q0 ∈ takePkt 145 s.dev, let p := q0.1; (let held := (p.kind = 2 ∨ p.kind = 6) ∧ ∃ x ∈ s.dev.shoal.scan, ∃ w, x.2 = some w ∧ w.stream = p.stream ∧ (w.kind = 2 ∨ w.kind = 6); held))) ∧
    (∃ s : State, ∃ i, Runs s ∧ userves 5 s.dev = true ∧
     (∃ q0 ∈ takePkt 145 s.dev, let p := q0.1; (let held := (p.kind = 2 ∨ p.kind = 6) ∧ ∃ x ∈ s.dev.shoal.scan, ∃ w, x.2 = some w ∧ w.stream = p.stream ∧ (w.kind = 2 ∨ w.kind = 6); ¬ held ∧ i < 16 ∧ scanner i s.dev = none ∧ (∀ j, j < i → scanner j s.dev ≠ none)))) ∧
    (∃ s : State, Runs s ∧ userves 5 s.dev = true ∧ (∃ q0 ∈ takePkt 145 s.dev, (∀ i, i < 16 → scanner i s.dev ≠ none))) ∧
    (∃ s : State, Runs s ∧ userves 5 s.dev = true ∧ takePkt 145 s.dev = none) ∧
    (∃ s : State, ∃ i, Runs s ∧ userves 5 s.dev = true ∧
     (∃ p ∈ scanner i s.dev, (let q := reqOf p; (let k := q.table % 4; k ∈ s.dev.shoal.reload ∧ (putPkt 146 (absentReply 5 q s.dev) s.dev).isSome = true)))) ∧
    (∃ s : State, ∃ i, Runs s ∧ userves 5 s.dev = true ∧
     (∃ p ∈ scanner i s.dev, (let q := reqOf p; (let k := q.table % 4; (let pack := (shoalSlot k s.dev).bytes; k ∉ s.dev.shoal.reload ∧ p.kind ≠ 2 ∧ p.kind ≠ 6 ∧ q.prod = false ∧ shoalBad q.table s.dev = false ∧ (let o := shoalScan pack (spProfile pack (bitsOf q.table 7 4)) (fun a b => (a, b)) 0 q.input; (let body := replyBody q.stage o.prop false false o.scores o.cut q.epoch q.seq (o.spans.map fun x => (x.1, x.2 - x.1)) (shoalProduct o false false); (let d := if o.ovr then raise 5 1 s.dev else s.dev; (let d := if o.acted then raise 5 4 d else d; (putPkt 146 (replyOfUnit 5 q body d) d).isSome = true))))))))) ∧
    (∃ s : State, ∃ i, Runs s ∧ userves 5 s.dev = true ∧
     (∃ p ∈ scanner i s.dev, (let q := reqOf p; (let k := q.table % 4; (let pack := (shoalSlot k s.dev).bytes; k ∉ s.dev.shoal.reload ∧ p.kind ≠ 2 ∧ p.kind ≠ 6 ∧ q.prod = false ∧ shoalBad q.table s.dev = false ∧ (let o := shoalScan pack (spProfile pack (bitsOf q.table 7 4)) (fun a b => (a, b)) 0 q.input; (let body := replyBody q.stage o.prop false false o.scores o.cut q.epoch q.seq (o.spans.map fun x => (x.1, x.2 - x.1)) (shoalProduct o false false); (let d := if o.ovr then raise 5 1 s.dev else s.dev; (let d := if o.acted then raise 5 4 d else d; putPkt 146 (replyOfUnit 5 q body d) d = none))))))))) ∧
    (∃ s : State, ∃ i, Runs s ∧ userves 5 s.dev = true ∧
     (∃ p ∈ scanner i s.dev, (let q := reqOf p; (let k := q.table % 4; k ∉ s.dev.shoal.reload ∧ (putPkt 146 (replyOfUnit 5 q (shoalItem q s.dev).1 (shoalItem q s.dev).2) (shoalItem q s.dev).2).isSome = true)))) :=
  ⟨⟨(shoalStates.getD 13 up), by decide +kernel⟩,
   ⟨(shoalStates.getD 1 up), 1, by decide +kernel⟩,
   ⟨(shoalStates.getD 14 up), by decide +kernel⟩,
   ⟨(shoalStates.getD 15 up), by decide +kernel⟩,
   ⟨(shoalStates.getD 16 up), 2, by decide +kernel⟩,
   ⟨(shoalStates.getD 2 up), 9, by decide +kernel⟩,
   ⟨(shoalStates.getD 5 up), 2, by decide +kernel⟩,
   ⟨(shoalStates.getD 15 up), 2, by decide +kernel⟩⟩

theorem wit_TarnRows :
    (∃ s : State, Runs s ∧
     (let t := s.dev.tarn; (∃ q0 ∈ takePkt 147 s.dev, let pk := q0.1; let d := q0.2; userves 6 s.dev = true ∧ t.sieve = none ∧ (let q := reqOf pk; (let k := q.table % 4; k ∈ d.tarn.reload))))) ∧
    (∃ s : State, Runs s ∧
     (let t := s.dev.tarn; (∃ q0 ∈ takePkt 147 s.dev, let pk := q0.1; let d := q0.2; userves 6 s.dev = true ∧ t.sieve = none ∧ (let q := reqOf pk; (let k := q.table % 4; k ∉ d.tarn.reload ∧ tarnBad q.table d = true))))) ∧
    (∃ s : State, Runs s ∧
     (let t := s.dev.tarn; (∃ q0 ∈ takePkt 147 s.dev, let pk := q0.1; let d := q0.2; userves 6 s.dev = true ∧ t.sieve = none ∧ (let q := reqOf pk; (let k := q.table % 4; (let pack := (tarnSlot k d).bytes; (let prof := bitsOf q.table 7 4; k ∉ d.tarn.reload ∧ tarnBad q.table d = false ∧ q.input.length ≠ rowLen (tpProfile pack prof)))))))) ∧
    (∃ s : State, Runs s ∧
     (let t := s.dev.tarn; (∃ q0 ∈ takePkt 147 s.dev, let pk := q0.1; let d := q0.2; userves 6 s.dev = true ∧ t.sieve = none ∧ (let q := reqOf pk; (let k := q.table % 4; (let pack := (tarnSlot k d).bytes; (let prof := bitsOf q.table 7 4; k ∉ d.tarn.reload ∧ tarnBad q.table d = false ∧ q.input.length = rowLen (tpProfile pack prof)))))))) ∧
    (∃ s : State, Runs s ∧ (let t := s.dev.tarn; userves 6 s.dev = true ∧ t.sieve ≠ none)) ∧
    (∃ s : State, Runs s ∧ (let t := s.dev.tarn; userves 6 s.dev = true ∧ (∃ r ∈ t.sieve, t.walk.length < 16))) ∧
    (∃ s : State, Runs s ∧ (let t := s.dev.tarn; userves 6 s.dev = true ∧ 16 ≤ t.walk.length)) ∧
    (∃ s : State, ∃ pre : List TarnRow, ∃ r : TarnRow, ∃ post : List TarnRow, Runs s ∧
     (let t := s.dev.tarn; userves 6 s.dev = true ∧ t.walk = pre ++ r :: post ∧ (let pack := (tarnSlot r.slot s.dev).bytes; (∀ x ∈ pre, tarnLeft x s.dev = false) ∧ r.bad = 0 ∧ r.nextT < tpNTree pack ∧ t.lanes.length < 64))) ∧
    (∃ s : State, ∃ pre : List TarnRow, ∃ r : TarnRow, ∃ post : List TarnRow, ∃ v, Runs s ∧
     (let t := s.dev.tarn; userves 6 s.dev = true ∧ t.walk = pre ++ r :: post ∧ (∀ x ∈ t.lanes, rowKey r ≠ x.key ∨ s.dev.tickN + 1 < x.till) ∧ (r.got.find? (fun x => x.1 == r.addT) = some (r.addT, v)))) ∧
    (∃ s : State, ∃ pre : List TarnRow, ∃ r : TarnRow, ∃ post : List TarnRow, Runs s ∧
     (let t := s.dev.tarn; userves 6 s.dev = true ∧ t.walk = pre ++ r :: post ∧ (∀ x ∈ t.lanes, rowKey r ≠ x.key ∨ s.dev.tickN + 1 < x.till) ∧ (∀ x ∈ r.got, x.1 ≠ r.addT))) ∧
    (∃ s : State, ∃ pre : List TarnRow, ∃ r : TarnRow, ∃ post : List TarnRow, Runs s ∧
     (let t := s.dev.tarn; userves 6 s.dev = true ∧ t.walk = pre ++ r :: post ∧ (let pack := (tarnSlot r.slot s.dev).bytes; (∀ x ∈ pre, x.bad = 0 ∧ x.addT < tpNTree (tarnSlot x.slot s.dev).bytes) ∧ (r.bad ≠ 0 ∨ tpNTree pack ≤ r.addT) ∧ (let y := tarnReplyOf r s.dev; (putPkt 148 (replyOfUnit 6 (reqOf r.pkt) y.1 y.2) y.2).isSome = true)))) ∧
    (∃ s : State, ∃ pre : List TarnRow, ∃ r : TarnRow, ∃ post : List TarnRow, Runs s ∧
     (let t := s.dev.tarn; userves 6 s.dev = true ∧ t.walk = pre ++ r :: post ∧ (let pack := (tarnSlot r.slot s.dev).bytes; (∀ x ∈ pre, x.bad = 0 ∧ x.addT < tpNTree (tarnSlot x.slot s.dev).bytes) ∧ (r.bad ≠ 0 ∨ tpNTree pack ≤ r.addT) ∧ (let y := tarnReplyOf r s.dev; putPkt 148 (replyOfUnit 6 (reqOf r.pkt) y.1 y.2) y.2 = none)))) ∧
    (∃ s : State, Runs s ∧ (let t := s.dev.tarn; userves 6 s.dev = true ∧ t.walk ≠ [])) ∧
    (∃ s : State, Runs s ∧ (let t := s.dev.tarn; userves 6 s.dev = true ∧ 64 ≤ t.lanes.length)) ∧
    (∃ s : State, Runs s ∧ (let t := s.dev.tarn; userves 6 s.dev = true ∧ t.walk = [])) ∧
    (∃ s : State, ∃ u, Runs s ∧ (u = 4 ∨ u = 5 ∨ u = 6 ∨ (16 ≤ u ∧ u < 24) ∨ u = 30) ∧ uready u s.dev = true) ∧
    (∃ s : State, ∃ u, Runs s ∧ (u = 4 ∨ u = 5 ∨ u = 6 ∨ (16 ≤ u ∧ u < 24) ∨ u = 30) ∧ uready u s.dev = false) ∧
    (∃ s : State, ∃ u, ∃ l, Runs s ∧ (u = 4 ∨ u = 5 ∨ u = 6 ∨ (16 ≤ u ∧ u < 24) ∨ u = 30) ∧ l ∈ reloadList u s.dev) :=
  ⟨⟨itReload, by decide +kernel⟩,
   ⟨((tarnStates ++ [up]).getD 1 up), by decide +kernel⟩,
   ⟨((tarnStates ++ [up]).getD 2 up), by decide +kernel⟩,
   ⟨((tarnStates ++ [up]).getD 0 up), by decide +kernel⟩,
   ⟨((tarnStates ++ [up]).getD 3 up), by decide +kernel⟩,
   ⟨((tarnStates ++ [up]).getD 3 up), by decide +kernel⟩,
   ⟨((tarnStates ++ [up]).getD 4 up), by decide +kernel⟩,
   ⟨((tarnStates ++ [up]).getD 6 up), [{ rowA with nextT := 1 }], rowA, [], by decide +kernel⟩,
   ⟨tarnT (fun t => { t with walk := [{ rowA with got := [(0, 5)], nextT := 1 }] }), [], { rowA with got := [(0, 5)], nextT := 1 }, [], 5, by decide +kernel⟩,
   ⟨((tarnStates ++ [up]).getD 5 up), [], rowA, [], by decide +kernel⟩,
   ⟨((tarnStates ++ [up]).getD 7 up), [], { rowA with bad := 1 }, [], by decide +kernel⟩,
   ⟨packUp fun d => sluMod 148 (fun x => { x with opened := true }) { d with tarn := { d.tarn with walk := [rowDone] } }, [], rowDone, [], by decide +kernel⟩,
   ⟨((tarnStates ++ [up]).getD 4 up), by decide +kernel⟩,
   ⟨tarnT fun t => { t with walk := [rowA], lanes := List.replicate 64 { key := (0, 0), t := 0, leaf := 0, dflt := false, recs := 1, till := 9 } }, by decide +kernel⟩,
   ⟨((tarnStates ++ [up]).getD 0 up), by decide +kernel⟩,
   ⟨((tarnStates ++ [up]).getD 0 up), 4, by decide +kernel⟩,
   ⟨onUp (uentSet 4 { state := .off }), 4, by decide +kernel⟩,
   ⟨(rlSts.getD 0 up), 4, ((reloadList 4 (rlSts.getD 0 up).dev).headD cl0), by decide +kernel⟩⟩

theorem wit_MacsStart :
    (∃ s : State, ∃ b : Nat, ∃ i : Nat, ∃ bank : Nat, ∃ h : Nat, ∃ q : BQ, ∃ a : Tile, ∃ st : Stream, Runs s ∧ basinServes b s.dev = true ∧
     (basin b s.dev).queue[i]? = some q ∧ (∀ j, j < i → ∀ x, (basin b s.dev).queue[j]? = some x → bqHolds x q = false) ∧ q.op = .mac bank a st h ∧
     q.started = false ∧ (st.lay ≠ 1 ∨ st.len ≤ q.got.length)) ∧
    (∃ s : State, ∃ b : Nat, ∃ i : Nat, ∃ bank : Nat, ∃ h : Nat, ∃ q : BQ, ∃ a : Tile, ∃ st : Stream, Runs s ∧ basinServes b s.dev = true ∧
     (basin b s.dev).queue[i]? = some q ∧ (∀ j, j < i → ∀ x, (basin b s.dev).queue[j]? = some x → bqHolds x q = false) ∧ q.op = .mac bank a st h ∧
     q.started = false ∧ st.lay = 1 ∧ q.got.length < st.len) ∧
    (∃ d : Dev, ∃ b : Nat, ∃ bank : Nat, ∃ h : Nat, ∃ pre : List BQ, ∃ post : List BQ, ∃ q : BQ, ∃ a : Tile, ∃ st : Stream,
     (basin b d).queue = pre ++ q :: post ∧ (∀ x ∈ pre, x.started = false ∨ bopTicks x.op ≤ x.run) ∧ q.op = .mac bank a st h ∧ q.started = true ∧
     (let ticks := macTicks (macMode a.fmt st.wfmt) st.k st.ncol; q.run < ticks ∧ q.got.length < macUses a st (q.run + 1))) ∧
    (∃ d : Dev, ∃ b : Nat, ∃ bank : Nat, ∃ h : Nat, ∃ pre : List BQ, ∃ post : List BQ, ∃ q : BQ, ∃ a : Tile, ∃ st : Stream,
     (basin b d).queue = pre ++ q :: post ∧ (∀ x ∈ pre, x.started = false ∨ bopTicks x.op ≤ x.run) ∧ q.op = .mac bank a st h ∧ q.started = true ∧
     (let ticks := macTicks (macMode a.fmt st.wfmt) st.k st.ncol; q.run < ticks ∧ macUses a st (q.run + 1) ≤ q.got.length ∧ q.run + 1 < ticks)) ∧
    (∃ d : Dev, ∃ b : Nat, ∃ bank : Nat, ∃ h : Nat, ∃ pre : List BQ, ∃ post : List BQ, ∃ q : BQ, ∃ a : Tile, ∃ st : Stream,
     (basin b d).queue = pre ++ q :: post ∧ (∀ x ∈ pre, x.started = false ∨ bopTicks x.op ≤ x.run) ∧ q.op = .mac bank a st h ∧ q.started = true ∧
     (let ticks := macTicks (macMode a.fmt st.wfmt) st.k st.ncol; q.run < ticks ∧ macUses a st (q.run + 1) ≤ q.got.length ∧ q.run + 1 = ticks)) :=
  ⟨⟨basSt [{ qMac with started := false }], 1, 0, 0, 3, { qMac with started := false }, tA, stm, by decide +kernel⟩,
   ⟨basSt [qLay1], 1, 0, 0, 3, qLay1, tA, { stm with lay := 1 }, by decide +kernel⟩,
   ⟨(basSt [mac0]).dev, 1, 0, 3, [], [], mac0, tA, stm, by decide +kernel⟩,
   ⟨(basSt [mac1]).dev, 1, 0, 3, [], [], mac1, tA, stm, by decide +kernel⟩,
   ⟨(basSt [mac2]).dev, 1, 0, 3, [], [], mac2, tA, stm, by decide +kernel⟩⟩

theorem wit_AccumulatorsAreSet : ∃ s : State, ∃ b : Nat, ∃ i : Nat, ∃ bank : Nat, ∃ ncol : Nat, ∃ q : BQ, ∃ t : Tile, ∃ f : Bool, ∃ src : Option Tile, Runs s ∧
    basinServes b s.dev = true ∧ Unblocked b i q s.dev ∧ q.op = .acc bank t ncol f src ∧ bank < 2 ∧ ncol ≤ 512 ∧ t.row0 + t.nrows ≤ 512 ∧
    (∀ z ∈ src, z.row0 = t.row0 ∧ z.nrows = t.nrows) :=
  ⟨basSt [qAcc], 1, 0, 0, 5, qAcc, tF, true, some tF, by decide +kernel⟩

theorem wit_PassesAccumulate : ∃ s : State, ∃ b : Nat, ∃ i : Nat, ∃ bank : Nat, ∃ h : Nat, ∃ q : BQ, ∃ a : Tile, ∃ st : Stream, Runs s ∧ basinServes b s.dev = true ∧
    Unblocked b i q s.dev ∧ q.op = .mac bank a st h ∧ q.started = true ∧ macTicks (macMode a.fmt st.wfmt) st.k st.ncol ≤ q.run ∧ bank < 2 ∧
    st.ncol ≤ 512 ∧ a.row0 + a.nrows ≤ 512 ∧ (macBytes q st).isSome = true :=
  ⟨basSt [macR], 1, 0, 0, 3, macR, tA, stm, by decide +kernel⟩

theorem wit_BanksDrain : ∃ s : State, ∃ b : Nat, ∃ i : Nat, ∃ bank : Nat, ∃ dfmt : Nat, ∃ mult : Nat, ∃ shift : Nat, ∃ zpt : Nat, ∃ fs : Nat, ∃ satfp : Bool, ∃ q : BQ,
    ∃ t : Tile, Runs s ∧ basinServes b s.dev = true ∧ Unblocked b i q s.dev ∧ q.op = .drain bank t dfmt mult shift zpt satfp fs ∧ bank < 2 ∧
    t.fmt = dfmt ∧ dfmt < 8 ∧ dfmt ≠ 1 ∧ t.len ≤ 512 ∧ t.row0 + t.nrows ≤ 512 ∧ t.off % 64 = 0 ∧ t.off + fmtBytes dfmt t.len ≤ 16384 :=
  ⟨basSt [qDrn], 1, 0, 0, 0, 3, 1, 2, 0, false, qDrn, { tF with off := 128, fmt := 0 }, by decide +kernel⟩

theorem wit_GroupsFetch :
    (∃ s : State, ∃ g : Nat, ∃ a : Nat, Runs s ∧ (∃ gs ∈ gstrGet g s.dev, gs.st.src = .hbm a ∧ gs.held.length < 32 ∧ 4096 * gs.next < gs.st.len)) ∧
    (∃ s : State, ∃ g : Nat, ∃ a : Nat, Runs s ∧ (∃ gs ∈ gstrGet g s.dev, gs.st.src = .hbm a ∧ 32 ≤ gs.held.length)) :=
  ⟨⟨onUp fun d => { d with gstr := [(2, gsX)] }, 2, 0, by decide +kernel⟩,
   ⟨onUp fun d => { d with gstr := [(2, { gsX with held := List.replicate 32 { idx := 0, data := [], bad := false, took := 0 } })] }, 2, 0, by decide +kernel⟩⟩

theorem wit_StorePatrol :
    (∃ s : State, ∃ b : Nat, ∃ w : Nat, Runs s ∧ basinServes b s.dev = true ∧ w = (basin b s.dev).patrol ∧ (basin b s.dev).patAt ≠ s.dev.tickN / 64 + 1) ∧
    (∃ s : State, ∃ b : Nat, ∃ w : Nat, Runs s ∧ basinServes b s.dev = true ∧ (w ≠ (basin b s.dev).patrol ∨ (basin b s.dev).patAt = s.dev.tickN / 64 + 1)) :=
  ⟨⟨ringSt, 0, 0, by decide +kernel⟩,
   ⟨upFull, 1, 22, by decide +kernel⟩⟩

theorem wit_ScalarResults : ∃ s : State, ∃ c : Nat, ∃ sl : Nat, ∃ gp : Nat, ∃ d : Nat, ∃ a : Nat, ∃ b : Nat, ∃ x : Nat, ∃ gs : Bool, Issues c gp gs s ∧ (sl = 1 ∨ sl = 2) ∧
    d < 32 ∧ a < 32 ∧ b < 32 ∧ x < 8 :=
  ⟨(coreStates.getD 0 up), 1, 1, 0, 2, 1, 3, 5, false, by decide +kernel⟩

theorem wit_ImmediatesAndMoves :
    (∃ s : State, ∃ c : Nat, ∃ sl : Nat, ∃ gp : Nat, ∃ d : Nat, ∃ a : Nat, ∃ gs : Bool, ∃ imm : Int, Issues c gp gs s ∧ (sl = 1 ∨ sl = 2) ∧ d < 32 ∧
     a < 32 ∧ (let k := lcore c s.dev; -(2 : Int) ^ 31 ≤ imm ∧ imm < (2 : Int) ^ 31 ∧ d < 8 ∧ gBad a k = false)) ∧
    (∃ s : State, ∃ c : Nat, ∃ sl : Nat, ∃ gp : Nat, ∃ d : Nat, ∃ a : Nat, ∃ gs : Bool, ∃ imm : Int, Issues c gp gs s ∧ (sl = 1 ∨ sl = 2) ∧ d < 32 ∧
     a < 32 ∧ -(2 : Int) ^ 46 ≤ imm ∧ imm < (2 : Int) ^ 46) ∧
    (∃ s : State, ∃ c : Nat, ∃ sl : Nat, ∃ gp : Nat, ∃ d : Nat, ∃ a : Nat, ∃ m : Nat, ∃ gs : Bool, Issues c gp gs s ∧ (sl = 1 ∨ sl = 2) ∧ d < 32 ∧ a < 32 ∧
     m < 131072) ∧
    (∃ s : State, ∃ c : Nat, ∃ sl : Nat, ∃ gp : Nat, ∃ d : Nat, ∃ a : Nat, ∃ m : Nat, ∃ gs : Bool, Issues c gp gs s ∧ (sl = 1 ∨ sl = 2) ∧ d < 32 ∧ a < 32 ∧
     (let k := lcore c s.dev; m < 64 ∧ (k.prog = true → m < 16))) ∧
    (∃ s : State, ∃ c : Nat, ∃ sl : Nat, ∃ gp : Nat, ∃ d : Nat, ∃ a : Nat, ∃ m : Nat, ∃ gs : Bool, Issues c gp gs s ∧ (sl = 1 ∨ sl = 2) ∧ d < 32 ∧ a < 32 ∧
     (let k := lcore c s.dev; m < 64 ∧ k.prog = false)) :=
  ⟨⟨(coreStates.getD 0 up), 1, 1, 2, 6, 3, false, 1, by decide +kernel⟩,
   ⟨(coreStates.getD 1 up), 1, 1, 2, 0, 31, false, 1, by decide +kernel⟩,
   ⟨(coreStates.getD 1 up), 1, 1, 3, 1, 6, 131071, true, by decide +kernel⟩,
   ⟨(coreStates.getD 0 up), 1, 1, 3, 2, 3, 16, true, by decide +kernel⟩,
   ⟨(coreStates.getD 2 up), 1, 1, 1, 2, 5, 10, true, by decide +kernel⟩⟩

theorem wit_ComparesAndPredicates :
    (∃ s : State, ∃ c : Nat, ∃ sl : Nat, ∃ gp : Nat, ∃ d : Nat, ∃ a : Nat, ∃ b : Nat, ∃ gs : Bool, Issues c gp gs s ∧ (sl = 1 ∨ sl = 2) ∧ d < 8 ∧
     (let k := lcore c s.dev; a < 32 ∧ b < 32 ∧ gBad a k = false ∧ gBad b k = false)) ∧
    (∃ s : State, ∃ c : Nat, ∃ sl : Nat, ∃ gp : Nat, ∃ d : Nat, ∃ a : Nat, ∃ b : Nat, ∃ gs : Bool, Issues c gp gs s ∧ (sl = 1 ∨ sl = 2) ∧ d < 8 ∧ a < 8 ∧
     b < 8) :=
  ⟨⟨(coreStates.getD 0 up), 1, 1, 0, 7, 8, 4, false, by decide +kernel⟩,
   ⟨(coreStates.getD 0 up), 1, 1, 0, 7, 1, 3, false, by decide +kernel⟩⟩

theorem wit_LoadsBringBytes :
    (∃ s : State, ∃ c : Nat, ∃ gp : Nat, ∃ t : Nat, ∃ a : Nat, ∃ gs : Bool, ∃ off : Int, Issues c gp gs s ∧ a < 32 ∧ -(2 : Int) ^ 31 ≤ off ∧
     off < (2 : Int) ^ 31 ∧ t < 32 ∧ accessFree c MOp.ldb a off s) ∧
    (∃ s : State, ∃ c : Nat, ∃ gp : Nat, ∃ t : Nat, ∃ a : Nat, ∃ gs : Bool, ∃ off : Int, Issues c gp gs s ∧ a < 32 ∧ -(2 : Int) ^ 31 ≤ off ∧
     off < (2 : Int) ^ 31 ∧ t < 32 ∧ accessFree c .ldbu a off s) ∧
    (∃ s : State, ∃ c : Nat, ∃ gp : Nat, ∃ t : Nat, ∃ a : Nat, ∃ gs : Bool, ∃ off : Int, Issues c gp gs s ∧ a < 32 ∧ -(2 : Int) ^ 31 ≤ off ∧
     off < (2 : Int) ^ 31 ∧ t < 32 ∧ accessFree c .ldh a off s) ∧
    (∃ s : State, ∃ c : Nat, ∃ gp : Nat, ∃ t : Nat, ∃ a : Nat, ∃ gs : Bool, ∃ off : Int, Issues c gp gs s ∧ a < 32 ∧ -(2 : Int) ^ 31 ≤ off ∧
     off < (2 : Int) ^ 31 ∧ t < 32 ∧ accessFree c .ldhu a off s) ∧
    (∃ s : State, ∃ c : Nat, ∃ gp : Nat, ∃ t : Nat, ∃ a : Nat, ∃ gs : Bool, ∃ off : Int, Issues c gp gs s ∧ a < 32 ∧ -(2 : Int) ^ 31 ≤ off ∧
     off < (2 : Int) ^ 31 ∧ t < 32 ∧ accessFree c .ldw a off s) ∧
    (∃ s : State, ∃ c : Nat, ∃ gp : Nat, ∃ t : Nat, ∃ a : Nat, ∃ gs : Bool, ∃ off : Int, Issues c gp gs s ∧ a < 32 ∧ -(2 : Int) ^ 31 ≤ off ∧
     off < (2 : Int) ^ 31 ∧ t < 32 ∧ accessFree c .ldwu a off s) ∧
    (∃ s : State, ∃ c : Nat, ∃ gp : Nat, ∃ t : Nat, ∃ a : Nat, ∃ gs : Bool, ∃ off : Int, Issues c gp gs s ∧ a < 32 ∧ -(2 : Int) ^ 31 ≤ off ∧
     off < (2 : Int) ^ 31 ∧ t < 32 ∧ accessFree c .ldd a off s) ∧
    (∃ s : State, ∃ c : Nat, ∃ gp : Nat, ∃ t : Nat, ∃ a : Nat, ∃ gs : Bool, ∃ off : Int, Issues c gp gs s ∧ a < 32 ∧ -(2 : Int) ^ 31 ≤ off ∧
     off < (2 : Int) ^ 31 ∧ t < 16 ∧ accessFree c .vld a off s) ∧
    (∃ s : State, ∃ c : Nat, ∃ gp : Nat, ∃ t : Nat, ∃ a : Nat, ∃ seg : Nat, ∃ gs : Bool, ∃ off : Int, Issues c gp gs s ∧ a < 32 ∧ -(2 : Int) ^ 31 ≤ off ∧
     off < (2 : Int) ^ 31 ∧ t < 16 ∧ seg < 8 ∧ accessFree c .vld64 a off s) ∧
    (∃ s : State, ∃ c : Nat, ∃ gp : Nat, ∃ t : Nat, ∃ a : Nat, ∃ gs : Bool, ∃ off : Int, Issues c gp gs s ∧ a < 32 ∧ -(2 : Int) ^ 31 ≤ off ∧
     off < (2 : Int) ^ 31 ∧ t < 8 ∧ accessFree c .tld a off s) :=
  ⟨⟨(coreStates.getD 0 up), 1, 0, 0, 9, false, -64, by decide +kernel⟩,
   ⟨(coreStates.getD 0 up), 1, 3, 15, 9, true, -64, by decide +kernel⟩,
   ⟨(coreStates.getD 2 up), 1, 2, 1, 8, false, 0, by decide +kernel⟩,
   ⟨(coreStates.getD 0 up), 1, 3, 7, 8, true, -64, by decide +kernel⟩,
   ⟨(coreStates.getD 0 up), 1, 2, 5, 8, false, 0, by decide +kernel⟩,
   ⟨(coreStates.getD 2 up), 1, 1, 31, 31, true, 0, by decide +kernel⟩,
   ⟨(coreStates.getD 0 up), 1, 2, 1, 8, false, -64, by decide +kernel⟩,
   ⟨(coreStates.getD 2 up), 1, 1, 0, 31, true, 512, by decide +kernel⟩,
   ⟨(coreStates.getD 2 up), 1, 0, 7, 31, 3, false, 512, by decide +kernel⟩,
   ⟨(coreStates.getD 0 up), 1, 1, 1, 3, true, 128, by decide +kernel⟩⟩

theorem wit_StoresWriteBytes :
    (∃ s : State, ∃ c : Nat, ∃ gp : Nat, ∃ t : Nat, ∃ a : Nat, ∃ gs : Bool, ∃ off : Int, Issues c gp gs s ∧ a < 32 ∧ -(2 : Int) ^ 31 ≤ off ∧
     off < (2 : Int) ^ 31 ∧ t < 32 ∧ accessFree c MOp.stb a off s) ∧
    (∃ s : State, ∃ c : Nat, ∃ gp : Nat, ∃ t : Nat, ∃ a : Nat, ∃ gs : Bool, ∃ off : Int, Issues c gp gs s ∧ a < 32 ∧ -(2 : Int) ^ 31 ≤ off ∧
     off < (2 : Int) ^ 31 ∧ t < 32 ∧ accessFree c .sth a off s) ∧
    (∃ s : State, ∃ c : Nat, ∃ gp : Nat, ∃ t : Nat, ∃ a : Nat, ∃ gs : Bool, ∃ off : Int, Issues c gp gs s ∧ a < 32 ∧ -(2 : Int) ^ 31 ≤ off ∧
     off < (2 : Int) ^ 31 ∧ t < 32 ∧ accessFree c .stw a off s) ∧
    (∃ s : State, ∃ c : Nat, ∃ gp : Nat, ∃ t : Nat, ∃ a : Nat, ∃ gs : Bool, ∃ off : Int, Issues c gp gs s ∧ a < 32 ∧ -(2 : Int) ^ 31 ≤ off ∧
     off < (2 : Int) ^ 31 ∧ t < 32 ∧ accessFree c .std a off s) ∧
    (∃ s : State, ∃ c : Nat, ∃ gp : Nat, ∃ t : Nat, ∃ a : Nat, ∃ seg : Nat, ∃ gs : Bool, ∃ off : Int, Issues c gp gs s ∧ a < 32 ∧ -(2 : Int) ^ 31 ≤ off ∧
     off < (2 : Int) ^ 31 ∧ t < 16 ∧ seg < 8 ∧ accessFree c .vst64 a off s) ∧
    (∃ s : State, ∃ c : Nat, ∃ gp : Nat, ∃ t : Nat, ∃ a : Nat, ∃ gs : Bool, ∃ off : Int, Issues c gp gs s ∧ a < 32 ∧ -(2 : Int) ^ 31 ≤ off ∧
     off < (2 : Int) ^ 31 ∧ t < 16 ∧ accessFree c .vst a off s) ∧
    (∃ s : State, ∃ c : Nat, ∃ gp : Nat, ∃ t : Nat, ∃ a : Nat, ∃ gs : Bool, ∃ off : Int, Issues c gp gs s ∧ a < 32 ∧ -(2 : Int) ^ 31 ≤ off ∧
     off < (2 : Int) ^ 31 ∧ t < 8 ∧ accessFree c .tst a off s) ∧
    (∃ d : Dev, ∃ a : Nat, ∃ x : Nat, ∃ bs : List Byte,
     (let inside := fun (lo : Nat) => lo ≤ x ∧ x < lo + bs.length; inBwin a = false ∧ memServes 24 d = true ∧ inside a)) ∧
    (∃ d : Dev, ∃ a : Nat, ∃ x : Nat, ∃ bs : List Byte,
     (let inside := fun (lo : Nat) => lo ≤ x ∧ x < lo + bs.length; inBwin a = false ∧ memServes 24 d = true ∧ ¬ inside a)) ∧
    (∃ d : Dev, ∃ a : Nat, ∃ bs : List Byte, ∃ j,
     (let word := fun (lo j : Nat) => ∃ i, i < bs.length ∧ j = (lo + i) / 64; inBwin a = false ∧ memServes 24 d = true ∧ word a j)) ∧
    (∃ d : Dev, ∃ a : Nat, ∃ bs : List Byte, ∃ j,
     (let word := fun (lo j : Nat) => ∃ i, i < bs.length ∧ j = (lo + i) / 64; inBwin a = false ∧ memServes 24 d = true ∧ ¬ word a j)) ∧
    (∃ c : Nat, ∃ a : Nat, ∃ j, inBwin a = true ∧ j ≠ c) ∧
    (∃ a : Nat, ∃ x : Nat, ∃ bs : List Byte,
     (let inside := fun (lo : Nat) => lo ≤ x ∧ x < lo + bs.length; inBwin a = true ∧ (let o := a - 0x100000000; inside o))) ∧
    (∃ a : Nat, ∃ x : Nat, ∃ bs : List Byte,
     (let inside := fun (lo : Nat) => lo ≤ x ∧ x < lo + bs.length; inBwin a = true ∧ (let o := a - 0x100000000; ¬ inside o))) ∧
    (∃ a : Nat, ∃ bs : List Byte, ∃ j,
     (let word := fun (lo j : Nat) => ∃ i, i < bs.length ∧ j = (lo + i) / 64; inBwin a = true ∧ (let o := a - 0x100000000; word o j))) ∧
    (∃ a : Nat, ∃ bs : List Byte, ∃ j,
     (let word := fun (lo j : Nat) => ∃ i, i < bs.length ∧ j = (lo + i) / 64; inBwin a = true ∧ (let o := a - 0x100000000; ¬ word o j))) :=
  ⟨⟨(coreStates.getD 0 up), 1, 0, 0, 9, false, -64, by decide +kernel⟩,
   ⟨(coreStates.getD 0 up), 1, 3, 15, 9, true, -64, by decide +kernel⟩,
   ⟨(coreStates.getD 2 up), 1, 2, 1, 8, false, 0, by decide +kernel⟩,
   ⟨(coreStates.getD 0 up), 1, 3, 7, 8, true, -64, by decide +kernel⟩,
   ⟨(coreStates.getD 0 up), 1, 2, 5, 8, 3, false, 0, by decide +kernel⟩,
   ⟨(coreStates.getD 2 up), 1, 1, 1, 31, true, 0, by decide +kernel⟩,
   ⟨(coreStates.getD 0 up), 1, 2, 1, 8, false, -64, by decide +kernel⟩,
   ⟨upFull.dev, 100, 131, (List.replicate 64 0), by decide +kernel⟩,
   ⟨upDup.dev, 64, 131, (toLe 8 0x123456789A), by decide +kernel⟩,
   ⟨msiMask.dev, 64, (toLe 8 0x123456789A), 1, by decide +kernel⟩,
   ⟨msiMask.dev, 100, (toLe 8 0x123456789A), 21, by decide +kernel⟩,
   ⟨1, 0x100000000, 18, by decide +kernel⟩,
   ⟨0x100000000, 0, (toLe 8 0x123456789A), by decide +kernel⟩,
   ⟨0x100000000, 101, [1, 2], by decide +kernel⟩,
   ⟨0x100000000, [1, 2], 0, by decide +kernel⟩,
   ⟨0x100000083, [1, 2], 18, by decide +kernel⟩⟩

theorem wit_VectorLanes : ∃ s : State, ∃ c : Nat, ∃ sl : Nat, ∃ gp : Nat, ∃ d : Nat, ∃ a : Nat, ∃ b : Nat, ∃ cc : Nat, ∃ w : Nat, ∃ g : Nat, ∃ imm : Nat, ∃ gs : Bool,
    Issues c gp gs s ∧ (sl = 4 ∨ sl = 5) ∧ d < 16 ∧ a < 16 ∧ b < 16 ∧ cc < 16 ∧ w < 3 ∧ g < 32 ∧ imm < 65536 ∧ imm < vLanes w :=
  ⟨(coreStates.getD 0 up), 1, 4, 3, 1, 3, 5, 7, 2, 6, 127, true, by decide +kernel⟩

theorem wit_VectorFloats : ∃ s : State, ∃ c : Nat, ∃ sl : Nat, ∃ gp : Nat, ∃ d : Nat, ∃ a : Nat, ∃ b : Nat, ∃ cc : Nat, ∃ w : Nat, ∃ g : Nat, ∃ imm : Nat, ∃ gs : Bool,
    Issues c gp gs s ∧ (sl = 4 ∨ sl = 5) ∧ d < 16 ∧ a < 16 ∧ b < 16 ∧ cc < 16 ∧ (w = 1 ∨ w = 2) ∧ g < 32 ∧ imm < 65536 ∧ w = 2 :=
  ⟨(coreStates.getD 0 up), 1, 5, 2, 5, 1, 2, 2, 2, 5, 0, false, by decide +kernel⟩

theorem wit_VectorCrossLanes :
    (∃ s : State, ∃ c : Nat, ∃ sl : Nat, ∃ gp : Nat, ∃ d : Nat, ∃ a : Nat, ∃ b : Nat, ∃ cc : Nat, ∃ w : Nat, ∃ g : Nat, ∃ imm : Nat, ∃ gs : Bool,
     Issues c gp gs s ∧ (sl = 4 ∨ sl = 5) ∧ d < 16 ∧ a < 16 ∧ b < 16 ∧ cc < 16 ∧ w < 3 ∧ g < 32 ∧ imm < 65536 ∧ 1 ≤ w ∧ imm ≤ 1) ∧
    (∃ s : State, ∃ c : Nat, ∃ sl : Nat, ∃ gp : Nat, ∃ d : Nat, ∃ a : Nat, ∃ b : Nat, ∃ cc : Nat, ∃ w : Nat, ∃ g : Nat, ∃ imm : Nat, ∃ gs : Bool,
     Issues c gp gs s ∧ (sl = 4 ∨ sl = 5) ∧ d < 16 ∧ a < 16 ∧ b < 16 ∧ cc < 16 ∧ w < 3 ∧ g < 32 ∧ imm < 65536 ∧ w = 2 ∧ imm ≤ 1) :=
  ⟨⟨(coreStates.getD 0 up), 1, 5, 2, 5, 7, 2, 5, 1, 6, 0, false, by decide +kernel⟩,
   ⟨(coreStates.getD 0 up), 1, 4, 2, 0, 2, 2, 2, 2, 2, 0, false, by decide +kernel⟩⟩

theorem wit_ControlTransfers :
    (∃ s : State, ∃ c : Nat, ∃ gp : Nat, ∃ a : Nat, ∃ gs : Bool, ∃ off : Int, Issues c gp gs s ∧ a < 32 ∧ -(2 : Int) ^ 31 ≤ off ∧ off < (2 : Int) ^ 31 ∧
     (let k := lcore c s.dev; (let t : Int := (k.pc : Int) + 64 * off; k.pc % 64 = 0 ∧ 0 ≤ t ∧ t < codeSize k))) ∧
    (∃ s : State, ∃ c : Nat, ∃ gp : Nat, ∃ a : Nat, ∃ gs : Bool, ∃ off : Int, Issues c gp gs s ∧ a < 32 ∧ -(2 : Int) ^ 31 ≤ off ∧ off < (2 : Int) ^ 31 ∧
     (let k := lcore c s.dev; gBad a k = false ∧ (gRead a k).toNat % 64 = 0 ∧ (gRead a k).toNat < codeSize k)) ∧
    (∃ s : State, ∃ c : Nat, ∃ gp : Nat, ∃ a : Nat, ∃ gs : Bool, ∃ off : Int, Issues c gp gs s ∧ a < 32 ∧ -(2 : Int) ^ 31 ≤ off ∧ off < (2 : Int) ^ 31 ∧
     (let k := lcore c s.dev; k.prog = false)) ∧
    (∃ s : State, ∃ c : Nat, ∃ gp : Nat, ∃ a : Nat, ∃ gs : Bool, ∃ off : Int, Issues c gp gs s ∧ a < 32 ∧ -(2 : Int) ^ 31 ≤ off ∧ off < (2 : Int) ^ 31 ∧
     (let k := lcore c s.dev; k.prog = true ∧ gRead 1 k = 0)) ∧
    (∃ c : Nat, ∃ d : Dev, ((lcore c d).running).isSome = true) :=
  ⟨⟨(coreStates.getD 0 up), 1, 0, 3, false, -1, by decide +kernel⟩,
   ⟨(coreStates.getD 1 up), 1, 1, 3, true, 1, by decide +kernel⟩,
   ⟨(coreStates.getD 0 up), 1, 3, 3, true, 1, by decide +kernel⟩,
   ⟨(coreStates.getD 1 up), 1, 2, 3, false, 3, by decide +kernel⟩,
   ⟨1, (coreStates.getD 1 up).dev, by decide +kernel⟩⟩

theorem wit_TileSlot :
    (∃ s : State, ∃ c : Nat, ∃ gp : Nat, ∃ bank : Nat, ∃ t : Nat, ∃ z : Nat, ∃ ncol : Nat, ∃ h : Nat, ∃ dfmt : Nat, ∃ gm : Nat, ∃ gf : Nat, ∃ g : Nat,
     ∃ gs : Bool, ∃ init : Bool, ∃ type : Bool, Issues c gp gs s ∧ bank < 2 ∧ t < 8 ∧ z < 8 ∧ h < 4 ∧ dfmt < 16 ∧ gm < 32 ∧ gf < 32 ∧ g < 32 ∧
     tBad t (lcore c s.dev) = false ∧
     (let k := lcore c s.dev; (let tile := tileOf (tRead t k); (let src := if init then some (tileOf (tRead z k)) else none; (let room := bopNotStarted (basin c s.dev).queue < 4; 1 ≤ ncol ∧ ncol ≤ 512 ∧ room ∧ (init = true → tBad z k = false) ∧ accOk tile ncol type src = true))))) ∧
    (∃ s : State, ∃ c : Nat, ∃ gp : Nat, ∃ bank : Nat, ∃ t : Nat, ∃ z : Nat, ∃ h : Nat, ∃ dfmt : Nat, ∃ gm : Nat, ∃ gf : Nat, ∃ g : Nat, ∃ gs : Bool,
     Issues c gp gs s ∧ bank < 2 ∧ t < 8 ∧ z < 8 ∧ h < 4 ∧ dfmt < 16 ∧ gm < 32 ∧ gf < 32 ∧ g < 32 ∧ tBad t (lcore c s.dev) = false ∧
     (let k := lcore c s.dev; (let tile := tileOf (tRead t k); (let room := bopNotStarted (basin c s.dev).queue < 4; (∃ st ∈ handleOf h k, st.named = false ∧ room ∧ macOk c bank tile st s.dev = true))))) ∧
    (∃ s : State, ∃ c : Nat, ∃ gp : Nat, ∃ bank : Nat, ∃ t : Nat, ∃ z : Nat, ∃ h : Nat, ∃ dfmt : Nat, ∃ gm : Nat, ∃ gf : Nat, ∃ g : Nat, ∃ gs : Bool,
     Issues c gp gs s ∧ bank < 2 ∧ t < 8 ∧ z < 8 ∧ h < 4 ∧ dfmt < 16 ∧ gm < 32 ∧ gf < 32 ∧ g < 32 ∧ tBad t (lcore c s.dev) = false ∧
     (let k := lcore c s.dev; (let tile := tileOf (tRead t k); (let room := bopNotStarted (basin c s.dev).queue < 4; (let m := (gRead gm k).toNat; gBad gm k = false ∧ gBad gf k = false ∧ room ∧ drainRefuse c bank tile dfmt (m / 2 ^ 32 % 64) s.dev = false))))) ∧
    (∃ s : State, ∃ c : Nat, ∃ gp : Nat, ∃ bank : Nat, ∃ t : Nat, ∃ z : Nat, ∃ h : Nat, ∃ dfmt : Nat, ∃ gm : Nat, ∃ gf : Nat, ∃ field : Nat, ∃ g : Nat,
     ∃ gs : Bool, Issues c gp gs s ∧ bank < 2 ∧ t < 8 ∧ z < 8 ∧ h < 4 ∧ dfmt < 16 ∧ gm < 32 ∧ gf < 32 ∧ g < 32 ∧ tBad t (lcore c s.dev) = false ∧
     (let k := lcore c s.dev; gBad g k = false ∧ field ≤ 4)) ∧
    (∃ s : State, ∃ c : Nat, ∃ gp : Nat, ∃ gs : Bool, Issues c gp gs s ∧ (basin c s.dev).queue = []) ∧
    (∃ s : State, ∃ c : Nat, ∃ gp : Nat, ∃ gs : Bool, Issues c gp gs s ∧ (basin c s.dev).queue ≠ []) ∧
    (∃ b : List Byte, b.length = 16) :=
  ⟨⟨(tileStates.getD 3 up), 1, 0, 1, 3, 3, 1, 3, 0, 10, 12, 6, false, false, false, by decide +kernel⟩,
   ⟨(tileStates.getD 2 up), 1, 1, 1, 1, 1, 1, 7, 10, 11, 6, true, by decide +kernel⟩,
   ⟨(tileStates.getD 4 up), 1, 1, 1, 3, 3, 1, 7, 10, 11, 6, true, by decide +kernel⟩,
   ⟨(tileStates.getD 2 up), 1, 2, 1, 2, 3, 2, 7, 10, 11, 2, 11, false, by decide +kernel⟩,
   ⟨(tileStates.getD 4 up), 1, 0, false, by decide +kernel⟩,
   ⟨(tileStates.getD 1 up), 1, 1, true, by decide +kernel⟩,
   ⟨padTo 16 [1,2,3,4,5,255,255,255,255], by decide +kernel⟩⟩

theorem wit_StreamSlot :
    (∃ s : State, ∃ c : Nat, ∃ gp : Nat, ∃ h : Nat, ∃ src : Nat, ∃ a : Nat, ∃ b : Nat, ∃ lay : Nat, ∃ ncol : Nat, ∃ v : Nat, ∃ seg : Nat, ∃ g : Nat,
     ∃ idx : Nat, ∃ gs : Bool, ∃ grp : Bool, Issues c gp gs s ∧ h < 4 ∧ a < 32 ∧ b < 32 ∧ v < 16 ∧ seg < 8 ∧ g < 32 ∧ idx < 11 ∧
     (let k := lcore c s.dev; src ≤ 2 ∧ lay ≤ 1 ∧ 1 ≤ ncol ∧ ncol ≤ 512 ∧ gBad a k = false ∧ (src ≠ 0 → gBad b k = false) ∧ sopenBad k h src grp a b ncol s.dev = false)) ∧
    (∃ s : State, ∃ c : Nat, ∃ gp : Nat, ∃ h : Nat, ∃ a : Nat, ∃ b : Nat, ∃ v : Nat, ∃ seg : Nat, ∃ g : Nat, ∃ idx : Nat, ∃ gs : Bool, Issues c gp gs s ∧
     h < 4 ∧ a < 32 ∧ b < 32 ∧ v < 16 ∧ seg < 8 ∧ g < 32 ∧ idx < 11 ∧ (let k := lcore c s.dev; handleOf h k = none)) ∧
    (∃ s : State, ∃ c : Nat, ∃ gp : Nat, ∃ h : Nat, ∃ a : Nat, ∃ b : Nat, ∃ v : Nat, ∃ seg : Nat, ∃ g : Nat, ∃ idx : Nat, ∃ gs : Bool, Issues c gp gs s ∧
     h < 4 ∧ a < 32 ∧ b < 32 ∧ v < 16 ∧ seg < 8 ∧ g < 32 ∧ idx < 11 ∧ (let k := lcore c s.dev; (∃ st ∈ handleOf h k, st.named = false))) ∧
    (∃ s : State, ∃ c : Nat, ∃ gp : Nat, ∃ h : Nat, ∃ a : Nat, ∃ b : Nat, ∃ v : Nat, ∃ seg : Nat, ∃ g : Nat, ∃ idx : Nat, ∃ gs : Bool, Issues c gp gs s ∧
     h < 4 ∧ a < 32 ∧ b < 32 ∧ v < 16 ∧ seg < 8 ∧ g < 32 ∧ idx < 11 ∧
     (let k := lcore c s.dev; (let S := idxSluice c idx; (∃ x ∈ (sluRead S s.dev).1, (let reads := idxExc k idx false = none; reads))))) ∧
    (∃ s : State, ∃ c : Nat, ∃ gp : Nat, ∃ h : Nat, ∃ a : Nat, ∃ b : Nat, ∃ v : Nat, ∃ seg : Nat, ∃ g : Nat, ∃ idx : Nat, ∃ gs : Bool, ∃ d,
     Issues c gp gs s ∧ h < 4 ∧ a < 32 ∧ b < 32 ∧ v < 16 ∧ seg < 8 ∧ g < 32 ∧ idx < 11 ∧
     (let k := lcore c s.dev; (let S := idxSluice c idx; (let reads := idxExc k idx false = none; reads ∧ sluRead S s.dev = (none, d))))) ∧
    (∃ s : State, ∃ c : Nat, ∃ gp : Nat, ∃ h : Nat, ∃ a : Nat, ∃ b : Nat, ∃ v : Nat, ∃ seg : Nat, ∃ g : Nat, ∃ idx : Nat, ∃ gs : Bool, Issues c gp gs s ∧
     h < 4 ∧ a < 32 ∧ b < 32 ∧ v < 16 ∧ seg < 8 ∧ g < 32 ∧ idx < 11 ∧
     (let k := lcore c s.dev; (let S := idxSluice c idx; (let reads := idxExc k idx false = none; reads ∧ gBad g k = false ∧ sluVisible S s.dev = true)))) ∧
    (∃ s : State, ∃ c : Nat, ∃ gp : Nat, ∃ h : Nat, ∃ a : Nat, ∃ b : Nat, ∃ v : Nat, ∃ seg : Nat, ∃ g : Nat, ∃ idx : Nat, ∃ gs : Bool, Issues c gp gs s ∧
     h < 4 ∧ a < 32 ∧ b < 32 ∧ v < 16 ∧ seg < 8 ∧ g < 32 ∧ idx < 11 ∧
     (let k := lcore c s.dev; (let S := idxSluice c idx; (let reads := idxExc k idx false = none; reads ∧ gBad g k = false ∧ sluVisible S s.dev = false ∧ gRead g k = 0)))) ∧
    (∃ s : State, ∃ c : Nat, ∃ gp : Nat, ∃ h : Nat, ∃ a : Nat, ∃ b : Nat, ∃ v : Nat, ∃ seg : Nat, ∃ g : Nat, ∃ idx : Nat, ∃ gs : Bool, Issues c gp gs s ∧
     h < 4 ∧ a < 32 ∧ b < 32 ∧ v < 16 ∧ seg < 8 ∧ g < 32 ∧ idx < 11 ∧
     (let k := lcore c s.dev; (let S := idxSluice c idx; (let reads := idxExc k idx false = none; reads ∧ gBad g k = false ∧ sluVisible S s.dev = false ∧ gRead g k ≠ 0)))) ∧
    (∃ s : State, ∃ c : Nat, ∃ gp : Nat, ∃ h : Nat, ∃ a : Nat, ∃ b : Nat, ∃ v : Nat, ∃ seg : Nat, ∃ g : Nat, ∃ idx : Nat, ∃ valid : Nat, ∃ gs : Bool,
     ∃ first : Bool, ∃ last : Bool, Issues c gp gs s ∧ h < 4 ∧ a < 32 ∧ b < 32 ∧ v < 16 ∧ seg < 8 ∧ g < 32 ∧ idx < 11 ∧
     (let k := lcore c s.dev; (let S := idxSluice c idx; 1 ≤ valid ∧ valid ≤ 64 ∧ idxExc k idx true = none ∧ slwrBad c k idx first last valid s.dev = false ∧ (let data := slice (vRead v k) (64 * seg) 64; bitOf k.discard idx = false ∧ (slwrTry S data first last valid (vSegBad v seg k) s.dev).isSome = true)))) ∧
    (∃ s : State, ∃ c : Nat, ∃ gp : Nat, ∃ h : Nat, ∃ a : Nat, ∃ b : Nat, ∃ v : Nat, ∃ seg : Nat, ∃ g : Nat, ∃ idx : Nat, ∃ valid : Nat, ∃ gs : Bool,
     ∃ first : Bool, ∃ last : Bool, Issues c gp gs s ∧ h < 4 ∧ a < 32 ∧ b < 32 ∧ v < 16 ∧ seg < 8 ∧ g < 32 ∧ idx < 11 ∧
     (let k := lcore c s.dev; (let S := idxSluice c idx; 1 ≤ valid ∧ valid ≤ 64 ∧ idxExc k idx true = none ∧ slwrBad c k idx first last valid s.dev = false ∧ (let data := slice (vRead v k) (64 * seg) 64; bitOf k.discard idx = false ∧ slwrTry S data first last valid (vSegBad v seg k) s.dev = none)))) ∧
    (∃ s : State, ∃ c : Nat, ∃ gp : Nat, ∃ h : Nat, ∃ a : Nat, ∃ b : Nat, ∃ v : Nat, ∃ seg : Nat, ∃ g : Nat, ∃ idx : Nat, ∃ valid : Nat, ∃ gs : Bool,
     ∃ first : Bool, ∃ last : Bool, Issues c gp gs s ∧ h < 4 ∧ a < 32 ∧ b < 32 ∧ v < 16 ∧ seg < 8 ∧ g < 32 ∧ idx < 11 ∧
     (let k := lcore c s.dev; (let S := idxSluice c idx; 1 ≤ valid ∧ valid ≤ 64 ∧ idxExc k idx true = none ∧ slwrBad c k idx first last valid s.dev = false ∧ (let data := slice (vRead v k) (64 * seg) 64; bitOf k.discard idx = true ∧ first = true ∧ (slwrTry S data true last valid (vSegBad v seg k) s.dev).isSome = true)))) ∧
    (∃ s : State, ∃ c : Nat, ∃ gp : Nat, ∃ h : Nat, ∃ a : Nat, ∃ b : Nat, ∃ v : Nat, ∃ seg : Nat, ∃ g : Nat, ∃ idx : Nat, ∃ valid : Nat, ∃ gs : Bool,
     ∃ first : Bool, ∃ last : Bool, Issues c gp gs s ∧ h < 4 ∧ a < 32 ∧ b < 32 ∧ v < 16 ∧ seg < 8 ∧ g < 32 ∧ idx < 11 ∧
     (let k := lcore c s.dev; (let S := idxSluice c idx; 1 ≤ valid ∧ valid ≤ 64 ∧ idxExc k idx true = none ∧ slwrBad c k idx first last valid s.dev = false ∧ (let data := slice (vRead v k) (64 * seg) 64; bitOf k.discard idx = true ∧ first = true ∧ slwrTry S data true last valid (vSegBad v seg k) s.dev = none)))) ∧
    (∃ s : State, ∃ c : Nat, ∃ gp : Nat, ∃ h : Nat, ∃ a : Nat, ∃ b : Nat, ∃ v : Nat, ∃ seg : Nat, ∃ g : Nat, ∃ idx : Nat, ∃ valid : Nat, ∃ gs : Bool,
     ∃ first : Bool, ∃ last : Bool, Issues c gp gs s ∧ h < 4 ∧ a < 32 ∧ b < 32 ∧ v < 16 ∧ seg < 8 ∧ g < 32 ∧ idx < 11 ∧
     (let k := lcore c s.dev; 1 ≤ valid ∧ valid ≤ 64 ∧ idxExc k idx true = none ∧ slwrBad c k idx first last valid s.dev = false ∧ bitOf k.discard idx = true ∧ first = false)) ∧
    (∃ s : State, ∃ c : Nat, ∃ gp : Nat, ∃ h : Nat, ∃ a : Nat, ∃ b : Nat, ∃ v : Nat, ∃ seg : Nat, ∃ g : Nat, ∃ idx : Nat, ∃ gs : Bool, Issues c gp gs s ∧
     h < 4 ∧ a < 32 ∧ b < 32 ∧ v < 16 ∧ seg < 8 ∧ g < 32 ∧ idx < 11 ∧
     (let k := lcore c s.dev; (let A := (gRead a k).toNat; (let B := (gRead b k).toNat; gBad a k = false ∧ gBad b k = false ∧ A < 2 ^ 24 ∧ 64 ≤ B % 65536 ∧ B % 65536 ≤ 16384 ∧ B % 64 = 0 ∧ B / 65536 % 16 < 8 ∧ freeMiss c A s.dev = none)))) ∧
    (∃ s : State, ∃ c : Nat, ∃ gp : Nat, ∃ h : Nat, ∃ a : Nat, ∃ b : Nat, ∃ v : Nat, ∃ seg : Nat, ∃ g : Nat, ∃ idx : Nat, ∃ gs : Bool, Issues c gp gs s ∧
     h < 4 ∧ a < 32 ∧ b < 32 ∧ v < 16 ∧ seg < 8 ∧ g < 32 ∧ idx < 11 ∧
     (let k := lcore c s.dev; (let A := (gRead a k).toNat; (let B := (gRead b k).toNat; gBad a k = false ∧ gBad b k = false ∧ A < 2 ^ 24 ∧ 64 ≤ B % 65536 ∧ B % 65536 ≤ 16384 ∧ B % 64 = 0 ∧ B / 65536 % 16 < 8 ∧ (freeMiss c A s.dev).isSome = true)))) ∧
    (∃ s : State, ∃ c : Nat, ∃ gp : Nat, ∃ h : Nat, ∃ a : Nat, ∃ b : Nat, ∃ v : Nat, ∃ seg : Nat, ∃ g : Nat, ∃ idx : Nat, ∃ n : Nat, ∃ gs : Bool,
     Issues c gp gs s ∧ h < 4 ∧ a < 32 ∧ b < 32 ∧ v < 16 ∧ seg < 8 ∧ g < 32 ∧ idx < 11 ∧
     (let k := lcore c s.dev; (let A := (gRead a k).toNat; (let B := (gRead b k).toNat; gBad a k = false ∧ gBad b k = false ∧ A < 2 ^ 24 ∧ (sessDir A s.dev).opened = true ∧ 1 ≤ n ∧ n ≤ 512 ∧ accessExc k 64 B (n * (sessDir A s.dev).rowb) false = none ∧ (inBwin B = true → storeIdle c s.dev))))) :=
  ⟨⟨onUp fun d => sessDirPut 2 { rows := 8, rowb := 128, fmt := 1, opened := true, first := 0, last := 0 } (coreDev { coreT with prog := false } d), 1, 3, 0, 2, 12, 12, 1, 1, 1, 7, 0, 2, true, false, by decide +kernel⟩,
   ⟨((slotStates ++ wrStates).getD 13 up), 1, 0, 0, 0, 13, 5, 7, 12, 8, false, by decide +kernel⟩,
   ⟨((slotStates ++ wrStates).getD 2 up), 1, 3, 1, 0, 0, 5, 0, 5, 4, true, by decide +kernel⟩,
   ⟨sluK 0 (fun x => { x with words := [w0, w2] }) coreT, 1, 1, 0, 1, 14, 1, 0, 5, 0, true, by decide +kernel⟩,
   ⟨sluK 0 (fun x => { x with started := true }) coreT, 1, 3, 0, 1, 14, 5, 0, 0, 0, true, (sluRead (idxSluice 1 0) (sluK 0 (fun x => { x with started := true }) coreT).dev).2, by decide +kernel⟩,
   ⟨sluK 0 (fun x => { x with words := [w0, w2] }) coreT, 1, 1, 1, 0, 14, 1, 7, 0, 0, true, by decide +kernel⟩,
   ⟨((slotStates ++ wrStates).getD 25 up), 1, 3, 1, 12, 12, 1, 0, 0, 0, true, by decide +kernel⟩,
   ⟨((slotStates ++ wrStates).getD 10 up), 1, 2, 2, 0, 13, 1, 7, 5, 0, false, by decide +kernel⟩,
   ⟨((slotStates ++ wrStates).getD 11 up), 1, 0, 0, 12, 0, 1, 0, 12, 1, 7, false, true, true, by decide +kernel⟩,
   ⟨sluK 1 (fun x => { x with words := List.replicate (64 * x.res) w1, opened := true, openN := 5 }) { coreT with prog := true }, 1, 3, 1, 1, 12, 5, 7, 0, 1, 7, true, false, true, by decide +kernel⟩,
   ⟨sluK 1 (fun x => x) { coreT with discard := 2 }, 1, 1, 1, 0, 12, 1, 0, 12, 1, 7, true, true, true, by decide +kernel⟩,
   ⟨sluK 1 (fun x => { x with words := List.replicate (64 * x.res) w1 }) { coreT with discard := 2 }, 1, 3, 1, 12, 12, 5, 0, 12, 1, 64, true, true, true, by decide +kernel⟩,
   ⟨sluK 1 (fun x => x) { coreT with discard := 2 }, 1, 1, 2, 1, 12, 1, 0, 12, 1, 7, true, false, true, by decide +kernel⟩,
   ⟨((slotStates ++ wrStates).getD 24 up), 1, 3, 1, 12, 13, 5, 0, 0, 4, true, by decide +kernel⟩,
   ⟨awaySt, 1, 3, 1, 12, 13, 5, 0, 12, 8, true, by decide +kernel⟩,
   ⟨onUp fun d => sessDirPut 2 { rows := 8, rowb := 128, fmt := 1, opened := true, first := 0, last := 0 } (coreDev { coreT with prog := false } d), 1, 3, 2, 12, 13, 1, 0, 12, 3, 2, true, by decide +kernel⟩⟩

theorem wit_ExceptionCauses :
    (∃ s : State, ∃ c : Nat, ∃ gp : Nat, ∃ a : Nat, ∃ b : Nat, ∃ d : Nat, ∃ sl : Nat, ∃ gs : Bool, ∃ off : Int, Issues c gp gs s ∧ (sl = 1 ∨ sl = 2) ∧
     a < 32 ∧ b < 32 ∧ d < 8 ∧ -(2 : Int) ^ 31 ≤ off ∧ off < (2 : Int) ^ 31 ∧
     (let k := lcore c s.dev; (let t : Int := (k.pc : Int) + 64 * off; k.pc % 64 = 0 ∧ (t < 0 ∨ (codeSize k : Int) ≤ t)))) ∧
    (∃ s : State, ∃ c : Nat, ∃ gp : Nat, ∃ a : Nat, ∃ b : Nat, ∃ d : Nat, ∃ sl : Nat, ∃ gs : Bool, ∃ off : Int, Issues c gp gs s ∧ (sl = 1 ∨ sl = 2) ∧
     a < 32 ∧ b < 32 ∧ d < 8 ∧ -(2 : Int) ^ 31 ≤ off ∧ off < (2 : Int) ^ 31 ∧ (let k := lcore c s.dev; gBad a k = false ∧ (gRead a k).toNat % 64 ≠ 0)) ∧
    (∃ s : State, ∃ c : Nat, ∃ gp : Nat, ∃ a : Nat, ∃ b : Nat, ∃ d : Nat, ∃ sl : Nat, ∃ gs : Bool, ∃ off : Int, Issues c gp gs s ∧ (sl = 1 ∨ sl = 2) ∧
     a < 32 ∧ b < 32 ∧ d < 8 ∧ -(2 : Int) ^ 31 ≤ off ∧ off < (2 : Int) ^ 31 ∧
     (let k := lcore c s.dev; gBad a k = false ∧ (gRead a k).toNat % 64 = 0 ∧ codeSize k ≤ (gRead a k).toNat)) ∧
    (∃ s : State, ∃ c : Nat, ∃ gp : Nat, ∃ a : Nat, ∃ b : Nat, ∃ d : Nat, ∃ sl : Nat, ∃ gs : Bool, ∃ off : Int, Issues c gp gs s ∧ (sl = 1 ∨ sl = 2) ∧
     a < 32 ∧ b < 32 ∧ d < 8 ∧ -(2 : Int) ^ 31 ≤ off ∧ off < (2 : Int) ^ 31 ∧ (let k := lcore c s.dev; k.prog = false)) ∧
    (∃ s : State, ∃ c : Nat, ∃ gp : Nat, ∃ a : Nat, ∃ b : Nat, ∃ d : Nat, ∃ n : Nat, ∃ sl : Nat, ∃ gs : Bool, ∃ off : Int, Issues c gp gs s ∧
     (sl = 1 ∨ sl = 2) ∧ a < 32 ∧ b < 32 ∧ d < 8 ∧ -(2 : Int) ^ 31 ≤ off ∧ off < (2 : Int) ^ 31 ∧ (let k := lcore c s.dev; k.prog = true ∧ 16 ≤ n ∧ n < 64)) ∧
    (∃ s : State, ∃ c : Nat, ∃ gp : Nat, ∃ a : Nat, ∃ b : Nat, ∃ d : Nat, ∃ sl : Nat, ∃ gs : Bool, ∃ off : Int, Issues c gp gs s ∧ (sl = 1 ∨ sl = 2) ∧
     a < 32 ∧ b < 32 ∧ d < 8 ∧ -(2 : Int) ^ 31 ≤ off ∧ off < (2 : Int) ^ 31 ∧
     (let k := lcore c s.dev; (let ea := effAddr k a off; gBad a k = true ∧ inBwin ea = false))) ∧
    (∃ s : State, ∃ c : Nat, ∃ gp : Nat, ∃ a : Nat, ∃ b : Nat, ∃ d : Nat, ∃ sl : Nat, ∃ gs : Bool, ∃ off : Int, Issues c gp gs s ∧ (sl = 1 ∨ sl = 2) ∧
     a < 32 ∧ b < 32 ∧ d < 8 ∧ -(2 : Int) ^ 31 ≤ off ∧ off < (2 : Int) ^ 31 ∧
     (let k := lcore c s.dev; (let ea := effAddr k a off; gBad a k = false ∧ inBwin ea = false ∧ ea % 8 ≠ 0))) ∧
    (∃ s : State, ∃ c : Nat, ∃ gp : Nat, ∃ a : Nat, ∃ b : Nat, ∃ d : Nat, ∃ sl : Nat, ∃ gs : Bool, ∃ off : Int, Issues c gp gs s ∧ (sl = 1 ∨ sl = 2) ∧
     a < 32 ∧ b < 32 ∧ d < 8 ∧ -(2 : Int) ^ 31 ≤ off ∧ off < (2 : Int) ^ 31 ∧
     (let k := lcore c s.dev; (let ea := effAddr k a off; gBad a k = false ∧ inBwin ea = false ∧ 2 ^ 27 ≤ ea))) ∧
    (∃ s : State, ∃ c : Nat, ∃ gp : Nat, ∃ a : Nat, ∃ b : Nat, ∃ d : Nat, ∃ sl : Nat, ∃ gs : Bool, ∃ off : Int, ∃ w, ∃ imm, Issues c gp gs s ∧
     (sl = 1 ∨ sl = 2) ∧ a < 32 ∧ b < 32 ∧ d < 8 ∧ -(2 : Int) ^ 31 ≤ off ∧ off < (2 : Int) ^ 31 ∧ (w = 0 ∨ w = 3) ∧ imm < 65536) ∧
    (∃ s : State, ∃ c : Nat, ∃ gp : Nat, ∃ a : Nat, ∃ b : Nat, ∃ d : Nat, ∃ sl : Nat, ∃ gs : Bool, ∃ off : Int, ∃ i, Issues c gp gs s ∧ (sl = 1 ∨ sl = 2) ∧
     a < 32 ∧ b < 32 ∧ d < 8 ∧ -(2 : Int) ^ 31 ≤ off ∧ off < (2 : Int) ^ 31 ∧ 11 ≤ i ∧ i < 16) :=
  ⟨⟨((tileStates ++ coreStates).getD 3 up), 1, 0, 8, 1, 0, 2, false, -100, by decide +kernel⟩,
   ⟨((tileStates ++ coreStates).getD 6 up), 1, 1, 2, 1, 0, 2, true, 100000, by decide +kernel⟩,
   ⟨((tileStates ++ coreStates).getD 3 up), 1, 0, 9, 3, 0, 1, false, 0, by decide +kernel⟩,
   ⟨((tileStates ++ coreStates).getD 4 up), 1, 3, 3, 3, 7, 1, true, 100000, by decide +kernel⟩,
   ⟨((tileStates ++ coreStates).getD 0 up), 1, 2, 9, 1, 0, 40, 1, false, 4, by decide +kernel⟩,
   ⟨((tileStates ++ coreStates).getD 5 up), 1, 2, 5, 1, 0, 1, false, 3, by decide +kernel⟩,
   ⟨((tileStates ++ coreStates).getD 3 up), 1, 3, 2, 3, 7, 2, true, -100, by decide +kernel⟩,
   ⟨((tileStates ++ coreStates).getD 6 up), 1, 0, 12, 3, 7, 2, false, -100, by decide +kernel⟩,
   ⟨((tileStates ++ coreStates).getD 0 up), 1, 1, 9, 1, 0, 2, true, 0, 0, 9, by decide +kernel⟩,
   ⟨((tileStates ++ coreStates).getD 5 up), 1, 0, 3, 3, 7, 1, false, 3, 11, by decide +kernel⟩⟩

theorem wit_ExceptionsEndTheBatch :
    (∃ c : Nat, ∃ d : Dev, (let k := lcore c d; k.prog = false)) ∧
    (∃ c : Nat, ∃ d : Dev, (let k := lcore c d; k.prog = true ∧ (k.running).isSome = true)) :=
  ⟨⟨1, ((tileStates ++ coreStates ++ wrStates).getD 18 up).dev, by decide +kernel⟩,
   ⟨1, ((tileStates ++ coreStates ++ wrStates).getD 6 up).dev, by decide +kernel⟩⟩

theorem wit_GuardsHoldBack :
    (∃ s : State, ∃ c : Nat, ∃ gp : Nat, ∃ sl : Nat, ∃ d : Nat, ∃ a : Nat, ∃ b : Nat, ∃ gs : Bool, ∃ off : Int, CoreReady c s ∧ gp < 8 ∧
     pRead gp (lcore c s.dev) = gs ∧ (sl = 1 ∨ sl = 2) ∧ d < 8 ∧ a < 32 ∧ b < 32 ∧ -(2 : Int) ^ 31 ≤ off ∧ off < (2 : Int) ^ 31) ∧
    (∃ c : Nat, ∃ d : Dev, coreServes c d = true ∧ (lcore c d).kfault = false ∧
     (let k := lcore c d; (k.held ≠ [] ∨ k.wait ≠ .none ∨ k.tileWait = true ∨ k.issued = k.ticks + 1))) ∧
    (∃ c : Nat, ∃ sl : Slot, ∃ d : Dev, coreServes c d = true ∧ (lcore c d).kfault = false ∧
     (let k := lcore c d; (let word := (k.asm.filter fun t => t.slot != sl.slot) ++ [sl]; wordIllegal word = none ∧ k.pc < codeSize k ∧ wordWaits c k word d = true))) ∧
    (∃ c : Nat, ∃ d : Dev, (coreServes c d = false ∨ (lcore c d).kfault = true)) ∧
    (∃ c : Nat, ∃ err : Nat, ∃ word : List Slot, ∃ ws : List (List Slot × Nat), ∃ d : Dev, coreServes c d = true ∧
     (let k := lcore c d; k.kfault = false ∧ k.held = (word, err) :: ws ∧ k.wait = .none ∧ k.tileWait = false ∧ k.issued ≠ k.ticks + 1 ∧ wordWaits c k word d = false)) :=
  ⟨⟨((tileStates ++ coreStates).getD 3 up), 1, 0, 1, 1, 3, 5, true, 0, by decide +kernel⟩,
   ⟨1, (onUp (coreDev { core0 with wait := .wait 0 4000 })).dev, by decide +kernel⟩,
   ⟨1, { slot := 6, res := false, op := .tacc 0 1 0 false false 5, gp := 0, gs := false }, tqSt.dev, by decide +kernel⟩,
   ⟨2, mixA.dev, by decide +kernel⟩,
   ⟨1, 0, [mv2], [], (onUp (coreDev { core0 with held := [([mv2], 0)] })).dev, by decide +kernel⟩⟩

theorem wit_CodeIsRun :
    (∃ c : Nat, ∃ d : Dev, coreServes c d = true ∧ (let k := Machine.core c d; k.held ≠ [])) ∧
    (∃ c : Nat, ∃ d : Dev, ∃ ss : List Slot, coreServes c d = true ∧
     (let k := Machine.core c d; k.prog = true ∧ k.wait = .none ∧ k.tileWait = false ∧ k.issued ≠ k.ticks + 1 ∧ k.kfault = false ∧ k.asm = [] ∧ k.held = [] ∧ k.pc < codeSize k ∧ (ss.Pairwise (fun a b => a.slot < b.slot)) ∧ (∀ s ∈ ss, slotLegal s = true) ∧ (fieldLe (runSlot k).code k.pc 64 = (ss.map fun s => slotEncode s * 2 ^ (64 * s.slot)).sum) ∧ wordLoads ss = false)) ∧
    (∃ c : Nat, ∃ d : Dev, ∃ ss : List Slot, coreServes c d = true ∧
     (let k := Machine.core c d; k.prog = true ∧ k.wait = .none ∧ k.tileWait = false ∧ k.issued ≠ k.ticks + 1 ∧ k.kfault = false ∧ k.asm = [] ∧ k.held = [] ∧ k.pc < codeSize k ∧ (ss.Pairwise (fun a b => a.slot < b.slot)) ∧ (∀ s ∈ ss, slotLegal s = true) ∧ (fieldLe (runSlot k).code k.pc 64 = (ss.map fun s => slotEncode s * 2 ^ (64 * s.slot)).sum) ∧ wordLoads ss = true)) ∧
    (∃ c : Nat, ∃ d : Dev, coreServes c d = true ∧
     (let k := Machine.core c d; k.prog = true ∧ k.wait = .none ∧ k.tileWait = false ∧ k.issued ≠ k.ticks + 1 ∧ k.kfault = false ∧ k.asm = [] ∧ k.held = [] ∧ codeSize k ≤ k.pc)) ∧
    (∃ c : Nat, ∃ d : Dev, coreServes c d = true ∧
     (let k := Machine.core c d; k.held = [] ∧ (k.prog = false ∨ k.wait ≠ .none ∨ k.tileWait = true ∨ k.issued = k.ticks + 1))) :=
  ⟨⟨1, (onUp (coreDev { core0 with held := [([mv2], 0)] })).dev, by decide +kernel⟩,
   ⟨1, (codeSt []).dev, [], by decide +kernel⟩,
   ⟨1, (codeSt [ld3]).dev, [ld3], by decide +kernel⟩,
   ⟨1, (onUp (coreDev { prg0 with pc := 8192 })).dev, by decide +kernel⟩,
   ⟨1, upFull.dev, by decide +kernel⟩⟩

theorem wit_KernelsReadRequests :
    (∃ s : State, ∃ c : Nat, Runs s ∧ coreServes c s.dev = true ∧ (lcore c s.dev).closed.length < 8 ∧
     (∃ q0 ∈ takePkt (149 + c) s.dev, let p := q0.1; p.aborted = true)) ∧
    (∃ s : State, ∃ c : Nat, Runs s ∧ coreServes c s.dev = true ∧ (lcore c s.dev).closed.length < 8 ∧
     (∃ q0 ∈ takePkt (149 + c) s.dev, let p := q0.1; (let table := fieldLe p.body 2 2; (let sl := table % 16; p.aborted = false ∧ slotStopped c sl s.dev = true)))) ∧
    (∃ s : State, ∃ c : Nat, Runs s ∧ coreServes c s.dev = true ∧ (lcore c s.dev).closed.length < 8 ∧
     (∃ q0 ∈ takePkt (149 + c) s.dev, let p := q0.1; (let k := lcore c s.dev; (let table := fieldLe p.body 2 2; (let sl := table % 16; (let en := table / 16 % 16; (let hdr := (progOf sl k).hdr; (let refused := hdr = [] ∨ fieldLe hdr 30 1 ≤ en ∨ fieldLe p.body 1 1 % 4 ≠ fieldLe hdr 53 1 ∨ 256 ≤ table; p.aborted = false ∧ slotStopped c sl s.dev = false ∧ refused)))))))) ∧
    (∃ s : State, ∃ c : Nat, Runs s ∧ coreServes c s.dev = true ∧ (lcore c s.dev).closed.length < 8 ∧
     (∃ q0 ∈ takePkt (149 + c) s.dev, let p := q0.1; (let k := lcore c s.dev; (let table := fieldLe p.body 2 2; (let sl := table % 16; (let en := table / 16 % 16; (let inlen := fieldLe p.body 4 4; (let hdr := (progOf sl k).hdr; (let refused := hdr = [] ∨ fieldLe hdr 30 1 ≤ en ∨ fieldLe p.body 1 1 % 4 ≠ fieldLe hdr 53 1 ∨ 256 ≤ table; p.aborted = false ∧ slotStopped c sl s.dev = false ∧ ¬ refused ∧ inputPlace c inlen k = none))))))))) ∧
    (∃ s : State, ∃ c : Nat, Runs s ∧ coreServes c s.dev = true ∧ (lcore c s.dev).closed.length < 8 ∧
     (∃ q0 ∈ takePkt (149 + c) s.dev, let p := q0.1; (let k := lcore c s.dev; (let table := fieldLe p.body 2 2; (let sl := table % 16; (let en := table / 16 % 16; (let inlen := fieldLe p.body 4 4; (let hdr := (progOf sl k).hdr; (let refused := hdr = [] ∨ fieldLe hdr 30 1 ≤ en ∨ fieldLe p.body 1 1 % 4 ≠ fieldLe hdr 53 1 ∨ 256 ≤ table; p.aborted = false ∧ slotStopped c sl s.dev = false ∧ ¬ refused ∧ (inputPlace c inlen k).isSome = true))))))))) :=
  ⟨⟨(kStates.getD 29 up), 1, by decide +kernel⟩,
   ⟨(kStop.getD 1 up), 1, by decide +kernel⟩,
   ⟨(kStates.getD 4 up), 1, by decide +kernel⟩,
   ⟨(kStop.getD 2 up), 1, by decide +kernel⟩,
   ⟨(kStates.getD 12 up), 1, by decide +kernel⟩⟩

theorem wit_BatchesCloseAndAsk :
    (∃ s : State, ∃ c : Nat, Runs s ∧ coreServes c s.dev = true) ∧
    (∃ c : Nat, ∃ d : Dev, ((lcore c d).asked ≠ none ∨ (lcore c d).running ≠ none ∨ (lcore c d).closed = [])) ∧
    (∃ c : Nat, ∃ b : Batch, ∃ pre : List Batch, ∃ post : List Batch, ∃ d : Dev, (lcore c d).asked = none ∧ (lcore c d).running = none ∧
     (lcore c d).closed = pre ++ b :: post ∧ Earliest b pre post) :=
  ⟨⟨((kDevs.map st).getD 3 up), 1, by decide +kernel⟩,
   ⟨1, (kDevs.getD 1 up.dev), by decide +kernel⟩,
   ⟨1, bat 512 2 200, [bat 512 3 100], [], (kDevs.getD 5 up.dev), by decide +kernel⟩⟩

theorem wit_DispatchIsEvaluated : ∃ s : State, ∃ drawn : Nat, ∃ F : List DReq, ∃ R : List DReq, Runs s ∧
    (let d0 := { s.dev with therm := { s.dev.therm with drawn := drawn } }; (let t := d0.therm; (let credit : Int := (t.plimNow * 1000 : Int) - t.debt - drawn; (let short := decide (2 * credit < t.plimNow * 1000); (let isForced := fun (q : DReq) => q.arrived + 9123840 ≤ now d0; (let d1 := foldSt F (fun q d => raise 98 6 (grantReq q d)) d0; (F.Perm (t.reqs.filter fun q => isForced q)) ∧ (F.Pairwise (fun a b => a.arrived < b.arrived)) ∧ (R.Perm (t.reqs.filter fun q => ¬ isForced q)) ∧ (R.Pairwise (fun a b => reqKey short a d1 < reqKey short b d1 ∨ (reqKey short a d1 = reqKey short b d1 ∧ a.core < b.core))))))))) :=
  ⟨dispSt 0, 0, [dq 4 5000 0, dq 2 10000 1], [dq 1 19999000 2, dq 3 19000000 3, dq 5 19000000 3], by decide +kernel⟩

theorem wit_GrantsEnterThePrograms : ∃ s : State, ∃ c : Nat, Runs s ∧ coreServes c s.dev = true ∧
    (∃ b ∈ (lcore c s.dev).closed.head?, (∃ t ∈ (lcore c s.dev).asked, (lcore c s.dev).running = none ∧ (takePkt (181 + 8 * c) s.dev).isSome = true)) :=
  ⟨grantSt, 1, by decide +kernel⟩

theorem wit_BudgetsExpire :
    (∃ s : State, ∃ c : Nat, Runs s ∧ coreServes c s.dev = true ∧ (lcore c s.dev).prog = true ∧ (lcore c s.dev).running ≠ none ∧
     (let k := lcore c s.dev; due k.budget s.dev = true ∧ k.tileWait = false ∧ k.wait = .none)) ∧
    (∃ s : State, ∃ c : Nat, Runs s ∧ coreServes c s.dev = true ∧ (lcore c s.dev).prog = true ∧ (lcore c s.dev).running ≠ none ∧
     (let k := lcore c s.dev; due k.budget s.dev = true ∧ k.tileWait = true)) ∧
    (∃ s : State, ∃ c : Nat, Runs s ∧ coreServes c s.dev = true ∧ (lcore c s.dev).prog = true ∧ (lcore c s.dev).running ≠ none ∧
     (let k := lcore c s.dev; due k.budget s.dev = true ∧ k.tileWait = false ∧ k.wait ≠ .none)) ∧
    (∃ s : State, ∃ c : Nat, Runs s ∧ coreServes c s.dev = true ∧ (lcore c s.dev).prog = true ∧ (lcore c s.dev).running ≠ none ∧
     (let k := lcore c s.dev; due k.budget s.dev = false)) :=
  ⟨⟨(waitStates.getD 0 up), 1, by decide +kernel⟩,
   ⟨(waitStates.getD 4 up), 1, by decide +kernel⟩,
   ⟨(waitStates.getD 16 up), 1, by decide +kernel⟩,
   ⟨onUp (coreDev { coreT with budget := 90000 }), 1, by decide +kernel⟩⟩

theorem wit_WaitsComplete :
    (∃ s : State, ∃ c : Nat, Runs s ∧ coreServes c s.dev = true ∧ (let k := lcore c s.dev; k.tileWait = true ∧ (basin c s.dev).queue = [] ∧ k.wait = .none)) ∧
    (∃ s : State, ∃ c : Nat, Runs s ∧ coreServes c s.dev = true ∧
     (let k := lcore c s.dev; (k.tileWait = true → (basin c s.dev).queue ≠ []) ∧ k.wait = .none)) ∧
    (∃ s : State, ∃ c : Nat, ∃ i, ∃ data, ∃ first, ∃ last, ∃ valid, ∃ bad, Runs s ∧ coreServes c s.dev = true ∧
     (let k := lcore c s.dev; (k.tileWait = true → (basin c s.dev).queue ≠ []) ∧ k.wait = .write i data first last valid bad ∧ (let n := idxSluice c i; (let x := slu n s.dev; (let lost := first = false ∧ (x.opened = true ∧ x.absorb = true ∧ x.turned = true ∨ x.opened = false ∧ x.absorb = false); lost))))) ∧
    (∃ s : State, ∃ c : Nat, ∃ i, ∃ data, ∃ first, ∃ last, ∃ valid, ∃ bad, Runs s ∧ coreServes c s.dev = true ∧
     (let k := lcore c s.dev; (k.tileWait = true → (basin c s.dev).queue ≠ []) ∧ k.wait = .write i data first last valid bad ∧ (let n := idxSluice c i; (let x := slu n s.dev; (let lost := first = false ∧ (x.opened = true ∧ x.absorb = true ∧ x.turned = true ∨ x.opened = false ∧ x.absorb = false); ¬ lost ∧ (slwrTry n data first last valid bad s.dev).isSome = true))))) ∧
    (∃ s : State, ∃ c : Nat, ∃ i, ∃ data, ∃ first, ∃ last, ∃ valid, ∃ bad, Runs s ∧ coreServes c s.dev = true ∧
     (let k := lcore c s.dev; (k.tileWait = true → (basin c s.dev).queue ≠ []) ∧ k.wait = .write i data first last valid bad ∧ (let n := idxSluice c i; (let x := slu n s.dev; (let lost := first = false ∧ (x.opened = true ∧ x.absorb = true ∧ x.turned = true ∨ x.opened = false ∧ x.absorb = false); ¬ lost ∧ slwrTry n data first last valid bad s.dev = none))))) ∧
    (∃ s : State, ∃ c : Nat, ∃ i, ∃ u, Runs s ∧ coreServes c s.dev = true ∧
     (let k := lcore c s.dev; (k.tileWait = true → (basin c s.dev).queue ≠ []) ∧ k.wait = .wait i u ∧ sluVisible (idxSluice c i) s.dev = true)) ∧
    (∃ s : State, ∃ c : Nat, ∃ i, ∃ u, Runs s ∧ coreServes c s.dev = true ∧
     (let k := lcore c s.dev; (k.tileWait = true → (basin c s.dev).queue ≠ []) ∧ k.wait = .wait i u ∧ sluVisible (idxSluice c i) s.dev = false)) ∧
    (∃ s : State, ∃ c : Nat, ∃ v, ∃ seg, ∃ g, ∃ i, Runs s ∧ coreServes c s.dev = true ∧
     (let k := lcore c s.dev; (∃ x ∈ (sluRead (idxSluice c i) s.dev).1, (k.tileWait = true → (basin c s.dev).queue ≠ []) ∧ k.wait = .read v seg g i))) ∧
    (∃ s : State, ∃ c : Nat, ∃ v, ∃ seg, ∃ g, ∃ i, ∃ d, Runs s ∧ coreServes c s.dev = true ∧
     (let k := lcore c s.dev; (k.tileWait = true → (basin c s.dev).queue ≠ []) ∧ k.wait = .read v seg g i ∧ sluRead (idxSluice c i) s.dev = (none, d))) ∧
    (∃ s : State, ∃ c : Nat, ∃ id, ∃ init, Runs s ∧ coreServes c s.dev = true ∧
     (let k := lcore c s.dev; (k.tileWait = true → (basin c s.dev).queue ≠ []) ∧ k.wait = .free id init ∧ (freeMiss c id s.dev).isSome = true)) ∧
    (∃ s : State, ∃ c : Nat, ∃ id, ∃ init, Runs s ∧ coreServes c s.dev = true ∧
     (let k := lcore c s.dev; (k.tileWait = true → (basin c s.dev).queue ≠ []) ∧ k.wait = .free id init ∧ freeMiss c id s.dev = none)) ∧
    (∃ s : State, ∃ c : Nat, ∃ id, ∃ addr, ∃ n, Runs s ∧ coreServes c s.dev = true ∧
     (let k := lcore c s.dev; (k.tileWait = true → (basin c s.dev).queue ≠ []) ∧ k.wait = .append id addr n ∧ (let e := sessDir id s.dev; e.rows ≠ 0 ∧ (rowMiss c e (e.rows - 1) s.dev).isSome = true))) ∧
    (∃ s : State, ∃ c : Nat, ∃ remote : List (Nat × Nat), ∃ errs : List (Nat × Nat), ∃ id, ∃ addr, ∃ n, Runs s ∧ coreServes c s.dev = true ∧
     (let k := lcore c s.dev; (k.tileWait = true → (basin c s.dev).queue ≠ []) ∧ k.wait = .append id addr n ∧ (let e := sessDir id s.dev; (let here := e.rows = 0 ∨ rowMiss c e (e.rows - 1) s.dev = none; here ∧ (let d0 := foldSt (errs.filter fun x => decide (addr ≤ x.1) && decide (x.1 < addr + n * e.rowb)) (fun x d => coreMemErr c x.2 x.1 d) s.dev; sessGrow n c remote e d0 = none))))) ∧
    (∃ s : State, ∃ c : Nat, ∃ remote : List (Nat × Nat), ∃ errs : List (Nat × Nat), ∃ id, ∃ addr, ∃ n, Runs s ∧ coreServes c s.dev = true ∧
     (let k := lcore c s.dev; (k.tileWait = true → (basin c s.dev).queue ≠ []) ∧ k.wait = .append id addr n ∧ (let e := sessDir id s.dev; (let here := e.rows = 0 ∨ rowMiss c e (e.rows - 1) s.dev = none; here ∧ (let d0 := foldSt (errs.filter fun x => decide (addr ≤ x.1) && decide (x.1 < addr + n * e.rowb)) (fun x d => coreMemErr c x.2 x.1 d) s.dev; (∃ q0 ∈ sessGrow n c remote e d0, let e' := q0.1; let d := q0.2; (let lost := ((List.range n).any fun i => (rowParts c e' (e.rows + i) d).any fun | .lost _ => true | _ => false) = true; lost))))))) ∧
    (∃ s : State, ∃ c : Nat, ∃ remote : List (Nat × Nat), ∃ errs : List (Nat × Nat), ∃ id, ∃ addr, ∃ n, Runs s ∧ coreServes c s.dev = true ∧
     (let k := lcore c s.dev; (k.tileWait = true → (basin c s.dev).queue ≠ []) ∧ k.wait = .append id addr n ∧ (let e := sessDir id s.dev; (let here := e.rows = 0 ∨ rowMiss c e (e.rows - 1) s.dev = none; here ∧ (let d0 := foldSt (errs.filter fun x => decide (addr ≤ x.1) && decide (x.1 < addr + n * e.rowb)) (fun x d => coreMemErr c x.2 x.1 d) s.dev; (∃ q0 ∈ sessGrow n c remote e d0, let e' := q0.1; let d := q0.2; (let lost := ((List.range n).any fun i => (rowParts c e' (e.rows + i) d).any fun | .lost _ => true | _ => false) = true; (let d' := foldSt ((List.range n).zip (sappRows c addr n e.rowb d0)) (fun p d => sappRow c e' (e.rows + p.1) p.2 d) d; (let sent := ∃ q ∈ d'.jetty.memreq, q.write = true ∧ q.basin = c; ¬ lost ∧ ¬ sent))))))))) ∧
    (∃ s : State, ∃ c : Nat, ∃ remote : List (Nat × Nat), ∃ errs : List (Nat × Nat), ∃ id, ∃ addr, ∃ n, Runs s ∧ coreServes c s.dev = true ∧
     (let k := lcore c s.dev; (k.tileWait = true → (basin c s.dev).queue ≠ []) ∧ k.wait = .append id addr n ∧ (let e := sessDir id s.dev; (let here := e.rows = 0 ∨ rowMiss c e (e.rows - 1) s.dev = none; here ∧ (let d0 := foldSt (errs.filter fun x => decide (addr ≤ x.1) && decide (x.1 < addr + n * e.rowb)) (fun x d => coreMemErr c x.2 x.1 d) s.dev; (∃ q0 ∈ sessGrow n c remote e d0, let e' := q0.1; let d := q0.2; (let lost := ((List.range n).any fun i => (rowParts c e' (e.rows + i) d).any fun | .lost _ => true | _ => false) = true; (let d' := foldSt ((List.range n).zip (sappRows c addr n e.rowb d0)) (fun p d => sappRow c e' (e.rows + p.1) p.2 d) d; (let sent := ∃ q ∈ d'.jetty.memreq, q.write = true ∧ q.basin = c; ¬ lost ∧ sent))))))))) ∧
    (∃ s : State, ∃ c : Nat, ∃ id, ∃ n, ∃ rows, ∃ first, ∃ last, ∃ took, Runs s ∧ coreServes c s.dev = true ∧
     (let k := lcore c s.dev; (k.tileWait = true → (basin c s.dev).queue ≠ []) ∧ k.wait = .sent id n rows first last took ∧ (let out := ∃ q ∈ s.dev.jetty.memreq, q.write = true ∧ q.basin = c; out))) ∧
    (∃ s : State, ∃ c : Nat, ∃ id, ∃ n, ∃ rows, ∃ first, ∃ last, ∃ took, Runs s ∧ coreServes c s.dev = true ∧
     (let k := lcore c s.dev; (k.tileWait = true → (basin c s.dev).queue ≠ []) ∧ k.wait = .sent id n rows first last took ∧ (let out := ∃ q ∈ s.dev.jetty.memreq, q.write = true ∧ q.basin = c; ¬ out))) ∧
    (∃ s : State, ∃ c : Nat, ∃ i, ∃ u, Runs s ∧ coreServes c s.dev = true ∧
     (let k := lcore c s.dev; k.wait = .wait i u ∧ sluVisible (idxSluice c i) s.dev = false ∧ due u s.dev = true)) ∧
    (∃ s : State, ∃ c : Nat, ∃ i, ∃ u, Runs s ∧ coreServes c s.dev = true ∧
     (let k := lcore c s.dev; k.wait = .wait i u ∧ sluVisible (idxSluice c i) s.dev = false ∧ due u s.dev = false)) :=
  ⟨⟨((waitStates ++ sessSts ++ appSts).getD 2 up), 1, by decide +kernel⟩,
   ⟨((waitStates ++ sessSts ++ appSts).getD 1 up), 1, by decide +kernel⟩,
   ⟨((waitStates ++ sessSts ++ appSts).getD 6 up), 1, 1, w0.data, false, false, 64, false, by decide +kernel⟩,
   ⟨((waitStates ++ sessSts ++ appSts).getD 5 up), 1, 1, w0.data, true, false, 64, false, by decide +kernel⟩,
   ⟨((waitStates ++ sessSts ++ appSts).getD 7 up), 1, 1, w0.data, false, false, 64, false, by decide +kernel⟩,
   ⟨((waitStates ++ sessSts ++ appSts).getD 10 up), 1, 0, 9000, by decide +kernel⟩,
   ⟨((waitStates ++ sessSts ++ appSts).getD 9 up), 1, 0, 9000, by decide +kernel⟩,
   ⟨(bwait (fun k => { k with wait := .read 1 2 5 0 }) (fun d => sluSet (idxSluice 1 0) { slu (idxSluice 1 0) d with words := [w0, w2] } d)), 1, 1, 2, 5, 0, by decide +kernel⟩,
   ⟨(bwait (fun k => { k with wait := .read 1 2 5 0 }) (fun d => sluSet (idxSluice 1 0) { slu (idxSluice 1 0) d with started := true } d)), 1, 1, 2, 5, 0, (sluRead (idxSluice 1 0) (bwait (fun k => { k with wait := .read 1 2 5 0 }) (fun d => sluSet (idxSluice 1 0) { slu (idxSluice 1 0) d with started := true } d)).dev).2, by decide +kernel⟩,
   ⟨((waitStates ++ sessSts ++ appSts).getD 19 up), 1, 2, some (128, 1), by decide +kernel⟩,
   ⟨((waitStates ++ sessSts ++ appSts).getD 20 up), 1, 2, none, by decide +kernel⟩,
   ⟨((waitStates ++ sessSts ++ appSts).getD 18 up), 1, 2, 0x500000, 2, by decide +kernel⟩,
   ⟨((waitStates ++ sessSts ++ appSts).getD 21 up), 1, [], [], 2, 0x500000, 2, by decide +kernel⟩,
   ⟨((waitStates ++ sessSts ++ appSts).getD 13 up), 1, [], [], 2, 0x500000, 2, by decide +kernel⟩,
   ⟨((waitStates ++ sessSts ++ appSts).getD 17 up), 1, [(9, 3)], [], 2, 0x500000, 2, by decide +kernel⟩,
   ⟨((waitStates ++ sessSts ++ appSts).getD 21 up), 1, [(9, 3)], [], 2, 0x500000, 2, by decide +kernel⟩,
   ⟨((waitStates ++ sessSts ++ appSts).getD 22 up), 1, 2, 2, 10, 0, 0, [], by decide +kernel⟩,
   ⟨((waitStates ++ sessSts ++ appSts).getD 16 up), 1, 2, 2, 10, 0, 0, [], by decide +kernel⟩,
   ⟨((waitStates ++ sessSts ++ appSts).getD 8 up), 1, 0, 4000, by decide +kernel⟩,
   ⟨((waitStates ++ sessSts ++ appSts).getD 9 up), 1, 0, 9000, by decide +kernel⟩⟩

theorem wit_StreamsOpen :
    (∃ s : State, ∃ c : Nat, ∃ h : Nat, ∃ src : Nat, ∃ a : Nat, ∃ b : Nat, ∃ lay : Nat, ∃ ncol : Nat, ∃ t : Nat, ∃ grp : Bool, Runs s ∧
     coreServes c s.dev = true ∧ (lcore c s.dev).wait = .open' h src grp a b lay ncol t ∧ ((lcore c s.dev).tileWait = true → (basin c s.dev).queue ≠ []) ∧
     (let k := lcore c s.dev; 2 ≤ handlesOpen k)) ∧
    (∃ s : State, ∃ c : Nat, ∃ h : Nat, ∃ src : Nat, ∃ a : Nat, ∃ b : Nat, ∃ lay : Nat, ∃ ncol : Nat, ∃ t : Nat, ∃ grp : Bool, Runs s ∧
     coreServes c s.dev = true ∧ (lcore c s.dev).wait = .open' h src grp a b lay ncol t ∧ ((lcore c s.dev).tileWait = true → (basin c s.dev).queue ≠ []) ∧
     (let k := lcore c s.dev; handlesOpen k < 2 ∧ src = 2 ∧ (let e := sessDir a s.dev; (rowMiss c e (b + ncol - 1) s.dev).isSome = true))) ∧
    (∃ s : State, ∃ c : Nat, ∃ h : Nat, ∃ src : Nat, ∃ a : Nat, ∃ b : Nat, ∃ lay : Nat, ∃ ncol : Nat, ∃ t : Nat, ∃ grp : Bool, Runs s ∧
     coreServes c s.dev = true ∧ (lcore c s.dev).wait = .open' h src grp a b lay ncol t ∧ ((lcore c s.dev).tileWait = true → (basin c s.dev).queue ≠ []) ∧
     (let k := lcore c s.dev; handlesOpen k < 2 ∧ src = 2 ∧ (let e := sessDir a s.dev; rowMiss c e (b + ncol - 1) s.dev = none))) ∧
    (∃ s : State, ∃ c : Nat, ∃ h : Nat, ∃ src : Nat, ∃ a : Nat, ∃ b : Nat, ∃ lay : Nat, ∃ ncol : Nat, ∃ t : Nat, ∃ grp : Bool, Runs s ∧
     coreServes c s.dev = true ∧ (lcore c s.dev).wait = .open' h src grp a b lay ncol t ∧ ((lcore c s.dev).tileWait = true → (basin c s.dev).queue ≠ []) ∧
     (let k := lcore c s.dev; handlesOpen k < 2 ∧ src = 1 ∧ grp = false)) ∧
    (∃ s : State, ∃ c : Nat, ∃ h : Nat, ∃ src : Nat, ∃ a : Nat, ∃ b : Nat, ∃ lay : Nat, ∃ ncol : Nat, ∃ t : Nat, ∃ grp : Bool, Runs s ∧
     coreServes c s.dev = true ∧ (lcore c s.dev).wait = .open' h src grp a b lay ncol t ∧ ((lcore c s.dev).tileWait = true → (basin c s.dev).queue ≠ []) ∧
     (let k := lcore c s.dev; handlesOpen k < 2 ∧ src = 0 ∧ (let p := runSlot k; (let tw := fieldLe (strmEntry p a) 18 2; (let twin := 1 ≤ s.dev.therm.shlevel ∧ fieldLe p.hdr 6 2 % 2 = 1 ∧ tw ≠ 0xFFFF ∧ fieldLe (strmEntry p a) 12 1 = 0; (let x := basin c s.dev; (grp = false ∨ x.groupEn = false) ∧ twin)))))) ∧
    (∃ s : State, ∃ c : Nat, ∃ h : Nat, ∃ src : Nat, ∃ a : Nat, ∃ b : Nat, ∃ lay : Nat, ∃ ncol : Nat, ∃ t : Nat, ∃ grp : Bool, Runs s ∧
     coreServes c s.dev = true ∧ (lcore c s.dev).wait = .open' h src grp a b lay ncol t ∧ ((lcore c s.dev).tileWait = true → (basin c s.dev).queue ≠ []) ∧
     (let k := lcore c s.dev; handlesOpen k < 2 ∧ src = 0 ∧ (let p := runSlot k; (let tw := fieldLe (strmEntry p a) 18 2; (let twin := 1 ≤ s.dev.therm.shlevel ∧ fieldLe p.hdr 6 2 % 2 = 1 ∧ tw ≠ 0xFFFF ∧ fieldLe (strmEntry p a) 12 1 = 0; (let x := basin c s.dev; (grp = false ∨ x.groupEn = false) ∧ ¬ twin)))))) ∧
    (∃ s : State, ∃ c : Nat, ∃ h : Nat, ∃ src : Nat, ∃ a : Nat, ∃ b : Nat, ∃ lay : Nat, ∃ ncol : Nat, ∃ t : Nat, ∃ grp : Bool, Runs s ∧
     coreServes c s.dev = true ∧ (lcore c s.dev).wait = .open' h src grp a b lay ncol t ∧ ((lcore c s.dev).tileWait = true → (basin c s.dev).queue ≠ []) ∧
     (let k := lcore c s.dev; handlesOpen k < 2 ∧ src = 0 ∧ (let p := runSlot k; (let tw := fieldLe (strmEntry p a) 18 2; (let twin := 1 ≤ s.dev.therm.shlevel ∧ fieldLe p.hdr 6 2 % 2 = 1 ∧ tw ≠ 0xFFFF ∧ fieldLe (strmEntry p a) 12 1 = 0; (let x := basin c s.dev; grp = true ∧ x.groupEn = true ∧ x.gid < 8 ∧ ¬ twin ∧ (let m := groupMembers x.gid s.dev; gstrGet x.gid s.dev = none ∧ m ≠ 0))))))) ∧
    (∃ s : State, ∃ c : Nat, ∃ h : Nat, ∃ src : Nat, ∃ a : Nat, ∃ b : Nat, ∃ lay : Nat, ∃ ncol : Nat, ∃ t : Nat, ∃ grp : Bool, Runs s ∧
     coreServes c s.dev = true ∧ (lcore c s.dev).wait = .open' h src grp a b lay ncol t ∧ ((lcore c s.dev).tileWait = true → (basin c s.dev).queue ≠ []) ∧
     (let k := lcore c s.dev; handlesOpen k < 2 ∧ src = 0 ∧ (let p := runSlot k; (let tw := fieldLe (strmEntry p a) 18 2; (let twin := 1 ≤ s.dev.therm.shlevel ∧ fieldLe p.hdr 6 2 % 2 = 1 ∧ tw ≠ 0xFFFF ∧ fieldLe (strmEntry p a) 12 1 = 0; (let x := basin c s.dev; grp = true ∧ x.groupEn = true ∧ x.gid < 8 ∧ ¬ twin ∧ (let m := groupMembers x.gid s.dev; gstrGet x.gid s.dev = none ∧ m = 0))))))) ∧
    (∃ s : State, ∃ c : Nat, ∃ h : Nat, ∃ src : Nat, ∃ a : Nat, ∃ b : Nat, ∃ lay : Nat, ∃ ncol : Nat, ∃ t : Nat, ∃ grp : Bool, Runs s ∧
     coreServes c s.dev = true ∧ (lcore c s.dev).wait = .open' h src grp a b lay ncol t ∧ ((lcore c s.dev).tileWait = true → (basin c s.dev).queue ≠ []) ∧
     (let k := lcore c s.dev; handlesOpen k < 2 ∧ src = 0 ∧ (let p := runSlot k; (let tw := fieldLe (strmEntry p a) 18 2; (let twin := 1 ≤ s.dev.therm.shlevel ∧ fieldLe p.hdr 6 2 % 2 = 1 ∧ tw ≠ 0xFFFF ∧ fieldLe (strmEntry p a) 12 1 = 0; (let of := fun (g : Option Nat) (e : Nat) (w : Bool) => strmOf p e (.hbm (p.wgtAt + fieldLe (strmEntry p e) 0 8)) g w; (let x := basin c s.dev; grp = true ∧ x.groupEn = true ∧ x.gid < 8 ∧ ¬ twin ∧ (let st := of (some x.gid) a false; (∃ gs ∈ gstrGet x.gid s.dev, sameStream gs.st st = false ∧ groupNeeds c gs.st s.dev = false))))))))) ∧
    (∃ s : State, ∃ c : Nat, ∃ h : Nat, ∃ src : Nat, ∃ a : Nat, ∃ b : Nat, ∃ lay : Nat, ∃ ncol : Nat, ∃ t : Nat, ∃ grp : Bool, Runs s ∧
     coreServes c s.dev = true ∧ (lcore c s.dev).wait = .open' h src grp a b lay ncol t ∧ ((lcore c s.dev).tileWait = true → (basin c s.dev).queue ≠ []) ∧
     (let k := lcore c s.dev; handlesOpen k < 2 ∧ src = 0 ∧ (let p := runSlot k; (let tw := fieldLe (strmEntry p a) 18 2; (let twin := 1 ≤ s.dev.therm.shlevel ∧ fieldLe p.hdr 6 2 % 2 = 1 ∧ tw ≠ 0xFFFF ∧ fieldLe (strmEntry p a) 12 1 = 0; (let of := fun (g : Option Nat) (e : Nat) (w : Bool) => strmOf p e (.hbm (p.wgtAt + fieldLe (strmEntry p e) 0 8)) g w; (let x := basin c s.dev; grp = true ∧ x.groupEn = true ∧ x.gid < 8 ∧ ¬ twin ∧ (let st := of (some x.gid) a false; (∃ gs ∈ gstrGet x.gid s.dev, sameStream gs.st st = false ∧ groupNeeds c gs.st s.dev = true))))))))) ∧
    (∃ s : State, ∃ c : Nat, ∃ h : Nat, ∃ src : Nat, ∃ a : Nat, ∃ b : Nat, ∃ lay : Nat, ∃ ncol : Nat, ∃ t : Nat, ∃ grp : Bool, Runs s ∧
     coreServes c s.dev = true ∧ (lcore c s.dev).wait = .open' h src grp a b lay ncol t ∧ ((lcore c s.dev).tileWait = true → (basin c s.dev).queue ≠ []) ∧
     (let k := lcore c s.dev; handlesOpen k < 2 ∧ src = 0 ∧ (let p := runSlot k; (let tw := fieldLe (strmEntry p a) 18 2; (let twin := 1 ≤ s.dev.therm.shlevel ∧ fieldLe p.hdr 6 2 % 2 = 1 ∧ tw ≠ 0xFFFF ∧ fieldLe (strmEntry p a) 12 1 = 0; (let of := fun (g : Option Nat) (e : Nat) (w : Bool) => strmOf p e (.hbm (p.wgtAt + fieldLe (strmEntry p e) 0 8)) g w; (let x := basin c s.dev; grp = true ∧ x.groupEn = true ∧ x.gid < 8 ∧ ¬ twin ∧ (let st := of (some x.gid) a false; (∃ gs ∈ gstrGet x.gid s.dev, (let fresh := gs.next = 0 ∨ ∃ q ∈ gs.held, q.idx = 0 ∧ bitOf q.took c = false; sameStream gs.st st = true ∧ bitOf gs.members c = true ∧ fresh ∧ groupJoined c gs.st s.dev = false)))))))))) ∧
    (∃ s : State, ∃ c : Nat, ∃ h : Nat, ∃ src : Nat, ∃ a : Nat, ∃ b : Nat, ∃ lay : Nat, ∃ ncol : Nat, ∃ t : Nat, ∃ grp : Bool, Runs s ∧
     coreServes c s.dev = true ∧ (lcore c s.dev).wait = .open' h src grp a b lay ncol t ∧ ((lcore c s.dev).tileWait = true → (basin c s.dev).queue ≠ []) ∧
     (let k := lcore c s.dev; handlesOpen k < 2 ∧ src = 0 ∧ (let p := runSlot k; (let tw := fieldLe (strmEntry p a) 18 2; (let twin := 1 ≤ s.dev.therm.shlevel ∧ fieldLe p.hdr 6 2 % 2 = 1 ∧ tw ≠ 0xFFFF ∧ fieldLe (strmEntry p a) 12 1 = 0; (let of := fun (g : Option Nat) (e : Nat) (w : Bool) => strmOf p e (.hbm (p.wgtAt + fieldLe (strmEntry p e) 0 8)) g w; (let x := basin c s.dev; grp = true ∧ x.groupEn = true ∧ x.gid < 8 ∧ ¬ twin ∧ (let st := of (some x.gid) a false; (∃ gs ∈ gstrGet x.gid s.dev, (let fresh := gs.next = 0 ∨ ∃ q ∈ gs.held, q.idx = 0 ∧ bitOf q.took c = false; sameStream gs.st st = true ∧ (bitOf gs.members c = false ∨ ¬ fresh ∨ groupJoined c gs.st s.dev = true))))))))))) :=
  ⟨⟨(soStates.getD 4 up), 1, 1, 0, 0, 0, 0, 6, 100, false, by decide +kernel⟩,
   ⟨soSt 2 2 1 false 0 id (sessAway 8), 1, 1, 2, 2, 1, 0, 6, 100, false, by decide +kernel⟩,
   ⟨(soStates.getD 3 up), 1, 1, 2, 2, 1, 0, 6, 100, false, by decide +kernel⟩,
   ⟨(soStates.getD 2 up), 1, 1, 1, 0, 0, 0, 6, 100, false, by decide +kernel⟩,
   ⟨(soStates.getD 1 up), 1, 1, 0, 0, 0, 0, 6, 100, false, by decide +kernel⟩,
   ⟨(soStates.getD 0 up), 1, 1, 0, 0, 0, 0, 6, 100, false, by decide +kernel⟩,
   ⟨(soStates.getD 5 up), 1, 1, 0, 0, 0, 0, 6, 100, true, by decide +kernel⟩,
   ⟨soSt 0 0 0 true 0 id fun d => uentSet 9 { state := .draining } (gOn d), 1, 1, 0, 0, 0, 0, 6, 100, true, by decide +kernel⟩,
   ⟨soSt 0 0 0 true 0 id fun d => gstrPut 3 (some { st := { stm with len := 77, named := false }, members := 2 }) (gOn d), 1, 1, 0, 0, 0, 0, 6, 100, true, by decide +kernel⟩,
   ⟨needSt, 1, 1, 0, 0, 0, 0, 6, 100, true, by decide +kernel⟩,
   ⟨(soStates.getD 11 up), 1, 1, 0, 0, 0, 0, 6, 100, true, by decide +kernel⟩,
   ⟨(soStates.getD 9 up), 1, 1, 0, 0, 0, 0, 6, 100, true, by decide +kernel⟩⟩

theorem wit_MereRefreshAndPatrol :
    (∃ s : State, ∃ b : Nat, Runs s ∧ b < 16 ∧
     (let instant := ∃ t < spanEnd s.dev, now s.dev ≤ t ∧ t % 24000 = 1500 * b; (let done := tabGet (fun _ => 0) s.dev.mere.refAt b = now s.dev + 1; instant ∧ ¬ done))) ∧
    (∃ s : State, ∃ b : Nat, Runs s ∧ b < 16 ∧
     (let instant := ∃ t < spanEnd s.dev, now s.dev ≤ t ∧ t % 24000 = 1500 * b; (let done := tabGet (fun _ => 0) s.dev.mere.refAt b = now s.dev + 1; (¬ instant ∨ done)))) ∧
    (∃ s : State, ∃ b : Nat, ∃ w : Nat, Runs s ∧ b < 16 ∧
     (let read := tabGet (fun _ => 0) s.dev.mere.patAt b = s.dev.tickN / 1024 + 1; (w = tabGet (fun _ => 0) s.dev.mere.patrol b) ∧ ¬ read ∧ s.dev.clk ≠ .ice ∧ userves 24 s.dev = true)) ∧
    (∃ s : State, ∃ b : Nat, ∃ w : Nat, Runs s ∧ b < 16 ∧
     (let read := tabGet (fun _ => 0) s.dev.mere.patAt b = s.dev.tickN / 1024 + 1; (w ≠ tabGet (fun _ => 0) s.dev.mere.patrol b ∨ read ∨ s.dev.clk = .ice ∨ userves 24 s.dev = false))) :=
  ⟨⟨up, 0, by decide +kernel⟩,
   ⟨up, 1, by decide +kernel⟩,
   ⟨up, 2, 0, by decide +kernel⟩,
   ⟨up, 0, 9, by decide +kernel⟩⟩

theorem wit_SiphonTakesJobs :
    (∃ s : State, Runs s ∧ siphonFree s.dev ∧
     (∃ j ∈ s.dev.siph.queue.head?, let js := s.dev.siph.queue.tail; srcTurn s.dev = some 8 ∧ jobRangeOk j.d { s.dev with siph := { s.dev.siph with queue := js } } = false)) ∧
    (∃ s : State, Runs s ∧ siphonFree s.dev ∧
     (∃ j ∈ s.dev.siph.queue.head?, let js := s.dev.siph.queue.tail; srcTurn s.dev = some 8 ∧ jobRangeOk j.d { s.dev with siph := { s.dev.siph with queue := js } } = true ∧ jobAllowed j.sub 0 j.d { s.dev with siph := { s.dev.siph with queue := js } } = false)) ∧
    (∃ s : State, Runs s ∧ siphonFree s.dev ∧
     (∃ j ∈ s.dev.siph.queue.head?, let js := s.dev.siph.queue.tail; srcTurn s.dev = some 8 ∧ (let st := jobCheck j.sub 0 j.d { s.dev with siph := { s.dev.siph with queue := js } }; st ≠ 0))) ∧
    (∃ s : State, Runs s ∧ siphonFree s.dev ∧
     (∃ j ∈ s.dev.siph.queue.head?, let js := s.dev.siph.queue.tail; srcTurn s.dev = some 8 ∧ (let st := jobCheck j.sub 0 j.d { s.dev with siph := { s.dev.siph with queue := js } }; st = 0 ∧ jobStill j.d = true))) ∧
    (∃ s : State, Runs s ∧ siphonFree s.dev ∧
     (∃ j ∈ s.dev.siph.queue.head?, let js := s.dev.siph.queue.tail; srcTurn s.dev = some 8 ∧ (let st := jobCheck j.sub 0 j.d { s.dev with siph := { s.dev.siph with queue := js } }; st = 0 ∧ jobStill j.d = false))) ∧
    (∃ s : State, Runs s ∧ siphonFree s.dev ∧
     (∃ c ∈ srcTurn s.dev, (let turned := fun (c : Nat) => ({ s.dev with siph := { s.dev.siph with turn := (c + 1) % 25 } } : Dev); (∃ q0 ∈ takePkt (srcSluice c) (turned c), let p := q0.1; (∃ ws ∈ frontPkt (slu (srcSluice c) s.dev).words, (∃ w ∈ ws.getLast?, c ≠ 8 ∧ (∃ v ∈ ws.head?, p.aborted = true))))))) ∧
    (∃ s : State, Runs s ∧ siphonFree s.dev ∧
     (∃ c ∈ srcTurn s.dev, (let turned := fun (c : Nat) => ({ s.dev with siph := { s.dev.siph with turn := (c + 1) % 25 } } : Dev); (∃ q0 ∈ takePkt (srcSluice c) (turned c), let p := q0.1; let d := q0.2; (∃ ws ∈ frontPkt (slu (srcSluice c) s.dev).words, (∃ w ∈ ws.getLast?, c ≠ 8 ∧ (∃ v ∈ ws.head?, p.aborted = false ∧ jobRangeOk (sDesc (slice p.body 52 64)) d = false))))))) ∧
    (∃ s : State, Runs s ∧ siphonFree s.dev ∧
     (∃ c ∈ srcTurn s.dev, (let turned := fun (c : Nat) => ({ s.dev with siph := { s.dev.siph with turn := (c + 1) % 25 } } : Dev); (∃ q0 ∈ takePkt (srcSluice c) (turned c), let p := q0.1; let d := q0.2; (∃ ws ∈ frontPkt (slu (srcSluice c) s.dev).words, (∃ w ∈ ws.getLast?, c ≠ 8 ∧ (∃ v ∈ ws.head?, p.aborted = false ∧ jobRangeOk (sDesc (slice p.body 52 64)) d = true ∧ jobAllowed (.core c (w.prog != 0)) w.prog (sDesc (slice p.body 52 64)) d = false))))))) ∧
    (∃ s : State, Runs s ∧ siphonFree s.dev ∧
     (∃ c ∈ srcTurn s.dev, (let turned := fun (c : Nat) => ({ s.dev with siph := { s.dev.siph with turn := (c + 1) % 25 } } : Dev); (∃ q0 ∈ takePkt (srcSluice c) (turned c), let p := q0.1; let d := q0.2; (∃ ws ∈ frontPkt (slu (srcSluice c) s.dev).words, (∃ w ∈ ws.getLast?, c ≠ 8 ∧ (∃ v ∈ ws.head?, p.aborted = false ∧ (let st := jobCheck (.core c (w.prog != 0)) w.prog (sDesc (slice p.body 52 64)) d; st ≠ 0)))))))) ∧
    (∃ s : State, Runs s ∧ siphonFree s.dev ∧
     (∃ c ∈ srcTurn s.dev, (let turned := fun (c : Nat) => ({ s.dev with siph := { s.dev.siph with turn := (c + 1) % 25 } } : Dev); (∃ q0 ∈ takePkt (srcSluice c) (turned c), let p := q0.1; let d := q0.2; (∃ ws ∈ frontPkt (slu (srcSluice c) s.dev).words, (∃ w ∈ ws.getLast?, c ≠ 8 ∧ (∃ v ∈ ws.head?, p.aborted = false ∧ (let st := jobCheck (.core c (w.prog != 0)) w.prog (sDesc (slice p.body 52 64)) d; st = 0 ∧ jobStill (sDesc (slice p.body 52 64)) = true)))))))) ∧
    (∃ s : State, Runs s ∧ siphonFree s.dev ∧
     (∃ c ∈ srcTurn s.dev, (let turned := fun (c : Nat) => ({ s.dev with siph := { s.dev.siph with turn := (c + 1) % 25 } } : Dev); (∃ q0 ∈ takePkt (srcSluice c) (turned c), let p := q0.1; let d := q0.2; (∃ ws ∈ frontPkt (slu (srcSluice c) s.dev).words, (∃ w ∈ ws.getLast?, c ≠ 8 ∧ (∃ v ∈ ws.head?, p.aborted = false ∧ (let st := jobCheck (.core c (w.prog != 0)) w.prog (sDesc (slice p.body 52 64)) d; st = 0 ∧ jobStill (sDesc (slice p.body 52 64)) = false)))))))) ∧
    (∃ s : State, ∃ c, Runs s ∧ siphonFree s.dev ∧ srcTurn s.dev ≠ some c) :=
  ⟨⟨((siphQ ++ siphC).getD 8 up), by decide +kernel⟩,
   ⟨((siphQ ++ siphC).getD 0 up), by decide +kernel⟩,
   ⟨((siphQ ++ siphC).getD 11 up), by decide +kernel⟩,
   ⟨((siphQ ++ siphC).getD 4 up), by decide +kernel⟩,
   ⟨((siphQ ++ siphC).getD 9 up), by decide +kernel⟩,
   ⟨abJob, by decide +kernel⟩,
   ⟨((siphQ ++ siphC).getD 21 up), by decide +kernel⟩,
   ⟨((siphQ ++ siphC).getD 44 up), by decide +kernel⟩,
   ⟨((siphQ ++ siphC).getD 44 up), by decide +kernel⟩,
   ⟨((siphQ ++ siphC).getD 28 up), by decide +kernel⟩,
   ⟨((siphQ ++ siphC).getD 18 up), by decide +kernel⟩,
   ⟨((siphQ ++ siphC).getD 4 up), 1, by decide +kernel⟩⟩

theorem wit_SiphonReports :
    (∃ s : State, ∃ i : Nat, Runs s ∧ userves 25 s.dev = true ∧
     (∃ j ∈ s.dev.siph.active[i]?, (let w := if j.status = 0 ∧ jobStill j.d = false then jobWrite (j.d.rowlen * j.d.nrows) j s.dev else (j, s.dev); (let d0 := { w.2 with siph := { w.2.siph with active := w.2.siph.active.eraseIdx i } }; (reported w.1 d0).isSome = true)))) ∧
    (∃ s : State, ∃ i : Nat, Runs s ∧ userves 25 s.dev = true ∧
     (∃ j ∈ s.dev.siph.active[i]?, (let w := if j.status = 0 ∧ jobStill j.d = false then jobWrite (j.d.rowlen * j.d.nrows) j s.dev else (j, s.dev); (let d0 := { w.2 with siph := { w.2.siph with active := w.2.siph.active.eraseIdx i } }; reported w.1 d0 = none)))) ∧
    (∃ s : State, Runs s ∧ uready 25 s.dev = true ∧
     (∃ j ∈ s.dev.siph.stopped.head?, let js := s.dev.siph.stopped.tail; (reported { j with status := 3 } { s.dev with siph := { s.dev.siph with stopped := js } }).isSome = true)) :=
  ⟨⟨(([actFull] ++ actSts).getD 3 up), 0, by decide +kernel⟩,
   ⟨(([actFull] ++ actSts).getD 0 up), 0, by decide +kernel⟩,
   ⟨stopSts.getD 0 up, by decide +kernel⟩⟩

theorem wit_SuppliesAndRamps :
    (∃ s : State, Runs s ∧ wellHere s.dev = true ∧ (let w := s.dev.well; wSupplyOn 1 w = true)) ∧
    (∃ s : State, Runs s ∧ wellHere s.dev = true ∧ (let w := s.dev.well; wSupplyOn 2 w = true)) ∧
    (∃ s : State, Runs s ∧ wellHere s.dev = true ∧ (let w := s.dev.well; wSupplyOn 1 w = false)) ∧
    (∃ s : State, ∃ n, Runs s ∧ wellHere s.dev = true ∧ (let w := s.dev.well; n < 8 ∧ (wIn n w).ramp ≠ 0 ∧ due (wIn n w).ramp s.dev = true)) ∧
    (∃ s : State, ∃ n, Runs s ∧ wellHere s.dev = true ∧ (let w := s.dev.well; n < 8 ∧ (wIn n w).ramp ≠ 0 ∧ due (wIn n w).ramp s.dev = false)) :=
  ⟨⟨(wAll.getD 9 up), by decide +kernel⟩,
   ⟨(wAll.getD 21 up), by decide +kernel⟩,
   ⟨(wAll.getD 40 up), by decide +kernel⟩,
   ⟨(wAll.getD 39 up), 3, by decide +kernel⟩,
   ⟨(wAll.getD 9 up), 2, by decide +kernel⟩⟩

theorem wit_HopsAreJudged :
    (∃ v : Int, 65536 * 32767 ≤ v) ∧
    (∃ v : Int, v ≤ 65536 * -32768) ∧
    (∃ v : Int, (let y := pcmRound v; 65536 * -32768 ≤ v ∧ v ≤ 65536 * 32767 ∧ (v = 65536 * y - 32768 ∨ v = 65536 * y + 32768))) ∧
    (∃ s : State, ∃ raw : List Int, Listening s ∧ due (s.dev.well.hopAt + 92160000) s.dev = true ∧ raw.length = 160 ∧
     (let x := raw.map pcmRound; (let w := s.dev.well; (let energy := (x.map fun v => (v * v).toNat).sum; (let act := w.ethr ≤ energy / 256 ∧ w.zmin ≤ seepZc x ∧ seepZc x ≤ w.zmax; w.lstate = .seep ∧ act))))) ∧
    (∃ s : State, ∃ raw : List Int, Listening s ∧ due (s.dev.well.hopAt + 92160000) s.dev = true ∧ raw.length = 160 ∧
     (let x := raw.map pcmRound; (let w := s.dev.well; (let energy := (x.map fun v => (v * v).toNat).sum; (let act := w.ethr ≤ energy / 256 ∧ w.zmin ≤ seepZc x ∧ seepZc x ≤ w.zmax; w.lstate = .seep ∧ ¬ act))))) ∧
    (∃ s : State, ∃ raw : List Int, Listening s ∧ due (s.dev.well.hopAt + 92160000) s.dev = true ∧ raw.length = 160 ∧
     (let x := raw.map pcmRound; (let w := s.dev.well; (let energy := (x.map fun v => (v * v).toNat).sum; (let act := w.ethr ≤ energy / 256 ∧ w.zmin ≤ seepZc x ∧ seepZc x ≤ w.zmax; w.lstate = .ripple ∧ act))))) ∧
    (∃ s : State, ∃ raw : List Int, Listening s ∧ due (s.dev.well.hopAt + 92160000) s.dev = true ∧ raw.length = 160 ∧
     (let x := raw.map pcmRound; (let w := s.dev.well; (let energy := (x.map fun v => (v * v).toNat).sum; (let act := w.ethr ≤ energy / 256 ∧ w.zmin ≤ seepZc x ∧ seepZc x ≤ w.zmax; w.lstate = .ripple ∧ ¬ act))))) ∧
    (∃ s : State, ∃ raw : List Int, Listening s ∧ due (s.dev.well.hopAt + 92160000) s.dev = true ∧ raw.length = 160 ∧
     (let x := raw.map pcmRound; (let w := s.dev.well; (let energy := (x.map fun v => (v * v).toNat).sum; (let act := w.ethr ≤ energy / 256 ∧ w.zmin ≤ seepZc x ∧ seepZc x ≤ w.zmax; w.lstate = .awake ∧ act))))) ∧
    (∃ s : State, ∃ raw : List Int, Listening s ∧ due (s.dev.well.hopAt + 92160000) s.dev = true ∧ raw.length = 160 ∧
     (let x := raw.map pcmRound; (let w := s.dev.well; (let energy := (x.map fun v => (v * v).toNat).sum; (let act := w.ethr ≤ energy / 256 ∧ w.zmin ≤ seepZc x ∧ seepZc x ≤ w.zmax; w.lstate = .awake ∧ ¬ act))))) ∧
    (∃ s : State, ∃ raw : List Int, Listening s ∧ due (s.dev.well.hopAt + 92160000) s.dev = true ∧ raw.length = 160 ∧
     (let w := s.dev.well; w.lstate = .opened ∧ w.drained = false)) ∧
    (∃ s : State, ∃ raw : List Int, Listening s ∧ due (s.dev.well.hopAt + 92160000) s.dev = true ∧ raw.length = 160 ∧
     (let w := s.dev.well; w.lstate = .opened ∧ w.drained = true)) ∧
    (∃ s : State, ∃ raw : List Int, Listening s ∧ due (s.dev.well.hopAt + 92160000) s.dev = true ∧ raw.length = 160 ∧
     (let w := s.dev.well; (w.lstate = .off ∨ w.lstate = .capture))) ∧
    (∃ s : State, Listening s ∧ (let w := s.dev.well; w.lstate = .seep ∧ w.ntrig ≤ w.active)) ∧
    (∃ s : State, Listening s ∧ (let w := s.dev.well; (w.lstate ≠ .seep ∨ w.active < w.ntrig))) ∧
    (∃ s : State, Listening s ∧ (let w := s.dev.well; w.lstate = .seep ∧ w.hang ≤ w.inactive)) ∧
    (∃ s : State, Listening s ∧ (let w := s.dev.well; (w.lstate ≠ .seep ∨ w.inactive < w.hang))) ∧
    (∃ s : State, Listening s ∧ (let w := s.dev.well; w.lstate = .ripple ∧ w.fresh = false ∧ w.rtime ≤ w.hops)) ∧
    (∃ s : State, Listening s ∧ (let w := s.dev.well; w.lstate = .ripple ∧ w.hops < w.rtime)) ∧
    (∃ s : State, Listening s ∧ (let w := s.dev.well; w.lstate = .awake ∧ w.whang ≠ 0 ∧ w.whang ≤ w.inactive)) ∧
    (∃ s : State, Listening s ∧ (let w := s.dev.well; w.lstate = .awake ∧ (w.whang = 0 ∨ w.inactive < w.whang))) :=
  ⟨⟨65536 * 40000, by decide +kernel⟩,
   ⟨-65536 * 40000, by decide +kernel⟩,
   ⟨32768, by decide +kernel⟩,
   ⟨((wAll ++ wLoud).getD 42 up), (hops2)[1]'(by decide +kernel), by decide +kernel⟩,
   ⟨(wAll.getD 12 up), (hops2)[0]'(by decide +kernel), by decide +kernel⟩,
   ⟨((wAll ++ wLoud).getD 19 up), (hops2)[1]'(by decide +kernel), by decide +kernel⟩,
   ⟨(wAll.getD 16 up), (hops2)[0]'(by decide +kernel), by decide +kernel⟩,
   ⟨((wAll ++ wLoud).getD 31 up), (hops2)[1]'(by decide +kernel), by decide +kernel⟩,
   ⟨(wAll.getD 33 up), (hops2)[0]'(by decide +kernel), by decide +kernel⟩,
   ⟨(wAll.getD 26 up), (hops2)[0]'(by decide +kernel), by decide +kernel⟩,
   ⟨(wAll.getD 23 up), (hops2)[0]'(by decide +kernel), by decide +kernel⟩,
   ⟨(wAll.getD 4 up), (hops2)[0]'(by decide +kernel), by decide +kernel⟩,
   ⟨(wAll.getD 8 up), by decide +kernel⟩,
   ⟨(wAll.getD 9 up), by decide +kernel⟩,
   ⟨(wAll.getD 11 up), by decide +kernel⟩,
   ⟨(wAll.getD 28 up), by decide +kernel⟩,
   ⟨(wAll.getD 18 up), by decide +kernel⟩,
   ⟨(wAll.getD 14 up), by decide +kernel⟩,
   ⟨(wAll.getD 32 up), by decide +kernel⟩,
   ⟨(wAll.getD 31 up), by decide +kernel⟩⟩

theorem wit_RippleWakes :
    (∃ s : State, Listening s ∧ s.dev.well.lstate = .ripple ∧ s.dev.well.fresh = true ∧
     (let w := { s.dev.well with fresh := false }; (let score := rippleScore w.pack w.hist; score < w.rthr.toInt))) ∧
    (∃ s : State, Listening s ∧ s.dev.well.lstate = .ripple ∧ s.dev.well.fresh = true ∧
     (let w := { s.dev.well with fresh := false }; (let score := rippleScore w.pack w.hist; w.rthr.toInt ≤ score ∧ s.dev.therm.istate ≠ 1 ∧ s.dev.therm.istate ≠ 2))) ∧
    (∃ s : State, Listening s ∧ s.dev.well.lstate = .ripple ∧ s.dev.well.fresh = true ∧
     (let w := { s.dev.well with fresh := false }; (let score := rippleScore w.pack w.hist; w.rthr.toInt ≤ score ∧ (s.dev.therm.istate = 1 ∨ s.dev.therm.istate = 2)))) :=
  ⟨⟨(wAll.getD 15 up), by decide +kernel⟩,
   ⟨(wAll.getD 19 up), by decide +kernel⟩,
   ⟨(wAll.getD 20 up), by decide +kernel⟩⟩

theorem wit_WakesDrain :
    (∃ s : State, Runs s ∧ uready 30 s.dev = true ∧ s.dev.well.lstate = .opened ∧ (let w := s.dev.well; w.gate = true ∧ w.drained = false ∧ w.cur = none)) ∧
    (∃ s : State, Runs s ∧ uready 30 s.dev = true ∧ s.dev.well.lstate = .opened ∧ (let w := s.dev.well; (w.gate = false ∨ w.drained = true ∨ w.cur ≠ none))) ∧
    (∃ s : State, Runs s ∧ uready 30 s.dev = true ∧ s.dev.well.lstate = .opened ∧
     (let w := s.dev.well; w.draining = true ∧ w.emitAt ≤ s.dev.tickN ∧ portFree 165 s.dev = true ∧ (∃ x ∈ w.drain.head?, let xs := w.drain.tail; xs ≠ []))) ∧
    (∃ s : State, Runs s ∧ uready 30 s.dev = true ∧ s.dev.well.lstate = .opened ∧
     (let w := s.dev.well; w.draining = true ∧ w.emitAt ≤ s.dev.tickN ∧ portFree 165 s.dev = true ∧ (∃ x ∈ w.drain.head?, let xs := w.drain.tail; (let bytes := wellFrameBytes 0 w.flen true xs.isEmpty false [w.lmic] (w.drainAt - 92160000 * (w.flen + 1) * (xs.length + 1)) [x]; (let v := { w with drain := xs, emitAt := s.dev.tickN + 8 }; (let bad := ctrVal 65535 (kSlu 165 0) s.dev; xs = [] ∧ w.late = [] ∧ (let e := putMarker 165 (framePkt bytes s.dev) (withWell { v with draining := false, lastOut := some bad } s.dev); portFree 165 e = true ∧ ctrVal 65535 (kSlu 165 0) e = bad))))))) ∧
    (∃ s : State, Runs s ∧ uready 30 s.dev = true ∧ s.dev.well.lstate = .opened ∧
     (let w := s.dev.well; w.draining = true ∧ w.emitAt ≤ s.dev.tickN ∧ portFree 165 s.dev = true ∧ (∃ x ∈ w.drain.head?, let xs := w.drain.tail; (let bytes := wellFrameBytes 0 w.flen true xs.isEmpty false [w.lmic] (w.drainAt - 92160000 * (w.flen + 1) * (xs.length + 1)) [x]; (let v := { w with drain := xs, emitAt := s.dev.tickN + 8 }; (let bad := ctrVal 65535 (kSlu 165 0) s.dev; xs = [] ∧ w.late = [] ∧ (let e := putMarker 165 (framePkt bytes s.dev) (withWell { v with draining := false, lastOut := some bad } s.dev); portFree 165 e = false))))))) ∧
    (∃ s : State, Runs s ∧ uready 30 s.dev = true ∧ s.dev.well.lstate = .opened ∧
     (let w := s.dev.well; (w.draining = false ∨ s.dev.tickN < w.emitAt ∨ portFree 165 s.dev = false))) ∧
    (∃ s : State, Runs s ∧ uready 30 s.dev = true ∧ s.dev.well.lstate = .opened ∧ (let w := s.dev.well; w.flen = 0)) ∧
    (∃ s : State, Runs s ∧ uready 30 s.dev = true ∧ s.dev.well.lstate = .opened ∧ (let w := s.dev.well; w.flen = 1)) :=
  ⟨⟨((wAll ++ [wFull]).getD 27 up), by decide +kernel⟩,
   ⟨((wAll ++ [wFull]).getD 22 up), by decide +kernel⟩,
   ⟨((wAll ++ [wFull]).getD 23 up), by decide +kernel⟩,
   ⟨((wAll ++ [wFull]).getD 24 up), by decide +kernel⟩,
   ⟨((wAll ++ [wFull]).getD 42 up), by decide +kernel⟩,
   ⟨((wAll ++ [wFull]).getD 22 up), by decide +kernel⟩,
   ⟨((wAll ++ [wFull]).getD 25 up), by decide +kernel⟩,
   ⟨((wAll ++ [wFull]).getD 27 up), by decide +kernel⟩⟩

theorem wit_WakesAreDecided :
    (∃ s : State, Runs s ∧ s.dev.well.lstate = .opened ∧ (let w := s.dev.well; (∃ v ∈ w.lastVerdict, (v = 0 ∨ v = 4)))) ∧
    (∃ s : State, Runs s ∧ s.dev.well.lstate = .opened ∧ (let w := s.dev.well; (∃ v ∈ w.lastVerdict, v ≠ 0 ∧ v ≠ 4))) ∧
    (∃ s : State, Runs s ∧ s.dev.well.lstate = .opened ∧ (let w := s.dev.well; w.lastVerdict = none ∧ due (w.wakeAt + w.openttl * 9216) s.dev = true)) ∧
    (∃ s : State, Runs s ∧ s.dev.well.lstate = .opened ∧ (let w := s.dev.well; (w.lastVerdict ≠ none ∨ due (w.wakeAt + w.openttl * 9216) s.dev = false))) :=
  ⟨⟨(wAll.getD 24 up), by decide +kernel⟩,
   ⟨(wAll.getD 25 up), by decide +kernel⟩,
   ⟨(wAll.getD 26 up), by decide +kernel⟩,
   ⟨(wAll.getD 24 up), by decide +kernel⟩⟩

theorem wit_FramesAreAdmitted :
    (∃ s : State, Runs s ∧ frameFront s.dev = none) ∧
    (∃ s : State, Runs s ∧
     (∃ q0 ∈ frameFront s.dev, let p := q0.1; let d := q0.2; uready 3 d = true ∧ (let w := d.well; (let f := p.body.drop 52; (let last := bitOf (fieldLe f 2 1) 2; boundRoute p.stream 0 d = none ∧ (last = false ∨ w.lstate ≠ .opened)))))) ∧
    (∃ s : State, Runs s ∧
     (∃ q0 ∈ frameFront s.dev, let p := q0.1; let d := q0.2; uready 3 d = true ∧ (let w := d.well; (let f := p.body.drop 52; (let last := bitOf (fieldLe f 2 1) 2; boundRoute p.stream 0 d = none ∧ last = true ∧ w.lstate = .opened))))) ∧
    (∃ s : State, Runs s ∧
     (∃ q1 ∈ frameFront s.dev, let p := q1.1; let d := q1.2; uready 3 d = true ∧ (∃ q0 ∈ boundRoute p.stream 0 d, (ledgOpen d = false ∨ ledgPick d = none ∨ holdOpen d = false)))) ∧
    (∃ s : State, Runs s ∧
     (∃ q1 ∈ frameFront s.dev, let p := q1.1; let d := q1.2; uready 3 d = true ∧ (∃ q0 ∈ boundRoute p.stream 0 d, ledgOpen d = true ∧ holdOpen d = true ∧ (ledgPick d).isSome = true))) :=
  ⟨⟨up, by decide +kernel⟩,
   ⟨(wfs.getD 1 up), by decide +kernel⟩,
   ⟨(wfs.getD 0 up), by decide +kernel⟩,
   ⟨((wfs ++ wfs2).getD 6 up), by decide +kernel⟩,
   ⟨(wfs.getD 2 up), by decide +kernel⟩⟩

theorem wit_FrameBoundaries :
    (∃ s : State, Runs s ∧ wellHere s.dev = true ∧ userves 30 s.dev = true ∧
     (let w := s.dev.well; (let gu := 92160000 * (w.nowFlen + 1); due (w.frameAt + gu) s.dev = false))) ∧
    (∃ s : State, Runs s ∧ wellHere s.dev = true ∧ userves 30 s.dev = true ∧
     (let w := s.dev.well; (let gu := 92160000 * (w.nowFlen + 1); due (w.frameAt + gu) s.dev = true))) :=
  ⟨⟨((wAll.map fun s => { s with dev := { s.dev with gauge := 500 } }).getD 9 up), by decide +kernel⟩,
   ⟨((wAll ++ [wCut, wCutD]).getD 21 up), by decide +kernel⟩⟩

theorem wit_FrameStagesReply :
    (∃ s : State, ∃ l : Nat, ∃ i : Nat, Runs s ∧ wellHere s.dev = true ∧ userves 30 s.dev = true ∧
     (∃ it ∈ item? l s.dev, (let st := rStage (routeAt it.route it.epoch s.dev) i; (let t := stTable st; (let p := s.dev.well.pack; (let bad := 4 ≤ t ∨ p = [] ∨ wpNfset p ≤ t ∨ wellBadFrame it.host it.payload = true; (let q : Req := { lidx := l, stream := it.stream, kind := it.kind, stage := i, flush := false, prod := false, host := it.host, table := t, epoch := it.epoch, seq := it.seq, input := [], plen := it.payload.length }; stKind st = 5 ∧ it.stages.getD i .idle = .sent 0 0 ∧ (∀ w ∈ (slu 165 s.dev).words, ¬ (w.first = true ∧ fieldLe w.data 8 4 = l)) ∧ ¬ bad ∧ (let body := replyBody i 15 false false noScores 0 it.epoch it.seq [] (wellProduct p t it.payload); (replyPut 165 30 q body s.dev).isSome = true)))))))) ∧
    (∃ s : State, ∃ l : Nat, ∃ i : Nat, Runs s ∧ wellHere s.dev = true ∧ userves 30 s.dev = true ∧
     (∃ it ∈ item? l s.dev, (let st := rStage (routeAt it.route it.epoch s.dev) i; (let t := stTable st; (let p := s.dev.well.pack; (let bad := 4 ≤ t ∨ p = [] ∨ wpNfset p ≤ t ∨ wellBadFrame it.host it.payload = true; (let q : Req := { lidx := l, stream := it.stream, kind := it.kind, stage := i, flush := false, prod := false, host := it.host, table := t, epoch := it.epoch, seq := it.seq, input := [], plen := it.payload.length }; stKind st = 5 ∧ it.stages.getD i .idle = .sent 0 0 ∧ (∀ w ∈ (slu 165 s.dev).words, ¬ (w.first = true ∧ fieldLe w.data 8 4 = l)) ∧ ¬ bad ∧ (let body := replyBody i 15 false false noScores 0 it.epoch it.seq [] (wellProduct p t it.payload); replyPut 165 30 q body s.dev = none)))))))) ∧
    (∃ s : State, ∃ l : Nat, ∃ i : Nat, Runs s ∧ wellHere s.dev = true ∧ userves 30 s.dev = true ∧
     (∃ it ∈ item? l s.dev, (let st := rStage (routeAt it.route it.epoch s.dev) i; (let t := stTable st; (let p := s.dev.well.pack; (let bad := 4 ≤ t ∨ p = [] ∨ wpNfset p ≤ t ∨ wellBadFrame it.host it.payload = true; (let q : Req := { lidx := l, stream := it.stream, kind := it.kind, stage := i, flush := false, prod := false, host := it.host, table := t, epoch := it.epoch, seq := it.seq, input := [], plen := it.payload.length }; stKind st = 5 ∧ it.stages.getD i .idle = .sent 0 0 ∧ (∀ w ∈ (slu 165 s.dev).words, ¬ (w.first = true ∧ fieldLe w.data 8 4 = l)) ∧ bad ∧ (let put := replyPut 165 30 q (replyBody i 1 false false noScores 0 it.epoch it.seq [] []) (raise 30 3 s.dev); (put).isSome = true)))))))) ∧
    (∃ s : State, ∃ l : Nat, ∃ i : Nat, Runs s ∧ wellHere s.dev = true ∧ userves 30 s.dev = true ∧
     (∃ it ∈ item? l s.dev, (let st := rStage (routeAt it.route it.epoch s.dev) i; (let t := stTable st; (let p := s.dev.well.pack; (let bad := 4 ≤ t ∨ p = [] ∨ wpNfset p ≤ t ∨ wellBadFrame it.host it.payload = true; (let q : Req := { lidx := l, stream := it.stream, kind := it.kind, stage := i, flush := false, prod := false, host := it.host, table := t, epoch := it.epoch, seq := it.seq, input := [], plen := it.payload.length }; stKind st = 5 ∧ it.stages.getD i .idle = .sent 0 0 ∧ (∀ w ∈ (slu 165 s.dev).words, ¬ (w.first = true ∧ fieldLe w.data 8 4 = l)) ∧ bad ∧ (let put := replyPut 165 30 q (replyBody i 1 false false noScores 0 it.epoch it.seq [] []) (raise 30 3 s.dev); put = none)))))))) :=
  ⟨⟨(ffs.getD 0 up), 7, 0, by decide +kernel⟩,
   ⟨((ffs ++ ffs2).getD 6 up), 7, 0, by decide +kernel⟩,
   ⟨(ffs.getD 4 up), 7, 0, by decide +kernel⟩,
   ⟨(ffShut.getD 3 up), 7, 0, by decide +kernel⟩⟩

theorem wit_ListenControls :
    (∃ s : State, Runs s ∧ HostFree s ∧ wellHere s.dev = false) ∧
    (∃ s : State, ∃ v : Nat, Runs s ∧ HostFree s ∧ wellHere s.dev = true ∧ (let w := s.dev.well; (3 ≤ v ∨ (v = 1 ∧ hasRipple w = false)))) ∧
    (∃ s : State, ∃ v : Nat, Runs s ∧ HostFree s ∧ wellHere s.dev = true ∧
     (let w := s.dev.well; v < 3 ∧ (v = 1 → hasRipple w = true) ∧ wellListens s.dev = false ∧ v ≠ w.listen)) ∧
    (∃ s : State, Runs s ∧ HostFree s ∧ wellHere s.dev = true ∧ (let w := s.dev.well; wellListens s.dev = true ∧ w.listen ≠ 0)) ∧
    (∃ s : State, Runs s ∧ HostFree s ∧ wellHere s.dev = true ∧
     (let w := s.dev.well; wellListens s.dev = true ∧ hasRipple w = true ∧ w.listen ≠ 1 ∧ (w.lstate = .off ∨ w.lstate = .awake ∨ w.lstate = .capture))) ∧
    (∃ s : State, Runs s ∧ HostFree s ∧ wellHere s.dev = true ∧ (let w := s.dev.well; wellListens s.dev = true ∧ w.listen ≠ 2 ∧ w.lstate = .off)) ∧
    (∃ s : State, Runs s ∧ HostFree s ∧ wellHere s.dev = true ∧ (let w := s.dev.well; w.gate = false)) ∧
    (∃ s : State, Runs s ∧ HostFree s ∧ wellHere s.dev = true ∧ (let w := s.dev.well; w.gate = true)) :=
  ⟨⟨((wAll ++ [up4, up, wSt (fun w => { w with lstate := .awake, listen := 1, cur := some (0, 0, [1]), live := [(0, { en := true, inp := 1 })] }), wSt (fun w => { w with lstate := .seep, listen := 1, ring := ringN 4, active := 2 }), wSt (fun w => { w with lstate := .capture, listen := 2, ring := ringN 4, active := 2 }), wSt id (uentSet 30 { state := .off })]).getD 42 up), by decide +kernel⟩,
   ⟨((wAll ++ [up4, up, wSt (fun w => { w with lstate := .awake, listen := 1, cur := some (0, 0, [1]), live := [(0, { en := true, inp := 1 })] }), wSt (fun w => { w with lstate := .seep, listen := 1, ring := ringN 4, active := 2 }), wSt (fun w => { w with lstate := .capture, listen := 2, ring := ringN 4, active := 2 }), wSt id (uentSet 30 { state := .off })]).getD 3 up), 3, by decide +kernel⟩,
   ⟨((wAll ++ [up4, up, wSt (fun w => { w with lstate := .awake, listen := 1, cur := some (0, 0, [1]), live := [(0, { en := true, inp := 1 })] }), wSt (fun w => { w with lstate := .seep, listen := 1, ring := ringN 4, active := 2 }), wSt (fun w => { w with lstate := .capture, listen := 2, ring := ringN 4, active := 2 }), wSt id (uentSet 30 { state := .off })]).getD 47 up), 2, by decide +kernel⟩,
   ⟨((wAll ++ [up4, up, wSt (fun w => { w with lstate := .awake, listen := 1, cur := some (0, 0, [1]), live := [(0, { en := true, inp := 1 })] }), wSt (fun w => { w with lstate := .seep, listen := 1, ring := ringN 4, active := 2 }), wSt (fun w => { w with lstate := .capture, listen := 2, ring := ringN 4, active := 2 }), wSt id (uentSet 30 { state := .off })]).getD 46 up), by decide +kernel⟩,
   ⟨((wAll ++ [up4, up, wSt (fun w => { w with lstate := .awake, listen := 1, cur := some (0, 0, [1]), live := [(0, { en := true, inp := 1 })] }), wSt (fun w => { w with lstate := .seep, listen := 1, ring := ringN 4, active := 2 }), wSt (fun w => { w with lstate := .capture, listen := 2, ring := ringN 4, active := 2 }), wSt id (uentSet 30 { state := .off })]).getD 41 up), by decide +kernel⟩,
   ⟨((wAll ++ [up4, up, wSt (fun w => { w with lstate := .awake, listen := 1, cur := some (0, 0, [1]), live := [(0, { en := true, inp := 1 })] }), wSt (fun w => { w with lstate := .seep, listen := 1, ring := ringN 4, active := 2 }), wSt (fun w => { w with lstate := .capture, listen := 2, ring := ringN 4, active := 2 }), wSt id (uentSet 30 { state := .off })]).getD 1 up), by decide +kernel⟩,
   ⟨((wAll ++ [up4, up, wSt (fun w => { w with lstate := .awake, listen := 1, cur := some (0, 0, [1]), live := [(0, { en := true, inp := 1 })] }), wSt (fun w => { w with lstate := .seep, listen := 1, ring := ringN 4, active := 2 }), wSt (fun w => { w with lstate := .capture, listen := 2, ring := ringN 4, active := 2 }), wSt id (uentSet 30 { state := .off })]).getD 22 up), by decide +kernel⟩,
   ⟨((wAll ++ [up4, up, wSt (fun w => { w with lstate := .awake, listen := 1, cur := some (0, 0, [1]), live := [(0, { en := true, inp := 1 })] }), wSt (fun w => { w with lstate := .seep, listen := 1, ring := ringN 4, active := 2 }), wSt (fun w => { w with lstate := .capture, listen := 2, ring := ringN 4, active := 2 }), wSt id (uentSet 30 { state := .off })]).getD 3 up), by decide +kernel⟩⟩

theorem wit_WakeCommandsComplete :
    (∃ s : State, Runs s ∧ wellHere s.dev = true ∧ uready 30 s.dev = true ∧
     (let w := s.dev.well; w.lstate = .opened ∧ w.gate = true ∧ w.drained = false ∧ w.cur = none)) ∧
    (∃ s : State, ∃ x, ∃ y, ∃ xs, Runs s ∧ wellHere s.dev = true ∧ uready 30 s.dev = true ∧
     (let w := s.dev.well; w.lstate = .opened ∧ w.draining = true ∧ w.emitAt ≤ s.dev.tickN ∧ portFree 165 s.dev = true ∧ w.drain = x :: y :: xs)) ∧
    (∃ s : State, Runs s ∧ wellHere s.dev = true ∧ uready 30 s.dev = true ∧ (let w := s.dev.well; w.lstate = .opened ∧ w.lastVerdict = some 0)) ∧
    (∃ s : State, Runs s ∧ wellHere s.dev = true ∧ uready 30 s.dev = true ∧
     (let w := s.dev.well; w.lstate = .opened ∧ w.lastVerdict = none ∧ due (w.wakeAt + w.openttl * 9216) s.dev = true)) ∧
    (∃ s : State, Runs s ∧ wellHere s.dev = true ∧ uready 30 s.dev = true ∧
     (let w := s.dev.well; w.lstate = .off ∧ due (w.frameAt + 92160000 * (w.nowFlen + 1)) s.dev = true ∧ w.cur = none)) ∧
    (∃ s : State, ∃ r, ∃ f, ∃ srcs, Runs s ∧ wellHere s.dev = true ∧ uready 30 s.dev = true ∧
     (let w := s.dev.well; w.lstate = .off ∧ due (w.frameAt + 92160000 * (w.nowFlen + 1)) s.dev = true ∧ w.cur = some (r, f, srcs) ∧ w.draining = false)) ∧
    (∃ s : State, Runs s ∧ wellHere s.dev = true ∧ uready 30 s.dev = true ∧
     (∃ q0 ∈ frameFront s.dev, let p := q0.1; let d := q0.2; uready 3 d = true ∧ bitOf (fieldLe (p.body.drop 52) 2 1) 2 = false ∧ boundRoute p.stream 0 d = none)) ∧
    (∃ s : State, ∃ l, ∃ i, ∃ a, ∃ b, Runs s ∧ wellHere s.dev = true ∧ uready 30 s.dev = true ∧
     (∃ it ∈ item? l s.dev, stKind (rStage (routeAt it.route it.epoch s.dev) i) = 5 ∧ it.stages.getD i .idle = .sent a b ∧ (∀ x ∈ (slu 165 s.dev).words, ¬ (x.first = true ∧ fieldLe x.data 8 4 = l)) ∧ portFree 165 s.dev = true)) :=
  ⟨⟨((wAll ++ wMore).getD 42 up), by decide +kernel⟩,
   ⟨((wAll ++ wMore).getD 23 up), List.replicate 160 0, List.replicate 160 1, [], by decide +kernel⟩,
   ⟨((wAll ++ wMore).getD 43 up), by decide +kernel⟩,
   ⟨((wAll ++ wMore).getD 21 up), by decide +kernel⟩,
   ⟨((wAll ++ wMore).getD 2 up), by decide +kernel⟩,
   ⟨((wAll ++ wMore).getD 44 up), 0, 1, [1], by decide +kernel⟩,
   ⟨((wAll ++ wMore).getD 45 up), by decide +kernel⟩,
   ⟨(ffs.getD 2 up), 7, 0, 0, 0, by decide +kernel⟩⟩

theorem wit_LinksComeUp :
    (∃ s : State, ∃ j : Nat, Runs s ∧ (let l := jlink j s.dev; l.st = .train)) ∧
    (∃ s : State, ∃ j : Nat, Runs s ∧ (let l := jlink j s.dev; l.st = .align)) ∧
    (∃ s : State, ∃ j : Nat, Runs s ∧ (let l := jlink j s.dev; l.st ≠ .train)) ∧
    (∃ s : State, ∃ j : Nat, Runs s ∧ (let l := jlink j s.dev; l.st ≠ .align)) ∧
    (∃ s : State, ∃ j : Nat, Runs s ∧ (let l := jlink j s.dev; l.st = .hello ∧ l.helloRx = false ∧ due l.helloAt s.dev = true)) ∧
    (∃ s : State, ∃ j : Nat, Runs s ∧ (let l := jlink j s.dev; (l.st ≠ .hello ∨ l.helloRx = true ∨ due l.helloAt s.dev = false))) ∧
    (∃ s : State, ∃ j : Nat, ∃ b : List Byte, Runs s ∧
     (∃ f ∈ plainFrame b, f.type = 4 ∧ f.nw = 1 ∧ (jlink j s.dev).st = .hello ∧ (let l := jlink j s.dev; (let fits := fieldLe f.data 4 1 = 1 ∧ fieldLe f.data 0 2 ≠ s.dev.jetty.node ∧ fieldLe f.data 5 1 = b2n l.encNow; ¬ fits)))) ∧
    (∃ s : State, ∃ j : Nat, ∃ b : List Byte, Runs s ∧
     (∃ f ∈ plainFrame b, f.type = 4 ∧ f.nw = 1 ∧ (jlink j s.dev).st = .hello ∧ (let l := jlink j s.dev; (let fits := fieldLe f.data 4 1 = 1 ∧ fieldLe f.data 0 2 ≠ s.dev.jetty.node ∧ fieldLe f.data 5 1 = b2n l.encNow; fits)))) ∧
    (∃ j : Nat, ∃ d : Dev, (let l := jlink j d; l.encNow = false)) ∧
    (∃ j : Nat, ∃ d : Dev, (let l := jlink j d; l.encNow = true)) :=
  ⟨⟨(lkStates.getD 10 up), 1, by decide +kernel⟩,
   ⟨(lkStates.getD 16 up), 1, by decide +kernel⟩,
   ⟨(lkStates.getD 22 up), 2, by decide +kernel⟩,
   ⟨(lkStates.getD 3 up), 2, by decide +kernel⟩,
   ⟨(lkStates.getD 26 up), 1, by decide +kernel⟩,
   ⟨(lkStates.getD 46 up), 1, by decide +kernel⟩,
   ⟨(lkStates.getD 27 up), 1, fb (hello 9 0), by decide +kernel⟩,
   ⟨(lkStates.getD 27 up), 1, fb (hello 9 1), by decide +kernel⟩,
   ⟨1, (lkStates.getD 36 up).dev, by decide +kernel⟩,
   ⟨1, (lkStates.getD 26 up).dev, by decide +kernel⟩⟩

theorem wit_KeysAreExchanged :
    (∃ s : State, ∃ j : Nat, ∃ b : List Byte, Runs s ∧ ((jlink j s.dev).st = .key ∨ (jlink j s.dev).st = .up) ∧ b.length = 96 ∧ (frameOf b 64).type = 5 ∧
     (frameOf b 64).nw = 1 ∧ headOk (frameOf b 64) false = true ∧
     (let l := jlink j s.dev; (let w := (frameOf b 64).data; (let k := fieldLe w 0 1; (let salt := fieldLe w 1 4; (let good := k < 2 ∧ keyValid k l = true ∧ (gcmOpen (keyBytes k l) (frameIv salt 0) (b.take 80) [] (b.drop 80)).isSome = true; ¬ good)))))) ∧
    (∃ s : State, ∃ j : Nat, ∃ b : List Byte, Runs s ∧ ((jlink j s.dev).st = .key ∨ (jlink j s.dev).st = .up) ∧ b.length = 96 ∧ (frameOf b 64).type = 5 ∧
     (frameOf b 64).nw = 1 ∧ headOk (frameOf b 64) false = true ∧
     (let l := jlink j s.dev; (let w := (frameOf b 64).data; (let k := fieldLe w 0 1; (let salt := fieldLe w 1 4; (let good := k < 2 ∧ keyValid k l = true ∧ (gcmOpen (keyBytes k l) (frameIv salt 0) (b.take 80) [] (b.drop 80)).isSome = true; good)))))) ∧
    (∃ j : Nat, ∃ d : Dev, (let l := jlink j d; l.st = .key ∧ l.keyRx = true ∧ 1 ≤ l.ctr ∧ keyValid l.txSlot l = true)) ∧
    (∃ j : Nat, ∃ d : Dev, (let l := jlink j d; (l.st ≠ .key ∨ l.keyRx = false ∨ l.ctr = 0 ∨ keyValid l.txSlot l = false))) ∧
    (∃ j : Nat, ∃ d : Dev, ∃ i, (let l := jlink j d; l.encNow = true ∧ keyValid l.txSlot l = true ∧ i ≠ j)) ∧
    (∃ j : Nat, ∃ d : Dev, (let l := jlink j d; (l.encNow = false ∨ keyValid l.txSlot l = false))) ∧
    (∃ s : State, ∃ j : Nat, ∃ k : Nat, ∃ w : Nat, Runs s ∧ k < 2 ∧ w < 8 ∧
     (let l := jlink j s.dev; (let repeats := l.encNow = true ∧ (l.st = .key ∨ l.st = .up) ∧ l.keyHold = true ∧ l.keyAcked = false ∧ due l.keyAt s.dev = true; repeats))) ∧
    (∃ s : State, ∃ j : Nat, ∃ k : Nat, ∃ w : Nat, Runs s ∧ k < 2 ∧ w < 8 ∧
     (let l := jlink j s.dev; (let repeats := l.encNow = true ∧ (l.st = .key ∨ l.st = .up) ∧ l.keyHold = true ∧ l.keyAcked = false ∧ due l.keyAt s.dev = true; ¬ repeats))) ∧
    (∃ s : State, ∃ j : Nat, ∃ k : Nat, ∃ w : Nat, Runs s ∧ k < 2 ∧ w < 8 ∧ HostFree s ∧ linkHere j s.dev = false) ∧
    (∃ s : State, ∃ j : Nat, ∃ k : Nat, ∃ w : Nat, Runs s ∧ k < 2 ∧ w < 8 ∧ HostFree s ∧ linkHere j s.dev = true ∧ w < 7) ∧
    (∃ s : State, ∃ j : Nat, ∃ k : Nat, ∃ w : Nat, Runs s ∧ k < 2 ∧ w < 8 ∧ HostFree s ∧ linkHere j s.dev = true ∧ w = 7) :=
  ⟨⟨(lkStates.getD 32 up), 1, (kfr 1 5 (jlink 1 (lkStates.getD 32 up).dev)), by decide +kernel⟩,
   ⟨(lkStates.getD 34 up), 1, (kfr 0 5 (jlink 1 (lkStates.getD 34 up).dev)), by decide +kernel⟩,
   ⟨1, (lkStates.getD 35 up).dev, by decide +kernel⟩,
   ⟨1, (lkStates.getD 18 up).dev, by decide +kernel⟩,
   ⟨1, (lkStates.getD 34 up).dev, 23, by decide +kernel⟩,
   ⟨70, (lkStates.getD 32 up).dev, by decide +kernel⟩,
   ⟨(lkStates.getD 34 up), 1, 0, 7, by decide +kernel⟩,
   ⟨(lkStates.getD 3 up), 1, 1, 0, by decide +kernel⟩,
   ⟨(lkStates.getD 16 up), 70, 1, 3, by decide +kernel⟩,
   ⟨(lkStates.getD 27 up), 1, 0, 0, by decide +kernel⟩,
   ⟨(lkStates.getD 40 up), 1, 0, 7, by decide +kernel⟩⟩

theorem wit_FramesAreReceived :
    (∃ s : State, ∃ j : Nat, ∃ b : List Byte, Up j s ∧ fieldLe b 4 1 % 16 = 5) ∧
    (∃ s : State, ∃ j : Nat, ∃ b : List Byte, Up j s ∧ fieldLe b 4 1 % 16 ≠ 5 ∧ frameOpen j b s.dev = none) ∧
    (∃ s : State, ∃ j : Nat, ∃ b : List Byte, Up j s ∧ fieldLe b 4 1 % 16 ≠ 5 ∧ (∃ q0 ∈ frameOpen j b s.dev, let f := q0.1; f.type = 0)) ∧
    (∃ s : State, ∃ j : Nat, ∃ b : List Byte, Up j s ∧ fieldLe b 4 1 % 16 ≠ 5 ∧
     (∃ q0 ∈ frameOpen j b s.dev, let f := q0.1; let d0 := q0.2; (let d := ackTake j f d0; (let l := jlink j d; 1 ≤ f.type ∧ f.type ≤ 3 ∧ f.fseq < 4096 ∧ l.rxLast < 4096 ∧ (let ahead := (f.fseq + 4095 - l.rxLast) % 4096; ahead = 0))))) ∧
    (∃ s : State, ∃ j : Nat, ∃ b : List Byte, Up j s ∧ fieldLe b 4 1 % 16 ≠ 5 ∧
     (∃ q0 ∈ frameOpen j b s.dev, let f := q0.1; let d0 := q0.2; (let d := ackTake j f d0; (let l := jlink j d; 1 ≤ f.type ∧ f.type ≤ 3 ∧ f.fseq < 4096 ∧ l.rxLast < 4096 ∧ (let ahead := (f.fseq + 4095 - l.rxLast) % 4096; 0 < ahead ∧ ahead < 2048 ∧ l.gap = false))))) ∧
    (∃ s : State, ∃ j : Nat, ∃ b : List Byte, Up j s ∧ fieldLe b 4 1 % 16 ≠ 5 ∧
     (∃ q0 ∈ frameOpen j b s.dev, let f := q0.1; let d0 := q0.2; (let d := ackTake j f d0; (let l := jlink j d; 1 ≤ f.type ∧ f.type ≤ 3 ∧ f.fseq < 4096 ∧ l.rxLast < 4096 ∧ (let ahead := (f.fseq + 4095 - l.rxLast) % 4096; 0 < ahead ∧ (2048 ≤ ahead ∨ l.gap = true)))))) ∧
    (∃ s : State, ∃ j : Nat, Runs s ∧ linkHere j s.dev = true ∧ (let st := (jlink j s.dev).st; (st = .hello ∨ st = .key))) ∧
    (∃ s : State, ∃ j : Nat, Runs s ∧ linkHere j s.dev = true ∧ (let st := (jlink j s.dev).st; st = .hello)) ∧
    (∃ s : State, ∃ j : Nat, ∃ b : List Byte, Runs s ∧ linkHere j s.dev = true ∧ (let st := (jlink j s.dev).st; st = .key ∧ fieldLe b 4 1 % 16 = 5)) ∧
    (∃ s : State, ∃ j : Nat, ∃ b : List Byte, Runs s ∧ linkHere j s.dev = true ∧
     (let st := (jlink j s.dev).st; st = .key ∧ fieldLe b 4 1 % 16 ≠ 5 ∧ plainFrame b = none)) ∧
    (∃ s : State, ∃ j : Nat, ∃ b : List Byte, Runs s ∧ linkHere j s.dev = true ∧
     (let st := (jlink j s.dev).st; st = .key ∧ fieldLe b 4 1 % 16 ≠ 5 ∧ plainFrame b ≠ none)) ∧
    (∃ s : State, ∃ j : Nat, Runs s ∧ linkHere j s.dev = true ∧ (let st := (jlink j s.dev).st; (st = .down ∨ st = .train ∨ st = .align))) ∧
    (∃ j : Nat, ∃ d : Dev, (jlink j d).st = .up) ∧
    (∃ j : Nat, ∃ d : Dev, (∃ p ∈ (jlink j d).rx0.head?, p.dest = d.jetty.node ∧ p.type = 1)) ∧
    (∃ j : Nat, ∃ f : JFrame, ∃ d : Dev, (∃ h ∈ (jlink j d).sent.head?, h.frame.fseq < 4096 ∧ f.ackseq < 4096 ∧ f.ackv = true)) :=
  ⟨⟨(lkStates.getD 47 up), 1, (((rxF.map fb) ++ [[1, 2], fb { hello 9 0 with type := 5 }, fb (hello 9 0)]).getD 10 []), by decide +kernel⟩,
   ⟨(lkStates.getD 44 up), 1, (((rxF.map fb) ++ [[1, 2], fb { hello 9 0 with type := 5 }, fb (hello 9 0)]).getD 9 []), by decide +kernel⟩,
   ⟨(lkStates.getD 45 up), 1, (((rxF.map fb) ++ [[1, 2], fb { hello 9 0 with type := 5 }, fb (hello 9 0)]).getD 5 []), by decide +kernel⟩,
   ⟨(lkStates.getD 40 up), 1, (((rxF.map fb) ++ [[1, 2], fb { hello 9 0 with type := 5 }, fb (hello 9 0)]).getD 1 []), by decide +kernel⟩,
   ⟨(lkStates.getD 46 up), 1, (((rxF.map fb) ++ [[1, 2], fb { hello 9 0 with type := 5 }, fb (hello 9 0)]).getD 2 []), by decide +kernel⟩,
   ⟨(lkStates.getD 41 up), 1, (((rxF.map fb) ++ [[1, 2], fb { hello 9 0 with type := 5 }, fb (hello 9 0)]).getD 4 []), by decide +kernel⟩,
   ⟨(lkStates.getD 32 up), 1, by decide +kernel⟩,
   ⟨(lkStates.getD 24 up), 1, by decide +kernel⟩,
   ⟨(lkStates.getD 39 up), 1, (((rxF.map fb) ++ [[1, 2], fb { hello 9 0 with type := 5 }, fb (hello 9 0)]).getD 10 []), by decide +kernel⟩,
   ⟨(lkStates.getD 36 up), 1, (((rxF.map fb) ++ [[1, 2], fb { hello 9 0 with type := 5 }, fb (hello 9 0)]).getD 9 []), by decide +kernel⟩,
   ⟨(lkStates.getD 35 up), 1, (((rxF.map fb) ++ [[1, 2], fb { hello 9 0 with type := 5 }, fb (hello 9 0)]).getD 7 []), by decide +kernel⟩,
   ⟨(lkStates.getD 10 up), 1, by decide +kernel⟩,
   ⟨1, (lkStates.getD 42 up).dev, by decide +kernel⟩,
   ⟨1, (mkSts.getD 4 up).dev, by decide +kernel⟩,
   ⟨1, (rxF)[8]'(by decide +kernel), (lkStates.getD 45 up).dev, by decide +kernel⟩⟩

theorem wit_LinkTimers :
    (∃ s : State, ∃ j : Nat, Up j s ∧ (let l := jlink j s.dev; due (l.ackAt + 9216) s.dev = true)) ∧
    (∃ s : State, ∃ j : Nat, Up j s ∧ (let l := jlink j s.dev; due (l.ackAt + 9216) s.dev = false)) ∧
    (∃ s : State, ∃ j : Nat, Up j s ∧ (let l := jlink j s.dev; due (l.advAt + 18432) s.dev = true ∧ l.sent ≠ [])) ∧
    (∃ s : State, ∃ j : Nat, Up j s ∧ (let l := jlink j s.dev; (due (l.advAt + 18432) s.dev = false ∨ l.sent = []))) ∧
    (∃ s : State, ∃ j : Nat, Up j s ∧ (let l := jlink j s.dev; l.sent ≠ [] ∧ l.encNow = false)) ∧
    (∃ s : State, ∃ j : Nat, ∃ lock, Up j s ∧ (let l := jlink j s.dev; (lock = true ∨ ∃ x ∈ l.sent, 16 ≤ x.replays) ∧ userves (32 + j) s.dev = true)) ∧
    (∃ s : State, ∃ j : Nat, Up j s ∧ (let l := jlink j s.dev; (∀ x ∈ l.sent, x.replays < 16))) ∧
    (∃ s : State, ∃ j : Nat, ∃ u : State, Up j s ∧ Runs u ∧ ((jlink j u.dev).auto = false ∨ (jlink j u.dev).faultAt = none)) ∧
    (∃ s : State, ∃ j : Nat, ∃ u : State, Up j s ∧ Runs u ∧
     (∃ t ∈ (jlink j u.dev).faultAt, (jlink j u.dev).auto = true ∧ ustate (32 + j) u.dev = .faulted ∧ due (t + 92160000) u.dev = true)) :=
  ⟨⟨(lkStates.getD 42 up), 1, by decide +kernel⟩,
   ⟨(lkStates.getD 44 up), 1, by decide +kernel⟩,
   ⟨(lkStates.getD 45 up), 1, by decide +kernel⟩,
   ⟨(lkStates.getD 42 up), 1, by decide +kernel⟩,
   ⟨(lkStates.getD 45 up), 1, by decide +kernel⟩,
   ⟨(lkStates.getD 45 up), 1, false, by decide +kernel⟩,
   ⟨(lkStates.getD 41 up), 1, by decide +kernel⟩,
   ⟨(lkStates.getD 41 up), 1, (lkStates.getD 0 up), by decide +kernel⟩,
   ⟨(lkStates.getD 46 up), 1, (lkStates.getD 46 up), by decide +kernel⟩⟩

theorem wit_TransmittersGrant :
    (∃ s : State, ∃ j : Nat, Runs s ∧ (let d0 := deadHeads (outboxRun s.dev); linkUp j d0 = false)) ∧
    (∃ s : State, ∃ j : Nat, Runs s ∧
     (let d0 := deadHeads (outboxRun s.dev); (let l := jlink j d0; (let cs := slotClasses l.slotNo; linkUp j d0 = true ∧ (∀ c ∈ cs, inputPick c j d0 = none))))) ∧
    (∃ s : State, ∃ j : Nat, ∃ pre, ∃ post, ∃ c, Runs s ∧
     (let d0 := deadHeads (outboxRun s.dev); (let l := jlink j d0; (let cs := slotClasses l.slotNo; linkUp j d0 = true ∧ cs = pre ++ c :: post ∧ (∀ x ∈ pre, inputPick x j d0 = none) ∧ (inputPick c j d0).isSome = true)))) ∧
    (∃ k, k < 16) ∧
    (∃ p : JPkt, ∃ f, f ∈ framesOf p) ∧
    (∃ p : JPkt, ∃ i : Nat, ((framesOf p)[i]?).isSome = true) :=
  ⟨⟨(txSts.getD 1 up), 1, by decide +kernel⟩,
   ⟨(txSts.getD 2 up), 1, by decide +kernel⟩,
   ⟨(txSts.getD 3 up), 1, (slotClasses (jlink 1 (deadHeads (outboxRun (txSts.getD 3 up).dev))).slotNo).takeWhile fun x => decide (inputPick x 1 (deadHeads (outboxRun (txSts.getD 3 up).dev)) = none), (((slotClasses (jlink 1 (deadHeads (outboxRun (txSts.getD 3 up).dev))).slotNo).dropWhile fun x => decide (inputPick x 1 (deadHeads (outboxRun (txSts.getD 3 up).dev)) = none)).drop 1), (((slotClasses (jlink 1 (deadHeads (outboxRun (txSts.getD 3 up).dev))).slotNo).dropWhile fun x => decide (inputPick x 1 (deadHeads (outboxRun (txSts.getD 3 up).dev)) = none)).headD 0), by decide +kernel⟩,
   ⟨15, by decide +kernel⟩,
   ⟨jpkt 9 7 1 2 [1], (framesOf (jpkt 9 7 1 2 [1])).headD (datF 0 true true), by decide +kernel⟩,
   ⟨jpkt 9 7 1 2 (List.replicate 300 5), 0, by decide +kernel⟩⟩

theorem wit_RoutesAndTrunks :
    (∃ s : State, ∃ n : Nat, ∃ v : Nat, Runs s ∧ HostFree s ∧
     (let y := s.dev.jetty; (let d1 := withJetty { y with route := tabSet (fun _ => 0) y.route n (BitVec.ofNat 32 (v % 128)) } s.dev; fencesAfter d1 ≤ 16))) ∧
    (∃ s : State, ∃ n : Nat, ∃ v : Nat, Runs s ∧ HostFree s ∧
     (let y := s.dev.jetty; (let d1 := withJetty { y with route := tabSet (fun _ => 0) y.route n (BitVec.ofNat 32 (v % 128)) } s.dev; 16 < fencesAfter d1))) ∧
    (∃ s : State, ∃ t : Nat, ∃ v : Nat, ∃ hi : Bool, Runs s ∧ HostFree s ∧
     (let y := s.dev.jetty; (let o := tabGet (fun _ => 0) y.trunk t; (let mask := if hi then o % 2 ^ 32 + 2 ^ 32 * (v % 2 ^ 32) else o / 2 ^ 32 * 2 ^ 32 + v % 2 ^ 32; (let d2 := withJetty { y with trunk := tabSet (fun _ => 0) y.trunk t mask } s.dev; fencesAfter d2 ≤ 16))))) ∧
    (∃ s : State, ∃ t : Nat, ∃ v : Nat, ∃ hi : Bool, Runs s ∧ HostFree s ∧
     (let y := s.dev.jetty; (let o := tabGet (fun _ => 0) y.trunk t; (let mask := if hi then o % 2 ^ 32 + 2 ^ 32 * (v % 2 ^ 32) else o / 2 ^ 32 * 2 ^ 32 + v % 2 ^ 32; (let d2 := withJetty { y with trunk := tabSet (fun _ => 0) y.trunk t mask } s.dev; 16 < fencesAfter d2))))) ∧
    (∃ s : State, ∃ d : Dev, Runs s ∧ HostFree s ∧ pathChanges d = []) :=
  ⟨⟨(pthSts.getD 1 up), 20, 0, by decide +kernel⟩,
   ⟨(pthSts.getD 1 up), 12, 0x11, by decide +kernel⟩,
   ⟨(pthSts.getD 0 up), 1, 6, false, by decide +kernel⟩,
   ⟨(pthSts.getD 1 up), 1, 6, false, by decide +kernel⟩,
   ⟨(pthSts.getD 1 up), ((pthSts ++ txSts).getD 5 up).dev, by decide +kernel⟩⟩

theorem wit_FencesEnd :
    (∃ s : State, ∃ j : Nat, ∃ vl : Nat, ∃ p : JPkt, ∃ d1 : Dev, Runs s ∧ vl < 2 ∧ popped j vl p s.dev d1 ∧
     (let here := s.dev.jetty.node; p.type = 2 ∧ p.dest = here ∧ markerHeld (2 * j + vl) p s.dev = true)) ∧
    (∃ s : State, ∃ j : Nat, ∃ vl : Nat, ∃ p : JPkt, ∃ d1 : Dev, Runs s ∧ vl < 2 ∧ popped j vl p s.dev d1 ∧
     (let here := s.dev.jetty.node; (let o := fieldLe p.data 0 2; (let m := fieldLe p.data 4 2; (let bit := 2 ^ (fieldLe p.data 6 1 % 2); p.type = 2 ∧ p.dest = here ∧ markerHeld (2 * j + vl) p s.dev = false ∧ (let seen := match s.dev.jetty.got.find? (fun x => x.1 == o && x.2.1 == m) with | some x => x.2.2 | none => 0; seen ||| bit ≠ 3)))))) ∧
    (∃ s : State, ∃ j : Nat, ∃ vl : Nat, ∃ p : JPkt, ∃ d1 : Dev, Runs s ∧ vl < 2 ∧ popped j vl p s.dev d1 ∧
     (let here := s.dev.jetty.node; (let o := fieldLe p.data 0 2; (let m := fieldLe p.data 4 2; (let bit := 2 ^ (fieldLe p.data 6 1 % 2); p.type = 2 ∧ p.dest = here ∧ markerHeld (2 * j + vl) p s.dev = false ∧ (let seen := match s.dev.jetty.got.find? (fun x => x.1 == o && x.2.1 == m) with | some x => x.2.2 | none => 0; seen ||| bit = 3)))))) ∧
    (∃ s : State, ∃ j : Nat, ∃ vl : Nat, ∃ p : JPkt, ∃ d1 : Dev, Runs s ∧ vl < 2 ∧ popped j vl p s.dev d1 ∧ p.type ≠ 2) ∧
    (∃ s : State, ∃ j : Nat, ∃ vl : Nat, ∃ p : JPkt, ∃ d1 : Dev, Runs s ∧ vl < 2 ∧ popped j vl p s.dev d1 ∧
     (let here := s.dev.jetty.node; (let D := fieldLe p.data 2 2; (let m := fieldLe p.data 4 2; p.type = 3 ∧ p.dest = here ∧ (let d2 := rxDeliver 64 j d1; (d2.jetty.fences.find? (fun f => f.dest == D && f.mark == m)).isSome = true))))) ∧
    (∃ s : State, ∃ j : Nat, ∃ vl : Nat, ∃ p : JPkt, ∃ d1 : Dev, Runs s ∧ vl < 2 ∧ popped j vl p s.dev d1 ∧
     (let here := s.dev.jetty.node; (let D := fieldLe p.data 2 2; (let m := fieldLe p.data 4 2; p.type = 3 ∧ p.dest = here ∧ (let d2 := rxDeliver 64 j d1; (d2.jetty.fences.find? (fun f => f.dest == D && f.mark == m) = none)))))) ∧
    (∃ s : State, ∃ j : Nat, ∃ vl : Nat, ∃ p : JPkt, ∃ d1 : Dev, Runs s ∧ vl < 2 ∧ popped j vl p s.dev d1 ∧
     (let here := s.dev.jetty.node; p.dest ≠ here ∧ (∃ k ∈ linkFor p.dest p.cls s.dev, (∃ q ∈ inputReady (2 * j + vl) k s.dev, p.type = 2)))) ∧
    (∃ s : State, ∃ j : Nat, ∃ vl : Nat, ∃ p : JPkt, ∃ d1 : Dev, Runs s ∧ vl < 2 ∧ popped j vl p s.dev d1 ∧
     (let here := s.dev.jetty.node; p.dest ≠ here ∧ (∃ k ∈ linkFor p.dest p.cls s.dev, (∃ q ∈ inputReady (2 * j + vl) k s.dev, p.type = 3)))) ∧
    (∃ s : State, ∃ j : Nat, ∃ vl : Nat, ∃ p : JPkt, ∃ d1 : Dev, ∃ n, Runs s ∧ vl < 2 ∧ popped j vl p s.dev d1 ∧
     (s.dev.jetty.fences.find? (fun f => f.dest == n && due f.due s.dev)).isSome = true) ∧
    (∃ s : State, ∃ j : Nat, ∃ vl : Nat, ∃ p : JPkt, ∃ d1 : Dev, ∃ n, Runs s ∧ vl < 2 ∧ popped j vl p s.dev d1 ∧
     (∀ f ∈ s.dev.jetty.fences, f.dest = n → due f.due s.dev = false)) :=
  ⟨⟨heldSt, 1, 0, heldP, (popD 1 0 heldSt.dev), by decide +kernel⟩,
   ⟨((mkSts ++ mkSts2).getD 0 up), 1, 0, mp 7 2 9 7 5, (popD 1 0 ((mkSts ++ mkSts2).getD 0 up).dev), by decide +kernel⟩,
   ⟨((mkSts ++ mkSts2).getD 1 up), 1, 0, mp 7 2 9 7 5, (popD 1 0 ((mkSts ++ mkSts2).getD 1 up).dev), by decide +kernel⟩,
   ⟨((mkSts ++ mkSts2).getD 7 up), 1, 0, mp 7 3 9 7 9, (popD 1 0 ((mkSts ++ mkSts2).getD 7 up).dev), by decide +kernel⟩,
   ⟨((mkSts ++ mkSts2).getD 2 up), 1, 0, mp 7 3 9 7 5, (popD 1 0 ((mkSts ++ mkSts2).getD 2 up).dev), by decide +kernel⟩,
   ⟨((mkSts ++ mkSts2).getD 7 up), 1, 0, mp 7 3 9 7 9, (popD 1 0 ((mkSts ++ mkSts2).getD 7 up).dev), by decide +kernel⟩,
   ⟨tr 2, 1, 0, mp 9 2 12 9 5, (popD 1 0 (tr 2).dev), by decide +kernel⟩,
   ⟨tr 3, 1, 0, mp 9 3 12 9 5, (popD 1 0 (tr 3).dev), by decide +kernel⟩,
   ⟨((mkSts ++ mkSts2).getD 2 up), 1, 0, mp 7 3 9 7 5, (popD 1 0 ((mkSts ++ mkSts2).getD 2 up).dev), 7, by decide +kernel⟩,
   ⟨((mkSts ++ mkSts2).getD 5 up), 1, 0, mp 9 2 12 9 5, (popD 1 0 ((mkSts ++ mkSts2).getD 5 up).dev), 7, by decide +kernel⟩⟩

theorem wit_PagesOverJetty :
    (∃ s : State, ∃ lent : Bool, Runs s ∧
     (∃ p ∈ s.dev.jetty.memIn.head?, (let b := jbytes p; (let op := fieldLe b 12 1; (let off := fieldLe b 20 2; (let len := fieldLe b 22 2; (let page := fieldLe b 16 4; (let good := lent = true ∧ s.dev.jetty.lend = true ∧ op ≤ 1 ∧ off % 64 = 0 ∧ 64 ≤ len ∧ len ≤ 4096 ∧ page < sessUnits s.dev; ¬ good)))))))) ∧
    (∃ s : State, ∃ lent : Bool, Runs s ∧
     (∃ p ∈ s.dev.jetty.memIn.head?, (let b := jbytes p; (let op := fieldLe b 12 1; (let off := fieldLe b 20 2; (let len := fieldLe b 22 2; (let page := fieldLe b 16 4; (let good := lent = true ∧ s.dev.jetty.lend = true ∧ op ≤ 1 ∧ off % 64 = 0 ∧ 64 ≤ len ∧ len ≤ 4096 ∧ page < sessUnits s.dev; good ∧ op = 0)))))))) ∧
    (∃ s : State, ∃ lent : Bool, Runs s ∧
     (∃ p ∈ s.dev.jetty.memIn.head?, (let b := jbytes p; (let op := fieldLe b 12 1; (let off := fieldLe b 20 2; (let len := fieldLe b 22 2; (let page := fieldLe b 16 4; (let good := lent = true ∧ s.dev.jetty.lend = true ∧ op ≤ 1 ∧ off % 64 = 0 ∧ 64 ≤ len ∧ len ≤ 4096 ∧ page < sessUnits s.dev; good ∧ op = 1)))))))) ∧
    (∃ s : State, ∃ tag : Nat, Runs s ∧ (∃ q ∈ s.dev.jetty.memreq.find? (fun q => q.tag == tag && due q.due s.dev), q.write = false)) ∧
    (∃ s : State, ∃ tag : Nat, ∃ id, ∃ n, ∃ rows, ∃ first, ∃ last, ∃ took, Runs s ∧
     (∃ q ∈ s.dev.jetty.memreq.find? (fun q => q.tag == tag && due q.due s.dev), q.write = true ∧ (lcore q.basin s.dev).wait = .sent id n rows first last took)) ∧
    (∃ s : State, ∃ tag : Nat, Runs s ∧ (∀ q ∈ s.dev.jetty.memreq, q.tag = tag → due q.due s.dev = false)) :=
  ⟨⟨((pgSts ++ mrqSts).getD 3 up), true, by decide +kernel⟩,
   ⟨((pgSts ++ mrqSts).getD 0 up), true, by decide +kernel⟩,
   ⟨((pgSts ++ mrqSts).getD 1 up), true, by decide +kernel⟩,
   ⟨((pgSts ++ mrqSts).getD 5 up), 4, by decide +kernel⟩,
   ⟨((pgSts ++ mrqSts).getD 6 up), 4, 2, 2, 10, 0, 0, [], by decide +kernel⟩,
   ⟨((pgSts ++ mrqSts).getD 4 up), 4, by decide +kernel⟩⟩

theorem wit_FerryPacketsInOrder :
    (∃ s : State, ∃ b : List Byte, Runs s ∧ uready 96 s.dev = true ∧
     (let p := fpktOf b; (let f := s.dev.ferry; (let e := tabGet (fun _ => 0) f.exp p.src; (∀ x ∈ f.waits, ¬ (x.src = p.src ∧ x.seq = p.seq)) ∧ p.seq < 2 ^ 32 ∧ (let stale := revOlder p.rev f.rev; p.type = 1 ∧ p.seq = e ∧ stale = true))))) ∧
    (∃ s : State, ∃ b : List Byte, Runs s ∧ uready 96 s.dev = true ∧
     (let p := fpktOf b; (let f := s.dev.ferry; (let e := tabGet (fun _ => 0) f.exp p.src; (∀ x ∈ f.waits, ¬ (x.src = p.src ∧ x.seq = p.seq)) ∧ p.seq < 2 ^ 32 ∧ (let stale := revOlder p.rev f.rev; p.type = 1 ∧ p.seq = e ∧ stale = false ∧ f.index ≠ 0))))) ∧
    (∃ s : State, ∃ b : List Byte, Runs s ∧ uready 96 s.dev = true ∧
     (let p := fpktOf b; (let f := s.dev.ferry; (let e := tabGet (fun _ => 0) f.exp p.src; (∀ x ∈ f.waits, ¬ (x.src = p.src ∧ x.seq = p.seq)) ∧ p.seq < 2 ^ 32 ∧ (let stale := revOlder p.rev f.rev; p.type = 1 ∧ p.seq = e ∧ stale = false ∧ f.index = 0))))) ∧
    (∃ s : State, ∃ b : List Byte, Runs s ∧ uready 96 s.dev = true ∧
     (let p := fpktOf b; (let f := s.dev.ferry; (let e := tabGet (fun _ => 0) f.exp p.src; (∀ x ∈ f.waits, ¬ (x.src = p.src ∧ x.seq = p.seq)) ∧ p.seq < 2 ^ 32 ∧ (let stale := revOlder p.rev f.rev; p.type = 0 ∧ p.seq = e ∧ stale = true))))) ∧
    (∃ s : State, ∃ b : List Byte, Runs s ∧ uready 96 s.dev = true ∧
     (let p := fpktOf b; (let f := s.dev.ferry; (let e := tabGet (fun _ => 0) f.exp p.src; (∀ x ∈ f.waits, ¬ (x.src = p.src ∧ x.seq = p.seq)) ∧ p.seq < 2 ^ 32 ∧ (let stale := revOlder p.rev f.rev; p.type = 0 ∧ p.seq = e ∧ stale = false))))) ∧
    (∃ s : State, ∃ b : List Byte, Runs s ∧ uready 96 s.dev = true ∧
     (let p := fpktOf b; (let f := s.dev.ferry; (let e := tabGet (fun _ => 0) f.exp p.src; (∀ x ∈ f.waits, ¬ (x.src = p.src ∧ x.seq = p.seq)) ∧ p.seq < 2 ^ 32 ∧ p.type = 0 ∧ p.seq ≠ e ∧ ferryAhead p s.dev < 2 ^ 31 ∧ (∀ x ∈ f.waits, ¬ (x.src = p.src ∧ x.seq = e)))))) ∧
    (∃ s : State, ∃ b : List Byte, Runs s ∧ uready 96 s.dev = true ∧
     (let p := fpktOf b; (let f := s.dev.ferry; (∀ x ∈ f.waits, ¬ (x.src = p.src ∧ x.seq = p.seq)) ∧ p.seq < 2 ^ 32 ∧ p.type = 0 ∧ 2 ^ 31 ≤ ferryAhead p s.dev))) ∧
    (∃ src : Nat, ∃ d : Dev, (d.ferry.waits.filter (·.src == src)).length < 64) ∧
    (∃ s : State, ∃ b : List Byte, Runs s ∧ uready 96 s.dev = false ∧ fieldLe b 12 1 = 1) ∧
    (∃ s : State, ∃ b : List Byte, Runs s ∧ uready 96 s.dev = false ∧ fieldLe b 12 1 = 0) ∧
    (∃ d : Dev, (let f := d.ferry; f.seen = false)) ∧
    (∃ d : Dev, (let f := d.ferry; (let n := now d - f.revAt; f.seen = true ∧ n ≤ f.revb.toNat))) ∧
    (∃ d : Dev, (let f := d.ferry; (let n := now d - f.revAt; f.seen = true ∧ f.revb.toNat < n))) ∧
    (∃ s : State, ∃ b : List Byte, Runs s ∧ fieldLe b 12 1 ≠ 1) ∧
    (∃ s : State, ∃ b : List Byte, Runs s ∧ fieldLe b 12 1 ≠ 0) ∧
    (∃ d : Dev, (∀ x ∈ d.ferry.inHand, x.mine = false) ∧ (d.ferry.run = false ∨ ∀ o ∈ d.ferry.own, o.2.valid = false)) :=
  ⟨⟨((fySts ++ [fySt id (uentSet 96 { state := .off })]).getD 3 up), fpktBytes (fp 1 0 3 5), by decide +kernel⟩,
   ⟨((fySts ++ [fySt id (uentSet 96 { state := .off })]).getD 7 up), fpktBytes (fp 1 0 7 5), by decide +kernel⟩,
   ⟨((fySts ++ [fySt id (uentSet 96 { state := .off })]).getD 1 up), fpktBytes (fp 1 0 7 5), by decide +kernel⟩,
   ⟨((fySts ++ [fySt id (uentSet 96 { state := .off })]).getD 7 up), fpktBytes (fp 0 0 2 5), by decide +kernel⟩,
   ⟨((fySts ++ [fySt id (uentSet 96 { state := .off })]).getD 1 up), fpktBytes (fp 0 0 6 5), by decide +kernel⟩,
   ⟨((fySts ++ [fySt id (uentSet 96 { state := .off })]).getD 8 up), fpktBytes (fp 0 1 6 8), by decide +kernel⟩,
   ⟨((fySts ++ [fySt id (uentSet 96 { state := .off })]).getD 1 up), fpktBytes (fp 0 0 6 4), by decide +kernel⟩,
   ⟨2, ((fySts ++ [fySt fun f => { f with seen := true, revAt := 399999999 }, fySt fun f => { f with seen := true, revAt := 5 }]).getD 6 up).dev, by decide +kernel⟩,
   ⟨((fySts ++ [fySt id (uentSet 96 { state := .off })]).getD 9 up), fpktBytes (fp 1 0 3 5), by decide +kernel⟩,
   ⟨((fySts ++ [fySt id (uentSet 96 { state := .off })]).getD 9 up), fpktBytes (fp 0 0 2 5), by decide +kernel⟩,
   ⟨((fySts ++ [fySt fun f => { f with seen := true, revAt := 399999999 }, fySt fun f => { f with seen := true, revAt := 5 }]).getD 2 up).dev, by decide +kernel⟩,
   ⟨((fySts ++ [fySt fun f => { f with seen := true, revAt := 399999999 }, fySt fun f => { f with seen := true, revAt := 5 }]).getD 9 up).dev, by decide +kernel⟩,
   ⟨((fySts ++ [fySt fun f => { f with seen := true, revAt := 399999999 }, fySt fun f => { f with seen := true, revAt := 5 }]).getD 10 up).dev, by decide +kernel⟩,
   ⟨((fySts ++ [fySt id (uentSet 96 { state := .off })]).getD 6 up), fpktBytes (fp 0 0 6 4), by decide +kernel⟩,
   ⟨((fySts ++ [fySt id (uentSet 96 { state := .off })]).getD 0 up), fpktBytes (fp 1 0 3 5), by decide +kernel⟩,
   ⟨((fySts ++ [fySt fun f => { f with seen := true, revAt := 399999999 }, fySt fun f => { f with seen := true, revAt := 5 }]).getD 2 up).dev, by decide +kernel⟩⟩

theorem wit_FerryHoldsAndBreaks :
    (∃ s : State, ∃ b : FBlock, ∃ pre : List FBlock, ∃ post : List FBlock, Runs s ∧ ferryServes s.dev = true ∧
     (let d1 := ferryPlaceAll s.dev; (let waits := fun (x : FBlock) => ferryPlaced x d1 = false ∧ due (x.at' + d1.ferry.hold.toNat) d1 = false; d1.ferry.inHand = pre ++ b :: post ∧ (∀ x ∈ pre, waits x) ∧ ferryPlaced b d1 = true))) ∧
    (∃ s : State, ∃ b : FBlock, ∃ pre : List FBlock, ∃ post : List FBlock, Runs s ∧ ferryServes s.dev = true ∧
     (let d1 := ferryPlaceAll s.dev; (let waits := fun (x : FBlock) => ferryPlaced x d1 = false ∧ due (x.at' + d1.ferry.hold.toNat) d1 = false; d1.ferry.inHand = pre ++ b :: post ∧ (∀ x ∈ pre, waits x) ∧ ferryPlaced b d1 = false ∧ due (b.at' + d1.ferry.hold.toNat) d1 = true))) ∧
    (∃ s : State, ∃ b : FBlock, ∃ pre : List FBlock, ∃ post : List FBlock, Runs s ∧ ferryServes s.dev = true ∧
     (let d1 := ferryPlaceAll s.dev; (let waits := fun (x : FBlock) => ferryPlaced x d1 = false ∧ due (x.at' + d1.ferry.hold.toNat) d1 = false; d1.ferry.inHand = pre ++ b :: post ∧ (∀ x ∈ pre, waits x) ∧ ferryPlaced b d1 = false ∧ due (b.at' + d1.ferry.hold.toNat) d1 = false ∧ post = []))) ∧
    (∃ s : State, ∃ c : Nat, ∃ h : Nat, ∃ a : Nat, ∃ b : Nat, ∃ lay : Nat, ∃ ncol : Nat, ∃ t : Nat, ∃ grp : Bool, Runs s ∧ coreServes c s.dev = true ∧
     (lcore c s.dev).wait = .open' h 1 grp a b lay ncol t ∧ due (t + s.dev.ferry.revb.toNat) s.dev = true) ∧
    (∃ s : State, ∃ c : Nat, ∃ h : Nat, ∃ a : Nat, ∃ b : Nat, ∃ lay : Nat, ∃ ncol : Nat, ∃ t : Nat, ∃ grp : Bool, Runs s ∧ coreServes c s.dev = true ∧
     (lcore c s.dev).wait = .open' h 1 grp a b lay ncol t ∧ due (t + s.dev.ferry.revb.toNat) s.dev = false) ∧
    (∃ s : State, Runs s ∧ ferryServes s.dev = true ∧ s.dev.ferry.run = true ∧ s.dev.ferry.token = false ∧
     (let f := s.dev.ferry; f.index = 0 ∧ due (f.revAt + 2 * f.revb.toNat) s.dev = true)) ∧
    (∃ s : State, Runs s ∧ ferryServes s.dev = true ∧ s.dev.ferry.run = true ∧ s.dev.ferry.token = false ∧
     (let f := s.dev.ferry; f.index ≠ 0 ∧ due (f.heard + 2 * f.revb.toNat) s.dev = true)) ∧
    (∃ s : State, Runs s ∧ ferryServes s.dev = true ∧ s.dev.ferry.run = true ∧ s.dev.ferry.token = false ∧
     (let f := s.dev.ferry; (f.index = 0 → due (f.revAt + 2 * f.revb.toNat) s.dev = false) ∧ (f.index ≠ 0 → due (f.heard + 2 * f.revb.toNat) s.dev = false))) :=
  ⟨⟨((fySts ++ [fySt (fun f => { f with inHand := [{ slot := 1, block := 0, nblock := 4, rev := 6, len := 4096, data := [1], at' := 5, mine := true }] }) (fun d => { d with gstr := [(3, gFerry 0)] }), fySt (fun f => { f with revb := 0x3FFFFFFF })]).getD 9 up), (fyBlks.getD 1 (fyBlk 5)), [], [], by decide +kernel⟩,
   ⟨fyFull 5, (fyBlk 5), [], [], by decide +kernel⟩,
   ⟨fyFull 399999999, (fyBlk 399999999), [], [], by decide +kernel⟩,
   ⟨((fySts ++ [fySt (fun f => { f with inHand := [{ slot := 1, block := 0, nblock := 4, rev := 6, len := 4096, data := [1], at' := 5, mine := true }] }) (fun d => { d with gstr := [(3, gFerry 0)] }), fySt (fun f => { f with revb := 0x3FFFFFFF })]).getD 4 up), 1, 1, 0, 1, 0, 6, 500, false, by decide +kernel⟩,
   ⟨((fySts ++ [fySt (fun f => { f with inHand := [{ slot := 1, block := 0, nblock := 4, rev := 6, len := 4096, data := [1], at' := 5, mine := true }] }) (fun d => { d with gstr := [(3, gFerry 0)] }), fySt (fun f => { f with revb := 0x3FFFFFFF })]).getD 10 up), 1, 1, 0, 1, 0, 6, 500, false, by decide +kernel⟩,
   ⟨((fySts ++ [fySt (fun f => { f with inHand := [{ slot := 1, block := 0, nblock := 4, rev := 6, len := 4096, data := [1], at' := 5, mine := true }] }) (fun d => { d with gstr := [(3, gFerry 0)] }), fySt (fun f => { f with revb := 0x3FFFFFFF })]).getD 1 up), by decide +kernel⟩,
   ⟨((fySts ++ [fySt (fun f => { f with inHand := [{ slot := 1, block := 0, nblock := 4, rev := 6, len := 4096, data := [1], at' := 5, mine := true }] }) (fun d => { d with gstr := [(3, gFerry 0)] }), fySt (fun f => { f with revb := 0x3FFFFFFF })]).getD 8 up), by decide +kernel⟩,
   ⟨((fySts ++ [fySt (fun f => { f with inHand := [{ slot := 1, block := 0, nblock := 4, rev := 6, len := 4096, data := [1], at' := 5, mine := true }] }) (fun d => { d with gstr := [(3, gFerry 0)] }), fySt (fun f => { f with revb := 0x3FFFFFFF })]).getD 10 up), by decide +kernel⟩⟩

theorem wit_SensorsAreJudged :
    (∃ s : State, ∃ n : Nat, ∃ v : Int, Runs s ∧ n < 8 ∧
     (let x := sensor n s.dev; -160 ≤ v ∧ v ≤ 600 ∧ (let valid := x.valid = true ∨ 16 ≤ min 16 (x.good + 1); valid))) ∧
    (∃ s : State, ∃ n : Nat, ∃ v : Int, Runs s ∧ n < 8 ∧
     (let x := sensor n s.dev; -160 ≤ v ∧ v ≤ 600 ∧ (let valid := x.valid = true ∨ 16 ≤ min 16 (x.good + 1); ¬ valid))) ∧
    (∃ s : State, ∃ n : Nat, ∃ v : Int, Runs s ∧ n < 8 ∧ (v < -160 ∨ 600 < v)) ∧
    (∃ s : State, ∃ n : Nat, Runs s ∧ n < 8 ∧ (let x := sensor n s.dev; x.missed = 0)) ∧
    (∃ s : State, ∃ n : Nat, Runs s ∧ n < 8 ∧ (let x := sensor n s.dev; 1 ≤ x.missed)) :=
  ⟨⟨(snSts.getD 1 up), 1, -160, by decide +kernel⟩,
   ⟨(snSts.getD 1 up), 4, 440, by decide +kernel⟩,
   ⟨(snSts.getD 0 up), 3, -161, by decide +kernel⟩,
   ⟨(snSts.getD 1 up), 2, by decide +kernel⟩,
   ⟨(snSts.getD 1 up), 1, by decide +kernel⟩⟩

theorem wit_LayersSettle :
    (∃ s : State, Runs s ∧ due (9216000 * (s.dev.therm.layer + 1)) s.dev = false) ∧
    (∃ s : State, Runs s ∧ due (9216000 * (s.dev.therm.layer + 1)) s.dev = true) ∧
    (∃ t : Int, 400 ≤ t) ∧
    (∃ t : Int, 380 ≤ t ∧ t < 400) ∧
    (∃ t : Int, t < 380) :=
  ⟨⟨{ up with dev := { (lySts.getD 10 up).dev with gauge := 5 } }, by decide +kernel⟩,
   ⟨(lySts.getD 33 up), by decide +kernel⟩,
   ⟨400, by decide +kernel⟩,
   ⟨399, by decide +kernel⟩,
   ⟨360, by decide +kernel⟩⟩

theorem wit_ClockSwitchesWait :
    (∃ s : State, Runs s ∧ (let t := s.dev.therm; (∃ q0 ∈ t.raise, let at' := q0.2; due at' s.dev = true))) ∧
    (∃ s : State, Runs s ∧ (let t := s.dev.therm; (∃ q0 ∈ t.raise, let at' := q0.2; due at' s.dev = false))) ∧
    (∃ s : State, Runs s ∧ (let t := s.dev.therm; t.raise = none)) ∧
    (∃ s : State, Runs s ∧ (let t := s.dev.therm; (∃ at' ∈ t.lowered, t.istate = 1 ∧ due (at' + 460800) s.dev = true))) ∧
    (∃ s : State, Runs s ∧ (let t := s.dev.therm; (∃ at' ∈ t.lowered, t.istate = 1 ∧ due (at' + 460800) s.dev = false))) ∧
    (∃ s : State, Runs s ∧ (let t := s.dev.therm; (t.lowered = none ∨ t.istate ≠ 1))) :=
  ⟨⟨(iceSts.getD 31 up), by decide +kernel⟩,
   ⟨(iceSts.getD 18 up), by decide +kernel⟩,
   ⟨(iceSts.getD 14 up), by decide +kernel⟩,
   ⟨(iceSts.getD 14 up), by decide +kernel⟩,
   ⟨(iceSts.getD 18 up), by decide +kernel⟩,
   ⟨(iceSts.getD 38 up), by decide +kernel⟩⟩

theorem wit_IceIsEntered :
    (∃ s : State, Runs s ∧ (let t := s.dev.therm; t.istate ≠ 0)) ∧
    (∃ s : State, Runs s ∧
     (let t := s.dev.therm; (let d := s.dev; t.istate = 0 ∧ t.auto = true ∧ weirIdle d = true ∧ due (t.lastAdm + t.iceidle * 9216000) d = true ∧ noStep t ∧ uready 1 d = false))) ∧
    (∃ s : State, Runs s ∧
     (let t := s.dev.therm; (let d := s.dev; t.istate = 0 ∧ t.auto = true ∧ weirIdle d = true ∧ due (t.lastAdm + t.iceidle * 9216000) d = true ∧ noStep t ∧ uready 1 d = true))) ∧
    (∃ s : State, Runs s ∧
     (let t := s.dev.therm; (let d := s.dev; t.istate = 0 ∧ t.auto = true ∧ weirIdle d = true ∧ due (t.lastAdm + t.iceidle * 9216000) d = true ∧ ¬ noStep t))) ∧
    (∃ s : State, Runs s ∧
     (let t := s.dev.therm; (let d := s.dev; (t.istate ≠ 0 ∨ t.auto = false ∨ weirIdle d = false ∨ due (t.lastAdm + t.iceidle * 9216000) d = false)))) ∧
    (∃ s : State, Runs s ∧
     (let t := s.dev.therm; (let d := s.dev; t.istate = 1 ∧ t.abandon = false ∧ d.udir.taken = false ∧ (t.iceGo = true ∨ weirIdle d = true) ∧ t.iceTodo ≠ []))) ∧
    (∃ s : State, Runs s ∧
     (let t := s.dev.therm; (let d := s.dev; t.istate = 1 ∧ t.abandon = false ∧ d.udir.taken = false ∧ (t.iceGo = true ∨ weirIdle d = true) ∧ t.iceTodo = []))) ∧
    (∃ s : State, Runs s ∧
     (let t := s.dev.therm; (let d := s.dev; (t.istate ≠ 1 ∨ t.abandon = true ∨ d.udir.taken = true ∨ (t.iceGo = false ∧ weirIdle d = false))))) ∧
    (∃ s : State, Runs s ∧
     (let t := s.dev.therm; (let d := s.dev; t.istate = 1 ∧ t.iceGo = true ∧ t.iceTodo = [] ∧ t.lowered = none ∧ (∀ n ∈ t.iceReq, ustate n d = .ice)))) ∧
    (∃ s : State, Runs s ∧
     (let t := s.dev.therm; (let d := s.dev; (t.istate ≠ 1 ∨ t.iceGo = false ∨ t.iceTodo ≠ [] ∨ t.lowered ≠ none ∨ ∃ n ∈ t.iceReq, ustate n d ≠ .ice)))) :=
  ⟨⟨(iceSts.getD 27 up), by decide +kernel⟩,
   ⟨((iceSts ++ idleSts).getD 40 up), by decide +kernel⟩,
   ⟨(iceSts.getD 0 up), by decide +kernel⟩,
   ⟨((iceSts ++ idleSts).getD 41 up), by decide +kernel⟩,
   ⟨(iceSts.getD 24 up), by decide +kernel⟩,
   ⟨(iceSts.getD 12 up), by decide +kernel⟩,
   ⟨(iceSts.getD 17 up), by decide +kernel⟩,
   ⟨(iceSts.getD 32 up), by decide +kernel⟩,
   ⟨(iceSts.getD 13 up), by decide +kernel⟩,
   ⟨(iceSts.getD 19 up), by decide +kernel⟩⟩

theorem wit_IceIsLeft :
    (∃ s : State, Runs s ∧ (let t := s.dev.therm; (t.istate = 0 ∨ t.istate = 3))) ∧
    (∃ s : State, Runs s ∧ (let t := s.dev.therm; (let d := s.dev; t.istate = 2 ∧ t.icewake ≠ 0 ∧ due (t.iceAt + t.icewake * 9216000) d = true))) ∧
    (∃ s : State, Runs s ∧ (let t := s.dev.therm; (let d := s.dev; (t.istate ≠ 2 ∨ t.icewake = 0 ∨ due (t.iceAt + t.icewake * 9216000) d = false)))) ∧
    (∃ s : State, Runs s ∧
     (let t := s.dev.therm; (let d := s.dev; t.istate = 1 ∧ t.abandon = false ∧ t.iceGo = false ∧ due (t.iceAt + t.icewait * 9216000) d = true ∧ t.waitIn = [] ∧ t.lowered = none))) ∧
    (∃ s : State, Runs s ∧ (let t := s.dev.therm; (let d := s.dev; (t.istate ≠ 1 ∨ t.iceGo = true ∨ due (t.iceAt + t.icewait * 9216000) d = false)))) :=
  ⟨⟨(iceSts.getD 35 up), by decide +kernel⟩,
   ⟨(iceSts.getD 21 up), by decide +kernel⟩,
   ⟨(iceSts.getD 38 up), by decide +kernel⟩,
   ⟨(iceSts.getD 11 up), by decide +kernel⟩,
   ⟨(iceSts.getD 22 up), by decide +kernel⟩⟩

theorem wit_IceExits :
    (∃ s : State, Runs s ∧ (let t := s.dev.therm; (let d := s.dev; t.istate = 3 ∧ d.clk = .ice ∧ noStep t))) ∧
    (∃ s : State, Runs s ∧ (let t := s.dev.therm; (let d := s.dev; (t.istate ≠ 3 ∨ d.clk ≠ .ice ∨ ¬ noStep t)))) ∧
    (∃ s : State, Runs s ∧ (let t := s.dev.therm; (let d := s.dev; t.istate = 3 ∧ d.clk = .ice ∧ (∃ q0 ∈ t.raise, let at' := q0.2; due at' d = true)))) ∧
    (∃ s : State, Runs s ∧ (let t := s.dev.therm; (let d := s.dev; t.istate = 3 ∧ d.clk = .ice ∧ (∃ q0 ∈ t.raise, let at' := q0.2; due at' d = false)))) ∧
    (∃ s : State, Runs s ∧
     (let t := s.dev.therm; (let d := s.dev; t.istate = 3 ∧ d.clk ≠ .ice ∧ d.udir.taken = false ∧ t.pend = none ∧ t.exitGo = none ∧ (∃ n ∈ t.exitTodo.head?, let ns := t.exitTodo.tail; n ∉ ns ∧ (∀ m ∈ n :: ns, (uent m d).pend = none ∧ ustate m d = .ice))))) ∧
    (∃ s : State, Runs s ∧
     (let t := s.dev.therm; (let d := s.dev; t.istate = 3 ∧ t.abandon = true ∧ d.udir.taken = false ∧ t.pend = none ∧ (∃ n ∈ t.exitTodo.head?, let ns := t.exitTodo.tail; n ∉ ns ∧ (∀ m ∈ n :: ns, (uent m d).pend = none ∧ ustate m d = .draining ∧ (uent m d).target = some .ice) ∧ d.clk ≠ .ice)))) ∧
    (∃ s : State, Runs s ∧ (let t := s.dev.therm; (let d := s.dev; (t.istate ≠ 3 ∨ (d.clk ≠ .ice ∧ d.udir.taken = true))))) ∧
    (∃ s : State, Runs s ∧ (let t := s.dev.therm; (let d := s.dev; (∃ at' ∈ t.exitGo, due at' d = false)))) ∧
    (∃ s : State, Runs s ∧
     (let t := s.dev.therm; (let d := s.dev; (∃ at' ∈ t.exitGo, due at' d = true ∧ t.istate = 3 ∧ t.abandon = true ∧ d.udir.taken = false ∧ t.pend = none ∧ (∃ n ∈ t.exitTodo.head?, let ns := t.exitTodo.tail; n ∉ ns ∧ (∀ m ∈ n :: ns, (uent m d).pend = none ∧ ustate m d = .ice)))))) :=
  ⟨⟨(iceSts.getD 37 up), by decide +kernel⟩,
   ⟨(iceSts.getD 17 up), by decide +kernel⟩,
   ⟨(iceSts.getD 31 up), by decide +kernel⟩,
   ⟨(iceSts.getD 38 up), by decide +kernel⟩,
   ⟨(iceSts.getD 36 up), by decide +kernel⟩,
   ⟨(iceSts.getD 35 up), by decide +kernel⟩,
   ⟨(iceSts.getD 11 up), by decide +kernel⟩,
   ⟨(iceSts.getD 38 up), by decide +kernel⟩,
   ⟨(iceSts.getD 34 up), by decide +kernel⟩⟩

theorem wit_IceCommandsComplete :
    (∃ s : State, Runs s ∧
     (let t := s.dev.therm; (let d := s.dev; t.istate = 0 ∧ noStep t ∧ t.auto = true ∧ weirIdle d = true ∧ due (t.lastAdm + t.iceidle * 9216000) d = true))) ∧
    (∃ s : State, Runs s ∧
     (let t := s.dev.therm; (let d := s.dev; t.istate = 1 ∧ t.abandon = false ∧ d.udir.taken = false ∧ weirIdle d = true ∧ (∃ n ∈ t.iceTodo.head?, uready n d = true ∧ (uent n d).pend = none ∧ permitted .thermo n .ice = true ∧ uPresent d.fuse.variant n = true ∧ uAssigned n = true)))) ∧
    (∃ s : State, Runs s ∧
     (let t := s.dev.therm; (let d := s.dev; t.istate = 1 ∧ t.iceGo = true ∧ t.iceTodo = [] ∧ t.lowered = none ∧ (∀ n ∈ t.iceReq, ustate n d = .ice)))) ∧
    (∃ s : State, Runs s ∧
     (let t := s.dev.therm; (let d := s.dev; t.istate = 1 ∧ t.iceGo = false ∧ t.abandon = false ∧ due (t.iceAt + t.icewait * 9216000) d = true))) ∧
    (∃ s : State, Runs s ∧ (let t := s.dev.therm; (let d := s.dev; t.istate = 2 ∧ t.icewake ≠ 0 ∧ due (t.iceAt + t.icewake * 9216000) d = true))) ∧
    (∃ s : State, Runs s ∧ (let t := s.dev.therm; (let d := s.dev; t.istate = 3 ∧ d.clk = .ice ∧ noStep t))) ∧
    (∃ s : State, Runs s ∧ (let t := s.dev.therm; (let d := s.dev; t.istate = 3 ∧ d.clk = .ice ∧ (∃ q0 ∈ t.raise, let at' := q0.2; due at' d = true)))) ∧
    (∃ s : State, Runs s ∧ (let t := s.dev.therm; (let d := s.dev; (∃ at' ∈ t.exitGo, due at' d = true)))) :=
  ⟨⟨((iceSts ++ iceMore).getD 0 up), by decide +kernel⟩,
   ⟨((iceSts ++ iceMore).getD 12 up), by decide +kernel⟩,
   ⟨((iceSts ++ iceMore).getD 13 up), by decide +kernel⟩,
   ⟨((iceSts ++ iceMore).getD 17 up), by decide +kernel⟩,
   ⟨((iceSts ++ iceMore).getD 21 up), by decide +kernel⟩,
   ⟨((iceSts ++ iceMore).getD 37 up), by decide +kernel⟩,
   ⟨((iceSts ++ iceMore).getD 31 up), by decide +kernel⟩,
   ⟨((iceSts ++ iceMore).getD 34 up), by decide +kernel⟩⟩

theorem wit_OrphansExpire :
    (∃ s : State, ∃ l : Nat, Runs s ∧
     (let r := lrec l s.dev; (let old := s.dev.ledger.orphTtl ≠ 0 ∧ r.deliv = 2 ∧ r.relAt + s.dev.ledger.orphTtl * 9216000 < now s.dev; old ∧ r.phase ≠ 3))) ∧
    (∃ s : State, ∃ l : Nat, Runs s ∧
     (let r := lrec l s.dev; (let old := s.dev.ledger.orphTtl ≠ 0 ∧ r.deliv = 2 ∧ r.relAt + s.dev.ledger.orphTtl * 9216000 < now s.dev; old ∧ r.phase = 3 ∧ mirroring s.dev = false))) ∧
    (∃ s : State, ∃ l : Nat, Runs s ∧
     (let r := lrec l s.dev; (let old := s.dev.ledger.orphTtl ≠ 0 ∧ r.deliv = 2 ∧ r.relAt + s.dev.ledger.orphTtl * 9216000 < now s.dev; old ∧ r.phase = 3 ∧ mirroring s.dev = true))) ∧
    (∃ s : State, ∃ l : Nat, Runs s ∧
     (let r := lrec l s.dev; (let old := s.dev.ledger.orphTtl ≠ 0 ∧ r.deliv = 2 ∧ r.relAt + s.dev.ledger.orphTtl * 9216000 < now s.dev; ¬ old))) :=
  ⟨⟨(orSts.getD 3 up), 2, by decide +kernel⟩,
   ⟨(orSts.getD 0 up), 2, by decide +kernel⟩,
   ⟨(orSts.getD 1 up), 2, by decide +kernel⟩,
   ⟨(orSts.getD 3 up), 5, by decide +kernel⟩⟩

theorem wit_MirrorsAreServed :
    (∃ s : State, ∃ m : MirrorPkt, ∃ d1 : Dev, Runs s ∧ mirrorComes m s d1 ∧
     (let fits := servesMirror m s.dev ∧ m.lidx < s.dev.hbm.ledger * 8388608 / 2; (m.op = 0 ∨ m.op = 3) ∧ ¬ fits)) ∧
    (∃ s : State, ∃ m : MirrorPkt, ∃ d1 : Dev, Runs s ∧ mirrorComes m s d1 ∧
     (let kept := tabGet (fun _ => 0) s.dev.ledger.mirrorSeq m.lidx; (let older := kept ≠ 0 ∧ serialAfter (kept - 1) m.mseq = true; (let fits := servesMirror m s.dev ∧ m.lidx < s.dev.hbm.ledger * 8388608 / 2; (m.op = 0 ∨ m.op = 3) ∧ fits ∧ older)))) ∧
    (∃ s : State, ∃ m : MirrorPkt, ∃ d1 : Dev, Runs s ∧ mirrorComes m s d1 ∧
     (let kept := tabGet (fun _ => 0) s.dev.ledger.mirrorSeq m.lidx; (let older := kept ≠ 0 ∧ serialAfter (kept - 1) m.mseq = true; (let fits := servesMirror m s.dev ∧ m.lidx < s.dev.hbm.ledger * 8388608 / 2; m.op = 3 ∧ fits ∧ ¬ older)))) ∧
    (∃ s : State, ∃ m : MirrorPkt, ∃ d1 : Dev, Runs s ∧ mirrorComes m s d1 ∧
     (let kept := tabGet (fun _ => 0) s.dev.ledger.mirrorSeq m.lidx; (let older := kept ≠ 0 ∧ serialAfter (kept - 1) m.mseq = true; (let fits := servesMirror m s.dev ∧ m.lidx < s.dev.hbm.ledger * 8388608 / 2; m.op = 0 ∧ (∃ r ∈ m.rcd, fits ∧ ¬ older))))) ∧
    (∃ s : State, ∃ m : MirrorPkt, ∃ d1 : Dev, Runs s ∧ mirrorComes m s d1 ∧ m.op ≠ 0 ∧ m.op ≠ 3) ∧
    (∃ s : State, ∃ m : MirrorPkt, ∃ d1 : Dev, Runs s ∧ mirrorComes m s d1 ∧ m.op = 5 ∧ ¬ servesMirror m s.dev) ∧
    (∃ s : State, ∃ m : MirrorPkt, ∃ d1 : Dev, Runs s ∧ mirrorComes m s d1 ∧ m.op = 5 ∧ servesMirror m s.dev) ∧
    (∃ s : State, ∃ m : MirrorPkt, ∃ d1 : Dev, Runs s ∧ mirrorComes m s d1 ∧ m.op ≠ 5) :=
  ⟨⟨(mrSts.getD 0 up), (mM (mrSts.getD 0 up)), (mD (mrSts.getD 0 up)), by decide +kernel⟩,
   ⟨(mrSts.getD 20 up), (mM (mrSts.getD 20 up)), (mD (mrSts.getD 20 up)), by decide +kernel⟩,
   ⟨(mrSts.getD 22 up), (mM (mrSts.getD 22 up)), (mD (mrSts.getD 22 up)), by decide +kernel⟩,
   ⟨(mrSts.getD 19 up), (mM (mrSts.getD 19 up)), (mD (mrSts.getD 19 up)), by decide +kernel⟩,
   ⟨(mrSts.getD 5 up), (mM (mrSts.getD 5 up)), (mD (mrSts.getD 5 up)), by decide +kernel⟩,
   ⟨(mrSts.getD 5 up), (mM (mrSts.getD 5 up)), (mD (mrSts.getD 5 up)), by decide +kernel⟩,
   ⟨(mrSts.getD 24 up), (mM (mrSts.getD 24 up)), (mD (mrSts.getD 24 up)), by decide +kernel⟩,
   ⟨(mrSts.getD 0 up), (mM (mrSts.getD 0 up)), (mD (mrSts.getD 0 up)), by decide +kernel⟩⟩

theorem wit_MirrorsAreAcknowledged :
    (∃ s : State, ∃ m : MirrorPkt, ∃ d1 : Dev, Runs s ∧ mirrorComes m s d1 ∧ (m.op = 1 ∨ m.op = 2) ∧
     (let of := s.dev.ledger.unacked.find? fun w => w.lidx == m.lidx && w.mseq == m.mseq; (let asked := m.op = 2 ∧ m.lidx = noLidx ∧ s.dev.ledger.fetchDue.isSome = true; of = none ∧ ¬ asked))) ∧
    (∃ s : State, ∃ m : MirrorPkt, ∃ d1 : Dev, Runs s ∧ mirrorComes m s d1 ∧ (m.op = 1 ∨ m.op = 2) ∧
     (let of := s.dev.ledger.unacked.find? fun w => w.lidx == m.lidx && w.mseq == m.mseq; (let asked := m.op = 2 ∧ m.lidx = noLidx ∧ s.dev.ledger.fetchDue.isSome = true; of = none ∧ asked ∧ s.dev.ledger.fetchWho = none))) ∧
    (∃ s : State, ∃ m : MirrorPkt, ∃ d1 : Dev, ∃ sid, ∃ tag, Runs s ∧ mirrorComes m s d1 ∧ (m.op = 1 ∨ m.op = 2) ∧
     (let of := s.dev.ledger.unacked.find? fun w => w.lidx == m.lidx && w.mseq == m.mseq; (let asked := m.op = 2 ∧ m.lidx = noLidx ∧ s.dev.ledger.fetchDue.isSome = true; of = none ∧ asked ∧ s.dev.ledger.fetchWho = some (sid, tag)))) ∧
    (∃ s : State, ∃ m : MirrorPkt, ∃ d1 : Dev, Runs s ∧ mirrorComes m s d1 ∧ (m.op = 1 ∨ m.op = 2) ∧
     (let of := s.dev.ledger.unacked.find? fun w => w.lidx == m.lidx && w.mseq == m.mseq; (∃ w ∈ of, (let left := s.dev.ledger.unacked.erase w; (let r := lrec m.lidx s.dev; m.op = 1 ∧ r.phase ≠ 0 ∧ (∀ x ∈ left, x.lidx ≠ m.lidx)))))) ∧
    (∃ s : State, ∃ m : MirrorPkt, ∃ d1 : Dev, Runs s ∧ mirrorComes m s d1 ∧ (m.op = 1 ∨ m.op = 2) ∧
     (let of := s.dev.ledger.unacked.find? fun w => w.lidx == m.lidx && w.mseq == m.mseq; (∃ w ∈ of, (let left := s.dev.ledger.unacked.erase w; (let r := lrec m.lidx s.dev; m.op = 1 ∧ (r.phase = 0 ∨ ∃ x ∈ left, x.lidx = m.lidx)))))) ∧
    (∃ s : State, ∃ m : MirrorPkt, ∃ d1 : Dev, Runs s ∧ mirrorComes m s d1 ∧ (m.op = 1 ∨ m.op = 2) ∧
     (let of := s.dev.ledger.unacked.find? fun w => w.lidx == m.lidx && w.mseq == m.mseq; (∃ w ∈ of, m.op = 2))) ∧
    (∃ s : State, ∃ q : Nat, Runs s ∧ (let of := s.dev.ledger.unacked.find? fun w => w.mseq == q && due w.due s.dev; of = none)) ∧
    (∃ s : State, ∃ q : Nat, Runs s ∧
     (let of := s.dev.ledger.unacked.find? fun w => w.mseq == q && due w.due s.dev; (∃ w ∈ of, (let r := lrec w.lidx s.dev; w.again = false ∧ r.phase ≠ 0)))) ∧
    (∃ s : State, ∃ q : Nat, Runs s ∧
     (let of := s.dev.ledger.unacked.find? fun w => w.mseq == q && due w.due s.dev; (∃ w ∈ of, (let r := lrec w.lidx s.dev; w.again = false ∧ r.phase = 0)))) ∧
    (∃ s : State, ∃ q : Nat, Runs s ∧ (let of := s.dev.ledger.unacked.find? fun w => w.mseq == q && due w.due s.dev; (∃ w ∈ of, w.again = true))) ∧
    (∃ d : Dev, mirroring d = true) ∧
    (∃ d : Dev, d.ledger.mirrorOn = true ∧ d.ledger.degraded = true) :=
  ⟨⟨(mrSts.getD 7 up), (mM (mrSts.getD 7 up)), (mD (mrSts.getD 7 up)), by decide +kernel⟩,
   ⟨(fmSts.getD 0 up), (mM (fmSts.getD 0 up)), (mD (fmSts.getD 0 up)), by decide +kernel⟩,
   ⟨(fmSts.getD 1 up), (mM (fmSts.getD 1 up)), (mD (fmSts.getD 1 up)), 1, "a1", by decide +kernel⟩,
   ⟨(mrSts.getD 45 up), (mM (mrSts.getD 45 up)), (mD (mrSts.getD 45 up)), by decide +kernel⟩,
   ⟨(mrSts.getD 66 up), (mM (mrSts.getD 66 up)), (mD (mrSts.getD 66 up)), by decide +kernel⟩,
   ⟨(mrSts.getD 46 up), (mM (mrSts.getD 46 up)), (mD (mrSts.getD 46 up)), by decide +kernel⟩,
   ⟨msiMask, 3, by decide +kernel⟩,
   ⟨((mrSts ++ unSts).getD 38 up), 71, by decide +kernel⟩,
   ⟨((mrSts ++ unSts).getD 117 up), 71, by decide +kernel⟩,
   ⟨((mrSts ++ unSts).getD 57 up), 71, by decide +kernel⟩,
   ⟨(mrSts.getD 38 up).dev, by decide +kernel⟩,
   ⟨(mrSts.getD 38 up).dev, by decide +kernel⟩⟩

theorem wit_FetchesRecover :
    (∃ s : State, ∃ m : MirrorPkt, ∃ d1 : Dev, Runs s ∧ mirrorComes m s d1 ∧ (m.op = 4 ∨ m.op = 6) ∧
     (let mine := s.dev.ledger.fetchDue ≠ none ∧ m.origin = s.dev.jetty.node; ¬ mine)) ∧
    (∃ s : State, ∃ m : MirrorPkt, ∃ d1 : Dev, Runs s ∧ mirrorComes m s d1 ∧ (m.op = 4 ∨ m.op = 6) ∧
     (let mine := s.dev.ledger.fetchDue ≠ none ∧ m.origin = s.dev.jetty.node; mine ∧ m.op = 6 ∧ s.dev.ledger.fetchWho = none)) ∧
    (∃ s : State, ∃ m : MirrorPkt, ∃ d1 : Dev, Runs s ∧ mirrorComes m s d1 ∧ (m.op = 4 ∨ m.op = 6) ∧
     (let mine := s.dev.ledger.fetchDue ≠ none ∧ m.origin = s.dev.jetty.node; mine ∧ m.op = 6 ∧ (s.dev.ledger.fetchWho).isSome = true)) ∧
    (∃ s : State, ∃ m : MirrorPkt, ∃ d1 : Dev, Runs s ∧ mirrorComes m s d1 ∧ (m.op = 4 ∨ m.op = 6) ∧
     (let mine := s.dev.ledger.fetchDue ≠ none ∧ m.origin = s.dev.jetty.node; (let free := m.lidx < ledgSize s.dev ∧ (lrec m.lidx s.dev).phase = 0; mine ∧ m.op = 4 ∧ (m.rcd = none ∨ ¬ free)))) ∧
    (∃ s : State, ∃ m : MirrorPkt, ∃ d1 : Dev, Runs s ∧ mirrorComes m s d1 ∧ (m.op = 4 ∨ m.op = 6) ∧
     (let mine := s.dev.ledger.fetchDue ≠ none ∧ m.origin = s.dev.jetty.node; (let free := m.lidx < ledgSize s.dev ∧ (lrec m.lidx s.dev).phase = 0; mine ∧ m.op = 4 ∧ free ∧ (∃ r ∈ m.rcd, r.phase = 1)))) ∧
    (∃ s : State, ∃ m : MirrorPkt, ∃ d1 : Dev, Runs s ∧ mirrorComes m s d1 ∧ (m.op = 4 ∨ m.op = 6) ∧
     (let mine := s.dev.ledger.fetchDue ≠ none ∧ m.origin = s.dev.jetty.node; (let free := m.lidx < ledgSize s.dev ∧ (lrec m.lidx s.dev).phase = 0; mine ∧ m.op = 4 ∧ free ∧ (∃ r ∈ m.rcd, (r.phase = 2 ∨ r.phase = 3))))) ∧
    (∃ s : State, Runs s ∧ s.dev.ledger.fetchDue = none) ∧
    (∃ s : State, Runs s ∧ (∃ t ∈ s.dev.ledger.fetchDue, due t s.dev = false)) ∧
    (∃ s : State, Runs s ∧ (∃ t ∈ s.dev.ledger.fetchDue, due t s.dev = true ∧ s.dev.ledger.fetchWho = none)) ∧
    (∃ s : State, Runs s ∧ (∃ t ∈ s.dev.ledger.fetchDue, due t s.dev = true ∧ (s.dev.ledger.fetchWho).isSome = true)) :=
  ⟨⟨(mrSts.getD 11 up), (mM (mrSts.getD 11 up)), (mD (mrSts.getD 11 up)), by decide +kernel⟩,
   ⟨(mrSts.getD 92 up), (mM (mrSts.getD 92 up)), (mD (mrSts.getD 92 up)), by decide +kernel⟩,
   ⟨(mrSts.getD 111 up), (mM (mrSts.getD 111 up)), (mD (mrSts.getD 111 up)), by decide +kernel⟩,
   ⟨(mrSts.getD 90 up), (mM (mrSts.getD 90 up)), (mD (mrSts.getD 90 up)), by decide +kernel⟩,
   ⟨(mrSts.getD 87 up), (mM (mrSts.getD 87 up)), (mD (mrSts.getD 87 up)), by decide +kernel⟩,
   ⟨(mrSts.getD 88 up), (mM (mrSts.getD 88 up)), (mD (mrSts.getD 88 up)), by decide +kernel⟩,
   ⟨(mrSts.getD 0 up), by decide +kernel⟩,
   ⟨((mrSts ++ mrSts.map later).getD 95 up), by decide +kernel⟩,
   ⟨((mrSts ++ mrSts.map later).getD 76 up), by decide +kernel⟩,
   ⟨((mrSts ++ mrSts.map later).getD 209 up), by decide +kernel⟩⟩

theorem wit_MirrorSettings :
    (∃ s : State, ∃ v : Nat, Runs s ∧ HostFree s ∧ (let g := s.dev.ledger; (let on := (bitOf v 8 = true ∨ g.forced = true) ∧ g.peerV = true; ¬ on))) ∧
    (∃ s : State, ∃ v : Nat, Runs s ∧ HostFree s ∧
     (let g := s.dev.ledger; (let on := (bitOf v 8 = true ∨ g.forced = true) ∧ g.peerV = true; on ∧ mirroring s.dev = true))) ∧
    (∃ s : State, ∃ v : Nat, Runs s ∧ HostFree s ∧
     (let g := s.dev.ledger; (let on := (bitOf v 8 = true ∨ g.forced = true) ∧ g.peerV = true; on ∧ mirroring s.dev = false))) ∧
    (∃ s : State, ∃ v : Nat, Runs s ∧ HostFree s ∧ (let g := s.dev.ledger; g.forced = true ∧ bitOf v 31 = false)) ∧
    (∃ s : State, ∃ v : Nat, Runs s ∧ HostFree s ∧
     (let g := s.dev.ledger; (let on := g.mirrorOn = true ∧ bitOf v 31 = true; (g.forced = false ∨ bitOf v 31 = true) ∧ ¬ on))) ∧
    (∃ s : State, ∃ v : Nat, Runs s ∧ HostFree s ∧
     (let g := s.dev.ledger; (let on := g.mirrorOn = true ∧ bitOf v 31 = true; (g.forced = false ∨ bitOf v 31 = true) ∧ on ∧ mirroring s.dev = true ∧ bitsOf v 15 0 = g.peer))) ∧
    (∃ s : State, ∃ v : Nat, Runs s ∧ HostFree s ∧
     (let g := s.dev.ledger; (let on := g.mirrorOn = true ∧ bitOf v 31 = true; (g.forced = false ∨ bitOf v 31 = true) ∧ on ∧ (mirroring s.dev = false ∨ bitsOf v 15 0 ≠ g.peer)))) :=
  ⟨⟨((lgs.map fun f => lgSt f).getD 3 up), 0x80000009, by decide +kernel⟩,
   ⟨((lgs.map fun f => lgSt f).getD 3 up), 0x703, by decide +kernel⟩,
   ⟨((lgs.map fun f => lgSt f).getD 4 up), 0x100, by decide +kernel⟩,
   ⟨lgSt fun g => { g with forced := true, mirrorOn := true }, 0x703, by decide +kernel⟩,
   ⟨((lgs.map fun f => lgSt f).getD 3 up), 0x100, by decide +kernel⟩,
   ⟨((lgs.map fun f => lgSt f).getD 2 up), 0x80000008, by decide +kernel⟩,
   ⟨((lgs.map fun f => lgSt f).getD 3 up), 0x80000009, by decide +kernel⟩⟩

theorem wit_PowerOnBoots :
    (∃ s : State, s.dev.tap.ir ≠ 0 ∧ (s.dev.boot.trip = .powerDown ∨ (s.dev.boot.phase = 0 ∧ s.dev.boot.trip = .none))) ∧
    (∃ s : State, (s.dev.tap.ir = 0 ∨ (s.dev.boot.trip ≠ .powerDown ∧ (s.dev.boot.phase ≠ 0 ∨ s.dev.boot.trip ≠ .none)))) :=
  ⟨⟨offSt, by decide +kernel⟩,
   ⟨ringSt, by decide +kernel⟩⟩

theorem wit_WarmResetBoots :
    (∃ s : State, ∃ refOk : Bool,
     (let b := s.dev.boot; (let held := s.dev.tap.ir = 0 ∨ b.trip = .powerDown ∨ b.trip = .hardware ∨ b.thermtrip = false ∨ (b.trip = .refLoss ∧ refOk = false); held))) ∧
    (∃ s : State, ∃ refOk : Bool,
     (let b := s.dev.boot; (let held := s.dev.tap.ir = 0 ∨ b.trip = .powerDown ∨ b.trip = .hardware ∨ b.thermtrip = false ∨ (b.trip = .refLoss ∧ refOk = false); ¬ held))) :=
  ⟨⟨offSt, true, by decide +kernel⟩,
   ⟨ringSt, true, by decide +kernel⟩⟩

theorem wit_BootReachesReadyOrRecovery :
    (∃ d : Dev, noShore d) ∧
    (∃ s : State, Runs s ∧ s.dev.boot.phase ≠ 5) ∧
    (∃ s : State, Runs s ∧
     (let r := imageMere s.dev.boot.recaddr s.dev; (let why := firstFail (imageRules [1] r.1 r.2 s.dev); s.dev.boot.phase = 5 ∧ why ≠ none))) ∧
    (∃ t : Nat, ∃ s : Nat, ∃ d : Dev, (let r := slotImage t s d; (r.2).isSome = true)) :=
  ⟨⟨msiSt.dev, by decide +kernel⟩,
   ⟨msiMask, by decide +kernel⟩,
   ⟨(recSts.getD 0 up), by decide +kernel⟩,
   ⟨1, 0, (bootSts.getD 0 up).dev, by decide +kernel⟩⟩

theorem wit_TripsStopThePart :
    (∃ s : State, (let d := s.dev; Runs s ∧ hotMap d ≠ 0)) ∧
    (∃ s : State, (let d := s.dev; (¬ Runs s ∨ hotMap d = 0))) ∧
    (∃ s : State, ¬ Runs s) ∧
    (∃ s : State, ∃ m, (let d := s.dev; 0 < m ∧ m < 256 ∧ d.boot.thermtrip = true ∧ d.boot.trip ≠ .powerDown)) ∧
    (∃ s : State, ∃ m, (let d := s.dev; 0 < m ∧ m < 256 ∧ d.boot.thermtrip = true ∧ d.boot.trip = .powerDown)) ∧
    (∃ s : State, (let d := s.dev; d.boot.thermtrip = false)) :=
  ⟨⟨(hotSts.getD 0 up), by decide +kernel⟩,
   ⟨ringSt, by decide +kernel⟩,
   ⟨offSt, by decide +kernel⟩,
   ⟨upFull, 1, by decide +kernel⟩,
   ⟨offSt, 255, by decide +kernel⟩,
   ⟨(hotSts.getD 1 up), by decide +kernel⟩⟩

theorem wit_PowerDownStopsThePart :
    (∃ s : State, (let d := s.dev; d.tap.ir ≠ 0 ∧ d.boot.trip ≠ .powerDown)) ∧
    (∃ s : State, (let d := s.dev; (d.tap.ir = 0 ∨ d.boot.trip = .powerDown))) ∧
    (∃ s : State, (let d := s.dev; Runs s ∧ d.tap.ir ≠ 0)) ∧
    (∃ s : State, (let d := s.dev; Runs s ∧ d.tap.ir = 0)) :=
  ⟨⟨ringSt, by decide +kernel⟩,
   ⟨offSt, by decide +kernel⟩,
   ⟨upFull, by decide +kernel⟩,
   ⟨(hotSts.getD 2 up), by decide +kernel⟩⟩

theorem wit_RecordsAreWritten :
    (∃ s : State, ∃ kind : Nat, Runs s ∧ kind < 4 ∧ (∀ j ∈ s.dev.boot.jobs, j.kind ≠ kind) ∧ userves 99 s.dev = true) ∧
    (∃ s : State, ∃ kind : Nat, Runs s ∧ (4 ≤ kind ∨ (∃ j ∈ s.dev.boot.jobs, j.kind = kind) ∨ userves 99 s.dev = false)) ∧
    (∃ s : State, Runs s ∧ s.dev.tap.ir ≠ 0 ∧ userves 99 s.dev = true ∧ (∃ j ∈ s.dev.boot.jobs.head?, (∃ o ∈ j.ops.head?, let os := j.ops.tail; os ≠ []))) ∧
    (∃ s : State, ∃ k, ∃ q, ∃ body, Runs s ∧ s.dev.tap.ir ≠ 0 ∧ userves 99 s.dev = true ∧
     (∃ j ∈ s.dev.boot.jobs.head?, (∃ o ∈ j.ops.head?, let os := j.ops.tail; os = [] ∧ j.fin = .seqOf k q body ∧ j.wait = none))) ∧
    (∃ s : State, Runs s ∧ s.dev.tap.ir ≠ 0 ∧ userves 99 s.dev = true ∧
     (∃ j ∈ s.dev.boot.jobs.head?, (∃ o ∈ j.ops.head?, let os := j.ops.tail; os = [] ∧ j.fin = .none ∧ j.wait = none))) ∧
    (∃ s : State, Runs s ∧ s.dev.tap.ir ≠ 0 ∧ userves 99 s.dev = true ∧
     (∃ j ∈ s.dev.boot.jobs.head?, (∃ o ∈ j.ops.head?, let os := j.ops.tail; os = [] ∧ j.fin = .none ∧ (j.wait).isSome = true))) ∧
    (∃ s : State, Runs s ∧ (s.dev.boot.jobs = [] ∨ s.dev.tap.ir = 0 ∨ userves 99 s.dev = false)) ∧
    (∃ s : State, Runs s ∧ userves 99 s.dev = true ∧ (∀ j ∈ s.dev.boot.jobs, j.kind ≠ 2) ∧ s.dev.boot.newEv ≠ [] ∧
     (∃ t ∈ s.dev.boot.evAt, now s.dev < t + 9216000000)) ∧
    (∃ s : State, Runs s ∧ userves 99 s.dev = true ∧ (∀ j ∈ s.dev.boot.jobs, j.kind ≠ 2) ∧ s.dev.boot.newEv ≠ [] ∧
     (∀ t ∈ s.dev.boot.evAt, t + 9216000000 ≤ now s.dev)) :=
  ⟨⟨(nvSts.getD 3 up), 2, by decide +kernel⟩,
   ⟨(nvSts.getD 1 up), 4, by decide +kernel⟩,
   ⟨(nvSts.getD 1 up), by decide +kernel⟩,
   ⟨(nvSts.getD 3 up), 3, 7, [1, 2], by decide +kernel⟩,
   ⟨(nvSts.getD 4 up), by decide +kernel⟩,
   ⟨(nvSts.getD 2 up), by decide +kernel⟩,
   ⟨(nvSts.getD 0 up), by decide +kernel⟩,
   ⟨(nvSts.getD 6 up), by decide +kernel⟩,
   ⟨(nvSts.getD 5 up), by decide +kernel⟩⟩

theorem wit_RecordsReadBack : ∃ kind : Nat, ∃ slot : Nat, ∃ seq : Nat, ∃ body : List Byte, kind < 4 ∧ slot < 2 ∧ seq < 2 ^ 32 ∧
    (256 + body.length ≤ (if kind = 3 then 0x80000 else 0x8000)) :=
  ⟨0, 0, 4096, (List.replicate 64 0), by decide +kernel⟩

theorem wit_ScanPort :
    (∃ s : State, s.dev.fuse.letter < 16) ∧
    (∃ code, 3 ≤ code) ∧
    (∃ code, code < 3) :=
  ⟨⟨up4, by decide +kernel⟩,
   ⟨3, by decide +kernel⟩,
   ⟨0, by decide +kernel⟩⟩

theorem wit_UartTyping :
    (∃ s : State, ∃ b : Nat, Runs s ∧ s.dev.tap.ir ≠ 0 ∧ b < 256 ∧ typing s.dev ∧
     (let x := sess 0 s.dev; ((0x20 ≤ b ∧ b ≤ 0x7E) ∨ b = 9) ∧ x.part.length < 1024)) ∧
    (∃ s : State, ∃ b : Nat, Runs s ∧ s.dev.tap.ir ≠ 0 ∧ b < 256 ∧ typing s.dev ∧
     (let x := sess 0 s.dev; ((0x20 ≤ b ∧ b ≤ 0x7E) ∨ b = 9) ∧ 1024 ≤ x.part.length)) ∧
    (∃ s : State, ∃ b : Nat, Runs s ∧ s.dev.tap.ir ≠ 0 ∧ b < 256 ∧ typing s.dev ∧ (let x := sess 0 s.dev; (b = 8 ∨ b = 0x7F) ∧ x.part ≠ [])) ∧
    (∃ s : State, ∃ b : Nat, Runs s ∧ s.dev.tap.ir ≠ 0 ∧ b < 256 ∧ typing s.dev ∧ (let x := sess 0 s.dev; (b = 8 ∨ b = 0x7F) ∧ x.part = [])) ∧
    (∃ s : State, ∃ b : Nat, Runs s ∧ s.dev.tap.ir ≠ 0 ∧ b < 256 ∧ typing s.dev ∧ b = 0x15) ∧
    (∃ s : State, ∃ b : Nat, Runs s ∧ s.dev.tap.ir ≠ 0 ∧ b < 256 ∧ typing s.dev ∧ b = 0x1B) ∧
    (∃ s : State, ∃ b : Nat, Runs s ∧ s.dev.tap.ir ≠ 0 ∧ b < 256 ∧ typing s.dev ∧ b < 0x20 ∧ b ∉ [3, 8, 9, 10, 13, 0x15, 0x1B]) ∧
    (∃ s : State, ∃ b : Nat, Runs s ∧ s.dev.tap.ir ≠ 0 ∧ b < 256 ∧ typing s.dev ∧ (let x := sess 0 s.dev; b = 10 ∧ x.cr = true)) ∧
    (∃ s : State, ∃ b : Nat, Runs s ∧ s.dev.tap.ir ≠ 0 ∧ b < 256 ∧ uartOpen s.dev ∧ (sess 0 s.dev).machine = true ∧ b ≠ 10 ∧ b ≠ 13 ∧
     (sess 0 s.dev).part.length < 1024) ∧
    (∃ s : State, Runs s ∧ s.dev.tap.ir ≠ 0 ∧ (typing s.dev ∨ (uartOpen s.dev ∧ (sess 0 s.dev).machine = true))) ∧
    (∃ s : State, Runs s ∧ s.dev.tap.ir = 0) ∧
    (∃ s : State, Runs s ∧ s.dev.tap.ir ≠ 0 ∧ (sess 0 s.dev).live = false) :=
  ⟨⟨(tySts.getD 3 up), 0x41, by decide +kernel⟩,
   ⟨(tySts.getD 2 up), 0x41, by decide +kernel⟩,
   ⟨(tySts.getD 6 up), 8, by decide +kernel⟩,
   ⟨(tySts.getD 3 up), 8, by decide +kernel⟩,
   ⟨(tySts.getD 1 up), 0x15, by decide +kernel⟩,
   ⟨(tySts.getD 6 up), 0x1B, by decide +kernel⟩,
   ⟨(tySts.getD 3 up), 1, by decide +kernel⟩,
   ⟨(tySts.getD 3 up), 10, by decide +kernel⟩,
   ⟨(tySts.getD 4 up), 9, by decide +kernel⟩,
   ⟨(tySts.getD 0 up), by decide +kernel⟩,
   ⟨(tySts.getD 7 up), by decide +kernel⟩,
   ⟨(tySts.getD 5 up), by decide +kernel⟩⟩

theorem wit_TypedAhead :
    (∃ s : State, ∃ b, Runs s ∧ s.dev.tap.ir ≠ 0 ∧ bipServed s.dev = true ∧ (sess 0 s.dev).live = true ∧ s.dev.bip.inBreak = false ∧
     (sess 0 s.dev).machine = false ∧ (sess 0 s.dev).outst ≠ [] ∧ (let x := sess 0 s.dev; 0x20 ≤ b ∧ b ≤ 0x7E ∧ x.ahead.length < 1024)) ∧
    (∃ s : State, ∃ b, Runs s ∧ s.dev.tap.ir ≠ 0 ∧ bipServed s.dev = true ∧ (sess 0 s.dev).live = true ∧ s.dev.bip.inBreak = false ∧
     (sess 0 s.dev).machine = false ∧ (sess 0 s.dev).outst ≠ [] ∧ (let x := sess 0 s.dev; 0x20 ≤ b ∧ b ≤ 0x7E ∧ 1024 ≤ x.ahead.length)) ∧
    (∃ s : State, Runs s ∧ s.dev.tap.ir ≠ 0 ∧ bipServed s.dev = true ∧ (sess 0 s.dev).live = true ∧ s.dev.bip.inBreak = false ∧
     (sess 0 s.dev).machine = false ∧ (sess 0 s.dev).outst ≠ [] ∧
     (let x := sess 0 s.dev; (let waiting := x.outst.find? fun o => o.obj != .output; (∃ o ∈ waiting, o.obj = .unit 16)))) ∧
    (∃ s : State, ∃ n, Runs s ∧ s.dev.tap.ir ≠ 0 ∧ bipServed s.dev = true ∧ (sess 0 s.dev).live = true ∧ s.dev.bip.inBreak = false ∧
     (sess 0 s.dev).machine = false ∧ (sess 0 s.dev).outst ≠ [] ∧
     (let x := sess 0 s.dev; (let waiting := x.outst.find? fun o => o.obj != .output; (∃ o ∈ waiting, o.obj = .remote n ∧ (s.dev.bip.remote.find? (fun c => c.sid == 0 && c.tag == o.tag)).isSome = true)))) ∧
    (∃ s : State, Runs s ∧ s.dev.tap.ir ≠ 0 ∧ bipServed s.dev = true ∧ (sess 0 s.dev).live = true ∧ s.dev.bip.inBreak = false ∧
     (sess 0 s.dev).machine = false ∧ (sess 0 s.dev).outst ≠ [] ∧
     (let x := sess 0 s.dev; (let waiting := x.outst.find? fun o => o.obj != .output; waiting = none ∧ x.ahead.length < 1024))) :=
  ⟨⟨(ahSts.getD 3 up), 0x41, by decide +kernel⟩,
   ⟨(ahSts.getD 1 up), 0x41, by decide +kernel⟩,
   ⟨(ahSts.getD 3 up), by decide +kernel⟩,
   ⟨(ahSts.getD 4 up), 9, by decide +kernel⟩,
   ⟨(ahSts.getD 0 up), by decide +kernel⟩⟩

theorem wit_TerminatorsTakeLines :
    (∃ s : State, Runs s ∧ s.dev.tap.ir ≠ 0 ∧ typing s.dev ∧ (sess 0 s.dev).cr = false) ∧
    (∃ s : State, Runs s ∧ s.dev.tap.ir = 0) ∧
    (∃ s : State, ∃ l : List Byte, Runs s ∧ bipServed s.dev = true ∧ s.dev.bip.chead = s.dev.bip.ctail ∧ s.dev.bip.ctail < 8192 ∧ l.length < 4096 ∧
     (∀ b ∈ l, b ≠ 10 ∧ b ≠ 13) ∧ uartBehind s = false) ∧
    (∃ s : State, ∃ l : List Byte, Runs s ∧ bipServed s.dev = true ∧ s.dev.bip.chead = s.dev.bip.ctail ∧ s.dev.bip.ctail < 8192 ∧ l.length < 4096 ∧
     (∀ b ∈ l, b ≠ 10 ∧ b ≠ 13) ∧ uartBehind s = true) ∧
    (∃ s : State, ∃ l : List Byte, Runs s ∧ 4096 < (s.dev.bip.chead + 8192 - s.dev.bip.ctail) % 8192 + (l.length + 1)) ∧
    (∃ s : State, ∃ i : Nat, ∃ l : List Byte, Runs s ∧ 2 ≤ i ∧
     (let x := sess i s.dev; (let j := s.dev.jetty; (let waits := x.live = true ∧ 1 ≤ l.length ∧ l.length ≤ 1024 ∧ (lineBehind s = true ∨ j.mgmtIn ≠ []); ¬ waits)))) ∧
    (∃ s : State, ∃ i : Nat, ∃ l : List Byte, Runs s ∧ 2 ≤ i ∧
     (let x := sess i s.dev; (let j := s.dev.jetty; (let waits := x.live = true ∧ 1 ≤ l.length ∧ l.length ≤ 1024 ∧ (lineBehind s = true ∨ j.mgmtIn ≠ []); waits)))) :=
  ⟨⟨((tySts ++ mailSts).getD 1 up), by decide +kernel⟩,
   ⟨((tySts ++ mailSts).getD 7 up), by decide +kernel⟩,
   ⟨((tySts ++ mailSts).getD 2 up), asc "hello", by decide +kernel⟩,
   ⟨lineBehindSt, asc "#a1 show gauge", by decide +kernel⟩,
   ⟨((tySts ++ mailSts).getD 10 up), asc "hello", by decide +kernel⟩,
   ⟨((tySts ++ mailSts).getD 1 up), 2, [], by decide +kernel⟩,
   ⟨{ (msSts.getD 2 up) with pending := [.lineTerminator 0 []] }, 2, asc "#a1 show gauge", by decide +kernel⟩⟩

theorem wit_LinesRunCommands :
    (∃ i : Nat, ∃ tag : String, ∃ verb : String, ∃ noun : String, ∃ args : List String, ∃ d : Dev, (sess i d).machine = true ∧ tagForm tag = true ∧
     (∀ t ∈ verb :: noun :: args, strayElem t = false) ∧ (∀ c ∈ verb.toList, c ≠ '@') ∧ (∃ l ∈ lineOf true verb noun args, l.e = 0)) ∧
    (∃ i : Nat, ∃ tag : String, ∃ verb : String, ∃ noun : String, ∃ args : List String, ∃ d : Dev, (sess i d).machine = true ∧ tagForm tag = true ∧
     (∀ t ∈ verb :: noun :: args, strayElem t = false) ∧ (∀ c ∈ verb.toList, c ≠ '@') ∧ lineOf true verb noun args = none) ∧
    (∃ i : Nat, ∃ l : List Byte, ∃ d : Dev, ∃ c, ∃ v, bipServed d = true ∧ (sess i d).live = true ∧ l.length ≤ 1024 ∧
     (∀ b ∈ l, 0x21 ≤ b.toNat ∧ b.toNat ≤ 0x7E ∨ b = 32) ∧ (∀ b ∈ l.head?, b ≠ 32 ∧ b ≠ 59) ∧ l.getLast? ≠ some 32 ∧ l ≠ [] ∧
     (let t := l.map fun b => Char.ofNat b.toNat; checkOf t = .code c v ∧ crc8 (textBytes (String.ofList c)) = BitVec.ofNat 8 v)) ∧
    (∃ i : Nat, ∃ l : List Byte, ∃ d : Dev, ∃ c, ∃ v, bipServed d = true ∧ (sess i d).live = true ∧ l.length ≤ 1024 ∧
     (∀ b ∈ l, 0x21 ≤ b.toNat ∧ b.toNat ≤ 0x7E ∨ b = 32) ∧ (∀ b ∈ l.head?, b ≠ 32 ∧ b ≠ 59) ∧ l.getLast? ≠ some 32 ∧ l ≠ [] ∧
     (let t := l.map fun b => Char.ofNat b.toNat; checkOf t = .code c v ∧ crc8 (textBytes (String.ofList c)) ≠ BitVec.ofNat 8 v)) ∧
    (∃ i : Nat, ∃ l : List Byte, ∃ d : Dev, bipServed d = true ∧ (sess i d).live = true ∧ l.length ≤ 1024 ∧
     (∀ b ∈ l, 0x21 ≤ b.toNat ∧ b.toNat ≤ 0x7E ∨ b = 32) ∧ (∀ b ∈ l.head?, b ≠ 32 ∧ b ≠ 59) ∧ l.getLast? ≠ some 32 ∧ l ≠ [] ∧
     (let t := l.map fun b => Char.ofNat b.toNat; checkOf t = .none ∧ (sess i d).crc = true)) ∧
    (∃ i : Nat, ∃ l : List Byte, ∃ d : Dev, bipServed d = true ∧ (sess i d).live = true ∧ l.length ≤ 1024 ∧
     (∀ b ∈ l, 0x21 ≤ b.toNat ∧ b.toNat ≤ 0x7E ∨ b = 32) ∧ (∀ b ∈ l.head?, b ≠ 32 ∧ b ≠ 59) ∧ l.getLast? ≠ some 32 ∧ l ≠ [] ∧
     (let t := l.map fun b => Char.ofNat b.toNat; checkOf t = .none ∧ (sess i d).crc = false)) ∧
    (∃ l : List Byte, (l = [] ∨ l.head? = some 59)) :=
  ⟨⟨0, "xyz", "show", "unit", ["16"], ((tySts ++ msSts ++ [withSess 1 { live := true, machine := true, crc := true }]).getD 4 up).dev, by decide +kernel, by decide +kernel, by decide +kernel, fun c h => bne_iff_ne.mp (List.all_eq_true.mp (show ("show".toList.all fun c => c != '@') = true by decide +kernel) c h), by decide +kernel⟩,
   ⟨0, "xyz", "set", "link", [], ((tySts ++ msSts ++ [withSess 1 { live := true, machine := true, crc := true }]).getD 4 up).dev, by decide +kernel, by decide +kernel, by decide +kernel, fun c h => bne_iff_ne.mp (List.all_eq_true.mp (show ("set".toList.all fun c => c != '@') = true by decide +kernel) c h), by decide +kernel⟩,
   ⟨0, (lnPool.getD 1 []), ((tySts ++ msSts ++ [withSess 1 { live := true, machine := true, crc := true }]).getD 6 up).dev, asc "#1 show gauge" |>.map fun b => Char.ofNat b.toNat, 0xBD, by decide +kernel⟩,
   ⟨0, (lnPool.getD 2 []), ((tySts ++ msSts ++ [withSess 1 { live := true, machine := true, crc := true }]).getD 7 up).dev, asc "#1 show gauge" |>.map fun b => Char.ofNat b.toNat, 0xBE, by decide +kernel⟩,
   ⟨1, (lnPool.getD 0 []), ((tySts ++ msSts ++ [withSess 1 { live := true, machine := true, crc := true }]).getD 13 up).dev, by decide +kernel⟩,
   ⟨0, (lnPool.getD 0 []), ((tySts ++ msSts ++ [withSess 1 { live := true, machine := true, crc := true }]).getD 0 up).dev, by decide +kernel⟩,
   ⟨(lnPool.getD 5 []), by decide +kernel⟩⟩

theorem wit_MailboxPointers :
    (∃ s : State, ∃ v : Nat, Runs s ∧ HostFree s ∧ (let b := s.dev.bip; 4096 < (v % 8192 + 8192 - b.ctail) % 8192)) ∧
    (∃ s : State, ∃ v : Nat, Runs s ∧ HostFree s ∧
     (let b := s.dev.bip; (v % 8192 + 8192 - b.ctail) % 8192 ≤ 4096 ∧ (bipServed s.dev = false ∨ uartBehind s = true))) ∧
    (∃ s : State, ∃ v : Nat, Runs s ∧ HostFree s ∧
     (let b := s.dev.bip; (v % 8192 + 8192 - b.ctail) % 8192 ≤ 4096 ∧ bipServed s.dev = true ∧ uartBehind s = false ∧ (∀ k, k < (v % 8192 + 8192 - b.ctail) % 8192 → tabGet (fun _ => (0 : Byte)) b.cmdRing ((b.ctail + k) % 4096) ≠ 10))) ∧
    (∃ s : State, ∃ v : Nat, Runs s ∧ HostFree s ∧ (let b := s.dev.bip; rspUsed b < (b.rhead + 131072 - v % 131072) % 131072)) ∧
    (∃ s : State, ∃ v : Nat, Runs s ∧ HostFree s ∧ (let b := s.dev.bip; (b.rhead + 131072 - v % 131072) % 131072 ≤ rspUsed b)) ∧
    (∃ s : State, Runs s ∧ HostFree s ∧ bipServed s.dev = false) :=
  ⟨⟨(mailSts.getD 3 up), 4196, by decide +kernel⟩,
   ⟨(mailSts.getD 3 up), 100000, by decide +kernel⟩,
   ⟨(mailSts.getD 4 up), 100000, by decide +kernel⟩,
   ⟨(mailSts.getD 1 up), 100000, by decide +kernel⟩,
   ⟨(mailSts.getD 3 up), 0, by decide +kernel⟩,
   ⟨(mailSts.getD 3 up), by decide +kernel⟩⟩

theorem wit_BreaksAndOutput :
    (∃ s : State, Runs s ∧ s.dev.tap.ir ≠ 0) ∧
    (∃ s : State, Runs s ∧ s.dev.tap.ir = 0) ∧
    (∃ s : State, Runs s ∧ (let b := s.dev.bip; b.inBreak = true)) ∧
    (∃ s : State, Runs s ∧ (let b := s.dev.bip; b.inBreak = false)) ∧
    (∃ s : State, ∃ n, Runs s ∧
     (let b := s.dev.bip; (let x := sess 0 s.dev; (let m := min n b.uartOut.length; x.outq = [] ∧ x.events = [] ∧ x.ahead = [] ∧ m = 0)))) ∧
    (∃ s : State, ∃ n, Runs s ∧
     (let b := s.dev.bip; (let x := sess 0 s.dev; (let m := min n b.uartOut.length; x.outq = [] ∧ x.events = [] ∧ x.ahead = [] ∧ 0 < m ∧ b.newBaud = [])))) ∧
    (∃ s : State, ∃ n, ∃ k, ∃ r, Runs s ∧
     (let b := s.dev.bip; (let x := sess 0 s.dev; (let m := min n b.uartOut.length; x.outq = [] ∧ x.events = [] ∧ x.ahead = [] ∧ 0 < m ∧ b.newBaud = [(k, r)] ∧ k ≤ m)))) ∧
    (∃ s : State, ∃ n, ∃ k, ∃ r, Runs s ∧
     (let b := s.dev.bip; (let x := sess 0 s.dev; (let m := min n b.uartOut.length; x.outq = [] ∧ x.events = [] ∧ x.ahead = [] ∧ 0 < m ∧ b.newBaud = [(k, r)] ∧ m < k)))) ∧
    (∃ s : State, ∃ i, Runs s ∧ i ≠ 0) :=
  ⟨⟨(brSts.getD 0 up), by decide +kernel⟩,
   ⟨(brSts.getD 3 up), by decide +kernel⟩,
   ⟨(brSts.getD 0 up), by decide +kernel⟩,
   ⟨(brSts.getD 3 up), by decide +kernel⟩,
   ⟨(brSts.getD 1 up), 0, by decide +kernel⟩,
   ⟨(brSts.getD 2 up), 2, by decide +kernel⟩,
   ⟨(brSts.getD 1 up), 2, 2, 9600, by decide +kernel⟩,
   ⟨(brSts.getD 1 up), 1, 2, 9600, by decide +kernel⟩,
   ⟨(brSts.getD 2 up), 2, by decide +kernel⟩⟩

theorem wit_MessagesArrive :
    (∃ s : State, ∃ b : List Byte, ∃ m : BipolMsg, Runs s ∧ spells b m ∧
     (let d := facing s; (let waits := lineBehind s = true ∨ d.jetty.mgmtIn ≠ []; waits))) ∧
    (∃ s : State, ∃ b : List Byte, ∃ m : BipolMsg, Runs s ∧ spells b m ∧
     (let d := facing s; (let here := m.dest = d.jetty.node; (let waits := lineBehind s = true ∨ d.jetty.mgmtIn ≠ []; ¬ here ∧ m.hops ≤ 1 ∧ ¬ waits)))) ∧
    (∃ s : State, ∃ b : List Byte, ∃ m : BipolMsg, Runs s ∧ spells b m ∧
     (let d := facing s; (let here := m.dest = d.jetty.node; (let waits := lineBehind s = true ∨ d.jetty.mgmtIn ≠ []; ¬ here ∧ 1 < m.hops ∧ ¬ waits)))) ∧
    (∃ s : State, ∃ b : List Byte, ∃ m : BipolMsg, Runs s ∧ spells b m ∧
     (let d := facing s; (let here := m.dest = d.jetty.node; (let waits := lineBehind s = true ∨ d.jetty.mgmtIn ≠ []; here ∧ (bipServed d = false ∨ ¬ wellMade b) ∧ ¬ waits)))) ∧
    (∃ s : State, ∃ b : List Byte, ∃ m : BipolMsg, Runs s ∧ spells b m ∧
     (let d := facing s; (let here := m.dest = d.jetty.node; (let waits := lineBehind s = true ∨ d.jetty.mgmtIn ≠ []; here ∧ bipServed d = true ∧ wellMade b ∧ m.type = 5 ∧ ¬ waits)))) ∧
    (∃ s : State, ∃ b : List Byte, ∃ m : BipolMsg, Runs s ∧ spells b m ∧
     (let d := facing s; (let here := m.dest = d.jetty.node; (let waits := lineBehind s = true ∨ d.jetty.mgmtIn ≠ []; here ∧ bipServed d = true ∧ wellMade b ∧ m.type = 2 ∧ (∃ c ∈ d.bip.remote.find? (fun c => c.sid == m.session && c.node == m.src && c.line == m.line), m.text.take 5 ≠ textBytes "end #" ∧ ¬ waits))))) ∧
    (∃ s : State, ∃ b : List Byte, ∃ m : BipolMsg, Runs s ∧ spells b m ∧
     (let d := facing s; (let here := m.dest = d.jetty.node; (let waits := lineBehind s = true ∨ d.jetty.mgmtIn ≠ []; here ∧ bipServed d = true ∧ wellMade b ∧ m.type = 2 ∧ (∃ c ∈ d.bip.remote.find? (fun c => c.sid == m.session && c.node == m.src && c.line == m.line), (let r : BRef := { sid := c.sid, tag := c.tag }; m.text.take 5 = textBytes "end #" ∧ waitsFor r (.remote c.node) d = true ∧ ¬ waits)))))) ∧
    (∃ s : State, ∃ b : List Byte, ∃ m : BipolMsg, Runs s ∧ spells b m ∧
     (let d := facing s; (let here := m.dest = d.jetty.node; (let waits := lineBehind s = true ∨ d.jetty.mgmtIn ≠ []; here ∧ bipServed d = true ∧ wellMade b ∧ m.type = 2 ∧ (∃ c ∈ d.bip.remote.find? (fun c => c.sid == m.session && c.node == m.src && c.line == m.line), (let r : BRef := { sid := c.sid, tag := c.tag }; m.text.take 5 = textBytes "end #" ∧ waitsFor r (.remote c.node) d = false ∧ ¬ waits)))))) ∧
    (∃ s : State, ∃ b : List Byte, ∃ m : BipolMsg, ∃ i, Runs s ∧ spells b m ∧
     (let d := facing s; (let here := m.dest = d.jetty.node; (let waits := lineBehind s = true ∨ d.jetty.mgmtIn ≠ []; here ∧ bipServed d = true ∧ wellMade b ∧ m.type = 1 ∧ 2 ≤ i ∧ i < 18 ∧ (sess i d).live = true ∧ (sess i d).node = m.src ∧ (sess i d).origin = m.session ∧ (∀ k < i, 2 ≤ k → ¬ ((sess k d).live = true ∧ (sess k d).node = m.src ∧ (sess k d).origin = m.session)) ∧ ¬ waits)))) ∧
    (∃ s : State, ∃ b : List Byte, ∃ m : BipolMsg, ∃ i, Runs s ∧ spells b m ∧
     (let d := facing s; (let here := m.dest = d.jetty.node; (let waits := lineBehind s = true ∨ d.jetty.mgmtIn ≠ []; here ∧ bipServed d = true ∧ wellMade b ∧ m.type = 1 ∧ (∀ k < 18, 2 ≤ k → ¬ ((sess k d).live = true ∧ (sess k d).node = m.src ∧ (sess k d).origin = m.session)) ∧ 2 ≤ i ∧ i < 18 ∧ (sess i d).live = false ∧ (∀ k < i, 2 ≤ k → (sess k d).live = true) ∧ ¬ waits)))) ∧
    (∃ s : State, ∃ b : List Byte, ∃ m : BipolMsg, Runs s ∧ spells b m ∧
     (let d := facing s; (let here := m.dest = d.jetty.node; here ∧ bipServed d = true ∧ wellMade b ∧ m.type = 1 ∧ (∀ k < 18, 2 ≤ k → ¬ ((sess k d).live = true ∧ (sess k d).node = m.src ∧ (sess k d).origin = m.session)) ∧ (∀ k < 18, 2 ≤ k → (sess k d).live = true)))) :=
  ⟨⟨{ (msSts.getD 2 up) with pending := [.lineTerminator 0 []] }, (bmList.getD 0 []), bmOf (bmList.getD 0 []), by decide +kernel⟩,
   ⟨(msSts.getD 2 up), ((bmList ++ [[1, 2]]).getD 1 []), (bmOf (bmList.getD 1 [])), by decide +kernel⟩,
   ⟨(msSts.getD 4 up), ((bmList ++ [[1, 2]]).getD 0 []), (bmOf (bmList.getD 0 [])), by decide +kernel⟩,
   ⟨(msSts.getD 2 up), ((bmList ++ [[1, 2]]).getD 7 []), (bmOf (bmList.getD 7 [])), by decide +kernel⟩,
   ⟨(msSts.getD 1 up), ((bmList ++ [[1, 2]]).getD 2 []), (bmOf (bmList.getD 2 [])), by decide +kernel⟩,
   ⟨(msSts.getD 1 up), ((bmList ++ [[1, 2]]).getD 3 []), (bmOf (bmList.getD 3 [])), by decide +kernel⟩,
   ⟨msSts.getD 0 up, (bmList.getD 4 []), (bmOf (bmList.getD 4 [])), by decide +kernel⟩,
   ⟨(msSts.getD 1 up), ((bmList ++ [[1, 2]]).getD 4 []), (bmOf (bmList.getD 4 [])), by decide +kernel⟩,
   ⟨(msSts.getD 2 up), ((bmList ++ [[1, 2]]).getD 5 []), (bmOf (bmList.getD 5 [])), 2, by decide +kernel⟩,
   ⟨(msSts.getD 0 up), ((bmList ++ [[1, 2]]).getD 5 []), (bmOf (bmList.getD 5 [])), 2, by decide +kernel⟩,
   ⟨(msSts.getD 3 up), ((bmList ++ [[1, 2]]).getD 5 []), (bmOf (bmList.getD 5 [])), by decide +kernel⟩⟩

theorem wit_RemoteTimers :
    (∃ s : State, ∃ i, Runs s ∧ (let d := s.dev; (let x := sess i d; (∃ o ∈ x.outst.head?, 2 ≤ i ∧ x.live = true ∧ due (x.keepAt + 9216000) d = true)))) ∧
    (∃ s : State, ∃ i, Runs s ∧ (let d := s.dev; (let x := sess i d; (x.outst = [] ∨ i < 2 ∨ x.live = false ∨ due (x.keepAt + 9216000) d = false)))) ∧
    (∃ s : State, ∃ r : BRef, Runs s ∧
     (let d := s.dev; (let of := d.bip.remote.find? fun c => c.sid == r.sid && c.tag == r.tag && due (c.heard + 92160000) d; of = none))) ∧
    (∃ s : State, ∃ r : BRef, Runs s ∧
     (let d := s.dev; (let of := d.bip.remote.find? fun c => c.sid == r.sid && c.tag == r.tag && due (c.heard + 92160000) d; (∃ c ∈ of, waitsFor r (.remote c.node) d = true)))) ∧
    (∃ s : State, ∃ r : BRef, Runs s ∧
     (let d := s.dev; (let of := d.bip.remote.find? fun c => c.sid == r.sid && c.tag == r.tag && due (c.heard + 92160000) d; (∃ c ∈ of, waitsFor r (.remote c.node) d = false)))) ∧
    (∃ s : State, ∃ i, Runs s ∧
     (let d := s.dev; (let x := sess i d; (let ended := 2 ≤ i ∧ i < 18 ∧ x.live = true ∧ x.outst = [] ∧ x.outq = [] ∧ due (x.lastEnd + 92160000) d = true; ended)))) ∧
    (∃ s : State, ∃ i, Runs s ∧
     (let d := s.dev; (let x := sess i d; (let ended := 2 ≤ i ∧ i < 18 ∧ x.live = true ∧ x.outst = [] ∧ x.outq = [] ∧ due (x.lastEnd + 92160000) d = true; ¬ ended)))) :=
  ⟨⟨(rtSts.getD 3 up), 3, by decide +kernel⟩,
   ⟨(rtSts.getD 1 up), 4, by decide +kernel⟩,
   ⟨(rtSts.getD 2 up), uart, by decide +kernel⟩,
   ⟨(rtSts.getD 0 up), { sid := 1, tag := "a1" }, by decide +kernel⟩,
   ⟨(rtSts.getD 1 up), { sid := 1, tag := "a1" }, by decide +kernel⟩,
   ⟨(rtSts.getD 3 up), 2, by decide +kernel⟩,
   ⟨(rtSts.getD 3 up), 3, by decide +kernel⟩⟩

theorem wit_SlotsRoundTrip :
    (∃ s : Slot, slotLegal s = true) ∧
    (∃ n : Nat, ∃ w : Nat, ∃ s : Slot, w < 2 ^ 64 ∧ slotDecode n w = .instr s ∧ s.res = false) :=
  ⟨⟨sl0, by decide +kernel⟩,
   ⟨2, (slotWord sl0), sl0, by decide +kernel⟩⟩

theorem wit_SlotWordsOfTheSpec : ∃ w, 0 < w ∧ w < 2 ^ 56 :=
  ⟨20, by decide +kernel⟩

theorem wit_TicksCount :
    (∃ d : Dev, (∃ st ∈ d.therm.pend, (let m := if st = .ice ∨ d.clk = .ice then 3000 else 24; spanEnd d % m = 0))) ∧
    (∃ d : Dev, (∃ st ∈ d.therm.pend, (let m := if st = .ice ∨ d.clk = .ice then 3000 else 24; spanEnd d % m ≠ 0))) ∧
    (∃ d : Dev, d.therm.pend = none) :=
  ⟨⟨(pendSts.getD 0 up).dev, by decide +kernel⟩,
   ⟨(pendSts.getD 1 up).dev, by decide +kernel⟩,
   ⟨upDup.dev, by decide +kernel⟩⟩

theorem wit_ResetLeaves : ∃ n, (let d := State.reset.dev; uPresent d.fuse.variant n = true ∧ n ∉ [0, 24, 98, 99]) :=
  ⟨5, by decide +kernel⟩

end Sys2Proof.Tests
end

section
/-!
SUPPORT. Messages (05 R104; 02 R33, R35), status bits and event counters (02 R31, R32), and the statement about events and clears.
-/
open Sys2Proof Sys2Proof.Machine Sys2Proof.Claims

namespace Sys2Proof.Machine
variable (b i v : Nat) (m : BitVec 8) (d : Dev)

/-! ### One message -/

/-- The boundary-scan register covers no message. -/
theorem emit_msix : emit (.msix v) d = { d with out := d.out ++ [.msix v] } := by
  simp [emit, scanBall]

/-- All that a message can do: nothing, leave the block, or wait in the PBA. -/
theorem sendMsix_cases :
    sendMsix v d = d ∨ sendMsix v d = { d with out := d.out ++ [.msix v] } ∨
    sendMsix v d = { d with host := { d.host with pba := tabSet (fun _ => false) d.host.pba v true } } := by
  unfold sendMsix
  split
  · exact .inl rfl
  · split
    · exact .inr (.inl (emit_msix v d))
    · exact .inr (.inr rfl)

theorem sendMsix_of_sends (h : Sends v d) : sendMsix v d = { d with out := d.out ++ [.msix v] } := by
  obtain ⟨hv, hen, hfn, hbme, hd3, hmask⟩ := h
  have hopen : vecOpen v d.host = true := by rw [vecOpen, hfn, hmask, hbme, hd3]; rfl
  simp [sendMsix, Nat.not_le.mpr hv, hen, hopen, emit_msix]

@[simp] theorem sendMsix_note : (sendMsix v d).note = d.note := by
  obtain h | h | h := sendMsix_cases v d <;> rw [h]

@[simp] theorem sendMsix_ctr : (sendMsix v d).ctr = d.ctr := by
  obtain h | h | h := sendMsix_cases v d <;> rw [h]

/-! ### The message of a block's source -/

/-- R35: the message of a masked source is discarded. -/
theorem noteMsg_out_of_masked (hm : tabGet (fun _ => false) d.imask (noteSrc b) = true) : (noteMsg b d).out = d.out := by
  simp [noteMsg, hm]

theorem noteMsg_out_of_sends (hs : Sends (512 + noteSrc b) d) (hm : tabGet (fun _ => false) d.imask (noteSrc b) = false) :
    (noteMsg b d).out = d.out ++ [.msix (512 + noteSrc b)] := by
  simp [noteMsg, hm, sendMsix_of_sends _ _ hs]

@[simp] theorem noteMsg_note : (noteMsg b d).note = d.note := by
  unfold noteMsg
  split
  · rfl
  · exact sendMsix_note _ d

@[simp] theorem noteMsg_ctr : (noteMsg b d).ctr = d.ctr := by
  unfold noteMsg
  split
  · rfl
  · exact sendMsix_ctr _ d

/-- Whatever every round keeps, the repetition keeps. -/
theorem forN_keeps {σ β : Type} (g : σ → β) (f : Nat → σ → σ) (h : ∀ i x, g (f i x) = g x) (n : Nat) (x : σ) :
    g (forN n f x) = g x := by
  induction n with
  | zero => rfl
  | succ n ih => exact (h n _).trans ih

@[simp] theorem noteGet_forN_noteMsg (n c : Nat) : noteGet c (forN n (fun _ => noteMsg b) d) = noteGet c d :=
  forN_keeps (noteGet c) _ (fun _ x => by rw [noteGet, noteMsg_note, noteGet]) n d

@[simp] theorem ctrGet_forN_noteMsg (n k : Nat) : ctrGet k (forN n (fun _ => noteMsg b) d) = ctrGet k d :=
  forN_keeps (ctrGet k) _ (fun _ x => by rw [ctrGet, noteMsg_ctr, ctrGet]) n d

/-! ### Status bits and counters -/

@[simp] theorem ctrGet_noteSet (k : Nat) (n : Note) : ctrGet k (noteSet b n d) = ctrGet k d := rfl

@[simp] theorem noteGet_ctrSet (k : Nat) (c : Ctr) : noteGet b (ctrSet k c d) = noteGet b d := rfl

/-- The bits whose setting sends a message: enabled, clear before, and no message sent for them in this tick (R33). -/
def newlySet (m : BitVec 8) (n : Note) : BitVec 8 := m &&& ~~~n.bits &&& n.en &&& ~~~n.msgd

/-- What the setting of bits leaves in their block. -/
def withSet (m : BitVec 8) (n : Note) : Note :=
  { n with bits := n.bits ||| m, sets := n.sets ||| m, msgd := n.msgd ||| newlySet m n }

theorem setBits_eq :
    setBits b m d = forN (popcount 8 (newlySet m (noteGet b d)).toNat) (fun _ => noteMsg b) (noteSet b (withSet m (noteGet b d)) d) := rfl

theorem noteGet_setBits_same : noteGet b (setBits b m d) = withSet m (noteGet b d) := by
  rw [setBits_eq, noteGet_forN_noteMsg, noteSet_same]

theorem noteGet_setBits_other {c : Nat} (h : c ≠ b) : noteGet c (setBits b m d) = noteGet c d := by
  rw [setBits_eq, noteGet_forN_noteMsg, noteSet_other _ _ _ h]

@[simp] theorem ctrGet_setBits (k : Nat) : ctrGet k (setBits b m d) = ctrGet k d := by
  rw [setBits_eq, ctrGet_forN_noteMsg, ctrGet_noteSet]

/-- R31: what the clearing of bits leaves in their block; a bit set in this tick stays. -/
theorem noteGet_clearBits_same :
    (noteGet b (clearBits b m d)).bits = (noteGet b d).bits &&& ~~~(m &&& ~~~(noteGet b d).sets) ∧
    (noteGet b (clearBits b m d)).en = (noteGet b d).en := by
  simp [clearBits]

theorem noteGet_clearBits_other {c : Nat} (h : c ≠ b) : noteGet c (clearBits b m d) = noteGet c d := by
  simp [clearBits, noteSet_other _ _ _ h]

theorem ctrGet_bump_same (k : Nat) : ctrGet k (bump k d) = { ctrGet k d with fresh := (ctrGet k d).fresh + 1 } :=
  ctrSet_same d k _

theorem ctrGet_bump_other {j k : Nat} (h : j ≠ k) : ctrGet j (bump k d) = ctrGet j d :=
  ctrSet_other d k _ h

/-! ### One event -/

theorem ofNat_two_pow_eq_twoPow (w i : Nat) : BitVec.ofNat w (2 ^ i) = BitVec.twoPow w i := by
  rw [BitVec.toNat_eq, BitVec.toNat_ofNat, BitVec.toNat_twoPow]

/-- A single bit is newly set whole or not at all. -/
theorem newlySet_twoPow (n : Note) :
    newlySet (BitVec.twoPow 8 i) n =
      if (~~~n.bits &&& n.en &&& ~~~n.msgd).getLsbD i then BitVec.twoPow 8 i else 0#8 := by
  rw [newlySet, BitVec.and_assoc, BitVec.and_assoc, ← BitVec.and_assoc (~~~n.bits), BitVec.twoPow_and]

theorem popcount_twoPow (h : i < 8) : popcount 8 (BitVec.twoPow 8 i).toNat = 1 := by
  have all : ∀ i < 8, popcount 8 (BitVec.twoPow 8 i).toNat = 1 := by decide
  exact all i h

/-- R33: an event of bit `i` sends one message where the bit is enabled and was clear, and none elsewhere. -/
theorem raise_eq (h : i < 8) :
    raise b i d =
      let n := noteGet b d
      let e := noteSet b (withSet (BitVec.twoPow 8 i) n) (bump (16 * b + i) d)
      if n.en.getLsbD i && !n.bits.getLsbD i && !n.msgd.getLsbD i then noteMsg b e else e := by
  have hfire (n : Note) : (~~~n.bits &&& n.en &&& ~~~n.msgd).getLsbD i = (n.en.getLsbD i && !n.bits.getLsbD i && !n.msgd.getLsbD i) := by
    simp [h, Bool.and_comm]
  have hnote : noteGet b (bump (16 * b + i) d) = noteGet b d := rfl
  simp only [raise, ofNat_two_pow_eq_twoPow, setBits_eq, newlySet_twoPow, hfire, hnote]
  split
  · rw [popcount_twoPow i h]; rfl
  · rfl

theorem raise_bits (h : i < 8) (j : Nat) :
    (noteGet b (raise b i d)).bits.getLsbD j = ((noteGet b d).bits.getLsbD j || j == i) := by
  rw [raise, noteGet_setBits_same, ofNat_two_pow_eq_twoPow, withSet, BitVec.getLsbD_or, BitVec.getLsbD_twoPow]
  simp [h, bump, bumpBy, Bool.beq_eq_decide_eq, eq_comm]

theorem raise_en : (noteGet b (raise b i d)).en = (noteGet b d).en := by
  rw [raise, noteGet_setBits_same]; rfl

theorem noteGet_raise_other {c : Nat} (h : c ≠ b) : noteGet c (raise b i d) = noteGet c d :=
  noteGet_setBits_other b _ _ h

theorem ctrGet_raise_same :
    ctrGet (16 * b + i) (raise b i d) = { ctrGet (16 * b + i) d with fresh := (ctrGet (16 * b + i) d).fresh + 1 } := by
  rw [raise, ctrGet_setBits, ctrGet_bump_same]

theorem ctrGet_raise_other {k : Nat} (h : k ≠ 16 * b + i) : ctrGet k (raise b i d) = ctrGet k d := by
  rw [raise, ctrGet_setBits, ctrGet_bump_other _ h]

/-- The message of an event leaves where its source's messages do. -/
theorem raise_out_of_sends (h : i < 8) (hs : Sends (512 + noteSrc b) d) (hm : tabGet (fun _ => false) d.imask (noteSrc b) = false) :
    (raise b i d).out = d.out ++
      (if (noteGet b d).en.getLsbD i && !(noteGet b d).bits.getLsbD i && !(noteGet b d).msgd.getLsbD i then [.msix (512 + noteSrc b)] else []) := by
  rw [raise_eq b i d h]
  dsimp only
  split
  · exact noteMsg_out_of_sends b _ hs hm
  · exact (List.append_nil _).symm

/-- R35: an event of a masked source sends nothing. -/
theorem raise_out_of_masked (h : i < 8) (hm : tabGet (fun _ => false) d.imask (noteSrc b) = true) : (raise b i d).out = d.out := by
  rw [raise_eq b i d h]
  dsimp only
  split
  · exact noteMsg_out_of_masked b _ hm
  · rfl

/-! ### A counter's own read (R32) -/

/-- It returns the count before its tick's events, 65,535 at most, and takes that count away. -/
theorem rcnt_eq (k : Nat) : rcnt k d = some (min 65535 (ctrGet k d).old, ctrSet k { ctrGet k d with old := 0 } d) := rfl

/-- After a tick in which it was read, a counter holds the events of that tick alone. -/
theorem ctrFold_of_read (c : Ctr) : ctrFold { c with old := 0 } = { old := min 0xFFFFFFFF c.fresh, fresh := 0 } := by
  rw [ctrFold, Nat.zero_add]

end Sys2Proof.Machine

theorem Sys2Proof.Claims.eventsSetAndCount : EventsSetAndCount := fun b i d hi =>
  ⟨raise_bits b i d hi, raise_en b i d, fun _ hc => noteGet_raise_other b i d hc, ctrGet_raise_same b i d,
   fun _ hk => ctrGet_raise_other b i d hk, raise_out_of_sends b i d hi, raise_out_of_masked b i d hi,
   fun k => ⟨rcnt_eq d k, rfl, ctrFold_of_read _⟩⟩

theorem Sys2Proof.Claims.clearsYieldToSets : ClearsYieldToSets := by
  intro b m d
  obtain ⟨hbits, hen⟩ := noteGet_clearBits_same b m d
  refine ⟨fun i hi => ?_, hen, fun c hc => noteGet_clearBits_other b m d hc⟩
  simp [hbits, hi]

/-- Settles O24: the two parts, events and clears. -/
theorem eventsAndClears : Obligations.EventsAndClears := by
  unfold Obligations.EventsAndClears
  exact ⟨eventsSetAndCount, clearsYieldToSets⟩
end

section
/-!
SUPPORT. A host read that takes effect at once (02 R28, R30), the Gauge's registers (02 R24), and the statement about them.
-/
open Sys2Proof Sys2Proof.Machine Sys2Proof.Claims

namespace Sys2Proof.Machine
variable (q a n : Nat) (w : Bool) (d : Dev) (s : State)

/-! ### Accesses -/

theorem hostDo_of_free (x : HostAcc) (f : Dev → Dev) (h : d.host.acc = []) : hostDo x f d = f d := by
  simp [hostDo, h]

/-- A read within one register gives that register whole, with its side effects. -/
theorem bar0Read_one {v : Nat} {e : Dev} (hr : hostReaches d = true) (hn : 0 < n) (hin : a % 4 + n ≤ 4) (ha : a < 0x4000000)
    (h : regRead (a / 4 * 4) d = some (v, e)) : bar0Read a n d = emit (.regs [BitVec.ofNat 32 v]) e := by
  have hcount : (a + n - 1) / 4 + 1 - a / 4 = 1 := by omega
  have hsize : ¬ 0x4000000 < a + n := by omega
  simp [bar0Read, hr, Nat.ne_of_gt hn, hsize, hcount, readRegs, h]

/-- An aligned 8-byte read gives two registers, the second as the first's read leaves it. -/
theorem bar0Read_two {v v' : Nat} {e e' : Dev} (hr : hostReaches d = true) (ha : a + 8 ≤ 0x4000000) (h4 : a % 4 = 0)
    (h : regRead a d = some (v, e)) (h' : regRead (a + 4) e = some (v', e')) :
    bar0Read a 8 d = emit (.regs [BitVec.ofNat 32 v, BitVec.ofNat 32 v']) e' := by
  have hcount : (a + 8 - 1) / 4 + 1 - a / 4 = 2 := by omega
  have hbase : a / 4 * 4 = a := by omega
  rw [bar0Read, if_neg (by simp [hr, ha]), hcount, hbase]
  simp [readRegs, h, h']

/-! ### GLB_GAUGE_LO and GLB_GAUGE_HI -/

/-- What requester `q` last latched. -/
def held : W32 := tabGet (fun _ => 0) d.hold q

@[simp] theorem held_latched : held q (latched q d) = gaugeHigh d := tabGet_tabSet_same _ _ _ _

theorem gaugeLo_eq : gaugeLo q d = (now d % 4294967296, latched q d) := rfl

theorem ofNat_now_mod : BitVec.ofNat 32 (now d % 4294967296) = gaugeLow d := by
  simp [gaugeLow, now, BitVec.toNat_eq]

theorem regRead_gaugeLo : regRead 8 d = some (now d % 4294967296, latched 0 d) := rfl

theorem regRead_gaugeHi : regRead 12 d = some ((held 0 d).toNat, d) := by
  have h : regRead 12 d = rval (held 0 d).toNat d := rfl
  rw [h, rval, Nat.mod_eq_of_lt (held 0 d).isLt]

theorem gaugeRead_hi (hq : q ≠ 0) : gaugeRead q w true d = emit (.regs [held q d]) d := by
  simp [gaugeRead, hq, held]

theorem gaugeRead_narrow (hq : q ≠ 0) : gaugeRead q false false d = emit (.regs [gaugeLow d]) (latched q d) := by
  simp [gaugeRead, hq, gaugeLo_eq, ofNat_now_mod]

theorem gaugeRead_wide (hq : q ≠ 0) : gaugeRead q true false d = emit (.regs [gaugeLow d, gaugeHigh d]) (latched q d) := by
  have h : gaugeRead q true false d = emit (.regs [BitVec.ofNat 32 (now d % 4294967296), held q (latched q d)]) (latched q d) := if_neg hq
  rw [h, ofNat_now_mod, held_latched]

/-- The host reads GLB_GAUGE_HI, whole, by an access of any bytes of it. -/
theorem bar0Read_gaugeHi {i n : Nat} (hr : hostReaches d = true) (hn : 0 < n) (hin : i + n ≤ 4) :
    bar0Read (12 + i) n d = emit (.regs [held 0 d]) d := by
  have hbase : (12 + i) / 4 * 4 = 12 := by omega
  have h := bar0Read_one (12 + i) n d hr hn (by omega) (by omega) (by rw [hbase]; exact regRead_gaugeHi d)
  rwa [BitVec.ofNat_toNat, BitVec.setWidth_eq] at h

theorem gaugeRead_host_hi (hr : hostReaches d = true) : gaugeRead 0 w true d = emit (.regs [held 0 d]) d :=
  bar0Read_gaugeHi (i := 0) d hr (by decide) (by decide)

theorem gaugeRead_host_narrow (hr : hostReaches d = true) :
    gaugeRead 0 false false d = emit (.regs [gaugeLow d]) (latched 0 d) := by
  rw [← ofNat_now_mod]
  exact bar0Read_one 8 4 d hr (by decide) (by decide) (by decide) (regRead_gaugeLo d)

theorem gaugeRead_host_wide (hr : hostReaches d = true) :
    gaugeRead 0 true false d = emit (.regs [gaugeLow d, gaugeHigh d]) (latched 0 d) := by
  have h := bar0Read_two 8 d hr (by decide) (by decide) (regRead_gaugeLo d) (regRead_gaugeHi (latched 0 d))
  rwa [held_latched, ofNat_now_mod, BitVec.ofNat_toNat, BitVec.setWidth_eq] at h

/-! ### The commands -/

/-- A command that acts on a running part. -/
theorem runLive_of_runs (f : Dev → Dev) (h : Runs s) : runLive f s = after s (f s.dev) := runLive_running f s h

/-- A requester other than the host waits for nobody. -/
theorem exec_gaugeLoRead_direct (hi : Bool) (h : Runs s) (hq : q ≠ 0) :
    exec (.gaugeLoRead q w hi) s = after s (gaugeRead q w hi s.dev) := by
  have hexec : exec (.gaugeLoRead q w hi) s = execGaugeLoRead q w hi s := rfl
  rw [hexec, execGaugeLoRead, runLive_of_runs s _ h, if_neg hq]

/-- The host's read takes effect at once where every access before it has. -/
theorem exec_gaugeLoRead_host (hi : Bool) (h : Runs s) (hf : HostFree s) :
    exec (.gaugeLoRead 0 w hi) s = after s (gaugeRead 0 w hi s.dev) := by
  have hexec : exec (.gaugeLoRead 0 w hi) s = execGaugeLoRead 0 w hi s := rfl
  rw [hexec, execGaugeLoRead, runLive_of_runs s _ h, if_pos rfl, hostDo_of_free _ _ _ hf]

theorem exec_rcFieldRead_host (h : Runs s) (hf : HostFree s) : exec (.rcFieldRead a n) s = after s (bar0Read a n s.dev) := by
  have hexec : exec (.rcFieldRead a n) s = execRcFieldRead a n s := rfl
  rw [hexec, execRcFieldRead, runLive_of_runs s _ h, hostAccess, hostDo_of_free _ _ _ hf, hostAct]

end Sys2Proof.Machine

/-- Settles O21: the reads of a requester that is not the host, those of the host, and the reset. -/
theorem gaugeReadsLatch : Obligations.GaugeReadsLatch := by
  unfold Obligations.GaugeReadsLatch
  intro s q w h
  refine ⟨fun hq => ⟨?_, ?_, ?_⟩, fun hr hf => ⟨?_, ?_, ?_, fun i n hn hin => ?_⟩, rfl⟩
  · rw [exec_gaugeLoRead_direct q _ s _ h hq, gaugeRead_narrow q _ hq]
  · rw [exec_gaugeLoRead_direct q _ s _ h hq, gaugeRead_wide q _ hq]
  · rw [exec_gaugeLoRead_direct q _ s _ h hq, gaugeRead_hi q _ _ hq, held]
  · rw [exec_gaugeLoRead_host _ s _ h hf, gaugeRead_host_narrow _ hr]
  · rw [exec_gaugeLoRead_host _ s _ h hf, gaugeRead_host_wide _ hr]
  · rw [exec_gaugeLoRead_host _ s _ h hf, gaugeRead_host_hi _ _ hr, held]
  · rw [exec_rcFieldRead_host _ _ s h hf, bar0Read_gaugeHi _ hr hn hin, held]
end

section
/-!
SUPPORT. Bipol sessions with nothing to send, and what leaves on the UART (04 R76 to R78): the break, its end, and the rates that wait for bytes; and the
statement about them.
-/
open Sys2Proof Sys2Proof.Machine Sys2Proof.Claims

namespace Sys2Proof.Machine
variable (i : Nat) (d : Dev)

/-! ### A session's place in the block -/

/-- Of two writes of a number the second stands, where the first left an entry. -/
theorem tabSet_tabSet {α : Type} [DecidableEq α] (x : Nat → α) (t : Tab α) (k : Nat) {v : α} (w : α) (hv : v ≠ x k) :
    tabSet x (tabSet x t k v) k w = tabSet x t k w := by
  induction t with
  | nil => by_cases hw : w = x k <;> simp [tabSet, tabDrop, hv, hw]
  | cons e t ih =>
    obtain ⟨j, a⟩ := e
    rcases Nat.lt_trichotomy k j with h | h | h
    · simp [tabSet, tabDrop, h, hv, Nat.ne_of_gt h]
    · subst h
      simp [tabSet, hv]
    · simp [tabSet, Nat.not_lt_of_lt h, Nat.ne_of_gt h, ih]

/-- A live session is written over by the next write of its number. -/
theorem sessSet_sessSet_of_live {x : Session} (y : Session) (h : x.live = true) : sessSet i y (sessSet i x d) = sessSet i y d := by
  have hne : x ≠ {} := by rintro rfl; cases h
  have htab : tabSet (fun _ => ({} : Session)) (tabSet (fun _ => {}) d.bip.sess i x) i y = tabSet (fun _ => {}) d.bip.sess i y :=
    tabSet_tabSet _ _ _ _ hne
  simp only [sessSet, htab]

theorem sess_of_bip_sess {d e : Dev} (h : e.bip.sess = d.bip.sess) : sess i e = sess i d := by
  rw [sess, h, sess]

/-! ### Sessions with nothing to send -/

theorem pump_idle (hq : (sess i d).outq = []) (hev : (sess i d).events = []) : pump i d = d := by
  simp [pump, hq, hev, pumpN, pumpEv]

theorem aheadFeed_idle (h : (sess 0 d).ahead = []) : aheadFeed d = d := by
  rw [aheadFeed, h]; rfl

theorem say_of_live {ls : List OutLine} (h : (sess i d).live = true) :
    say i ls d = pump i (sessSet i { sess i d with outq := (sess i d).outq ++ ls } d) := by
  simp [say, h]

/-- What a session with nothing to send is given to send: nothing. -/
theorem say_nil (h : (sess i d).live = true) (hq : (sess i d).outq = []) (hev : (sess i d).events = []) :
    say i [] d = sessSet i (sess i d) d := by
  rw [say_of_live i d h, List.append_nil, pump_idle] <;> simp [hq, hev]

/-! ### Breaks and output on the UART (R76 to R78) -/

theorem emit_uart (b : List Byte) : emit (.uart b) d = onBall (.uart b) d := by
  simp [emit, onBall, scanBall]

/-- The block once the first `m` bytes have left the output buffer, at rate `baud` with the rates `l` to come. -/
def uartLeft (m baud : Nat) (l : List (Nat × Nat)) (d : Dev) : Dev :=
  onBall (.uart (d.bip.uartOut.take m)) (withBip { d.bip with uartOut := d.bip.uartOut.drop m, baud := baud, newBaud := l } d)

theorem onBall_bip (o : Out) : (onBall o d).bip = d.bip := by
  unfold onBall; split <;> rfl

/-- What leaves the output buffer is no part of a session. -/
@[simp] theorem sess_uartLeft (m baud : Nat) (l : List (Nat × Nat)) : sess i (uartLeft m baud l d) = sess i d :=
  sess_of_bip_sess i (by rw [uartLeft, onBall_bip]; rfl)

theorem uartSent_none {n : Nat} (h : min n d.bip.uartOut.length = 0) : uartSent n d = d := by
  simp only [uartSent, if_pos h]

/-- The rate in force is the last of those that waited for bytes that have left; the others wait for fewer. -/
theorem uartSent_some {n m : Nat} (hm : min n d.bip.uartOut.length = m) (h : 0 < m) :
    uartSent n d = uartLeft m (((d.bip.newBaud.filter fun x => decide (x.1 ≤ m))).foldl (fun _ x => x.2) d.bip.baud)
      ((d.bip.newBaud.filter fun x => decide (m < x.1)).map fun x => (x.1 - m, x.2)) d := by
  simp only [uartSent, hm, if_neg (Nat.ne_of_gt h), emit_uart]
  rfl

theorem uartSent_same_rate {n m : Nat} (hm : min n d.bip.uartOut.length = m) (h : 0 < m) (hb : d.bip.newBaud = []) :
    uartSent n d = uartLeft m d.bip.baud [] d := by
  rw [uartSent_some d hm h, hb]; rfl

theorem uartSent_new_rate {n m k r : Nat} (hm : min n d.bip.uartOut.length = m) (h : 0 < m) (hb : d.bip.newBaud = [(k, r)]) (hk : k ≤ m) :
    uartSent n d = uartLeft m r [] d := by
  rw [uartSent_some d hm h, hb]; simp [hk, Nat.not_lt.mpr hk]

theorem uartSent_rate_waits {n m k r : Nat} (hm : min n d.bip.uartOut.length = m) (h : 0 < m) (hb : d.bip.newBaud = [(k, r)]) (hk : m < k) :
    uartSent n d = uartLeft m d.bip.baud [(k - m, r)] d := by
  rw [uartSent_some d hm h, hb]; simp [hk, Nat.not_le.mpr hk]

/-- Where the UART session holds nothing back, returning room lets the bytes go and no more. -/
theorem roomResume_idle {n : Nat} {e : Dev} (he : uartSent n d = e) (hs : sess 0 e = sess 0 d) (hq : (sess 0 d).outq = [])
    (hev : (sess 0 d).events = []) (ha : (sess 0 d).ahead = []) : roomResume 0 n d = settle e := by
  rw [← hs] at hq hev ha
  rw [roomResume, if_pos rfl, he, pump_idle 0 e hq hev, aheadFeed_idle e ha]

theorem uartBreak_eq : uartBreak d = sessSet 0 { live := true } (withBip
    { d.bip with baud := 115200, newBaud := [], inBreak := true, remote := d.bip.remote.filter fun c => decide (c.sid ≠ 0) } d) := by
  have hfilter : (fun c : RemoteCmd => c.sid != 0) = fun c => decide (c.sid ≠ 0) := by
    funext c; rw [bne, Bool.beq_eq_decide_eq, decide_not]
  simp only [uartBreak, dropRemote, hfilter]
  rfl

/-! ### The commands -/

variable (s : State)

theorem exec_uartBreak (h : Runs s) : exec .uartBreak s = after s (if ballsSeen s.dev then uartBreak s.dev else s.dev) :=
  runLive_of_runs s _ h

theorem exec_breakEndPrompt (h : Runs s) : exec .breakEndPrompt s = after s (breakEnd s.dev) := runLive_of_runs s _ h

theorem exec_outputRoomResume (n : Nat) (h : Runs s) : exec (.outputRoomResume i n) s = after s (roomResume i n s.dev) :=
  runLive_of_runs s _ h

end Sys2Proof.Machine

/-- Settles O10: the break, its end, and what returning room lets go, by the rates that wait. -/
theorem breaksAndOutput : Obligations.BreaksAndOutput := by
  unfold Obligations.BreaksAndOutput
  intro s h b
  refine ⟨fun hir => ?_, fun hir => ?_, fun hb => ?_, fun hb => ?_, ?_, fun i n hi => ?_⟩
  · rw [exec_uartBreak s h, if_pos (by simp [ballsSeen, hir]), uartBreak_eq]
  · rw [exec_uartBreak s h, if_neg (by simp [ballsSeen, hir])]
  · rw [exec_breakEndPrompt s h, breakEnd, if_pos hb]; rfl
  · rw [exec_breakEndPrompt s h, breakEnd, if_neg (Bool.eq_false_iff.mp hb)]
  · intro n x m left hq hev ha
    have resumes {e : Dev} (he : uartSent n s.dev = e) (hs : sess 0 e = sess 0 s.dev) :
        exec (.outputRoomResume 0 n) s = after s (settle e) := by
      rw [exec_outputRoomResume 0 s n h, roomResume_idle s.dev he hs hq hev ha]
    refine ⟨fun hm => ?_, fun hm hb => ?_, fun k r hm hb hk => ?_, fun k r hm hb hk => ?_⟩
    · exact resumes (uartSent_none s.dev hm) rfl
    · exact resumes (uartSent_same_rate s.dev rfl hm hb) (sess_uartLeft ..)
    · exact resumes (uartSent_new_rate s.dev rfl hm hb hk) (sess_uartLeft ..)
    · exact resumes (uartSent_rate_waits s.dev rfl hm hb hk) (sess_uartLeft ..)
  · rw [exec_outputRoomResume i s n h, roomResume, if_neg hi]
end

section
/-!
SUPPORT. Commands and their responses (04 R69 to R74, R77, R79): how a command starts, the order of the responses, what a response with room does on the UART
and on the mailbox, and the statement about them.
-/
open Sys2Proof Sys2Proof.Machine Sys2Proof.Claims

namespace Sys2Proof.Machine
variable (i : Nat) (r : BRef) (word : Option String) (body : List String) (d : Dev)

/-! ### The start of a command (R69, R70) -/

theorem sess_begun_same : sess r.sid (begun r d) =
    { sess r.sid d with lines := ((sess r.sid d).lines + 1) % 65536,
                        outst := (sess r.sid d).outst ++ [{ tag := r.tag, obj := .output, line := (sess r.sid d).oline }] } := by
  simp [begun, countLine]

theorem sess_begun_other {i : Nat} (h : i ≠ r.sid) : sess i (begun r d) = sess i d := by
  rw [begun, sessSet_other _ _ _ h, countLine, sessSet_other _ _ _ h]

/-- In machine mode a line whose tag is well formed counts, and then its tag and the number of commands decide. -/
theorem bcmd_machine (f : Dev → Dev) (hs : bipServed d = true) (hl : (sess r.sid d).live = true) (hm : (sess r.sid d).machine = true)
    (ht : tagForm r.tag = true) :
    bcmd r f d =
      let refuse := fun w => sayNext r.sid (respLines r none (some w) [] (countLine r.sid d)) (countLine r.sid d)
      if (sess r.sid d).outst.any (fun o => o.tag == r.tag) then refuse "dup"
      else if 32 ≤ (sess r.sid d).outst.length then refuse "full"
      else f (begun r d) := by
  simp [bcmd, hs, hl, hm, ht, begun]

/-- In typed mode a command starts where none is outstanding. -/
theorem bcmd_typed (f : Dev → Dev) (hs : bipServed d = true) (hl : (sess r.sid d).live = true) (hm : (sess r.sid d).machine = false)
    (ho : (sess r.sid d).outst = []) : bcmd r f d = f (begun r d) := by
  simp [bcmd, hs, hl, hm, ho, begun]

theorem any_tag_eq_false {os : List Outst} {t : String} (h : ∀ o ∈ os, o.tag ≠ t) : os.any (fun o => o.tag == t) = false :=
  List.any_eq_false.mpr fun o ho => by simpa using h o ho

theorem bcmd_taken (f : Dev → Dev) (h : Taken r d) : bcmd r f d = f (begun r d) := by
  obtain ⟨hs, hl, hmode⟩ := h
  cases hm : (sess r.sid d).machine with
  | false =>
    rw [if_neg (by simp [hm])] at hmode
    exact bcmd_typed r d f hs hl hm hmode
  | true =>
    rw [if_pos hm] at hmode
    obtain ⟨htag, hnew, hroom⟩ := hmode
    simp [bcmd_machine r d f hs hl hm htag, any_tag_eq_false hnew, Nat.not_le.mpr hroom]

/-! ### The order of the responses (R74) -/

theorem owedReady_waiting {o : Owed} (os : List Owed) (h : o.lines = none) : owedReady (o :: os) = ([], o :: os) := by
  obtain ⟨t, l⟩ := o; cases h; rfl

theorem owedReady_complete {o : Owed} (os : List Owed) {ls : List OutLine} (h : o.lines = some ls) :
    owedReady (o :: os) = (ls ++ (owedReady os).1, (owedReady os).2) := by
  obtain ⟨t, l⟩ := o; cases h; rfl

/-- Nothing leaves from an order of responses that all wait. -/
theorem owedReady_all_waiting {os : List Owed} (h : ∀ p ∈ os, p.lines = none) : owedReady os = ([], os) := by
  cases os with
  | nil => rfl
  | cons o os => exact owedReady_waiting os (h o (List.mem_cons_self ..))

variable {t : String} (ls : List OutLine)

/-- A response to no tag that is owed comes last. -/
theorem owedFill_absent {os : List Owed} (h : ∀ p ∈ os, p.tag ≠ t) : owedFill t ls os = os ++ [⟨"", some ls⟩] := by
  induction os with
  | nil => rfl
  | cons o os ih =>
    have ho : o.tag ≠ t := h o (List.mem_cons_self ..)
    rw [owedFill, if_neg (by simp [ho]), ih fun p hp => h p (List.mem_cons_of_mem o hp), List.cons_append]

theorem owedFill_skip {o : Owed} (os : List Owed) (h : o.tag ≠ t) : owedFill t ls (o :: os) = o :: owedFill t ls os := by
  rw [owedFill, if_neg (by simp [h])]

theorem owedFill_front (os : List Owed) : owedFill t ls (⟨t, none⟩ :: os) = ⟨t, some ls⟩ :: os := by
  simp [owedFill]

/-- A response that is owed takes its own place. -/
theorem length_owedFill {os : List Owed} (h : ∃ p ∈ os, p.tag = t ∧ p.lines = none) : (owedFill t ls os).length = os.length := by
  induction os with
  | nil => simp at h
  | cons o os ih =>
    obtain ⟨p, hp, ht, hl⟩ := h
    rw [owedFill]
    split
    · rfl
    · next hno =>
      have hpo : p ≠ o := by rintro rfl; simp [ht, hl] at hno
      rw [List.length_cons, List.length_cons, ih ⟨p, (List.mem_cons.mp hp).resolve_left hpo, ht, hl⟩]

/-- The command has an object to wait for, so that its response is not held to the order. -/
abbrev WaitsForObject (t : String) (s : Session) : Prop := ∃ o ∈ s.outst, o.tag = t ∧ o.obj ≠ .output

theorem any_waits_iff (t : String) (os : List Outst) :
    os.any (fun o => o.tag == t && o.obj != .output) = true ↔ ∃ o ∈ os, o.tag = t ∧ o.obj ≠ .output := by
  simp

/-- A response with nothing before it, or to a command that waits, is sent. -/
theorem respond_at_once (h : (sess r.sid d).order = [] ∨ WaitsForObject r.tag (sess r.sid d)) :
    respond r word body d = say r.sid (respLines r (some r.tag) word body d) d := by
  have hcond : ((sess r.sid d).order.isEmpty || (sess r.sid d).outst.any fun o => o.tag == r.tag && o.obj != .output) = true := by
    rw [Bool.or_eq_true, List.isEmpty_iff, any_waits_iff]
    exact h
  simp only [respond, if_pos hcond]

/-- Any other response is given to the order. -/
theorem respond_in_order (hne : (sess r.sid d).order ≠ []) (hw : ∀ o ∈ (sess r.sid d).outst, o.tag = r.tag → o.obj = .output) :
    respond r word body d = oweSet r.sid (owedFill r.tag (respLines r (some r.tag) word body d) (sess r.sid d).order) d := by
  have hcond : ¬ ((sess r.sid d).order.isEmpty || (sess r.sid d).outst.any fun o => o.tag == r.tag && o.obj != .output) = true := by
    rw [Bool.or_eq_true, List.isEmpty_iff, any_waits_iff]
    rintro (h | ⟨o, ho, ht, hobj⟩)
    · exact hne h
    · exact hobj (hw o ho ht)
  simp only [respond, if_neg hcond]

theorem oweSet_eq {os : List Owed} {ready : List OutLine} {rest : List Owed} (h : owedReady os = (ready, rest)) :
    oweSet i os d = say i ready (sessSet i { sess i d with order := rest } d) := by
  simp only [oweSet, h]

/-- While the front waits nothing leaves, and the order alone moves. -/
theorem oweSet_waiting {o : Owed} (os : List Owed) (ho : o.lines = none) (hl : (sess i d).live = true) (hq : (sess i d).outq = [])
    (hev : (sess i d).events = []) : oweSet i (o :: os) d = sessSet i { sess i d with order := o :: os } d := by
  rw [oweSet_eq i d (owedReady_waiting os ho), say_nil] <;> simp [hl, hq, hev, sessSet_sessSet_of_live]

/-! ### A run of lines with room (R70, R77, R79) -/

/-- The commands outstanding once a line has been sent. -/
def freed (l : OutLine) (os : List Outst) : List Outst :=
  match l.ends with
  | none => os
  | some t => os.filter fun o => o.tag != t

theorem sess_endTag (l : OutLine) : sess i (endTag i l d) = { sess i d with outst := freed l (sess i d).outst } := by
  unfold endTag freed
  split <;> simp_all

/-- The commands outstanding once lines have been sent. -/
def freedAll (ls : List OutLine) (os : List Outst) : List Outst := ls.foldl (fun os l => freed l os) os

theorem freedAll_append (ls ms : List OutLine) (os : List Outst) : freedAll (ls ++ ms) os = freedAll ms (freedAll ls os) := List.foldl_append

/-- Lines that end no command leave all outstanding. -/
theorem freedAll_of_ends_none {ls : List OutLine} {os : List Outst} (h : ∀ l ∈ ls, l.ends = none) : freedAll ls os = os := by
  induction ls with
  | nil => rfl
  | cons l ls ih =>
    have hl : freed l os = os := by rw [freed, h l (List.mem_cons_self ..)]
    rw [freedAll, List.foldl_cons, hl]
    exact ih fun k hk => h k (List.mem_cons_of_mem l hk)

/-- Lines of session `i` that satisfy `P` with the block go out one by one: the front one has room, sending it leaves the session alone, and the rest satisfies `P`
with what it leaves; `P` says nothing of the session itself. -/
structure HasRoom (i : Nat) (P : List OutLine → Dev → Prop) : Prop where
  sends : ∀ {l ls d}, P (l :: ls) d → ∃ d', sendOut i l d = some d' ∧ sess i d' = sess i d ∧ P ls d'
  sessSet : ∀ {ls d} (s : Session), P ls d → P ls (sessSet i s d)

theorem HasRoom.endTag {P : List OutLine → Dev → Prop} (hP : HasRoom i P) {d : Dev} (l : OutLine) (h : P ls d) : P ls (endTag i l d) := by
  unfold Machine.endTag
  split
  · exact h
  · exact hP.sessSet _ h

/-- All of a session's output leaves where it has room, each line ending its command. -/
theorem pumpN_all {P : List OutLine → Dev → Prop} (hP : HasRoom i P) (hq : (sess i d).outq = ls) (h : P ls d) :
    P [] (pumpN ls.length i d) ∧
    sess i (pumpN ls.length i d) = { sess i d with outq := [], outst := freedAll ls (sess i d).outst } := by
  induction ls generalizing d with
  | nil => exact ⟨h, by rw [List.length_nil, pumpN, freedAll, List.foldl_nil, ← hq]⟩
  | cons l ls ih =>
    obtain ⟨d', hsend, hsess, hrest⟩ := hP.sends h
    let e := endTag i l (sessSet i { sess i d' with outq := ls } d')
    have hstep : pumpN (l :: ls).length i d = pumpN ls.length i e := by
      simp only [List.length_cons, pumpN, hq, hsend, e]
    have he : sess i e = { sess i d with outq := ls, outst := freed l (sess i d).outst } := by
      rw [sess_endTag, sessSet_same, hsess]
    obtain ⟨hdone, hlast⟩ := ih e (by rw [he]) (hP.endTag _ _ _ (hP.sessSet _ hrest))
    rw [hstep]
    exact ⟨hdone, by rw [hlast, he]; rfl⟩

theorem say_all {P : List OutLine → Dev → Prop} (hP : HasRoom i P) (hl : (sess i d).live = true) (hq : (sess i d).outq = [])
    (hev : (sess i d).events = []) (h : P ls d) :
    P [] (say i ls d) ∧ sess i (say i ls d) = { sess i d with outst := freedAll ls (sess i d).outst } := by
  let e := sessSet i { sess i d with outq := ls } d
  have hsay : say i ls d = pump i e := by rw [say_of_live i d hl, hq, List.nil_append]
  have he : sess i e = { sess i d with outq := ls } := sessSet_same ..
  obtain ⟨hdone, hlast⟩ := pumpN_all i e ls hP (by rw [he]) (hP.sessSet _ h)
  have hpump : pump i e = pumpN ls.length i e := by
    simp [pump, hlast, he, hev, pumpEv]
  rw [hsay, hpump]
  exact ⟨hdone, by simp [hlast, he, hq]⟩

/-! ### The lines of a response (R67, R68, R71) -/

/-- The tag as it stands in the lines of a response. -/
def tagText (t : String) : String := if t = "" then "" else " #" ++ t

theorem space_hash (x : String) : " " ++ ("#" ++ x) = " #" ++ x := by
  rw [← String.append_assoc]; rfl

theorem spaced_tag (w t : String) : spaced (w :: if t = "" then [] else ["#" ++ t]) = w ++ tagText t := by
  by_cases h : t = ""
  · simp [spaced, tagText, h]
  · simp [spaced, tagText, h, String.append_assoc, space_hash]

theorem spaced_tag_word (w t v : String) : spaced (w :: ((if t = "" then [] else ["#" ++ t]) ++ [v])) = w ++ tagText t ++ " " ++ v := by
  by_cases h : t = ""
  · simp [spaced, tagText, h]
  · simp [spaced, tagText, h, String.append_assoc, space_hash]

/-- The first line of a response. -/
def firstText (t : String) : Option String → String
  | none => "ok" ++ tagText t
  | some w => "err" ++ tagText t ++ " " ++ w

/-- The line that ends a response, or in typed mode the prompt. -/
def lastText (r : BRef) (s : Session) : String := if s.machine then sessLine r.sid s ("end" ++ tagText r.tag) else "hg> "

/-- A response: its lines end no command and set no rate, and the last ends its own. -/
theorem respLines_shape : ∃ n, respLines r (some r.tag) word body d =
    (firstText r.tag word :: body).map (fun t => { text := sessLine r.sid (sess r.sid d) t, line := n }) ++
      [{ text := lastText r (sess r.sid d), ends := some r.tag, line := n }] := by
  cases word <;> cases hm : (sess r.sid d).machine <;>
    simp only [respLines, hm, firstText, lastText, spaced_tag, spaced_tag_word, prompt, List.cons_append, List.nil_append, if_true, Bool.false_eq_true, if_false] <;>
    exact ⟨_, rfl⟩

/-- The bytes of lines as they are sent. -/
def outBytes (ls : List OutLine) : List Byte := ls.flatMap fun l => textBytes l.text

@[simp] theorem outBytes_cons (l : OutLine) : outBytes (l :: ls) = textBytes l.text ++ outBytes ls := rfl

theorem responseBytes_eq (s : Session) : responseBytes r word body s =
    (firstText r.tag word :: body).flatMap (fun t => textBytes (sessLine r.sid s t)) ++ textBytes (lastText r s) := by
  rw [lastText, apply_ite textBytes]
  cases word <;> rfl

theorem outBytes_respLines : outBytes (respLines r (some r.tag) word body d) = responseBytes r word body (sess r.sid d) := by
  obtain ⟨n, h⟩ := respLines_shape r word body d
  rw [h, responseBytes_eq, outBytes, List.flatMap_append, List.flatMap_map, List.flatMap_singleton]

theorem freed_respLines (os : List Outst) :
    freedAll (respLines r (some r.tag) word body d) os = os.filter fun o => o.tag != r.tag := by
  obtain ⟨n, h⟩ := respLines_shape r word body d
  have hfirst : ∀ l ∈ (firstText r.tag word :: body).map (fun t => ({ text := sessLine r.sid (sess r.sid d) t, line := n } : OutLine)), l.ends = none :=
    List.forall_mem_map.mpr fun _ _ => rfl
  rw [h, freedAll_append, freedAll_of_ends_none hfirst]
  rfl

theorem baud_respLines {l : OutLine} (h : l ∈ respLines r (some r.tag) word body d) : l.baud = none := by
  obtain ⟨n, hshape⟩ := respLines_shape r word body d
  rw [hshape, List.mem_append, List.mem_map, List.mem_singleton] at h
  obtain ⟨_, _, rfl⟩ | rfl := h <;> rfl

/-! ### The UART (R77) -/

/-- The lines `ls` fit into the output buffer, which holds `total` after them, and the block is `d0` but for the UART session and that buffer. -/
structure UartRoom (total : List Byte) (d0 : Dev) (ls : List OutLine) (d : Dev) : Prop where
  noRate : ∀ l ∈ ls, l.baud = none
  room : d.bip.uartOut.length + (outBytes ls).length ≤ 65536
  sent : d.bip.uartOut ++ outBytes ls = total
  others : ∀ j, j ≠ 0 → sess j d = sess j d0
  frame : d = { d0 with bip := d.bip }

theorem sendOut_uart {l : OutLine} (hb : l.baud = none) (hroom : d.bip.uartOut.length + (textBytes l.text).length ≤ 65536) :
    sendOut 0 l d = some (withBip { d.bip with uartOut := d.bip.uartOut ++ textBytes l.text } d) := by
  simp [sendOut, hroom, hb, withBip]

theorem hasRoom_uart (total : List Byte) (d0 : Dev) : HasRoom 0 (UartRoom total d0) where
  sends {l ls d} h := by
    obtain ⟨hrate, hroom, hsent, hothers, hframe⟩ := h
    rw [outBytes_cons, List.length_append] at hroom
    refine ⟨_, sendOut_uart d (hrate l (List.mem_cons_self ..)) (by omega), rfl, fun k hk => hrate k (List.mem_cons_of_mem l hk), ?_, ?_, hothers, ?_⟩
    · simp only [withBip, List.length_append]; omega
    · rw [← hsent, outBytes_cons, ← List.append_assoc]; rfl
    · rw [hframe]; rfl
  sessSet {ls d} s h := by
    obtain ⟨hrate, hroom, hsent, hothers, hframe⟩ := h
    refine ⟨hrate, hroom, hsent, fun j hj => ?_, ?_⟩
    · rw [sessSet_other _ _ _ hj, hothers j hj]
    · rw [hframe]; rfl

/-! ### The mailbox (R79) -/

@[simp] theorem sendMsix_bip (v : Nat) : (sendMsix v d).bip = d.bip := by
  obtain h | h | h := sendMsix_cases v d <;> rw [h]

@[simp] theorem noteMsg_bip (b : Nat) : (noteMsg b d).bip = d.bip := by
  unfold noteMsg
  split
  · rfl
  · exact sendMsix_bip d _

/-- A notice is no part of Bipol's state. -/
@[simp] theorem raise_bip (b k : Nat) : (raise b k d).bip = d.bip := by
  rw [raise, setBits_eq, forN_keeps Dev.bip _ fun _ x => noteMsg_bip x b]
  rfl

/-- The ring holds 65,536 bytes: an offset counts by its remainder. -/
theorem rspWrite_congr {o p : Nat} (bs : List Byte) (m : Mem) (h : o % 65536 = p % 65536) : rspWrite m o bs = rspWrite m p bs := by
  induction bs generalizing m o p with
  | nil => rfl
  | cons b bs ih => rw [rspWrite, rspWrite, h, ih (p := p + 1) _ (by omega)]

theorem rspWrite_append (as bs : List Byte) (m : Mem) (o : Nat) :
    rspWrite m o (as ++ bs) = rspWrite (rspWrite m o as) (o + as.length) bs := by
  induction as generalizing m o with
  | nil => rfl
  | cons a as ih => rw [List.cons_append, rspWrite, rspWrite, ih, List.length_cons, Nat.add_right_comm, Nat.add_assoc]

/-- The lines `ls` fit into the response ring, which after them is `ring` with RHEAD at `head`. -/
structure MailRoom (head : Nat) (ring : Mem) (ls : List OutLine) (d : Dev) : Prop where
  room : rspUsed d.bip + (outBytes ls).length ≤ 65536
  rhead_lt : d.bip.rhead < 131072
  rtail_lt : d.bip.rtail < 131072
  moved : (d.bip.rhead + (outBytes ls).length) % 131072 = head
  written : rspWrite d.bip.rspRing d.bip.rhead (outBytes ls) = ring

/-- The mailbox's state with bytes written at RHEAD. -/
def mailPut (bs : List Byte) (b : Bipol) : Bipol :=
  { b with rspRing := rspWrite b.rspRing b.rhead bs, rhead := (b.rhead + bs.length) % 131072 }

theorem mailPut_rhead (bs : List Byte) (b : Bipol) : (mailPut bs b).rhead = (b.rhead + bs.length) % 131072 := rfl

theorem sendOut_mail {l : OutLine} (hroom : rspUsed d.bip + (textBytes l.text).length ≤ 65536) :
    sendOut 1 l d = some (raise 200 0 (withBip (mailPut (textBytes l.text) d.bip) d)) := by
  simp [sendOut, hroom, withBip, mailPut]

theorem rspUsed_mailPut {b : Bipol} {bs : List Byte} (hroom : rspUsed b + bs.length ≤ 65536) (hh : b.rhead < 131072) (ht : b.rtail < 131072) :
    rspUsed (mailPut bs b) = rspUsed b + bs.length := by
  simp only [rspUsed, mailPut] at *
  omega

theorem hasRoom_mail (head : Nat) (ring : Mem) : HasRoom 1 (MailRoom head ring) where
  sends {l ls d} h := by
    obtain ⟨hroom, hhead, htail, hmoved, hwritten⟩ := h
    rw [outBytes_cons, List.length_append] at hroom hmoved
    have hl : rspUsed d.bip + (textBytes l.text).length ≤ 65536 := by omega
    have hbip : (raise 200 0 (withBip (mailPut (textBytes l.text) d.bip) d)).bip = mailPut (textBytes l.text) d.bip := raise_bip ..
    refine ⟨_, sendOut_mail d hl, sess_of_bip_sess 1 (by rw [hbip]; rfl), ?_, ?_, ?_, ?_, ?_⟩ <;> rw [hbip]
    · rw [rspUsed_mailPut hl hhead htail]; omega
    · exact Nat.mod_lt _ (by decide)
    · exact htail
    · rw [← hmoved, mailPut_rhead]; omega
    · rw [← hwritten, outBytes_cons, rspWrite_append]
      exact rspWrite_congr _ _ (by rw [mailPut_rhead]; omega)
  sessSet s h := ⟨h.room, h.rhead_lt, h.rtail_lt, h.moved, h.written⟩

/-- A response that is sent at once and has room: its command is outstanding no longer, and the transport has taken its lines. -/
theorem respond_all {P : List OutLine → Dev → Prop} (hP : HasRoom r.sid P) (hl : (sess r.sid d).live = true) (hq : (sess r.sid d).outq = [])
    (hev : (sess r.sid d).events = []) (hord : (sess r.sid d).order = [] ∨ WaitsForObject r.tag (sess r.sid d))
    (h : P (respLines r (some r.tag) word body d) d) :
    P [] (respond r word body d) ∧
    sess r.sid (respond r word body d) = { sess r.sid d with outst := (sess r.sid d).outst.filter fun o => o.tag != r.tag } := by
  rw [respond_at_once r word body d hord, ← freed_respLines r word body d]
  exact say_all r.sid d _ hP hl hq hev h

end Sys2Proof.Machine

theorem Sys2Proof.Claims.commandStarts : CommandStarts := by
  intro r f d h
  rw [sess_begun_same]
  exact ⟨bcmd_taken r d f h, rfl, by simp, rfl, rfl, fun i hi => sess_begun_other r d hi, rfl⟩

theorem Sys2Proof.Claims.dupAndFull : DupAndFull := by
  intro r f d hs hl hm ht
  rw [bcmd_machine r d f hs hl hm ht]
  refine ⟨fun hdup => ?_, fun hnew hfull => ?_⟩
  · exact if_pos (by simpa using hdup)
  · simp only [any_tag_eq_false hnew, Bool.false_eq_true, if_false, if_pos hfull]

theorem Sys2Proof.Claims.responsesKeepTheirOrder : ResponsesKeepTheirOrder := by
  refine ⟨?_, fun r word body d h => respond_at_once r word body d (.inr h)⟩
  intro r word body d hl hq hev s ls hw
  have inOrder {o : Owed} {os : List Owed} (h : s.order = o :: os) : respond r word body d = oweSet r.sid (owedFill r.tag ls (o :: os)) d := by
    rw [← h]
    exact respond_in_order r word body d (by rw [h]; simp) hw
  refine ⟨fun o os h ho hnew => ?_, fun o os h ho hne howed => ?_, fun o os h ho hwait => ?_, fun o p os ms h ho hp hwait => ?_⟩
  · rw [inOrder h, ← h, owedFill_absent ls hnew, h, List.cons_append]
    exact oweSet_waiting r.sid d _ ho hl hq hev
  · refine ⟨owedFill r.tag ls os, ?_, length_owedFill ls howed⟩
    rw [inOrder h, owedFill_skip ls os hne]
    exact oweSet_waiting r.sid d _ ho hl hq hev
  · rw [inOrder h, ho, owedFill_front]
    refine oweSet_eq r.sid d ?_
    rw [owedReady_complete os rfl, owedReady_all_waiting hwait, List.append_nil]
  · rw [inOrder h, ho, owedFill_front]
    refine oweSet_eq r.sid d ?_
    rw [owedReady_complete _ rfl, owedReady_complete os hp, owedReady_all_waiting hwait, List.append_nil]

theorem Sys2Proof.Claims.uartResponse : UartResponse := by
  intro tag word body d r s hl hq hev hord hroom
  have start : UartRoom (d.bip.uartOut ++ responseBytes r word body s) d (respLines r (some r.tag) word body d) d :=
    ⟨fun l hmem => baud_respLines r word body d hmem, by rwa [outBytes_respLines], by rw [outBytes_respLines], fun _ _ => rfl, rfl⟩
  obtain ⟨⟨_, _, hsent, hothers, hframe⟩, hsess⟩ := respond_all r word body d (hasRoom_uart _ d) hl hq hev hord start
  exact ⟨(List.append_nil _).symm.trans hsent, hsess, hothers, hframe⟩

theorem Sys2Proof.Claims.mailboxResponse : MailboxResponse := by
  intro tag word body d r s hl _ hq hev hord hroom hhead htail
  have start : MailRoom ((d.bip.rhead + (responseBytes r word body s).length) % 131072) (rspWrite d.bip.rspRing d.bip.rhead (responseBytes r word body s))
      (respLines r (some r.tag) word body d) d :=
    ⟨by rwa [outBytes_respLines], hhead, htail, by rw [outBytes_respLines], by rw [outBytes_respLines]⟩
  obtain ⟨⟨_, hlt, _, hmoved, hwritten⟩, hsess⟩ := respond_all r word body d (hasRoom_mail _ _) hl hq hev hord start
  exact ⟨(Nat.mod_eq_of_lt hlt).symm.trans hmoved, hwritten, hsess⟩

/-- Settles O7: the five parts, from the start of a command to the bytes of its response. -/
theorem commandsStartAndEnd : Obligations.CommandsStartAndEnd := by
  unfold Obligations.CommandsStartAndEnd
  exact ⟨commandStarts, dupAndFull, responsesKeepTheirOrder, uartResponse, mailboxResponse⟩
end

section
/-!
SUPPORT. A word of one slot on a Longavel core that is ready (12 R248 to R250, 13 R276): when it is legal, when it raises, what a control slot makes of the
core; the causes of exceptions (12 R255, R257, R258, 13 R278), the replies of a batch at RET (12 R267, R269), BUDGET (12 R258), and the statement about them.
-/
open Sys2Proof Sys2Proof.Machine Sys2Proof.Claims

namespace Sys2Proof.Machine
variable (c err : Nat) (k r : Core) (sl : Slot) (i : Instr) (d : Dev) (s : State)

/-! ### Numbers -/

theorem ofLe_lt (l : List Byte) : ofLe l < 256 ^ l.length := by
  induction l with
  | nil => simp [ofLe]
  | cons b bs ih =>
    have hb : b.toNat < 256 := b.isLt
    simp only [ofLe, List.length_cons, Nat.pow_succ]
    omega

theorem fieldLe_lt (l : List Byte) (off n : Nat) : fieldLe l off n < 256 ^ n :=
  Nat.lt_of_lt_of_le (ofLe_lt _) (Nat.pow_le_pow_right (by decide) (List.length_take_le _ _))

/-- A code section's size is a 4-byte field of the header, or the kernel's 32 KiB. -/
theorem codeSize_lt : codeSize k < 2 ^ 64 := by
  have hfield := fieldLe_lt (runSlot k).hdr 8 4
  unfold codeSize
  split <;> omega

theorem low_of_nonneg_lt {x : Int} {w : Nat} (h0 : 0 ≤ x) (h : x < 2 ^ w) : low w x = x.toNat := by
  unfold low
  rw [Int.emod_eq_of_lt h0 h]

theorem low_toNat (v : W64) : low 64 (v.toNat : Int) = v.toNat :=
  low_of_nonneg_lt (by omega) (by exact_mod_cast v.isLt)

/-! ### A core's place in the block -/

theorem onlyCore_trans {r' : Core} {d0 d1 d2 : Dev} (h : OnlyCore c r d0 d1) (h' : OnlyCore c r' d1 d2) : OnlyCore c r' d0 d2 := by
  obtain ⟨_, hother, hframe⟩ := h
  obtain ⟨hcore', hother', hframe'⟩ := h'
  refine ⟨hcore', fun j hj => (hother' j hj).trans (hother j hj), ?_⟩
  rw [hframe', hframe]

theorem onlyCore_coreSetC : OnlyCore c r d (coreSetC c r d) :=
  ⟨coreSetC_same d c r, fun _ hj => coreSetC_other d c r hj, rfl⟩

theorem coreMod_of_core {f : Core → Core} (h : core c d = r) : coreMod c f d = coreSetC c (f r) d := by
  rw [coreMod, h]

/-- The block with core `c` written back as it stands: what a whole word issues on. -/
def rewritten : Dev := coreSetC c (lcore c d) d

theorem onlyCore_rewritten : OnlyCore c (lcore c d) d (rewritten c d) := onlyCore_coreSetC c _ d

@[simp] theorem core_rewritten : core c (rewritten c d) = lcore c d := coreSetC_same d c _

/-! ### A word of one slot: its encoding and its guard -/

/-- A lone slot makes its word illegal exactly where it is not legal itself. -/
theorem wordIllegal_lone : wordIllegal [sl] = if slotLegal sl then none else some sl.slot := by
  have hguard : decide (8 ≤ sl.gp) = !decide (sl.gp < 8) := (decide_eq_decide.mpr Nat.not_lt.symm).trans (decide_not ..)
  have hbad : (sl.res || !(lopSlots sl.op).contains sl.slot || !lopFieldsOk sl.op || decide (8 ≤ sl.gp)) = !slotLegal sl := by
    simp only [hguard, slotLegal, Bool.not_and, Bool.not_not]
    ac_rfl
  simp only [wordIllegal, List.filter_cons, List.filter_nil, List.any_cons, List.any_nil, bne_self_eq_false, Bool.false_and, Bool.or_false, hbad]
  cases slotLegal sl <;> rfl

theorem slot_lt_of_legal (h : slotLegal sl = true) : sl.slot < 8 := by
  simp only [slotLegal, Bool.and_eq_true, List.contains_eq_mem, decide_eq_true_eq] at h
  obtain ⟨⟨⟨hmem, _⟩, _⟩, _⟩ := h
  have hall : ∀ n ∈ lopSlots sl.op, n < 8 := by cases sl.op <;> simp [lopSlots]
  exact hall _ hmem

/-- Searching numbers in order finds what one number alone gives. -/
theorem findSome?_range_one {α : Type} (x : Option α) (j n : Nat) :
    ((List.range n).findSome? fun m => if j = m then x else none) = if j < n then x else none := by
  induction n with
  | zero => rfl
  | succ n ih =>
    rw [List.range_succ, List.findSome?_append, ih]
    rcases Nat.lt_trichotomy j n with h | h | h
    · simp [h, Nat.ne_of_lt h, Nat.lt_succ_of_lt h]
    · simp [h]
    · simp [Nat.not_lt_of_gt h, Nat.ne_of_gt h, Nat.not_lt_of_le (Nat.succ_le_of_lt h)]

/-- The exception of a lone slot that acts is its word's. -/
theorem wordExc_lone (hn : sl.slot < 8) (ha : slotActs k sl = true) :
    wordExc c k [sl] d = (slotExc c k sl d).map fun x => (sl.slot, x.1, x.2) := by
  have hone (m : Nat) : (([sl].find? fun t => t.slot == m).bind fun t =>
      if slotActs k t = true then (slotExc c k t d).map fun x => (m, x.1, x.2) else none) =
      if sl.slot = m then (slotExc c k sl d).map fun x => (sl.slot, x.1, x.2) else none := by
    by_cases h : sl.slot = m
    · simp [h, ha]
    · simp [h]
  simp only [wordExc, hone, findSome?_range_one, if_pos hn]

theorem slotActs_of_guard (h : pRead sl.gp k ≠ sl.gs) : slotActs k sl = true := by
  simpa [slotActs] using h

/-- The block's other parts decide whether a slot raises; of the cores, only what `k` gives. -/
theorem slotExc_rewritten : slotExc c k sl (rewritten c d) = slotExc c k sl d := by
  obtain ⟨n, gp, gs, res, op⟩ := sl
  cases op <;> rfl

/-! ### A word of one slot: how it issues -/

theorem core_eq_of_asm_nil (h : k.asm = []) : { k with asm := [] } = k := by
  rw [← h]

/-- A ready core issues a slot as a whole word, where it is illegal or its unit accepts it. -/
theorem longSlot_lone (h : CoreReady c s) (hgo : slotLegal sl = false ∨ wordWaits c (lcore c s.dev) [sl] s.dev = false) :
    longSlot c sl false err s.dev = issueWord c err [sl] (rewritten c s.dev) := by
  simp only [CoreReady, lcore] at h hgo
  obtain ⟨_, hserves, hwait, htile, hfault, _, hasm, hheld, hissued, _⟩ := h
  have hidle : coreWaits (core c s.dev) = false := by simp [coreWaits, hwait, htile]
  have hcan : canIssue c [sl] s.dev = true := by
    rcases hgo with h | h <;> simp [canIssue, hidle, hissued, wordIllegal_lone, h]
  have hword : (core c s.dev).asm.filter (fun t => t.slot != sl.slot) ++ [sl] = [sl] := by simp [hasm]
  simp only [longSlot, hword]
  rw [if_neg (by simp [hserves, hfault]), if_neg (by decide), if_pos (by simp [hheld, hcan])]
  exact congrArg (fun k => issueWord c err [sl] (coreSetC c k s.dev)) (core_eq_of_asm_nil _ hasm)

section
variable {c k sl d} (hk : core c d = k)
include hk

/-- An illegal slot raises ILLEGAL before anything else of its word (12 R258). -/
theorem issueWord_illegal (h : slotLegal sl = false) : issueWord c err [sl] d = longExc c 1 sl.slot 0 k.pc d := by
  simp only [issueWord, wordIllegal_lone, h, hk, Bool.false_eq_true, if_false]

/-- The exception of a slot that acts is raised. -/
theorem issueWord_raises {cause info : Nat} (hl : slotLegal sl = true) (hpc : k.pc < codeSize k) (hw : wordWaits c k [sl] d = false)
    (ha : slotActs k sl = true) (hx : slotExc c k sl d = some (cause, info)) :
    issueWord c err [sl] d = longExc c cause sl.slot info k.pc d := by
  simp only [issueWord, wordIllegal_lone, hl, hk, Nat.not_le_of_lt hpc, hw, wordExc_lone c k sl d (slot_lt_of_legal sl hl) ha, hx, Option.map_some,
    Bool.false_eq_true, if_true, if_false]

/-- A control slot that acts and raises nothing makes of the core what `doControl` says; a RET that waits for nothing ends the batch. -/
theorem issueWord_control {o : CtlOp} {a : Nat} {off : Int} (hop : sl.op = .ctl o a off) (hl : slotLegal sl = true) (hpc : k.pc < codeSize k)
    (ha : slotActs k sl = true) (hx : slotExc c k sl d = none) :
    issueWord c err [sl] d =
      (let r := doControl sl.op k (stepped k)
       if (r.ret && !coreWaits r) = true then batchReturn c (coreSetC c r d) else coreSetC c r d) := by
  have hw : wordWaits c k [sl] d = false := by simp [wordWaits, hop]
  simp only [issueWord, wordIllegal_lone, hl, hk, Nat.not_le_of_lt hpc, hw, wordExc_lone c k sl d (slot_lt_of_legal sl hl) ha, hx, Option.map_none,
    Bool.false_eq_true, if_true, if_false, ha, List.filter_cons, List.filter_nil, List.foldl_cons, List.foldl_nil, hop, doVector, doScalar, doMem,
    doTile, doStream, stepped]

end

/-! ### A word of one slot as a command -/

/-- The command `i` gives core `c`, which is ready, the acting slot `sl` as a whole word. -/
structure GivesLone : Prop where
  ready : CoreReady c s
  acts : slotActs (lcore c s.dev) sl = true
  isSlot : exec i s = runLive (longCmd c sl false err) s

theorem givesLone_of_issues {gp : Nat} {gs : Bool} (n : Nat) (op : LOp) (h : Issues c gp gs s)
    (hi : exec i s = runLive (longCmd c ⟨n, gp, gs, false, op⟩ false err) s) : GivesLone c err ⟨n, gp, gs, false, op⟩ i s := by
  obtain ⟨hready, _, hguard⟩ := h
  exact ⟨hready, slotActs_of_guard _ _ hguard, hi⟩

section
variable {c err sl i s} (h : GivesLone c err sl i s)
include h

theorem GivesLone.pc_lt : (lcore c s.dev).pc < codeSize (lcore c s.dev) := by
  obtain ⟨_, _, _, _, _, _, _, _, _, hpc⟩ := h.ready
  exact hpc

/-- The slot acts, and what follows an event comes after it. -/
theorem GivesLone.exec_eq : exec i s = after s (settle (longSlot c sl false err s.dev)) := by
  obtain ⟨hruns, _⟩ := h.ready
  exact h.isSlot.trans (runLive_of_runs s _ hruns)

theorem GivesLone.raises_illegal (hill : slotLegal sl = false) : Raises i c s 1 sl.slot 0 := by
  refine ⟨_, h.exec_eq, rewritten c s.dev, onlyCore_rewritten c s.dev, ?_⟩
  rw [longSlot_lone c err sl s h.ready (.inl hill), issueWord_illegal err (core_rewritten c s.dev) hill]

theorem GivesLone.raises {cause info : Nat} (hl : slotLegal sl = true) (hw : wordWaits c (lcore c s.dev) [sl] s.dev = false)
    (he : slotExc c (lcore c s.dev) sl s.dev = some (cause, info)) : Raises i c s cause sl.slot info := by
  refine ⟨_, h.exec_eq, rewritten c s.dev, onlyCore_rewritten c s.dev, ?_⟩
  rw [longSlot_lone c err sl s h.ready (.inr hw),
    issueWord_raises err (core_rewritten c s.dev) hl h.pc_lt hw h.acts ((slotExc_rewritten c _ sl s.dev).trans he)]

/-- A control slot that raises nothing leaves the core as `doControl` says, and a RET ends its batch. -/
theorem GivesLone.leads_control {o : CtlOp} {a : Nat} {off : Int} (hop : sl.op = .ctl o a off) (hl : slotLegal sl = true)
    (he : slotExc c (lcore c s.dev) sl s.dev = none) :
    Leads i s fun d => ∃ d1, OnlyCore c (doControl sl.op (lcore c s.dev) (stepped (lcore c s.dev))) s.dev d1 ∧
      d = if o = .ret then batchReturn c d1 else d1 := by
  have hw : wordWaits c (lcore c s.dev) [sl] s.dev = false := by simp [wordWaits, hop]
  obtain ⟨_, _, hwait, htile, _, hret, _⟩ := h.ready
  refine ⟨_, h.exec_eq, _, onlyCore_trans c _ (onlyCore_rewritten c s.dev) (onlyCore_coreSetC c _ _), ?_⟩
  rw [longSlot_lone c err sl s h.ready (.inr hw),
    issueWord_control err (core_rewritten c s.dev) hop hl h.pc_lt h.acts ((slotExc_rewritten c _ sl s.dev).trans he), hop]
  cases o <;> simp [doControl, stepped, coreWaits, hwait, htile, hret, gPut]

/-- A control slot other than RET that raises nothing changes the core alone. -/
theorem GivesLone.becomes {o : CtlOp} {a : Nat} {off : Int} (hop : sl.op = .ctl o a off) (ho : o ≠ .ret) (hl : slotLegal sl = true)
    (he : slotExc c (lcore c s.dev) sl s.dev = none) : Becomes i c s (doControl sl.op (lcore c s.dev) (stepped (lcore c s.dev))) := by
  obtain ⟨d, hexec, d1, honly, hd⟩ := h.leads_control hop hl he
  rw [if_neg ho] at hd
  exact ⟨d, hexec, hd ▸ honly⟩

end

/-! ### Legal slots (13 R276) -/

theorem sRange_32 {off : Int} (h0 : -(2 : Int) ^ 31 ≤ off) (h1 : off < (2 : Int) ^ 31) : sRange 32 off = true := by
  simpa [sRange] using And.intro h0 h1

theorem sRange_32_zero : sRange 32 0 = true := by decide

theorem slotLegal_mk {n gp : Nat} {op : LOp} (gs : Bool) (hn : n ∈ lopSlots op) (hf : lopFieldsOk op = true) (hgp : gp < 8) :
    slotLegal ⟨n, gp, gs, false, op⟩ = true := by
  simp [slotLegal, hn, hf, hgp]

theorem slotLegal_ctl {gp a : Nat} {off : Int} (o : CtlOp) (gs : Bool) (hgp : gp < 8) (ha : a < 32) (hoff : sRange 32 off = true) :
    slotLegal ⟨0, gp, gs, false, .ctl o a off⟩ = true :=
  slotLegal_mk gs (by simp [lopSlots]) (by simp [lopFieldsOk, ha, hoff]) hgp

/-! ### What slots check -/

section
variable (n gp a b e : Nat) (gs : Bool) (off : Int)

/-- The exception of a target: ALIGN where it is no multiple of 64, ADDR where it lies outside the code (13 R278). -/
def targetExc (x : Int) : Option (Nat × Nat) :=
  if x % 64 ≠ 0 then some (3, low 64 x) else if x < 0 ∨ (codeSize k : Int) ≤ x then some (4, low 64 x) else none

theorem slotExc_br : slotExc c k ⟨n, gp, gs, false, .ctl .br a off⟩ d = targetExc k ((k.pc : Int) + 64 * off) := rfl

theorem slotExc_call : slotExc c k ⟨n, gp, gs, false, .ctl .call a off⟩ d = targetExc k ((k.pc : Int) + 64 * off) := rfl

theorem slotExc_jr : slotExc c k ⟨n, gp, gs, false, .ctl .jr a off⟩ d = if gBad a k then some (5, 0) else targetExc k ((gRead a k).toNat : Int) := rfl

theorem slotExc_jr_sound (h : gBad a k = false) : slotExc c k ⟨n, gp, gs, false, .ctl .jr a off⟩ d = targetExc k ((gRead a k).toNat : Int) :=
  (slotExc_jr ..).trans (if_neg (by simp [h]))

theorem slotExc_ret : slotExc c k ⟨n, gp, gs, false, .ctl .ret a off⟩ d =
    if !k.prog then some (1, 0) else if gRead 1 k ≠ 0 then some (0, 0) else none := rfl

theorem slotExc_eret : slotExc c k ⟨n, gp, gs, false, .ctl .eret a off⟩ d = if k.prog then some (2, 0) else none := rfl

theorem slotExc_mfk : slotExc c k ⟨n, gp, gs, false, .mfk a b⟩ d = if k.prog && decide (16 ≤ b) then some (2, 0) else none := rfl

theorem slotExc_mtk : slotExc c k ⟨n, gp, gs, false, .mtk a b⟩ d = if k.prog then some (2, 0) else none := rfl

theorem slotExc_cmpeq : slotExc c k ⟨n, gp, gs, false, .sr .cmpeq e a b 0⟩ d = if gBad a k || gBad b k then some (5, 0) else none := rfl

theorem slotExc_sldrop : slotExc c k ⟨n, gp, gs, false, .sldrop a⟩ d = idxExc k a false := rfl

theorem slotExc_mem (o : MOp) : slotExc c k ⟨n, gp, gs, false, .mem o e a b off⟩ d =
    if gBad a k then some (5, 0) else accessExc k (memAlign o) (effAddr k a off) (memSize o) (memIsStore o) := rfl

end

theorem targetExc_inside {x : Int} (h64 : x % 64 = 0) (h0 : 0 ≤ x) (h : x < codeSize k) : targetExc k x = none := by
  rw [targetExc, if_neg (not_not_intro h64), if_neg (by omega)]

theorem targetExc_outside {x : Int} (h64 : x % 64 = 0) (h : x < 0 ∨ (codeSize k : Int) ≤ x) : targetExc k x = some (4, low 64 x) := by
  rw [targetExc, if_neg (not_not_intro h64), if_pos h]

theorem targetExc_unaligned {x : Int} (h64 : x % 64 ≠ 0) : targetExc k x = some (3, low 64 x) := if_pos h64

theorem accessExc_unaligned {al a n : Nat} {store : Bool} (h : a % al ≠ 0) : accessExc k al a n store = some (3, a) := if_pos h

/-- Beyond Mere and outside the store window nothing answers (12 R255). -/
theorem accessExc_beyond {al a n : Nat} {store : Bool} (hal : a % al = 0) (h : mereSize < a + n) (hw : inBwin a = false) :
    accessExc k al a n store = some (4, a) := by
  simp [accessExc, hal, Nat.not_le_of_lt h, hw]

/-- What needs a privilege the program has not, before the directions of the index are looked at (12 R261). -/
theorem idxExc_kernel {n : Nat} {write : Bool} (hp : k.prog = true) (hn : n < 11) (hk : idxKernel n = true) : idxExc k n write = some (2, n) := by
  simp [idxExc, Nat.not_le_of_lt hn, hp, hk]

theorem idxExc_read_writeOnly {n : Nat} (hp : k.prog = false) (hn : n < 11) (hw : idxWriteOnly n = true) : idxExc k n false = some (8, n) := by
  simp [idxExc, Nat.not_le_of_lt hn, hp, hw]

/-! ### Lone slots that raise, by kind -/

section
variable {c err i s} {gp cause info : Nat} {gs : Bool} (h : Issues c gp gs s)
include h

theorem raises_control {o : CtlOp} {a : Nat} {off : Int} (hi : exec i s = runLive (longCmd c ⟨0, gp, gs, false, .ctl o a off⟩ false err) s) (ha : a < 32)
    (hoff : sRange 32 off = true) (he : slotExc c (lcore c s.dev) ⟨0, gp, gs, false, .ctl o a off⟩ s.dev = some (cause, info)) :
    Raises i c s cause 0 info := by
  obtain ⟨_, hgp, _⟩ := id h
  exact (givesLone_of_issues c err i s 0 _ h hi).raises (slotLegal_ctl o gs hgp ha hoff) (by simp [wordWaits]) he

theorem raises_scalar {n : Nat} {op : LOp} (hi : exec i s = runLive (longCmd c ⟨n, gp, gs, false, op⟩ false err) s) (hop : lopSlots op = [1, 2])
    (hn : n = 1 ∨ n = 2) (hf : lopFieldsOk op = true) (he : slotExc c (lcore c s.dev) ⟨n, gp, gs, false, op⟩ s.dev = some (cause, info)) :
    Raises i c s cause n info := by
  obtain ⟨_, hgp, _⟩ := id h
  have hw : wordWaits c (lcore c s.dev) [⟨n, gp, gs, false, op⟩] s.dev = false := by
    cases op <;> simp_all [lopSlots, wordWaits]
  exact (givesLone_of_issues c err i s n _ h hi).raises (slotLegal_mk gs (by simpa [hop] using hn) hf hgp) hw he

/-- A scalar access outside the store window waits for no tile operation. -/
theorem raises_mem {o : MOp} {t a : Nat} {off : Int} (hi : exec i s = runLive (longCmd c ⟨3, gp, gs, false, .mem o t a 0 off⟩ false err) s)
    (ho : memIsV o = false ∧ memIsT o = false) (ht : t < 32) (ha : a < 32) (hoff : sRange 32 off = true)
    (hout : inBwin (effAddr (lcore c s.dev) a off) = false)
    (he : slotExc c (lcore c s.dev) ⟨3, gp, gs, false, .mem o t a 0 off⟩ s.dev = some (cause, info)) : Raises i c s cause 3 info := by
  obtain ⟨_, hgp, _⟩ := id h
  have hlegal : slotLegal ⟨3, gp, gs, false, .mem o t a 0 off⟩ = true :=
    slotLegal_mk gs (by simp [lopSlots]) (by simp [lopFieldsOk, ho, ht, ha, hoff]) hgp
  exact (givesLone_of_issues c err i s 3 _ h hi).raises hlegal (by simp [wordWaits, hout]) he

theorem raises_sldrop {n : Nat} (hn : n < 16) (he : idxExc (lcore c s.dev) n false = some (cause, info)) :
    Raises (.sldrop c 7 gp gs false n false err) c s cause 7 info := by
  obtain ⟨_, hgp, _⟩ := id h
  exact (givesLone_of_issues c err _ s 7 (.sldrop n) h rfl).raises (slotLegal_mk gs (by simp [lopSlots]) (by simp [lopFieldsOk, hn]) hgp)
    (by simp [wordWaits]) ((slotExc_sldrop ..).trans he)

end

/-! ### Replies queued for the kernel (12 R269) -/

/-- The core with more replies waiting. -/
def withReplies (ps : List (Pkt × Bool)) (k : Core) : Core := { k with replies := k.replies ++ ps }

theorem withReplies_append (ps qs : List (Pkt × Bool)) : withReplies qs (withReplies ps k) = withReplies (ps ++ qs) k := by
  simp [withReplies]

/-- Replies queued one after another, each read off a part of the block that no core holds, all stand behind those that waited. -/
theorem foldSt_queued {α : Type} (reply : α → Dev → Pkt × Bool) (hreply : ∀ a r d, reply a (coreSetC c r d) = reply a d) (l : List α) :
    OnlyCore c (withReplies (l.map fun a => reply a d) (core c d)) d
      (foldSt l (fun a d => coreMod c (withReplies [reply a d]) d) d) := by
  induction l generalizing d with
  | nil => exact ⟨by simp [withReplies, lcore], fun _ _ => rfl, rfl⟩
  | cons a l ih =>
    have hfirst := onlyCore_coreSetC c (withReplies [reply a d] (core c d)) d
    have hrest := ih (coreMod c (withReplies [reply a d]) d)
    simpa [coreMod, hreply, withReplies_append] using onlyCore_trans c _ hfirst hrest

/-- The reply of entry `p.1` of a finished batch, item `p.2`, with its poison. -/
def itemReply (k : Core) (p : Nat × BItem) (d : Dev) : Pkt × Bool :=
  ({ stream := p.2.stream, kind := p.2.kind, lidx := p.2.lidx, body := (batchReply k p.1 p.2 d).1 }, (batchReply k p.1 p.2 d).2)

theorem itemReply_coreSetC (p : Nat × BItem) : itemReply k p (coreSetC c r d) = itemReply k p d := rfl

/-- RET's replies, one for each item in entry order, then the end of the batch. -/
theorem batchReturn_running {b : Batch} (h : (core c d).running = some b) :
    ∃ d', OnlyCore c { withReplies (((List.range b.items.length).zip b.items).map fun p => itemReply (core c d) p d) (core c d) with
        lastRun := tabSet (fun _ => 0) (core c d).lastRun b.slot ((core c d).ticks - (core c d).startTick) } d d' ∧ batchReturn c d = batchEnd c d' := by
  have hqueued := foldSt_queued c d (itemReply (core c d)) (fun p r d => itemReply_coreSetC c _ r d p) ((List.range b.items.length).zip b.items)
  refine ⟨_, onlyCore_trans c _ hqueued (onlyCore_coreSetC c _ _), ?_⟩
  obtain ⟨hcore, _⟩ := hqueued
  simp only [batchReturn, h]
  exact congrArg (batchEnd c) (coreMod_of_core c _ _ hcore)

end Sys2Proof.Machine

theorem Sys2Proof.Claims.controlTransfers : ControlTransfers := by
  refine ⟨?_, fun c b d h => batchReturn_running c d h⟩
  intro s c gp a err gs off h ha h0 h1 k t leads
  have hoff := sRange_32 h0 h1
  obtain ⟨_, hgp, _⟩ := id h
  have lone {i : Instr} (op : LOp) (hi : exec i s = runLive (longCmd c ⟨0, gp, gs, false, op⟩ false err) s) :=
    givesLone_of_issues c err i s 0 op h hi
  refine ⟨fun h64 ht0 ht => ?_, fun hg h64 ht => ?_, fun hp => ?_, fun hp hg1 => ?_⟩
  · have hin : targetExc k t = none := targetExc_inside k (by omega) ht0 ht
    have hlow : low 64 t = t.toNat := low_of_nonneg_lt ht0 (by have := codeSize_lt k; omega)
    rw [← hlow]
    exact ⟨(lone (.ctl .br 0 off) rfl).becomes rfl (by decide) (slotLegal_ctl .br gs hgp (by decide) hoff) ((slotExc_br ..).trans hin),
      (lone (.ctl .call 0 off) rfl).becomes rfl (by decide) (slotLegal_ctl .call gs hgp (by decide) hoff) ((slotExc_call ..).trans hin)⟩
  · have hin : targetExc k ((gRead a k).toNat : Int) = none := targetExc_inside k (by omega) (by omega) (by omega)
    exact (lone (.ctl .jr a 0) rfl).becomes rfl (by decide) (slotLegal_ctl .jr gs hgp ha sRange_32_zero)
      ((slotExc_jr_sound c k _ _ _ _ _ _ hg).trans hin)
  · refine (lone (.ctl .eret 0 0) rfl).becomes rfl (by decide) (slotLegal_ctl .eret gs hgp (by decide) sRange_32_zero) ?_
    rw [slotExc_eret, if_neg (by simp [k, hp])]
  · refine (lone (.ctl .ret 0 0) rfl).leads_control rfl (slotLegal_ctl .ret gs hgp (by decide) sRange_32_zero) ?_
    rw [slotExc_ret, if_neg (by simp [k, hp]), if_neg (not_not_intro hg1)]

theorem Sys2Proof.Claims.exceptionCauses : ExceptionCauses := by
  intro s c gp a b d n sl err gs off h hsl ha hb hd h0 h1 k ea R t
  have hoff := sRange_32 h0 h1
  refine ⟨fun h64 hout => ?_, fun hg h64 => ?_, fun hg h64 hbeyond => ?_, fun hp => ?_, fun hp => ?_, fun hg => ?_, fun hg hea => ?_, fun w imm hw _ => ?_,
    fun i hi hi16 => ?_, fun hp i hmem => ?_, fun hp i hmem => ?_⟩
  · have hexc : targetExc k t = some (4, low 64 t) := targetExc_outside k (by omega) hout
    exact ⟨raises_control h rfl (by decide) hoff ((slotExc_br ..).trans hexc), raises_control h rfl (by decide) hoff ((slotExc_call ..).trans hexc)⟩
  · have hexc : targetExc k (gRead a k).toNat = some (3, (gRead a k).toNat) := by rw [targetExc_unaligned k (by omega), low_toNat]
    exact raises_control h rfl ha sRange_32_zero ((slotExc_jr_sound c k _ _ _ _ _ _ hg).trans hexc)
  · have hexc : targetExc k (gRead a k).toNat = some (4, (gRead a k).toNat) := by rw [targetExc_outside k (by omega) (by omega), low_toNat]
    exact raises_control h rfl ha sRange_32_zero ((slotExc_jr_sound c k _ _ _ _ _ _ hg).trans hexc)
  · exact raises_control h rfl (by decide) sRange_32_zero ((slotExc_ret ..).trans (if_pos (by simp [k, hp])))
  · refine ⟨raises_control h rfl (by decide) sRange_32_zero ((slotExc_eret ..).trans (if_pos hp)), fun hn => ?_, fun h16 hn => ?_⟩
    · exact raises_scalar h rfl rfl hsl (by simp [lopFieldsOk, ha, hn]) ((slotExc_mtk ..).trans (if_pos hp))
    · exact raises_scalar h rfl rfl hsl (by simp [lopFieldsOk, ha, hn]) ((slotExc_mfk ..).trans (if_pos (by simp [k, hp, h16])))
  · refine ⟨raises_control h rfl ha sRange_32_zero ((slotExc_jr ..).trans (if_pos hg)), ?_, fun hea => ⟨?_, ?_⟩⟩
    · exact raises_scalar h rfl rfl hsl (by simp [lopFieldsOk, srReadsP, srIsP, hd, ha, hb]) ((slotExc_cmpeq ..).trans (if_pos (by simp [k, hg])))
    · exact raises_mem h rfl (o := .ldb) (by decide) hb ha hoff hea ((slotExc_mem ..).trans (if_pos hg))
    · exact raises_mem h rfl (o := .stb) (by decide) hb ha hoff hea ((slotExc_mem ..).trans (if_pos hg))
  · have unpoisoned (o : MOp) : slotExc c k ⟨3, gp, gs, false, .mem o b a 0 off⟩ s.dev = accessExc k (memAlign o) ea (memSize o) (memIsStore o) :=
      (slotExc_mem ..).trans (if_neg (by simp [hg]))
    refine ⟨fun h8 => ⟨?_, ?_⟩, fun hm => ?_⟩
    · exact raises_mem h rfl (o := .ldd) (by decide) hb ha hoff hea ((unpoisoned _).trans (accessExc_unaligned k h8))
    · exact raises_mem h rfl (o := .std) (by decide) hb ha hoff hea ((unpoisoned _).trans (accessExc_unaligned k h8))
    · have hbeyond : mereSize < ea + 1 := by rw [mereSize]; omega
      exact ⟨raises_mem h rfl (o := .ldb) (by decide) hb ha hoff hea ((unpoisoned _).trans (accessExc_beyond k (Nat.mod_one ea) hbeyond hea)),
        raises_mem h rfl (o := .stb) (by decide) hb ha hoff hea ((unpoisoned _).trans (accessExc_beyond k (Nat.mod_one ea) hbeyond hea))⟩
  · have hill : slotLegal ⟨4, gp, gs, false, .vec .vaddf d d d d w a imm⟩ = false := by
      rcases hw with rfl | rfl <;> simp [slotLegal, lopFieldsOk, vFieldsOk]
    exact (givesLone_of_issues c err _ s 4 _ h rfl).raises_illegal hill
  · exact raises_sldrop h hi16 (if_pos hi)
  · have hkernel : ∀ i ∈ [2, 5, 9], i < 11 ∧ idxKernel i = true := by decide
    obtain ⟨hi, hkern⟩ := hkernel i hmem
    exact raises_sldrop h (by omega) (idxExc_kernel k hp hi hkern)
  · have hwrite : ∀ i ∈ [1, 3, 4, 10], i < 11 ∧ idxWriteOnly i = true := by decide
    obtain ⟨hi, honly⟩ := hwrite i hmem
    exact raises_sldrop h (by omega) (idxExc_read_writeOnly k hp hi honly)

theorem Sys2Proof.Claims.budgetsExpire : BudgetsExpire := by
  intro s c hruns hserves hprog hrun k
  have hexec : exec (.budgetExpiry c) s = after s (settle (budgetExpiry c s.dev)) := runLive_of_runs s _ hruns
  have hsome : k.running.isSome = true := Option.isSome_iff_ne_none.mpr hrun
  have hcond : (coreServes c s.dev && k.prog && k.running.isSome && due k.budget s.dev) = due k.budget s.dev := by simp [hserves, hprog, hsome, k]
  rw [hexec]
  refine ⟨fun hdue => ?_, fun hdue => ?_⟩
  · have hpast : budgetExpiry c s.dev =
        longExc c 9 (if k.tileWait then 6 else if k.wait = .none then 0 else 7) 0 (if coreWaits k then k.waitAt else k.pc) s.dev :=
      if_pos (hcond.trans hdue)
    rw [hpast]
    refine ⟨fun htile hwait => ?_, fun htile => ?_, fun htile hwait => ?_⟩
    · simp [coreWaits, htile, hwait]
    · simp [coreWaits, htile]
    · simp [coreWaits, htile, hwait]
  · have hin : budgetExpiry c s.dev = s.dev := if_neg (ne_true_of_eq_false (hcond.trans hdue))
    rw [hin]

/-- Settles O42: the transfers of slot 0, the causes of exceptions, and BUDGET. -/
theorem controlInstructions : Obligations.ControlInstructions := by
  unfold Obligations.ControlInstructions
  exact ⟨controlTransfers, exceptionCauses, budgetsExpire⟩
end

section
/-!
SUPPORT. The Thermocline's sensors, layers and rungs (17 R371 to R378, R386): what an event, a line of output and a step change leave of the block, the rule of
R377 case by case, a layer's end, and the statement about them.
-/
open Sys2Proof Sys2Proof.Machine Sys2Proof.Claims

namespace Sys2Proof.Machine

/-! ### What an event leaves of the block -/

section
variable {β : Type} {g : Dev → β} (b i : Nat) (d : Dev)

/-- `g` reads nothing that an event changes: no notice, no counter, nothing that leaves the block and nothing of the host's link. -/
structure EventBlind (g : Dev → β) : Prop where
  note : ∀ n d, g { d with note := n } = g d
  ctr : ∀ c d, g { d with ctr := c } = g d
  out : ∀ o d, g { d with out := o } = g d
  host : ∀ h d, g { d with host := h } = g d

theorem eventBlind_therm : EventBlind Dev.therm := ⟨fun _ _ => rfl, fun _ _ => rfl, fun _ _ => rfl, fun _ _ => rfl⟩
theorem eventBlind_clk : EventBlind Dev.clk := ⟨fun _ _ => rfl, fun _ _ => rfl, fun _ _ => rfl, fun _ _ => rfl⟩
theorem eventBlind_now : EventBlind now := ⟨fun _ _ => rfl, fun _ _ => rfl, fun _ _ => rfl, fun _ _ => rfl⟩

theorem noteMsg_keeps (h : EventBlind g) : g (noteMsg b d) = g d := by
  unfold noteMsg
  split
  · rfl
  · obtain hs | hs | hs := sendMsix_cases (512 + noteSrc b) d <;> rw [hs]
    · exact h.out _ d
    · exact h.host _ d

theorem raise_keeps (h : EventBlind g) : g (raise b i d) = g d := by
  rw [raise, setBits_eq, forN_keeps g _ fun _ x => noteMsg_keeps b x h]
  exact (h.note _ _).trans (h.ctr _ d)

end

/-! ### What a line of output leaves of the block -/

/-- Whatever every round keeps, the walk along a list keeps. -/
theorem foldSt_keeps {α σ β : Type} (g : σ → β) (f : α → σ → σ) (h : ∀ a x, g (f a x) = g x) (l : List α) (x : σ) : g (foldSt l f x) = g x := by
  induction l generalizing x with
  | nil => rfl
  | cons a l ih => rw [foldSt_cons, ih, h]

section
variable {β : Type} {g : Dev → β} (i : Nat) (d : Dev)

/-- `g` reads nothing that Bipol's output changes: nothing of Bipol, and nothing that the mailbox's notice of new output changes. -/
structure OutputBlind (g : Dev → β) : Prop where
  bip : ∀ b d, g { d with bip := b } = g d
  mailbox : ∀ d, g (raise 200 0 d) = g d

theorem EventBlind.outputBlind (h : EventBlind g) (hb : ∀ b d, g { d with bip := b } = g d) : OutputBlind g :=
  ⟨hb, fun d => raise_keeps 200 0 d h⟩

variable (h : OutputBlind g)
include h

theorem sendOut_keeps {l : OutLine} {e : Dev} (hs : sendOut i l d = some e) : g e = g d := by
  by_cases huart : i = 0
  · simp only [sendOut, if_pos huart] at hs
    obtain ⟨_, hsent⟩ := Option.ite_none_right_eq_some.mp hs
    obtain rfl := Option.some.inj hsent
    exact h.bip _ d
  by_cases hmail : i = 1
  · simp only [sendOut, if_neg huart, if_pos hmail] at hs
    obtain ⟨_, hsent⟩ := Option.ite_none_right_eq_some.mp hs
    obtain rfl := Option.some.inj hsent
    exact (h.mailbox _).trans (h.bip _ d)
  · simp only [sendOut, if_neg huart, if_neg hmail] at hs
    obtain rfl := Option.some.inj hs
    exact h.bip _ d

theorem endTag_keeps (l : OutLine) : g (endTag i l d) = g d := by
  unfold endTag
  split
  · rfl
  · exact h.bip _ d

theorem pumpN_keeps (n : Nat) : g (pumpN n i d) = g d := by
  induction n generalizing d with
  | zero => rfl
  | succ n ih =>
    simp only [pumpN]
    split
    · rfl
    · split
      · rfl
      next hs => rw [ih, endTag_keeps i _ h, sessSet, h.bip, sendOut_keeps i d h hs]

theorem pumpEv_keeps (n : Nat) : g (pumpEv n i d) = g d := by
  induction n generalizing d with
  | zero => rfl
  | succ n ih =>
    simp only [pumpEv]
    split
    · rfl
    · split
      · rfl
      next d0 hlost =>
        have hd0 : g d0 = g d := by
          split at hlost
          · rw [Option.some.inj hlost]
          · obtain ⟨e, hs, rfl⟩ := Option.map_eq_some_iff.mp hlost
            exact (h.bip _ e).trans (sendOut_keeps i d h hs)
        split
        · exact hd0
        next hs => rw [ih, sessSet, h.bip, sendOut_keeps i d0 h hs, hd0]

theorem pump_keeps : g (pump i d) = g d := by
  simp only [pump]
  split
  · rw [pumpEv_keeps i _ h, pumpN_keeps i d h]
  · exact pumpN_keeps i d h _

theorem logAdd_keeps (unit : Nat) (l : LogLevel) (t : String) : g (logAdd unit l t d) = g d := by
  refine (foldSt_keeps g _ (fun i d => ?_) _ _).trans (h.bip _ d)
  dsimp only
  split
  · rfl
  · split
    · rw [pump_keeps i _ h, sessSet, h.bip]
    · rfl

end

/-! ### A change of step (R378, 20 R466) -/

section
variable {β : Type} {g : Dev → β} (ack : Bool) (d : Dev)

/-- `g` reads nothing that the start of a step change changes: nothing that leaves the block or goes to the log, and of the Thermocline not the level of VDD_CORE
and not the change itself. -/
structure StepBlind (g : Dev → β) : Prop extends OutputBlind g where
  out : ∀ o d, g { d with out := o } = g d
  change : ∀ v p r d, g { d with therm := { d.therm with volt := v, pend := p, raise := r } } = g d

theorem EventBlind.stepBlind (h : EventBlind g) (hb : ∀ b d, g { d with bip := b } = g d)
    (hc : ∀ v p r d, g { d with therm := { d.therm with volt := v, pend := p, raise := r } } = g d) : StepBlind g :=
  ⟨h.outputBlind hb, h.out, hc⟩

theorem emit_out (o : Out) : ∃ os, emit o d = { d with out := os } := by
  unfold emit
  split
  · exact ⟨d.out, rfl⟩
  · exact ⟨_, rfl⟩

@[simp] theorem emit_therm (o : Out) : (emit o d).therm = d.therm := by
  obtain ⟨os, hos⟩ := emit_out d o
  rw [hos]

theorem voutWrite_keeps (h : StepBlind g) (code : Nat) : g (voutWrite code ack d) = g d := by
  cases ack with
  | false => exact logAdd_keeps d h.toOutputBlind ..
  | true =>
    obtain ⟨os, hos⟩ := emit_out (thermMod (fun t => { t with volt := some (stepOfCode code) }) d) (.vout (voutTarget code))
    exact (congrArg g hos).trans ((h.out os _).trans (h.change _ d.therm.pend d.therm.raise d))

theorem stepBegin_keeps (h : StepBlind g) : g (stepBegin ack d).2 = g d := by
  unfold stepBegin
  dsimp only
  split
  · rfl
  · split
    · exact h.change d.therm.volt _ _ d
    · split
      · exact (voutWrite_keeps ack _ h _).trans (h.change d.therm.volt _ _ d)
      · split
        · exact (h.change (voutWrite (rungStep d.therm.rung).code true d).therm.volt _ _ _).trans (voutWrite_keeps true d h _)
        · exact voutWrite_keeps false d h (rungStep d.therm.rung).code

theorem stepBegin_ack_raises : (stepBegin true d).1 = false := by
  unfold stepBegin
  dsimp only
  split
  · rfl
  · split
    · rfl
    · split <;> rfl

/-- In Ice, or on the way, the step stands. -/
theorem stepBegin_held (h : d.therm.istate ≠ 0 ∨ d.clk = .ice) : stepBegin ack d = (false, d) := if_pos h

/-- A lower frequency switches at a tick end. -/
theorem stepBegin_lower (hi : d.therm.istate = 0) (hc : d.clk ≠ .ice) (h : d.clk.gu < (rungStep d.therm.rung).gu) :
    (stepBegin true d).2.therm.pend = some (rungStep d.therm.rung) ∧ (stepBegin true d).2.therm.raise = none := by
  have hne : rungStep d.therm.rung ≠ d.clk := fun he => by simp [he] at h
  simp [stepBegin, hi, hc, hne, h, voutWrite, thermMod, thermSet]

/-- A higher frequency waits for VDD_CORE. -/
theorem stepBegin_higher (hi : d.therm.istate = 0) (hc : d.clk ≠ .ice) (h : (rungStep d.therm.rung).gu < d.clk.gu) :
    (stepBegin true d).2.therm.pend = none ∧ (stepBegin true d).2.therm.raise = some (rungStep d.therm.rung, now d + 460800) := by
  have hne : rungStep d.therm.rung ≠ d.clk := fun he => by simp [he] at h
  simp [stepBegin, hi, hc, hne, Nat.not_lt_of_lt h, thermMod, thermSet]

end

/-! ### Sensors (R371, R372, R386) -/

section
variable (n : Nat) (v : Int) (d : Dev)

/-- A good sample of a sensor that is valid, or now valid again, counts for the layer's Tmax. -/
theorem sensorSample_good_valid (hn : n < 8) (h0 : -160 ≤ v) (h1 : v ≤ 600)
    (hv : (sensor n d).valid = true ∨ 16 ≤ min 16 ((sensor n d).good + 1)) :
    let x := sensor n d
    sensorSample n (some v) d =
      withTherm (warmer v (withSensor n { x with valid := true, temp := v, missed := 0, good := min 16 (x.good + 1)
                                                 hot := if 440 ≤ v then x.hot + 1 else 0 } d).therm) d := by
  have hvalid : ((sensor n d).valid || decide (16 ≤ min 16 ((sensor n d).good + 1))) = true := by simpa using hv
  simp only [sensorSample, if_neg (Nat.not_le.mpr hn), h0, h1, hvalid, decide_true, Bool.and_true, Bool.not_true, Bool.and_false, Bool.true_and,
    Bool.false_eq_true, decide_eq_true_eq, Option.isSome_some, Option.getD_some, if_true, if_false]
  rfl

theorem sensorSample_good_invalid (hn : n < 8) (h0 : -160 ≤ v) (h1 : v ≤ 600)
    (hv : ¬ ((sensor n d).valid = true ∨ 16 ≤ min 16 ((sensor n d).good + 1))) :
    let x := sensor n d
    sensorSample n (some v) d = withSensor n { x with valid := false, temp := v, missed := 0, good := min 16 (x.good + 1), hot := 0 } d := by
  obtain ⟨hx, hfew⟩ := not_or.mp hv
  simp [sensorSample, Nat.not_le.mpr hn, h0, h1, hx, hfew, sensorSet, thermMod, thermSet, withSensor, withTherm]

/-- SENSFLT, where the sensor was valid. -/
def sensorFault (p : Bool) (d : Dev) : Dev := if p = true then raise 98 3 d else d

theorem sensorSample_out (hn : n < 8) (h : v < -160 ∨ 600 < v) :
    sensorSample n (some v) d = sensorFault (sensor n d).valid (withSensor n { valid := false, temp := v, missed := 0, good := 0, hot := 0 } d) := by
  have hbad : (decide (-160 ≤ v) && decide (v ≤ 600)) = false := by
    rw [← Bool.decide_and, decide_eq_false_iff_not]; omega
  simp [sensorSample, Nat.not_le.mpr hn, hbad, sensorFault, sensorSet, thermMod, thermSet, withSensor, withTherm]

theorem sensorSample_missed_first (hn : n < 8) (h : (sensor n d).missed = 0) :
    sensorSample n none d = withSensor n { sensor n d with missed := 1, good := 0 } d := by
  simp [sensorSample, Nat.not_le.mpr hn, h, sensorSet, thermMod, thermSet, withSensor, withTherm]

theorem sensorSample_missed_again (hn : n < 8) (h : 1 ≤ (sensor n d).missed) :
    sensorSample n none d =
      sensorFault (sensor n d).valid (withSensor n { sensor n d with valid := false, missed := (sensor n d).missed + 1, good := 0 } d) := by
  simp [sensorSample, Nat.not_le.mpr hn, h, sensorFault, sensorSet, thermMod, thermSet, withSensor, withTherm]

end

/-! ### The rule of R377 -/

section
variable (rung calm floor rungmax : Nat) (ovr : Bool) (debt em b : Nat) (tmax : Option Int) (prev : Int)

/-- The layer raises the rung: it was over, left debt, or was hot and did not cool. -/
def LayerSpent : Prop := ovr = true ∨ 0 < debt ∨ ∃ x, tmax = some x ∧ 380 ≤ x ∧ prev ≤ x

/-- The layer was calm: a fifth of the budget is left and Tmax is below 90 °C. -/
def LayerCalm : Prop := 5 * em ≤ 4 * b ∧ ∃ x, tmax = some x ∧ x < 360

/-- A target within RUNGMAX, and never below the floor. -/
def clampRung (target : Nat) : Nat := max (min (min target (max floor rungmax)) 7) floor

theorem layerSpent_iff : (ovr || decide (0 < debt) || tmax.any fun t => decide (380 ≤ t) && decide (prev ≤ t)) = true ↔ LayerSpent ovr debt tmax prev := by
  simp [LayerSpent, Option.any_eq_true, or_assoc]

theorem layerCalm_iff : (decide (5 * em ≤ 4 * b) && tmax.any fun t => decide (t < 360)) = true ↔ LayerCalm em b tmax := by
  simp [LayerCalm, Option.any_eq_true]

theorem rungNext_eq :
    rungNext rung calm floor rungmax ovr debt em b tmax prev =
      let clamp := clampRung floor rungmax
      if (ovr || decide (0 < debt) || tmax.any fun t => decide (380 ≤ t) && decide (prev ≤ t)) = true then (clamp (rung + 1), 0)
      else if (decide (5 * em ≤ 4 * b) && tmax.any fun t => decide (t < 360)) = true then
        if calm + 1 = 8 then (clamp (rung - 1), 0) else (clamp rung, calm + 1)
      else (clamp rung, 0) := by
  have hsame : rungNext rung calm floor rungmax ovr debt em b tmax prev =
      let x :=
        if (ovr || decide (0 < debt) || tmax.any fun t => decide (380 ≤ t) && decide (prev ≤ t)) = true then (rung + 1, 0)
        else if (decide (5 * em ≤ 4 * b) && tmax.any fun t => decide (t < 360)) = true then
          if calm + 1 = 8 then (rung - 1, 0) else (rung, calm + 1)
        else (rung, 0)
      (clampRung floor rungmax x.1, x.2) := by
    cases tmax <;> rfl
  rw [hsame]
  dsimp only
  split
  · rfl
  · split
    · split <;> rfl
    · rfl

variable {rung calm floor rungmax ovr debt em b tmax prev}

theorem rungNext_spent (h : LayerSpent ovr debt tmax prev) :
    rungNext rung calm floor rungmax ovr debt em b tmax prev = (clampRung floor rungmax (rung + 1), 0) := by
  rw [rungNext_eq]
  exact if_pos ((layerSpent_iff ..).mpr h)

/-- The eighth calm layer in a row. -/
theorem rungNext_calm_eighth (hs : ¬ LayerSpent ovr debt tmax prev) (h : LayerCalm em b tmax) (hc : calm = 7) :
    rungNext rung calm floor rungmax ovr debt em b tmax prev = (clampRung floor rungmax (rung - 1), 0) := by
  rw [rungNext_eq]
  exact (if_neg (mt (layerSpent_iff ..).mp hs)).trans ((if_pos ((layerCalm_iff ..).mpr h)).trans (if_pos (by omega)))

theorem rungNext_calm (hs : ¬ LayerSpent ovr debt tmax prev) (h : LayerCalm em b tmax) (hc : calm ≠ 7) :
    rungNext rung calm floor rungmax ovr debt em b tmax prev = (clampRung floor rungmax rung, calm + 1) := by
  rw [rungNext_eq]
  exact (if_neg (mt (layerSpent_iff ..).mp hs)).trans ((if_pos ((layerCalm_iff ..).mpr h)).trans (if_neg (by omega)))

theorem rungNext_steady (hs : ¬ LayerSpent ovr debt tmax prev) (h : ¬ LayerCalm em b tmax) :
    rungNext rung calm floor rungmax ovr debt em b tmax prev = (clampRung floor rungmax rung, 0) := by
  rw [rungNext_eq]
  exact (if_neg (mt (layerSpent_iff ..).mp hs)).trans (if_neg (mt (layerCalm_iff ..).mp h))

end

/-! ### The notices of the Thermocline (R394, 02 R32) -/

section
variable (i : Nat) (p : Prop) [Decidable p] (d : Dev)

/-- Bit `i` of THERM_NOTE and the events its counter has taken in this tick. -/
def thermEvents (i : Nat) (d : Dev) : Bool × Nat := ((noteGet 98 d).bits.getLsbD i, (ctrGet (16 * 98 + i) d).fresh)

theorem thermEvents_raise_same (h : i < 8) : thermEvents i (raise 98 i d) = (true, (thermEvents i d).2 + 1) := by
  simp only [thermEvents, raise_bits 98 i d h, ctrGet_raise_same, beq_self_eq_true, Bool.or_true]

theorem thermEvents_raise_other {j : Nat} (h : i < 8) (hj : j ≠ i) : thermEvents j (raise 98 i d) = thermEvents j d := by
  have hk : 16 * 98 + j ≠ 16 * 98 + i := by omega
  simp [thermEvents, raise_bits _ _ _ h, ctrGet_raise_other _ _ _ hk, hj]

/-- Output and a change of step are no event of the Thermocline. -/
theorem stepBlind_thermEvents (h : i < 8) : StepBlind (thermEvents i) where
  bip _ _ := rfl
  mailbox d := by
    have hk : 16 * 98 + i ≠ 16 * 200 + 0 := by omega
    rw [thermEvents, noteGet_raise_other 200 0 d (by decide), ctrGet_raise_other 200 0 d hk, thermEvents]
  out _ _ := rfl
  change _ _ _ _ := rfl

/-- Event `i` of the Thermocline, where `p`. -/
def noted (i : Nat) (p : Prop) [Decidable p] (d : Dev) : Dev := if p then raise 98 i d else d

theorem noted_keeps {β : Type} {g : Dev → β} (h : EventBlind g) : g (noted i p d) = g d := by
  unfold noted
  split
  · exact raise_keeps 98 i d h
  · rfl

@[simp] theorem noted_therm : (noted i p d).therm = d.therm := noted_keeps i p d eventBlind_therm
@[simp] theorem noted_clk : (noted i p d).clk = d.clk := noted_keeps i p d eventBlind_clk
@[simp] theorem now_noted : now (noted i p d) = now d := noted_keeps i p d eventBlind_now

theorem thermEvents_noted_other {j : Nat} (h : i < 8) (hj : j ≠ i) : thermEvents j (noted i p d) = thermEvents j d := by
  unfold noted
  split
  · exact thermEvents_raise_other i d h hj
  · rfl

/-- A notice is set and counted where its event is, and only there: what holds between the blocks before and after the event holds between any that agree
with them in that notice. -/
theorem notes98_of_noted {a b : Dev} (h : i < 8) (ha : thermEvents i d = thermEvents i a) (hb : thermEvents i b = thermEvents i (noted i p d)) :
    notes98 i p a b := by
  obtain ⟨habit, hacount⟩ := Prod.mk.inj ha
  refine ⟨fun hp => ?_, fun hp => ?_⟩
  · rw [noted, if_pos hp, thermEvents_raise_same i d h] at hb
    obtain ⟨hbit, hcount⟩ := Prod.mk.inj hb
    exact ⟨hbit, hcount.trans (congrArg (· + 1) hacount)⟩
  · rw [noted, if_neg hp] at hb
    exact Prod.mk.inj (hb.trans ha)

end

/-! ### A layer's end (R371 to R378) -/

section
variable (em : Nat) (ack : Bool) (d : Dev)

/-- The layer's budget (R373). -/
def layerBudget (t : Therm) : Nat := t.plimNow * 1000

/-- The debt that the layer leaves (R374). -/
def layerDebt (t : Therm) : Nat := t.debt + em - layerBudget t

theorem layerDebt_eq_max (t : Therm) : (layerDebt em t : Int) = max 0 (t.debt + em - layerBudget t) := by
  rw [layerDebt]
  omega

/-- The floor that the layer's Tmax sets (R376). -/
def layerHot (t : Therm) : Nat := match t.tmaxNow with | some x => floorOf t.tfloor x | none => t.tfloor

/-- The rung and the calm count by R377. -/
def layerRung (d : Dev) : Nat × Nat :=
  let t := d.therm
  rungNext (t.want.getD t.rung) t.calm (floorNow (layerHot t) d) t.rungmax (decide (layerBudget t < em)) (layerDebt em t) em (layerBudget t) t.tmaxNow t.tmax

/-- What the end of a layer makes of the Thermocline `t` of the block `d`. -/
def layerTherm (d : Dev) (t : Therm) : Therm :=
  { t with
    debt := layerDebt em d.therm, elast := min em 4294967295, tmax := t.tmaxNow.getD 0, tmaxNow := none, tfloor := layerHot d.therm
    floor := floorNow (layerHot d.therm) d, rung := if d.therm.bootHold = true then max (layerRung em d).1 2 else (layerRung em d).1
    calm := (layerRung em d).2, want := none, plimNow := t.plimit, drawn := 0, layer := t.layer + 1, evalNow := true }

/-- The block with the layer settled: OVER and HOT are noted, and the step change is still to come. -/
def layerSettled (d : Dev) : Dev :=
  thermMod (layerTherm em d) (noted 1 (d.therm.floor < floorNow (layerHot d.therm) d) (noted 2 (layerBudget d.therm < em) d))

@[simp] theorem layerSettled_therm : (layerSettled em d).therm = layerTherm em d d.therm := by
  simp [layerSettled, thermMod, thermSet]

@[simp] theorem layerSettled_clk : (layerSettled em d).clk = d.clk := by
  simp [layerSettled, thermMod]

@[simp] theorem now_layerSettled : now (layerSettled em d) = now d := by
  have hnoted : now (layerSettled em d) = now (noted 1 (d.therm.floor < floorNow (layerHot d.therm) d) (noted 2 (layerBudget d.therm < em) d)) := rfl
  rw [hnoted, now_noted, now_noted]

/-- The step change that the rung of `d` asks for; a failed raise keeps the rung at or above the step's own. Then the Shallows level is the rung's (R383). -/
def rungTaken (ack : Bool) (d : Dev) : Dev :=
  let e := (stepBegin ack d).2
  thermMod (fun u => { u with shlevel := rungShal u.rung })
    (if (stepBegin ack d).1 = true then thermMod (fun u => { u with rung := max d.therm.rung (stepRung e.clk), want := some d.therm.rung }) e else e)

theorem layerBoundary_before (h : due (9216000 * (d.therm.layer + 1)) d = false) : layerBoundary em ack d = d := by
  simp [layerBoundary, h]

theorem layerBoundary_due (h : due (9216000 * (d.therm.layer + 1)) d = true) :
    layerBoundary em ack d =
      noted 0 ((rungTaken ack (layerSettled em d)).therm.rung ≠ d.therm.rung) (rungTaken ack (layerSettled em d)) := by
  rw [noted, ite_not]
  simp only [layerBoundary, h, Bool.not_true, Bool.false_eq_true, if_false, decide_eq_true_eq]
  rfl

/-- The fields of the Thermocline that a step change leaves as they are. -/
def unstepped (t : Therm) : Therm := { t with volt := none, pend := none, raise := none, rung := 0, want := none, shlevel := 0 }

theorem of_unstepped {t u : Therm} (h : unstepped t = unstepped u) :
    t.debt = u.debt ∧ t.layer = u.layer ∧ t.plimNow = u.plimNow ∧ t.drawn = u.drawn ∧ t.tmaxNow = u.tmaxNow ∧ t.floor = u.floor ∧ t.calm = u.calm :=
  ⟨(congrArg Therm.debt h :), (congrArg Therm.layer h :), (congrArg Therm.plimNow h :), (congrArg Therm.drawn h :), (congrArg Therm.tmaxNow h :),
    (congrArg Therm.floor h :), (congrArg Therm.calm h :)⟩

theorem rungTaken_keeps {β : Type} {g : Dev → β} (h : StepBlind g)
    (hr : ∀ r w l d, g { d with therm := { d.therm with rung := r, want := w, shlevel := l } } = g d) : g (rungTaken ack d) = g d := by
  unfold rungTaken
  dsimp only
  split
  · exact (hr _ (some d.therm.rung) _ (stepBegin ack d).2).trans (stepBegin_keeps ack d h)
  · exact (hr (stepBegin ack d).2.therm.rung (stepBegin ack d).2.therm.want _ _).trans (stepBegin_keeps ack d h)

theorem unstepped_rungTaken : unstepped (rungTaken ack d).therm = unstepped d.therm :=
  rungTaken_keeps (g := fun d => unstepped d.therm) ack d
    (EventBlind.stepBlind ⟨fun _ _ => rfl, fun _ _ => rfl, fun _ _ => rfl, fun _ _ => rfl⟩ (fun _ _ => rfl) fun _ _ _ _ => rfl) fun _ _ _ _ => rfl

theorem thermEvents_rungTaken {i : Nat} (h : i < 8) : thermEvents i (rungTaken ack d) = thermEvents i d :=
  rungTaken_keeps ack d (stepBlind_thermEvents i h) fun _ _ _ _ => rfl

/-- Where the regulator acknowledges, the rung is taken as it was set. -/
theorem rungTaken_ack : rungTaken true d = thermMod (fun u => { u with shlevel := rungShal u.rung }) (stepBegin true d).2 := by
  rw [rungTaken, stepBegin_ack_raises, if_neg Bool.false_ne_true]

theorem rungTaken_ack_rung : (rungTaken true d).therm.rung = d.therm.rung := by
  rw [rungTaken_ack]
  exact stepBegin_keeps (g := fun d => d.therm.rung) true d
    (EventBlind.stepBlind ⟨fun _ _ => rfl, fun _ _ => rfl, fun _ _ => rfl, fun _ _ => rfl⟩ (fun _ _ => rfl) fun _ _ _ _ => rfl)

theorem rungTaken_ack_shlevel : (rungTaken true d).therm.shlevel = rungShal (rungTaken true d).therm.rung := by
  rw [rungTaken_ack]
  rfl

/-- The step change under way after a layer is the one begun. -/
theorem rungTaken_ack_step : (rungTaken true d).therm.pend = (stepBegin true d).2.therm.pend ∧ (rungTaken true d).therm.raise = (stepBegin true d).2.therm.raise := by
  rw [rungTaken_ack]
  exact ⟨rfl, rfl⟩

theorem layerBoundary_therm (h : due (9216000 * (d.therm.layer + 1)) d = true) :
    (layerBoundary em ack d).therm = (rungTaken ack (layerSettled em d)).therm := by
  rw [layerBoundary_due em ack d h, noted_therm]

/-- What a step change leaves as it is comes from the settlement alone. -/
theorem layerBoundary_settles (h : due (9216000 * (d.therm.layer + 1)) d = true) :
    let t := (layerBoundary em ack d).therm
    t.debt = layerDebt em d.therm ∧ t.layer = d.therm.layer + 1 ∧ t.plimNow = d.therm.plimit ∧ t.drawn = 0 ∧ t.tmaxNow = none ∧
    t.floor = floorNow (layerHot d.therm) d ∧ t.calm = (layerRung em d).2 := by
  have hkept : unstepped (layerBoundary em ack d).therm = unstepped (layerTherm em d d.therm) := by
    rw [layerBoundary_therm em ack d h, unstepped_rungTaken, layerSettled_therm]
  exact of_unstepped hkept

/-- OVER, HOT and RUNG are each noted and counted where the rule asks for it, and nowhere else. -/
theorem notes98_layerBoundary (h : due (9216000 * (d.therm.layer + 1)) d = true) :
    notes98 2 (layerBudget d.therm < em) d (layerBoundary em ack d) ∧
    notes98 1 (d.therm.floor < floorNow (layerHot d.therm) d) d (layerBoundary em ack d) ∧
    notes98 0 ((layerBoundary em ack d).therm.rung ≠ d.therm.rung) d (layerBoundary em ack d) := by
  let d2 := noted 2 (layerBudget d.therm < em) d
  let d1 := noted 1 (d.therm.floor < floorNow (layerHot d.therm) d) d2
  let taken := rungTaken ack (layerSettled em d)
  have hend : layerBoundary em ack d = noted 0 (taken.therm.rung ≠ d.therm.rung) taken := layerBoundary_due em ack d h
  have htaken {i : Nat} (hi : i < 8) : thermEvents i taken = thermEvents i d1 := thermEvents_rungTaken ack _ hi
  have hlast {j : Nat} (hj : j < 8) (h0 : j ≠ 0) : thermEvents j (layerBoundary em ack d) = thermEvents j d1 := by
    rw [hend, thermEvents_noted_other 0 _ taken (by decide) h0, htaken hj]
  refine ⟨?_, ?_, ?_⟩
  · exact notes98_of_noted 2 _ d (by decide) rfl ((hlast (by decide) (by decide)).trans (thermEvents_noted_other 1 _ d2 (by decide) (by decide)))
  · exact notes98_of_noted 1 _ d2 (by decide) (thermEvents_noted_other 2 _ d (by decide) (by decide)) (hlast (by decide) (by decide))
  · rw [layerBoundary_therm em ack d h]
    refine notes98_of_noted 0 _ taken (by decide) ?_ (congrArg (thermEvents 0) hend)
    rw [htaken (by decide), thermEvents_noted_other 1 _ d2 (by decide) (by decide), thermEvents_noted_other 2 _ d (by decide) (by decide)]

/-- Without a boot hold and with the regulator's acknowledgement the rung and the calm count are those of R377. -/
theorem layerBoundary_rung (h : due (9216000 * (d.therm.layer + 1)) d = true) (hb : d.therm.bootHold = false) :
    (layerBoundary em true d).therm.rung = (layerRung em d).1 ∧ (layerBoundary em true d).therm.calm = (layerRung em d).2 := by
  obtain ⟨_, _, _, _, _, _, hcalm⟩ := layerBoundary_settles em true d h
  refine ⟨?_, hcalm⟩
  rw [layerBoundary_therm em true d h, rungTaken_ack_rung, layerSettled_therm, layerTherm, hb, if_neg Bool.false_ne_true]

/-- The step change that begins at a layer's end, by the step of its rung (R378). -/
theorem layerBoundary_step (h : due (9216000 * (d.therm.layer + 1)) d = true) :
    let t := (layerBoundary em true d).therm
    (d.therm.istate = 0 → d.clk ≠ .ice → d.clk.gu < (rungStep t.rung).gu → t.pend = some (rungStep t.rung) ∧ t.raise = none) ∧
    (d.therm.istate = 0 → d.clk ≠ .ice → (rungStep t.rung).gu < d.clk.gu → t.pend = none ∧ t.raise = some (rungStep t.rung, now d + 460800)) ∧
    ((d.therm.istate ≠ 0 ∨ d.clk = .ice) → t.pend = d.therm.pend ∧ t.raise = d.therm.raise) := by
  let e := layerSettled em d
  have htherm : e.therm = layerTherm em d d.therm := layerSettled_therm em d
  have hclk : e.clk = d.clk := layerSettled_clk em d
  have hist : e.therm.istate = d.therm.istate := by rw [htherm, layerTherm]
  have hnow : now e = now d := now_layerSettled em d
  obtain ⟨hpend, hraise⟩ := rungTaken_ack_step e
  dsimp only
  rw [layerBoundary_therm em true d h, rungTaken_ack_rung, hpend, hraise, ← hclk, ← hist, ← hnow]
  refine ⟨fun hi hc hgu => stepBegin_lower e hi hc hgu, fun hi hc hgu => stepBegin_higher e hi hc hgu, fun hheld => ?_⟩
  rw [stepBegin_held true e hheld, htherm, layerTherm]
  exact ⟨rfl, rfl⟩

end

/-! ### The switches of the clock (R378, R389) -/

section
variable (d : Dev)

theorem stepRaiseSwitch_waiting {st : ClkStep} {at' : Nat} (h : d.therm.raise = some (st, at')) :
    stepRaiseSwitch d = if due at' d = true then withTherm { d.therm with raise := none, pend := some st } d else d := by
  simp only [stepRaiseSwitch, h]
  rfl

theorem stepRaiseSwitch_none (h : d.therm.raise = none) : stepRaiseSwitch d = d := by
  simp only [stepRaiseSwitch, h]

theorem icePllBypass_lowered {at' : Nat} (h : d.therm.lowered = some at') :
    icePllBypass d = if d.therm.istate = 1 ∧ due (at' + 460800) d = true then withTherm { d.therm with pend := some .ice } d else d := by
  unfold icePllBypass
  split
  next hl =>
    obtain rfl := Option.some.inj (hl.symm.trans h)
    rfl
  next hl => cases hl.symm.trans h

theorem icePllBypass_not_entering (h : d.therm.lowered = none ∨ d.therm.istate ≠ 1) : icePllBypass d = d := by
  unfold icePllBypass
  split
  next hl => exact if_neg fun hin => h.elim (by simp [hl]) fun hi => hi hin.1
  · rfl

end

/-! ### The commands -/

section
variable (s : State)

theorem exec_sensorSample (n : Nat) (x : Option Int) (h : Runs s) : exec (.sensorSample n x) s = after s (sensorSample n x s.dev) :=
  runLive_of_runs s _ h

theorem exec_layerBoundary (em : Nat) (ack : Bool) (h : Runs s) : exec (.layerBoundary em ack) s = after s (settle (layerBoundary em ack s.dev)) :=
  runLive_of_runs s _ h

theorem exec_stepRaiseSwitch (h : Runs s) : exec .stepRaiseSwitch s = after s (stepRaiseSwitch s.dev) := runLive_of_runs s _ h

theorem exec_icePllBypass (h : Runs s) : exec .icePllBypass s = after s (icePllBypass s.dev) := runLive_of_runs s _ h

end

end Sys2Proof.Machine

theorem Sys2Proof.Claims.sensorsAreJudged : SensorsAreJudged := by
  intro s n h hn x flt
  refine ⟨fun v h0 h1 => ⟨fun hv => ?_, fun hv => ?_⟩, fun v hout => ?_, fun hm => ?_, fun hm => ?_⟩
  · rw [exec_sensorSample s n _ h, sensorSample_good_valid n v s.dev hn h0 h1 hv]
    simp [x]
  · rw [exec_sensorSample s n _ h, sensorSample_good_invalid n v s.dev hn h0 h1 hv]
    simp [x]
  · rw [exec_sensorSample s n _ h, sensorSample_out n v s.dev hn hout]
    rfl
  · rw [exec_sensorSample s n _ h, sensorSample_missed_first n s.dev hn hm]
  · rw [exec_sensorSample s n _ h, sensorSample_missed_again n s.dev hn hm]
    rfl

theorem Sys2Proof.Claims.layersSettle : LayersSettle := by
  refine ⟨fun s em ack h hdue => ?_, fun s em ack h hdue => ?_, fun old t => ⟨fun h => ?_, fun h0 h1 => ?_, fun h => ?_⟩⟩
  · rw [exec_layerBoundary s em ack h, layerBoundary_before em ack s.dev hdue]
  · intro t b hot floor rung
    obtain ⟨hdebt, hlayer, hplim, hdrawn, htmax, hfloor, _⟩ := layerBoundary_settles em ack s.dev hdue
    obtain ⟨hover, hhot, hrung⟩ := notes98_layerBoundary em ack s.dev hdue
    refine ⟨layerBoundary em ack s.dev, exec_layerBoundary s em ack h, ?_, hlayer, hplim, hdrawn, htmax, hfloor, hover, hhot, hrung, ?_⟩
    · rw [hdebt]
      exact layerDebt_eq_max em t
    · rintro hboot rfl spent calm clamp
      obtain ⟨hr, hc⟩ := layerBoundary_rung em s.dev hdue hboot
      have hspent : spent ↔ LayerSpent (decide (b < em)) (layerDebt em s.dev.therm) t.tmaxNow t.tmax := by
        simp only [spent, LayerSpent, hdebt, decide_eq_true_eq]
      have byRule {r c : Nat} (hx : layerRung em s.dev = (r, c)) :
          (layerBoundary em true s.dev).therm.rung = r ∧ (layerBoundary em true s.dev).therm.calm = c := by
        rw [hr, hc, hx]
        exact ⟨rfl, rfl⟩
      refine ⟨fun hs => byRule ?_, fun hs hcalm h7 => byRule ?_, fun hs hcalm h7 => byRule ?_, fun hs hcalm => byRule ?_, ?_, layerBoundary_step em s.dev hdue⟩
      · exact rungNext_spent (hspent.mp hs)
      · exact rungNext_calm_eighth (mt hspent.mpr hs) hcalm h7
      · exact rungNext_calm (mt hspent.mpr hs) hcalm h7
      · exact rungNext_steady (mt hspent.mpr hs) hcalm
      · rw [layerBoundary_therm em true s.dev hdue, rungTaken_ack_shlevel]
        rfl
  · exact if_pos h
  · simp [floorOf, h0, Int.not_le.mpr h1]
  · have h1 : ¬ 400 ≤ t := by omega
    have h2 : ¬ (old = 5 ∧ 380 < t) := by omega
    simp [floorOf, h1, h2, Int.not_le.mpr h]

theorem Sys2Proof.Claims.rungWorkedCase : RungWorkedCase := by
  unfold RungWorkedCase
  decide

theorem Sys2Proof.Claims.clockSwitchesWait : ClockSwitchesWait := by
  intro s h t
  rw [exec_stepRaiseSwitch s h, exec_icePllBypass s h]
  refine ⟨fun st at' hr => ⟨fun hd => ?_, fun hd => ?_⟩, fun hr => ?_, fun at' hl hi => ⟨fun hd => ?_, fun hd => ?_⟩, fun hno => ?_⟩
  · rw [stepRaiseSwitch_waiting s.dev hr, if_pos hd]
  · rw [stepRaiseSwitch_waiting s.dev hr, if_neg (ne_true_of_eq_false hd)]
  · rw [stepRaiseSwitch_none s.dev hr]
  · rw [icePllBypass_lowered s.dev hl, if_pos ⟨hi, hd⟩]
  · rw [icePllBypass_lowered s.dev hl, if_neg (not_and_of_not_right _ (ne_true_of_eq_false hd))]
  · rw [icePllBypass_not_entering s.dev hno]

/-- Settles O56: the sensors, a layer's end, the worked case of R377 and the switches of the clock. -/
theorem layersAndRungs : Obligations.LayersAndRungs := by
  unfold Obligations.LayersAndRungs
  exact ⟨sensorsAreJudged, layersSettle, rungWorkedCase, clockSwitchesWait⟩
end

section
/-!
SUPPORT. The Ledger's mirror (18 R407 to R412): what sending leaves of the Ledger, the packets of Sluice 167, sending every record again, fetched records and
the settings; and the statement about them.
-/
open Sys2Proof Sys2Proof.Machine Sys2Proof.Claims

namespace Sys2Proof.Machine

/-! ### What an event leaves of the Ledger -/

section
variable (b i l : Nat) (d : Dev)

theorem eventBlind_ledger : EventBlind Dev.ledger := ⟨fun _ _ => rfl, fun _ _ => rfl, fun _ _ => rfl, fun _ _ => rfl⟩
theorem eventBlind_lrec : EventBlind (lrec l) := ⟨fun _ _ => rfl, fun _ _ => rfl, fun _ _ => rfl, fun _ _ => rfl⟩
theorem eventBlind_mirroring : EventBlind mirroring := ⟨fun _ _ => rfl, fun _ _ => rfl, fun _ _ => rfl, fun _ _ => rfl⟩

@[simp] theorem raise_ledger : (raise b i d).ledger = d.ledger := raise_keeps b i d eventBlind_ledger
@[simp] theorem lrec_raise : lrec l (raise b i d) = lrec l d := raise_keeps b i d (eventBlind_lrec l)
@[simp] theorem mirroring_raise : mirroring (raise b i d) = mirroring d := raise_keeps b i d eventBlind_mirroring

end

/-! ### Sending a record (R408) -/

section
variable (l : Nat) (d : Dev)

@[simp] theorem lrec_withRec_same (r : LRec) : lrec l (withRec l r d) = r := lrecSet_same d l r

theorem lrec_withRec_other {j : Nat} (r : LRec) (h : j ≠ l) : lrec j (withRec l r d) = lrec j d := lrecSet_other d l r h

@[simp] theorem mirroring_withRec (r : LRec) : mirroring (withRec l r d) = mirroring d := rfl

theorem mirrorSend_retire_off (h : mirroring d = false) : mirrorSend 3 l d = d := by
  rw [mirrorSend, if_neg (ne_true_of_eq_false h)]
  rfl

theorem mirrorSend_retire_on (h : mirroring d = true) : mirrorSend 3 l d = sendsMirror 3 l none d := by
  rw [mirrorSend, if_pos h]
  rfl

theorem mirrorSend_write_off (h : mirroring d = false) : mirrorSend 0 l d = withRec l { lrec l d with mirrored := false } d := by
  rw [mirrorSend, if_neg (ne_true_of_eq_false h)]
  rfl

theorem mirrorSend_write_on (h : mirroring d = true) :
    mirrorSend 0 l d = withRec l { lrec l d with mirrored := false } (sendsMirror 0 l (some (lrec l d)) d) := by
  rw [mirrorSend, if_pos h]
  rfl

/-- What a mirror write adds to the writes unacknowledged: itself, where mirroring is on. -/
def newWait (d : Dev) : List MirrorWait :=
  if mirroring d then [{ lidx := l, mseq := (d.ledger.mseq + 1) % 2 ^ 32, due := now d + d.ledger.mirTo, again := false }] else []

/-- The fields of the Ledger that sending a record leaves as they are. -/
def unsent (g : Ledger) : Ledger := { g with recs := [], mseq := 0, mout := [], unacked := [] }

theorem of_unsent {g h : Ledger} (e : unsent g = unsent h) : g.degraded = h.degraded ∧ g.fetched = h.fetched ∧ g.mirrorOn = h.mirrorOn ∧ g.peerV = h.peerV :=
  ⟨(congrArg Ledger.degraded e :), (congrArg Ledger.fetched e :), (congrArg Ledger.mirrorOn e :), (congrArg Ledger.peerV e :)⟩

theorem mirroring_of_unsent {d e : Dev} (h : unsent e.ledger = unsent d.ledger) : mirroring e = mirroring d := by
  obtain ⟨_, _, hon, hv⟩ := of_unsent h
  rw [mirroring, mirroring, hon, hv]

end

/-! ### Orphans and retirement (R399, R407) -/

section
variable (l : Nat) (d : Dev)

theorem ledgRetire_done (hp : (lrec l d).phase = 3) (hd : (lrec l d).deliv = 0) : ledgRetire l d = mirrorSend 3 l (withRec l {} d) :=
  if_pos ⟨hp, hd⟩

theorem ledgRetire_not_done (hp : (lrec l d).phase ≠ 3) : ledgRetire l d = d :=
  if_neg fun h => hp h.1

theorem ledgRetire_cases : ledgRetire l d = mirrorSend 3 l (withRec l {} d) ∨ ledgRetire l d = d := by
  by_cases h : (lrec l d).phase = 3 ∧ (lrec l d).deliv = 0
  · exact .inl (if_pos h)
  · exact .inr (if_neg h)

/-- The orphaned entry of record `l` dropped with EXPIRE. -/
def orphanDropped : Dev := raise 97 5 (withRec l { lrec l d with deliv := 0 } d)

@[simp] theorem lrec_orphanDropped : lrec l (orphanDropped l d) = { lrec l d with deliv := 0 } := by simp [orphanDropped]

@[simp] theorem mirroring_orphanDropped : mirroring (orphanDropped l d) = mirroring d := mirroring_raise ..

/-- The orphaned entry of record `l` has outlived LEDG_ORPHTTL. -/
abbrev OrphanOld : Prop := d.ledger.orphTtl ≠ 0 ∧ (lrec l d).deliv = 2 ∧ (lrec l d).relAt + d.ledger.orphTtl * 9216000 < now d

theorem orphanExpiry_old (h : OrphanOld l d) : orphanExpiry l d = ledgRetire l (orphanDropped l d) := if_pos h

theorem orphanExpiry_young (h : ¬ OrphanOld l d) : orphanExpiry l d = d := if_neg h

end

/-! ### The packets of Sluice 167 (Table 18-3) -/

section

theorem ofLe_toLe (n v : Nat) : ofLe (toLe n v) = v % 256 ^ n := by
  induction n generalizing v with
  | zero => simp [toLe, ofLe, Nat.mod_one]
  | succ n ih =>
    rw [toLe, ofLe, ih, BitVec.toNat_ofNat, Nat.pow_succ' (m := 256)]
    exact Nat.mod_mul.symm

theorem length_toLe (n v : Nat) : (toLe n v).length = n := by
  induction n generalizing v with
  | zero => rfl
  | succ n ih => rw [toLe, List.length_cons, ih]

theorem slice_append_right {α : Type} {as : List α} (bs : List α) {k off : Nat} (n : Nat) (hk : as.length = k) (h : k ≤ off) :
    slice (as ++ bs) off n = slice bs (off - k) n := by
  rw [slice, slice, List.drop_append, hk, List.drop_eq_nil_of_le (hk ▸ h), List.nil_append]

theorem fieldLe_append_right {as : List Byte} (bs : List Byte) {k off : Nat} (n : Nat) (hk : as.length = k) (h : k ≤ off) :
    fieldLe (as ++ bs) off n = fieldLe bs (off - k) n := by
  rw [fieldLe, fieldLe, slice_append_right bs n hk h]

/-- The mirror packet that the body of a Sluice's packet for record `l` spells. -/
theorem mirrorOf_body {l : Nat} (b : List Byte) (hl : l < 2 ^ 32) :
    mirrorOf (List.replicate 8 0 ++ toLe 4 l ++ b) =
      { op := fieldLe b 1 1, origin := fieldLe b 2 2, mseq := fieldLe b 4 4, lidx := l,
        rcd := if 180 ≤ b.length then some (recOf (slice b 52 128)) else none } := by
  have hhead : (List.replicate 8 (0 : Byte) ++ toLe 4 l).length = 12 := by simp [length_toLe]
  have hlen : 192 ≤ (List.replicate 8 (0 : Byte) ++ toLe 4 l ++ b).length ↔ 180 ≤ b.length := by
    rw [List.length_append, hhead]; omega
  have hlidx : fieldLe (List.replicate 8 0 ++ toLe 4 l ++ b) 8 4 = l := by
    rw [List.append_assoc, fieldLe_append_right _ 4 List.length_replicate (Nat.le_refl 8), fieldLe, slice, List.drop_zero,
      List.take_append_of_le_length (Nat.le_of_eq (length_toLe 4 l).symm), List.take_of_length_le (Nat.le_of_eq (length_toLe 4 l)), ofLe_toLe]
    exact Nat.mod_eq_of_lt hl
  simp only [mirrorOf, hlen, hlidx, fieldLe_append_right b _ hhead (show 12 ≤ 13 by decide), fieldLe_append_right b _ hhead (show 12 ≤ 14 by decide),
    fieldLe_append_right b _ hhead (show 12 ≤ 16 by decide), slice_append_right b _ hhead (show 12 ≤ 64 by decide), Nat.reduceSub]

theorem takePkt_leaves {n : Nat} {p : Pkt} {d e : Dev} (h : takePkt n d = some (p, e)) : ∃ x, e = sluSet n x d := by
  unfold takePkt at h
  split at h
  · cases h
  · dsimp only at h
    split at h <;> cases h <;> exact ⟨_, rfl⟩

variable {m : MirrorPkt} {s : State} {e : Dev}

theorem mirrorComes_leaves (h : mirrorComes m s e) : ∃ x, e = sluSet 167 x s.dev := by
  obtain ⟨_, ⟨p, d⟩, htake, rfl, _⟩ := h
  exact takePkt_leaves htake

theorem mirrorTake_of_comes (h : mirrorComes m s e) (ops : List Nat) : mirrorTake ops s.dev = if m.op ∈ ops then some (m, e) else none := by
  obtain ⟨hserves, ⟨p, d⟩, htake, rfl, haborted, habsent, hop, horigin, hmseq, hlidx, hlt, hrcd⟩ := h
  have hm : mirrorOf (List.replicate 8 0 ++ toLe 4 p.lidx ++ p.body) = m := by
    rw [mirrorOf_body p.body hlt, ← hop, ← horigin, ← hmseq, ← hlidx, ← hrcd]
  dsimp only at haborted habsent
  simp only [mirrorTake, hserves, Option.mem_def.mp htake, hm, haborted, habsent]
  simp

/-- A record that comes in a packet is sound. -/
theorem poison_of_comes (h : mirrorComes m s e) {r : LRec} (hr : m.rcd = some r) : r.poison = false := by
  obtain ⟨_, ⟨p, d⟩, _, _, _, _, _, _, _, _, _, hrcd⟩ := h
  rw [hr] at hrcd
  split at hrcd
  · cases hrcd; rfl
  · cases hrcd

end

/-! ### Sending every record again (R408, R410) -/

section
variable {l : Nat} {ls : List Nat} {d e : Dev}

/-- Sending changes nothing else of the Ledger, and adds writes unacknowledged for some of the records `ls`, in their order. -/
structure SendsAmong (ls : List Nat) (d e : Dev) : Prop where
  rest : unsent e.ledger = unsent d.ledger
  waits : ∃ new, e.ledger.unacked = d.ledger.unacked ++ new ∧ (new.map (·.lidx)).Sublist ls

theorem SendsAmong.of_none (h : e.ledger.unacked = d.ledger.unacked) (hr : unsent e.ledger = unsent d.ledger) : SendsAmong [] d e :=
  ⟨hr, [], by rw [h, List.append_nil], List.Sublist.refl _⟩

theorem SendsAmong.weaken {ks : List Nat} (h : SendsAmong ls d e) (hs : ls.Sublist ks) : SendsAmong ks d e := by
  obtain ⟨hr, new, hnew, hsub⟩ := h
  exact ⟨hr, new, hnew, hsub.trans hs⟩

theorem SendsAmong.refl : SendsAmong ls d d := (SendsAmong.of_none rfl rfl).weaken (List.nil_sublist ls)

theorem SendsAmong.trans {ks : List Nat} {f : Dev} (h : SendsAmong ls d e) (h' : SendsAmong ks e f) : SendsAmong (ls ++ ks) d f := by
  obtain ⟨hr, new, hnew, hsub⟩ := h
  obtain ⟨hr', new', hnew', hsub'⟩ := h'
  refine ⟨hr'.trans hr, new ++ new', ?_, ?_⟩
  · rw [hnew', hnew, List.append_assoc]
  · rw [List.map_append]
    exact hsub.append hsub'

theorem SendsAmong.mirroring (h : SendsAmong ls d e) : mirroring e = mirroring d := mirroring_of_unsent h.rest

theorem SendsAmong.mem {w : MirrorWait} (h : SendsAmong ls d e) (hw : w ∈ d.ledger.unacked) : w ∈ e.ledger.unacked := by
  obtain ⟨new, hnew, _⟩ := h.waits
  exact hnew ▸ List.mem_append_left new hw

/-- Record `l` awaits the acknowledgement of a write. -/
def Waits (l : Nat) (d : Dev) : Prop := ∃ w ∈ d.ledger.unacked, w.lidx = l

theorem SendsAmong.waits_still (h : SendsAmong ls d e) (hw : Waits l d) : Waits l e := by
  obtain ⟨w, hmem, hl⟩ := hw
  exact ⟨w, h.mem hmem, hl⟩

end

section
variable (l : Nat) (d : Dev)

theorem unacked_mirrorSend (op : Nat) : (mirrorSend op l d).ledger.unacked = d.ledger.unacked ++ newWait l d := by
  unfold mirrorSend newWait
  dsimp only
  split <;> split
  · rfl
  · rfl
  · exact (List.append_nil _).symm
  · exact (List.append_nil _).symm

theorem unsent_mirrorSend (op : Nat) : unsent (mirrorSend op l d).ledger = unsent d.ledger := by
  unfold mirrorSend
  dsimp only
  split <;> split <;> rfl

theorem sendsAmong_mirrorSend (op : Nat) : SendsAmong [l] d (mirrorSend op l d) := by
  refine ⟨unsent_mirrorSend l d op, newWait l d, unacked_mirrorSend l d op, ?_⟩
  unfold newWait
  split
  · exact List.Sublist.refl _
  · exact List.nil_sublist _

theorem waits_mirrorSend (op : Nat) (h : mirroring d = true) : Waits l (mirrorSend op l d) := by
  rw [Waits, unacked_mirrorSend, newWait, if_pos h]
  exact ⟨_, List.mem_append_right _ (List.mem_singleton_self _), rfl⟩

theorem sendsAmong_withRec (r : LRec) : SendsAmong [] d (withRec l r d) := .of_none rfl rfl

theorem sendsAmong_raise (b i : Nat) : SendsAmong [] d (raise b i d) := by
  refine .of_none ?_ ?_ <;> rw [raise_ledger]

theorem sendsAmong_orphanDropped : SendsAmong [] d (orphanDropped l d) := (sendsAmong_withRec l d _).trans (sendsAmong_raise _ 97 5)

theorem sendsAmong_ledgRetire : SendsAmong [l] d (ledgRetire l d) := by
  obtain h | h := ledgRetire_cases l d <;> rw [h]
  · exact (sendsAmong_withRec l d {}).trans (sendsAmong_mirrorSend l _ 3)
  · exact .refl

/-- A write of a record changes MIRRORED alone of it. -/
theorem lrec_mirrorSend_write : lrec l (mirrorSend 0 l d) = { lrec l d with mirrored := false } := by
  cases h : mirroring d
  · rw [mirrorSend_write_off l d h, lrec_withRec_same]
  · rw [mirrorSend_write_on l d h, lrec_withRec_same]

theorem lrec_mirrorSend_write_other {j : Nat} (hj : j ≠ l) : lrec j (mirrorSend 0 l d) = lrec j d := by
  cases h : mirroring d
  · rw [mirrorSend_write_off l d h, lrec_withRec_other _ _ _ hj]
  · rw [mirrorSend_write_on l d h, lrec_withRec_other _ _ _ hj]
    rfl

theorem lrec_mirrorSend_retire (j : Nat) : lrec j (mirrorSend 3 l d) = lrec j d := by
  cases h : mirroring d
  · rw [mirrorSend_retire_off l d h]
  · rw [mirrorSend_retire_on l d h]
    rfl

theorem lrec_ledgRetire_other {j : Nat} (hj : j ≠ l) : lrec j (ledgRetire l d) = lrec j d := by
  obtain h | h := ledgRetire_cases l d <;> rw [h]
  rw [lrec_mirrorSend_retire, lrec_withRec_other _ _ _ hj]

/-- What `mirrorResend` does with record `l`. -/
def resendRound : Dev :=
  if (lrec l d).phase = 0 ∨ (d.ledger.unacked.any fun w => w.lidx == l) = true then d
  else if ((lrec l d).poison && (lrec l d).deliv != 0) = true then ledgRetire l (orphanDropped l d)
  else mirrorSend 0 l d

theorem mirrorResend_eq : mirrorResend d = foldSt (d.ledger.recs.map (·.1)) resendRound d := rfl

/-- A record that is FREE or waits already is left alone, a poisoned delivery is retired (R413), and any other record is sent. -/
theorem resendRound_cases :
    (resendRound l d = d ∧ ((lrec l d).phase = 0 ∨ Waits l d)) ∨ (resendRound l d = ledgRetire l (orphanDropped l d) ∧ (lrec l d).poison = true) ∨
    resendRound l d = mirrorSend 0 l d := by
  unfold resendRound
  split
  next h => exact .inl ⟨rfl, h.imp_right fun hw => by simpa [Waits] using hw⟩
  · split
    next h => exact .inr (.inl ⟨rfl, (Bool.and_eq_true_iff.mp h).1⟩)
    · exact .inr (.inr rfl)

theorem sendsAmong_resendRound : SendsAmong [l] d (resendRound l d) := by
  obtain ⟨h, _⟩ | ⟨h, _⟩ | h := resendRound_cases l d <;> rw [h]
  · exact .refl
  · exact (sendsAmong_orphanDropped l d).trans (sendsAmong_ledgRetire l _)
  · exact sendsAmong_mirrorSend l d 0

theorem lrec_resendRound_other {j : Nat} (hj : j ≠ l) : lrec j (resendRound l d) = lrec j d := by
  obtain ⟨h, _⟩ | ⟨h, _⟩ | h := resendRound_cases l d <;> rw [h]
  · rw [lrec_ledgRetire_other l _ hj, orphanDropped, lrec_raise, lrec_withRec_other _ _ _ hj]
  · exact lrec_mirrorSend_write_other l d hj

/-- The record is to be sent: not FREE, and without an uncorrectable error. -/
def Mirrorable (l : Nat) (d : Dev) : Prop := (lrec l d).phase ≠ 0 ∧ (lrec l d).poison = false

theorem mirrorable_resendRound {j : Nat} (h : Mirrorable j d) : Mirrorable j (resendRound l d) := by
  by_cases hj : j = l
  · subst hj
    obtain ⟨he, _⟩ | ⟨_, hp⟩ | he := resendRound_cases j d
    · rwa [he]
    · exact absurd (h.2.symm.trans hp) Bool.false_ne_true
    · rwa [he, Mirrorable, lrec_mirrorSend_write]
  · rwa [Mirrorable, lrec_resendRound_other l d hj]

theorem waits_resendRound (hm : mirroring d = true) (h : Mirrorable l d) : Waits l (resendRound l d) := by
  obtain ⟨hphase, hsound⟩ := h
  obtain ⟨he, hw⟩ | ⟨_, hp⟩ | he := resendRound_cases l d
  · rw [he]
    exact hw.resolve_left hphase
  · exact absurd (hsound.symm.trans hp) Bool.false_ne_true
  · rw [he]
    exact waits_mirrorSend l d 0 hm

theorem sendsAmong_rounds (ls : List Nat) : SendsAmong ls d (foldSt ls resendRound d) := by
  induction ls generalizing d with
  | nil => exact .refl
  | cons k ls ih => exact (sendsAmong_resendRound k d).trans (ih _)

theorem waits_rounds {ls : List Nat} (hl : l ∈ ls) (hm : mirroring d = true) (h : Mirrorable l d) : Waits l (foldSt ls resendRound d) := by
  induction ls generalizing d with
  | nil => cases hl
  | cons k ls ih =>
    rw [foldSt_cons]
    have hround := sendsAmong_resendRound k d
    rcases List.mem_cons.mp hl with rfl | hl
    · exact (sendsAmong_rounds _ ls).waits_still (waits_resendRound l d hm h)
    · exact ih _ hl (hround.mirroring.trans hm) (mirrorable_resendRound k d h)

theorem tabGet_of_not_mem {α : Type} (x : Nat → α) {t : Tab α} {k : Nat} (h : k ∉ t.map (·.1)) : tabGet x t k = x k := by
  induction t with
  | nil => rfl
  | cons p t ih =>
    rw [List.map_cons, List.mem_cons, not_or] at h
    exact (if_neg (Ne.symm h.1)).trans (ih h.2)

theorem lt_of_tabWfFrom {α : Type} [DecidableEq α] (x : Nat → α) {t : Tab α} {lo : Nat} (h : tabWfFrom x lo t = true) : ∀ k ∈ t.map (·.1), lo ≤ k := by
  induction t generalizing lo with
  | nil => simp
  | cons p t ih =>
    simp only [tabWfFrom, Bool.and_eq_true, decide_eq_true_eq] at h
    obtain ⟨⟨hlo, _⟩, ht⟩ := h
    intro k hk
    rcases List.mem_cons.mp hk with rfl | hk
    · exact hlo
    · exact Nat.le_trans (Nat.le_succ_of_le hlo) (ih ht k hk)

/-- The numbers of a table in canonical form rise. -/
theorem pairwise_of_tabWfFrom {α : Type} [DecidableEq α] (x : Nat → α) {t : Tab α} {lo : Nat} (h : tabWfFrom x lo t = true) :
    (t.map (·.1)).Pairwise (· < ·) := by
  induction t generalizing lo with
  | nil => exact .nil
  | cons p t ih =>
    simp only [tabWfFrom, Bool.and_eq_true] at h
    exact .cons (lt_of_tabWfFrom x h.2) (ih h.2)

theorem sendsAmong_mirrorResend : SendsAmong (d.ledger.recs.map (·.1)) d (mirrorResend d) := by
  rw [mirrorResend_eq]
  exact sendsAmong_rounds d _

theorem allSent_mirrorResend (h : mirroring d = true) : allSent d (mirrorResend d) := by
  intro l hphase hsound
  rw [mirrorResend_eq]
  have hl : l ∈ d.ledger.recs.map (·.1) := Decidable.byContradiction fun hl => hphase (congrArg LRec.phase (tabGet_of_not_mem _ hl))
  exact waits_rounds l d hl h ⟨hphase, hsound⟩

/-- The new writes stand in LIDX order. -/
theorem unacked_mirrorResend : ∃ new, (mirrorResend d).ledger.unacked = d.ledger.unacked ++ new ∧
    (tabWf (fun _ => ({} : LRec)) d.ledger.recs = true → (new.map (·.lidx)).Pairwise (· < ·)) := by
  obtain ⟨new, hnew, hsub⟩ := (sendsAmong_mirrorResend d).waits
  exact ⟨new, hnew, fun hwf => (pairwise_of_tabWfFrom _ hwf).sublist hsub⟩

theorem mirrorState_degraded (hon : d.ledger.mirrorOn = true) (h : d.ledger.degraded = true) : mirrorState d = 2 := by
  simp [mirrorState, hon, h]

end

/-! ### The serving peer (R410, R411) -/

section
variable {m : MirrorPkt} {d e : Dev}

/-- The mirror area has a place for the record of `m`. -/
abbrev MirrorFits (m : MirrorPkt) (d : Dev) : Prop := servesMirror m d ∧ m.lidx < d.hbm.ledger * 8388608 / 2

/-- A later write of the record is stored already. -/
abbrev MirrorOlder (m : MirrorPkt) (d : Dev) : Prop :=
  let kept := tabGet (fun _ => 0) d.ledger.mirrorSeq m.lidx
  kept ≠ 0 ∧ serialAfter (kept - 1) m.mseq = true

theorem servesPeer_iff : servesPeer m d = true ↔ servesMirror m d := by
  simp [servesPeer, servesMirror, and_assoc]

theorem refuses_iff : (!servesPeer m d || decide (mirrorSize d ≤ m.lidx)) = true ↔ ¬ MirrorFits m d := by
  have hserves : servesPeer m d = false ↔ ¬ servesMirror m d := by rw [← Bool.not_eq_true, servesPeer_iff]
  have hsize (hs : servesMirror m d) : mirrorSize d = d.hbm.ledger * 8388608 / 2 := if_pos hs.1
  rw [Bool.or_eq_true, Bool.not_eq_true', hserves, decide_eq_true_eq]
  refine ⟨?_, fun hno => ?_⟩
  · rintro (hs | hfull) ⟨hs', hlt⟩
    · exact hs hs'
    · exact Nat.not_lt.mpr (hsize hs' ▸ hfull) hlt
  · by_cases hs : servesMirror m d
    · exact .inr (hsize hs ▸ Nat.not_lt.mp fun hlt => hno ⟨hs, hlt⟩)
    · exact .inl hs

theorem not_refuses (h : MirrorFits m d) : ¬ (!servesPeer m d || decide (mirrorSize d ≤ m.lidx)) = true := fun hr => refuses_iff.mp hr h

theorem older_iff : ((tabGet (fun _ => 0) d.ledger.mirrorSeq m.lidx != 0) &&
    serialAfter (tabGet (fun _ => 0) d.ledger.mirrorSeq m.lidx - 1) m.mseq) = true ↔ MirrorOlder m d := by
  rw [Bool.and_eq_true, bne_iff_ne]

theorem mirrorReceive_none (h : mirrorTake [0, 3] d = none) : mirrorReceive d = d := by
  rw [mirrorReceive, h]

theorem mirrorReceive_refused (h : mirrorTake [0, 3] d = some (m, e)) (hf : ¬ MirrorFits m e) : mirrorReceive d = answersMirror 2 m e := by
  simp only [mirrorReceive, h, if_pos (refuses_iff.mpr hf)]
  rfl

theorem mirrorReceive_older (h : mirrorTake [0, 3] d = some (m, e)) (hf : MirrorFits m e) (ho : MirrorOlder m e) :
    mirrorReceive d = answersMirror 1 m e := by
  simp only [mirrorReceive, h, if_neg (not_refuses hf), if_pos (older_iff.mpr ho)]
  rfl

theorem mirrorReceive_frees (h : mirrorTake [0, 3] d = some (m, e)) (hf : MirrorFits m e) (ho : ¬ MirrorOlder m e) (hop : m.op = 3) :
    mirrorReceive d = answersMirror 1 m (mirrorKept m {} e) := by
  simp only [mirrorReceive, h, if_neg (not_refuses hf), if_neg (mt older_iff.mp ho), if_pos hop]
  rfl

theorem mirrorReceive_stores {r : LRec} (h : mirrorTake [0, 3] d = some (m, e)) (hf : MirrorFits m e) (ho : ¬ MirrorOlder m e) (hop : m.op = 0)
    (hr : m.rcd = some r) : mirrorReceive d = answersMirror 1 m (mirrorKept m r e) := by
  have h3 : ¬ m.op = 3 := by omega
  simp only [mirrorReceive, h, if_neg (not_refuses hf), if_neg (mt older_iff.mp ho), if_neg h3, hr]
  rfl

theorem fetchRequest_none (h : mirrorTake [5] d = none) : fetchRequest d = d := by
  rw [fetchRequest, h]

theorem fetchRequest_refused (h : mirrorTake [5] d = some (m, e)) (hs : ¬ servesMirror m e) : fetchRequest d = answersMirror 2 m e := by
  have hserves : servesPeer m e = false := Bool.eq_false_iff.mpr (mt servesPeer_iff.mp hs)
  simp only [fetchRequest, h, hserves, Bool.not_false, if_true]
  rfl

/-- The fetch data for `m`: every record of the mirror area that is not FREE. -/
def fetchedData (m : MirrorPkt) (d : Dev) : List MirrorPkt :=
  (d.ledger.mirror.filter fun p => p.2.phase != 0).map fun p =>
    { op := 4, origin := m.origin, mseq := tabGet (fun _ => 0) d.ledger.mirrorSeq p.1 - 1, lidx := p.1, rcd := some p.2 }

theorem fetchRequest_served (h : mirrorTake [5] d = some (m, e)) (hs : servesMirror m e) :
    fetchRequest d = withLedger { e.ledger with
      mout := e.ledger.mout ++ fetchedData m e ++ [{ op := 6, origin := m.origin, mseq := m.mseq, lidx := 0xFFFFFFFF, rcd := none }] } e := by
  simp only [fetchRequest, h, servesPeer_iff.mpr hs, Bool.not_true, Bool.false_eq_true, if_false]
  rfl

end

/-! ### The origin (R410) -/

section
variable {m : MirrorPkt} {d e : Dev}

theorem fetchEnd_unawaited (err : Option String) (h : d.ledger.fetchWho = none) :
    fetchEnd err d = withLedger { d.ledger with fetchDue := none, fetchWho := none } d := by
  simp only [fetchEnd, h]
  rfl

/-- Where no line waits, it is the fetch's deadline alone that goes. -/
theorem fetchEnd_unawaited_due (err : Option String) (h : d.ledger.fetchWho = none) : fetchEnd err d = withLedger { d.ledger with fetchDue := none } d := by
  rw [fetchEnd_unawaited err h, ← h]

theorem fetchEnd_awaited (err : Option String) {sid : Nat} {tag : String} (h : d.ledger.fetchWho = some (sid, tag)) :
    fetchEnd err d = answer ⟨sid, tag⟩ (.other 5) err (if err.isNone then ["ledger recovered " ++ dec d.ledger.fetched] else [])
      (withLedger { d.ledger with fetchDue := none, fetchWho := none } d) := by
  simp only [fetchEnd, h]
  rfl

/-- The write that `m` answers. -/
abbrev answeredWrite (m : MirrorPkt) (d : Dev) : Option MirrorWait := d.ledger.unacked.find? fun w => w.lidx == m.lidx && w.mseq == m.mseq

/-- `m` refuses the fetch request. -/
abbrev RefusesFetch (m : MirrorPkt) (d : Dev) : Prop := m.op = 2 ∧ m.lidx = noLidx ∧ d.ledger.fetchDue.isSome = true

theorem mirrorAck_stray (h : mirrorTake [1, 2] d = some (m, e)) (hw : answeredWrite m e = none) (hr : ¬ RefusesFetch m e) : mirrorAck d = e := by
  simp only [mirrorAck, h, hw, if_neg hr]

theorem mirrorAck_refuses_fetch (h : mirrorTake [1, 2] d = some (m, e)) (hw : answeredWrite m e = none) (hr : RefusesFetch m e) :
    mirrorAck d = fetchEnd (some "failed") (raise 97 3 e) := by
  simp only [mirrorAck, h, hw, if_pos hr]

/-- Without the write `w`; the mirror is in step where it was the last one. -/
def writeAcked (w : MirrorWait) (d : Dev) : Dev :=
  withLedger { d.ledger with unacked := d.ledger.unacked.erase w, degraded := if d.ledger.unacked.erase w = [] then false else d.ledger.degraded } d

/-- Once nothing waits, the mirror is in step. -/
theorem mirrorStep_eq : mirrorStep d = withLedger { d.ledger with degraded := if d.ledger.unacked = [] then false else d.ledger.degraded } d := by
  by_cases h : d.ledger.unacked = []
  · rw [mirrorStep, if_pos (List.isEmpty_iff.mpr h), if_pos h]
    rfl
  · rw [mirrorStep, if_neg (mt List.isEmpty_iff.mp h), if_neg h]
    rfl

theorem mirrorAck_marks {w : MirrorWait} (h : mirrorTake [1, 2] d = some (m, e)) (hw : answeredWrite m e = some w) (hop : m.op = 1)
    (hp : (lrec m.lidx e).phase ≠ 0) (hlast : ∀ x ∈ e.ledger.unacked.erase w, x.lidx ≠ m.lidx) :
    mirrorAck d = withRec m.lidx { lrec m.lidx e with mirrored := true } (writeAcked w e) := by
  have hop2 : ¬ m.op = 2 := by omega
  have hall : ((e.ledger.unacked.erase w).all fun x => x.lidx != m.lidx) = true := by simpa using hlast
  simp only [mirrorAck, h, hw, if_neg hop2, mirrorStep_eq]
  rw [if_pos ⟨hp, hall⟩]
  rfl

theorem mirrorAck_unmarked {w : MirrorWait} (h : mirrorTake [1, 2] d = some (m, e)) (hw : answeredWrite m e = some w) (hop : m.op = 1)
    (hno : (lrec m.lidx e).phase = 0 ∨ ∃ x ∈ e.ledger.unacked.erase w, x.lidx = m.lidx) : mirrorAck d = writeAcked w e := by
  have hop2 : ¬ m.op = 2 := by omega
  simp only [mirrorAck, h, hw, if_neg hop2, mirrorStep_eq]
  rw [if_neg]
  · rfl
  · rintro ⟨hp, hall⟩
    obtain hfree | ⟨x, hx, hl⟩ := hno
    · exact hp hfree
    · exact bne_iff_ne.mp (List.all_eq_true.mp hall x hx) hl

/-- Without the write `w`, which has failed (R410): MIRLOST is noted and the mirror degraded, and everything goes again. -/
theorem mirrorFail_eq (w : MirrorWait) :
    mirrorFail w d = mirrorResend (raise 97 3 (withLedger { d.ledger with unacked := d.ledger.unacked.erase w, degraded := true } d)) := rfl

theorem mirrorAck_fails {w : MirrorWait} (h : mirrorTake [1, 2] d = some (m, e)) (hw : answeredWrite m e = some w) (hop : m.op = 2) :
    mirrorAck d = mirrorFail w e := by
  simp only [mirrorAck, h, hw, if_pos hop]

/-- The write of sequence number `q`, if its time is over. -/
abbrev timedOutWrite (q : Nat) (d : Dev) : Option MirrorWait := d.ledger.unacked.find? fun w => w.mseq == q && due w.due d

theorem mirrorTimeout_none {q : Nat} (h : timedOutWrite q d = none) : mirrorTimeout q d = d := by
  simp only [mirrorTimeout, h]

theorem mirrorTimeout_again {q : Nat} {w : MirrorWait} (h : timedOutWrite q d = some w) (ha : w.again = true) : mirrorTimeout q d = mirrorFail w d := by
  simp only [mirrorTimeout, h, if_pos ha]

/-- The packet `p` sent once more in place of the write `w`. -/
def sentOnceMore (w : MirrorWait) (p : MirrorPkt) (d : Dev) : Dev :=
  withLedger { d.ledger with
    mout := d.ledger.mout ++ [p]
    unacked := d.ledger.unacked.map fun x => if x = w then { w with due := now d + d.ledger.mirTo, again := true } else x } d

theorem mirrorTimeout_first {q : Nat} {w : MirrorWait} (h : timedOutWrite q d = some w) (ha : w.again = false) :
    mirrorTimeout q d = sentOnceMore w
      { op := if (lrec w.lidx d).phase = 0 then 3 else 0, origin := d.jetty.node, mseq := w.mseq, lidx := w.lidx,
        rcd := if (lrec w.lidx d).phase = 0 then none else some (lrec w.lidx d) } d := by
  simp only [mirrorTimeout, h, ha, Bool.false_eq_true, if_false, beq_iff_eq]
  rfl

end

/-! ### The fetch (R411, R412) -/

section
variable {m : MirrorPkt} {d e : Dev}

theorem fetchTimeout_none (h : d.ledger.fetchDue = none) : fetchTimeout d = d := by
  simp only [fetchTimeout, h]

theorem fetchTimeout_before {t : Nat} (h : d.ledger.fetchDue = some t) (hd : due t d = false) : fetchTimeout d = d := by
  simp only [fetchTimeout, h, hd, Bool.false_eq_true, if_false]

theorem fetchTimeout_due {t : Nat} (h : d.ledger.fetchDue = some t) (hd : due t d = true) : fetchTimeout d = fetchEnd (some "failed") (raise 97 3 d) := by
  simp only [fetchTimeout, h, if_pos hd]

/-- A fetch of this part is under way, and `m` answers it. -/
abbrev FetchMine (m : MirrorPkt) (d : Dev) : Prop := d.ledger.fetchDue ≠ none ∧ m.origin = d.jetty.node

theorem not_fetchMine_iff : (d.ledger.fetchDue.isNone = true ∨ m.origin ≠ d.jetty.node) ↔ ¬ FetchMine m d := by
  rw [Option.isNone_iff_eq_none, FetchMine, Classical.not_and_iff_not_or_not, Classical.not_not]

/-- The fetch waits anew. -/
def fetchRenewed (d : Dev) : Dev := withLedger { d.ledger with fetchDue := some (now d + 92160000) } d

/-- The local record that `m` names is FREE. -/
abbrev FetchFree (m : MirrorPkt) (d : Dev) : Prop := m.lidx < ledgSize d ∧ (lrec m.lidx d).phase = 0

/-- What `recoverRec` answers, with the record counted if it was recovered. -/
def recoveryCounted (x : Bool × Dev) : Dev := withLedger { x.2.ledger with fetched := x.2.ledger.fetched + b2n x.1 } x.2

/-- The fetched record `r` taken as record `l`, as one that survived (Table 18-4). -/
def fetchTaken (l : Nat) (r : LRec) (d : Dev) : Dev := recoveryCounted (recoverRec l r (withRec l r d))

/-- That record mirrored anew, unless it is FREE. -/
def fetchPlaced (l : Nat) (r : LRec) (d : Dev) : Dev :=
  if (lrec l (fetchTaken l r d)).phase = 0 then fetchTaken l r d else mirrorSend 0 l (fetchTaken l r d)

theorem not_stray (h : FetchMine m d) : ¬ (d.ledger.fetchDue.isNone = true ∨ m.origin ≠ d.jetty.node) := fun hs => not_fetchMine_iff.mp hs h

theorem fetchData_stray (h : mirrorTake [4, 6] d = some (m, e)) (hm : ¬ FetchMine m e) : fetchData d = e := by
  simp only [fetchData, h, if_pos (not_fetchMine_iff.mpr hm)]

theorem fetchData_end (h : mirrorTake [4, 6] d = some (m, e)) (hm : FetchMine m e) (hop : m.op = 6) : fetchData d = fetchEnd none e := by
  simp only [fetchData, h, if_neg (not_stray hm), if_pos hop]

theorem fetchData_unplaced (h : mirrorTake [4, 6] d = some (m, e)) (hm : FetchMine m e) (hop : m.op = 4) (hno : m.rcd = none ∨ ¬ FetchFree m e) :
    fetchData d = fetchRenewed e := by
  have hop6 : ¬ m.op = 6 := by omega
  simp only [fetchData, h, if_neg (not_stray hm), if_neg hop6]
  split
  · rfl
  next hr =>
    rw [if_pos]
    · rfl
    · have hfull := hno.resolve_left (by simp [hr])
      rw [FetchFree, Classical.not_and_iff_not_or_not, Nat.not_lt] at hfull
      exact hfull

theorem fetchData_placed {r : LRec} (h : mirrorTake [4, 6] d = some (m, e)) (hm : FetchMine m e) (hop : m.op = 4) (hr : m.rcd = some r)
    (hf : FetchFree m e) :
    fetchData d = fetchPlaced m.lidx r (fetchRenewed e) := by
  have hop6 : ¬ m.op = 6 := by omega
  simp only [fetchData, h, if_neg (not_stray hm), if_neg hop6, hr]
  rw [if_neg]
  · rfl
  · rintro (hfull | hp)
    · exact Nat.not_le.mpr hf.1 hfull
    · exact hp hf.2

end

/-! ### Records that survive (Table 18-4) -/

section
variable (l : Nat) (r : LRec) (d : Dev)

/-- What becomes of the record of an ADMITTED item: DONE with the verdict of a deadline. -/
def lapsedRec : LRec :=
  { r with phase := 3, verdict := if r.dlv then 6 else 5, flags := (r.flags &&& 0x74) + 1 + 8 * b2n (unsealed d), type := 1, error := 14, rlen := 0,
           relAt := now d, cut := 0xFFFFFFFF, scores := [0x7E00, 0x7E00, 0x7E00, 0x7E00], spans := [], mark := 0, refetch := false,
           admitAt := 0, deadline := 0, plen := 0, clipped := false }

/-- What becomes of a record that a verdict stands in already. -/
def verdictRec : LRec := { r with phase := 3, mark := 0, refetch := false }

theorem recoverRec_admitted (hs : r.poison = false) (hp : r.phase = 1) :
    recoverRec l r d = (true, raise 97 6 (orphan l (withRec l (lapsedRec r d) d))) := by
  rw [recoverRec, if_neg (ne_true_of_eq_false hs), hp]
  rfl

theorem recoverRec_verdict (hs : r.poison = false) (hp : r.phase = 2 ∨ r.phase = 3) :
    recoverRec l r d = (false, if r.deliv = 0 then ledgRetire l (withRec l (verdictRec r) d) else if r.deliv = 1 then orphan l (withRec l (verdictRec r) d)
      else withRec l (verdictRec r) d) := by
  rw [recoverRec, if_neg (ne_true_of_eq_false hs)]
  obtain hp | hp := hp <;> rw [hp] <;> rfl

theorem lrec_orphan : lrec l (orphan l d) = { lrec l d with deliv := 2, backlog := true } := by
  rw [orphan, lrec_raise, lrecMod, lrecSet_same]

theorem unsent_orphan : unsent (orphan l d).ledger = unsent d.ledger := by
  rw [orphan, raise_ledger]
  rfl

/-- A record as an orphan. -/
def orphanedRec : LRec := { r with deliv := 2, backlog := true }

theorem recoveryCounted_of {x : Bool × Dev} (hl : lrec l x.2 = r) (hr : unsent x.2.ledger = unsent d.ledger) :
    lrec l (recoveryCounted x) = r ∧ (recoveryCounted x).ledger.fetched = d.ledger.fetched + b2n x.1 ∧ mirroring (recoveryCounted x) = mirroring d := by
  obtain ⟨_, hfetched, _⟩ := of_unsent hr
  exact ⟨hl, congrArg (· + b2n x.1) hfetched, mirroring_of_unsent (e := x.2) hr⟩

theorem fetchTaken_admitted (hs : r.poison = false) (hp : r.phase = 1) :
    let e := fetchTaken l r d
    lrec l e = orphanedRec (lapsedRec r d) ∧ e.ledger.fetched = d.ledger.fetched + 1 ∧ mirroring e = mirroring d := by
  rw [fetchTaken, recoverRec_admitted l r _ hs hp]
  refine recoveryCounted_of l _ d ?_ ?_
  · rw [lrec_raise, lrec_orphan, lrec_withRec_same]
    rfl
  · rw [raise_ledger, unsent_orphan]
    rfl

theorem fetchTaken_delivered (hs : r.poison = false) (hp : r.phase = 2 ∨ r.phase = 3) (hd : r.deliv = 0) :
    let e := fetchTaken l r d
    lrec l e = {} ∧ e.ledger.fetched = d.ledger.fetched ∧ mirroring e = mirroring d := by
  rw [fetchTaken, recoverRec_verdict l r _ hs hp, if_pos hd, ledgRetire_done l _ (by rw [lrec_withRec_same]; rfl) (by rwa [lrec_withRec_same])]
  refine recoveryCounted_of l _ d ?_ ?_
  · rw [lrec_mirrorSend_retire, lrec_withRec_same]
  · rw [unsent_mirrorSend]
    rfl

theorem fetchTaken_waiting (hs : r.poison = false) (hp : r.phase = 2 ∨ r.phase = 3) (hd : r.deliv ≠ 0) :
    let e := fetchTaken l r d
    lrec l e = (if r.deliv = 1 then orphanedRec (verdictRec r) else verdictRec r) ∧ e.ledger.fetched = d.ledger.fetched ∧ mirroring e = mirroring d := by
  rw [fetchTaken, recoverRec_verdict l r _ hs hp, if_neg hd]
  refine recoveryCounted_of l _ d ?_ ?_ <;> dsimp only <;> split
  · rw [lrec_orphan, lrec_withRec_same]
    rfl
  · rw [lrec_withRec_same]
  · rw [unsent_orphan]
    rfl
  · rfl

theorem fetched_fetchPlaced : (fetchPlaced l r d).ledger.fetched = (fetchTaken l r d).ledger.fetched := by
  unfold fetchPlaced
  split
  · rfl
  · exact (of_unsent (unsent_mirrorSend _ _ 0)).2.1

theorem lrec_fetchPlaced (h : (lrec l (fetchTaken l r d)).phase ≠ 0) :
    lrec l (fetchPlaced l r d) = { lrec l (fetchTaken l r d) with mirrored := false } := by
  rw [fetchPlaced, if_neg h, lrec_mirrorSend_write]

/-- An ADMITTED item's record takes its place as an orphan with the verdict of a deadline, and goes to the peer under the newest MSEQ. -/
theorem fetchPlaced_admitted (hs : r.poison = false) (hp : r.phase = 1) :
    let e := fetchPlaced l r d
    lrec l e = { orphanedRec (lapsedRec r d) with mirrored := false } ∧ e.ledger.fetched = d.ledger.fetched + 1 ∧
    (mirroring d = true → ∃ p ∈ e.ledger.mout, p.op = 0 ∧ p.lidx = l ∧ p.mseq = e.ledger.mseq) := by
  obtain ⟨hl, hfetched, hmirrors⟩ := fetchTaken_admitted l r d hs hp
  have hphase : (lrec l (fetchTaken l r d)).phase ≠ 0 := by
    rw [hl]
    exact Nat.succ_ne_zero 2
  refine ⟨?_, ?_, fun hon => ?_⟩
  · rw [lrec_fetchPlaced l r d hphase, hl]
  · rw [fetched_fetchPlaced, hfetched]
  · rw [fetchPlaced, if_neg hphase, mirrorSend_write_on _ _ (hmirrors.trans hon)]
    exact ⟨_, List.mem_append_right _ (List.mem_singleton_self _), rfl, rfl, rfl⟩

/-- A record in which a verdict stands is FREE again where nothing waited for delivery, and else keeps its verdict. -/
theorem fetchPlaced_verdict (hs : r.poison = false) (hp : r.phase = 2 ∨ r.phase = 3) :
    let e := fetchPlaced l r d
    e.ledger.fetched = d.ledger.fetched ∧ (r.deliv = 0 → lrec l e = {}) ∧
    (r.deliv ≠ 0 → lrec l e = { if r.deliv = 1 then orphanedRec (verdictRec r) else verdictRec r with mirrored := false }) := by
  dsimp only
  rw [fetched_fetchPlaced]
  by_cases hd : r.deliv = 0
  · obtain ⟨hl, hfetched, _⟩ := fetchTaken_delivered l r d hs hp hd
    refine ⟨hfetched, fun _ => ?_, fun hno => absurd hd hno⟩
    rw [fetchPlaced, if_pos (by rw [hl]), hl]
  · obtain ⟨hl, hfetched, _⟩ := fetchTaken_waiting l r d hs hp hd
    have hphase : (lrec l (fetchTaken l r d)).phase ≠ 0 := by
      rw [hl]
      split <;> exact Nat.succ_ne_zero 2
    refine ⟨hfetched, fun hno => absurd hno hd, fun _ => ?_⟩
    rw [lrec_fetchPlaced l r d hphase, hl]

/-- A lapsed record has bit 0 of FLAGS set, whatever flags it keeps. -/
theorem lapsedRec_flags_odd : (lapsedRec r d).flags % 2 = 1 := by
  have hkept : (r.flags &&& 0x74) % 2 = 0 := by
    rw [show 2 = 2 ^ 1 from rfl, Nat.and_mod_two_pow]
    exact Nat.and_zero _
  have hflags : (lapsedRec r d).flags = (r.flags &&& 0x74) + 1 + 8 * b2n (unsealed d) := rfl
  omega

end

/-! ### The settings (R408) -/

section
variable {f : Ledger → Ledger} {d : Dev}

theorem mirrorSetup_off (h : mirroring (ledgMod f d) = false) :
    mirrorSetup f d = withLedger { f d.ledger with unacked := [], degraded := false } d := by
  simp only [mirrorSetup, h, Bool.not_false, if_true]
  rfl

theorem mirrorSetup_same (h : mirroring (ledgMod f d) = true) (hwas : mirroring d = true) (hpeer : (f d.ledger).peer = d.ledger.peer) :
    mirrorSetup f d = withLedger (f d.ledger) d := by
  have hsame : ((ledgMod f d).ledger.peer == d.ledger.peer) = true := beq_iff_eq.mpr hpeer
  simp only [mirrorSetup, h, hwas, hsame, Bool.not_true, Bool.and_self, Bool.false_eq_true, if_false, if_true]
  rfl

theorem mirrorSetup_begins (h : mirroring (ledgMod f d) = true) (hnew : mirroring d = false ∨ (f d.ledger).peer ≠ d.ledger.peer) :
    mirrorSetup f d = mirrorRestart (ledgMod f d) := by
  have hother : (mirroring d && (ledgMod f d).ledger.peer == d.ledger.peer) = false := by
    obtain hwas | hpeer := hnew
    · rw [hwas, Bool.false_and]
    · rw [show ((ledgMod f d).ledger.peer == d.ledger.peer) = false from beq_eq_false_iff_ne.mpr hpeer, Bool.and_false]
  simp only [mirrorSetup, h, hother, Bool.not_true, Bool.false_eq_true, if_false]

variable (d)

/-- A degraded mirror is in step once nothing waits, and not before. -/
theorem mirrorStep_degraded (h : d.ledger.degraded = true) : (mirrorStep d).ledger.degraded = false ↔ (mirrorStep d).ledger.unacked = [] := by
  rw [mirrorStep_eq]
  dsimp only [withLedger]
  split
  next hu => exact iff_of_true rfl hu
  next hu => exact iff_of_false (ne_false_of_eq_true h) hu

/-- The settings of the Ledger `g`: what neither sending nor falling out of step changes. -/
def settingsOf (g : Ledger) : Ledger := unsent { g with degraded := false }

/-- Everything goes as from a degraded mirror with no write waiting. -/
def restarted : Dev := withLedger { d.ledger with degraded := true, unacked := [] } d

theorem mirrorRestart_eq : mirrorRestart d = mirrorStep (mirrorResend (restarted d)) := rfl

/-- Everything is sent, the settings stay, and the mirror is in step at once where nothing had to be sent. -/
theorem mirrorRestart_sends (h : mirroring d = true) :
    allSent d (mirrorRestart d) ∧ settingsOf (mirrorRestart d).ledger = settingsOf d.ledger ∧
    ((mirrorRestart d).ledger.degraded = false ↔ (mirrorRestart d).ledger.unacked = []) := by
  have hrest := (sendsAmong_mirrorResend (restarted d)).rest
  obtain ⟨hdegraded, _⟩ := of_unsent hrest
  have hstep := mirrorStep_degraded (mirrorResend (restarted d)) hdegraded
  rw [← mirrorRestart_eq] at hstep
  refine ⟨?_, ?_, hstep⟩ <;> rw [mirrorRestart_eq, mirrorStep_eq]
  · exact allSent_mirrorResend (restarted d) h
  · exact (congrArg (fun g : Ledger => { g with degraded := false }) hrest :)

end

section
variable {a b : Dev}

theorem allSent_of_recs {a' : Dev} (hr : a'.ledger.recs = a.ledger.recs) (h : allSent a' b) : allSent a b := by
  intro l hphase hsound
  have hl : lrec l a' = lrec l a := by rw [lrec, lrec, hr]
  exact h l (hl ▸ hphase) (hl ▸ hsound)

/-- What a change of the settings leads to where mirroring begins or gets another peer. -/
theorem mirrorSetup_sends {f : Ledger → Ledger} (h : mirroring (ledgMod f a) = true) (hnew : mirroring a = false ∨ (f a.ledger).peer ≠ a.ledger.peer)
    (hr : (f a.ledger).recs = a.ledger.recs) :
    allSent a (mirrorSetup f a) ∧ settingsOf (mirrorSetup f a).ledger = settingsOf (f a.ledger) ∧
    ((mirrorSetup f a).ledger.degraded = false ↔ (mirrorSetup f a).ledger.unacked = []) := by
  rw [mirrorSetup_begins h hnew]
  obtain ⟨hsent, hrest, hstep⟩ := mirrorRestart_sends (ledgMod f a) h
  exact ⟨allSent_of_recs hr hsent, hrest, hstep⟩

end

section
variable (v : Nat) (d : Dev)

/-- The settings that a write of LEDG_CFG makes of `g`. -/
def cfgSet (forced : Bool) (g : Ledger) : Ledger :=
  { g with maxReplay := bitsOf v 3 0, mirrorOn := bitOf v 8 || forced, serve := bitOf v 9, autoFetch := bitOf v 11 }

/-- The block with a write of MIRROR 0 under FORCED counted. -/
def cfgCounted : Dev := if d.ledger.forced = true ∧ bitOf v 8 = false then badacc d else d

theorem cfgCounted_ledger : (cfgCounted v d).ledger = d.ledger := by
  unfold cfgCounted
  split <;> rfl

theorem ledgCfgWrite_eq : ledgCfgWrite v d = mirrorSetup (cfgSet v d.ledger.forced) (cfgCounted v d) := by
  have hcounts : (d.ledger.forced && !bitOf v 8) = true ↔ d.ledger.forced = true ∧ bitOf v 8 = false := by
    rw [Bool.and_eq_true, Bool.not_eq_true']
  rw [ledgCfgWrite, cfgCounted]
  simp only [hcounts]
  rfl

/-- The settings that a write of LEDG_PEER makes of `g`. -/
def peerSet (g : Ledger) : Ledger := { g with peerV := bitOf v 31, peer := bitsOf v 15 0 }

theorem ledgPeerWrite_against (hf : d.ledger.forced = true) (hv : bitOf v 31 = false) : ledgPeerWrite v d = badacc d := by
  rw [ledgPeerWrite, hf, hv]
  rfl

theorem ledgPeerWrite_sets (h : d.ledger.forced = false ∨ bitOf v 31 = true) : ledgPeerWrite v d = mirrorSetup (peerSet v) d := by
  rw [ledgPeerWrite, if_neg]
  · rfl
  · obtain hf | hv := h <;> simp [*]

end

/-! ### The commands -/

section
variable (s : State)

theorem exec_orphanExpiry (l : Nat) (h : Runs s) : exec (.orphanExpiry l) s = after s (orphanExpiry l s.dev) := runLive_of_runs s _ h

theorem exec_mirrorPacketReceive (h : Runs s) : exec .mirrorPacketReceive s = after s (mirrorReceive s.dev) := runLive_of_runs s _ h

theorem exec_mirrorAck (h : Runs s) : exec .mirrorAck s = after s (mirrorAck s.dev) := runLive_of_runs s _ h

theorem exec_mirrorTimeout (q : Nat) (h : Runs s) : exec (.mirrorTimeout q) s = after s (mirrorTimeout q s.dev) := runLive_of_runs s _ h

theorem exec_mirrorFetchRequest (h : Runs s) : exec .mirrorFetchRequest s = after s (fetchRequest s.dev) := runLive_of_runs s _ h

theorem exec_mirrorFetchData (h : Runs s) : exec .mirrorFetchData s = after s (settle (fetchData s.dev)) := runLive_of_runs s _ h

theorem exec_mirrorFetchTimeout (h : Runs s) : exec .mirrorFetchTimeout s = after s (fetchTimeout s.dev) := runLive_of_runs s _ h

theorem exec_ledgerCfgWrite (v : Nat) (h : Runs s) (hf : HostFree s) : exec (.ledgerCfgWrite v) s = after s (ledgCfgWrite v s.dev) := by
  have hexec : exec (.ledgerCfgWrite v) s = execLedgerCfgWrite v s := rfl
  rw [hexec, execLedgerCfgWrite, runLive_of_runs s _ h, hostReg, hostDo_of_free _ _ _ hf]

theorem exec_ledgerPeerWrite (v : Nat) (h : Runs s) (hf : HostFree s) : exec (.ledgerPeerWrite v) s = after s (ledgPeerWrite v s.dev) := by
  have hexec : exec (.ledgerPeerWrite v) s = execLedgerPeerWrite v s := rfl
  rw [hexec, execLedgerPeerWrite, runLive_of_runs s _ h, hostReg, hostDo_of_free _ _ _ hf]

end

end Sys2Proof.Machine

theorem Sys2Proof.Claims.orphansExpire : OrphansExpire := by
  intro s l h r old d1
  rw [exec_orphanExpiry s l h]
  refine ⟨fun ho hp => ?_, fun ho hp hoff => ?_, fun ho hp hon => ?_, fun hno => ?_⟩
  · rw [orphanExpiry_old l _ ho, ledgRetire_not_done l _ (by rwa [lrec_orphanDropped])]
    rfl
  · rw [orphanExpiry_old l _ ho, ledgRetire_done l _ (by rwa [lrec_orphanDropped]) (by rw [lrec_orphanDropped]),
      mirrorSend_retire_off l _ (by rwa [mirroring_withRec, mirroring_orphanDropped])]
    rfl
  · rw [orphanExpiry_old l _ ho, ledgRetire_done l _ (by rwa [lrec_orphanDropped]) (by rw [lrec_orphanDropped]),
      mirrorSend_retire_on l _ (by rwa [mirroring_withRec, mirroring_orphanDropped])]
    rfl
  · rw [orphanExpiry_young l _ hno]

theorem Sys2Proof.Claims.mirrorsAreServed : MirrorsAreServed := by
  intro s m d1 h hc kept older fits gives
  obtain ⟨x, rfl⟩ := mirrorComes_leaves hc
  have htake {ops : List Nat} (hop : m.op ∈ ops) : mirrorTake ops s.dev = some (m, sluSet 167 x s.dev) := by
    rw [mirrorTake_of_comes hc, if_pos hop]
  have hleave {ops : List Nat} (hop : m.op ∉ ops) : mirrorTake ops s.dev = none := by
    rw [mirrorTake_of_comes hc, if_neg hop]
  have hreceive {e : Dev} (he : mirrorReceive s.dev = e) : gives e := by
    rw [← he]
    exact exec_mirrorPacketReceive s h
  rw [exec_mirrorFetchRequest s h]
  refine ⟨fun hop hf => hreceive ?_, fun hop hf ho => hreceive ?_, fun hop hf ho => hreceive ?_, fun r hop hr hf ho => hreceive ?_,
    fun h0 h3 => hreceive ?_, fun hop hs => ?_, fun hop hs => ?_, fun hop => ?_⟩
  · exact mirrorReceive_refused (htake (by simpa using hop)) hf
  · exact mirrorReceive_older (htake (by simpa using hop)) hf ho
  · exact mirrorReceive_frees (htake (by simp [hop])) hf ho hop
  · exact mirrorReceive_stores (htake (by simp [hop])) hf ho hop hr
  · exact mirrorReceive_none (hleave (by simp [h0, h3]))
  · rw [fetchRequest_refused (htake (by simp [hop])) hs]
  · rw [fetchRequest_served (htake (by simp [hop])) hs]
    rfl
  · rw [fetchRequest_none (hleave (by simpa using hop))]

theorem Sys2Proof.Claims.mirrorsAreAcknowledged : MirrorsAreAcknowledged := by
  refine ⟨fun s m d1 h hc hop => ?_, fun s q h => ?_, allSent_mirrorResend, unacked_mirrorResend, mirrorState_degraded⟩
  · obtain ⟨x, rfl⟩ := mirrorComes_leaves hc
    have htake : mirrorTake [1, 2] s.dev = some (m, sluSet 167 x s.dev) := by
      rw [mirrorTake_of_comes hc, if_pos (by simpa using hop)]
    intro of asked ended
    rw [exec_mirrorAck s h]
    refine ⟨fun hno hr => ?_, fun hno hr hwho => ?_, fun hno hr sid tag hwho => ?_, fun w hw => ?_⟩
    · rw [mirrorAck_stray htake hno hr]
    · rw [mirrorAck_refuses_fetch htake hno hr, fetchEnd_unawaited _ (by rwa [raise_ledger]), raise_ledger]
    · rw [mirrorAck_refuses_fetch htake hno hr, fetchEnd_awaited _ (by rwa [raise_ledger]), raise_ledger]
      rfl
    · intro left g r
      refine ⟨fun h1 hp hlast => ?_, fun h1 hno => ?_, fun h2 => ?_⟩
      · rw [mirrorAck_marks htake hw h1 hp hlast]
        rfl
      · rw [mirrorAck_unmarked htake hw h1 hno]
        rfl
      · rw [mirrorAck_fails htake hw h2, mirrorFail_eq]
        rfl
  · intro of
    rw [exec_mirrorTimeout s q h]
    refine ⟨fun hno => ?_, fun w hw => ?_⟩
    · rw [mirrorTimeout_none hno]
    · intro g r again p once
      refine ⟨fun ha hp => ?_, fun ha hp => ?_, fun ha => ?_⟩
      · rw [mirrorTimeout_first hw ha, if_neg hp, if_neg hp]
        rfl
      · rw [mirrorTimeout_first hw ha, if_pos hp, if_pos hp]
        rfl
      · rw [mirrorTimeout_again hw ha, mirrorFail_eq]

theorem Sys2Proof.Claims.fetchesRecover : FetchesRecover := by
  refine ⟨fun s m d1 h hc hop => ?_, fun s h => ?_⟩
  · obtain ⟨x, rfl⟩ := mirrorComes_leaves hc
    have htake : mirrorTake [4, 6] s.dev = some (m, sluSet 167 x s.dev) := by
      rw [mirrorTake_of_comes hc, if_pos (by simpa using hop)]
    intro mine renewed free
    rw [exec_mirrorFetchData s h]
    refine ⟨fun hno => ?_, fun hm h6 hwho => ?_, fun hm h6 sid tag hwho => ?_, fun hm h4 hno => ?_, fun hm h4 hf r hr => ?_⟩
    · rw [fetchData_stray htake hno]
    · have hwho' : (sluSet 167 x s.dev).ledger.fetchWho = none := hwho
      rw [fetchData_end htake hm h6, fetchEnd_unawaited_due _ hwho']
    · have hwho' : (sluSet 167 x s.dev).ledger.fetchWho = some (sid, tag) := hwho
      rw [fetchData_end htake hm h6, fetchEnd_awaited _ hwho']
      rfl
    · rw [fetchData_unplaced htake hm h4 hno]
      rfl
    · have hs : r.poison = false := poison_of_comes hc hr
      have hleads {P : Dev → Prop} (hP : P (fetchPlaced m.lidx r (fetchRenewed (sluSet 167 x s.dev)))) : Leads .mirrorFetchData s P :=
        ⟨_, (exec_mirrorFetchData s h).trans (by rw [fetchData_placed htake hm h4 hr hf]), hP⟩
      refine ⟨fun hp => hleads ?_, fun hp => hleads ?_⟩
      · obtain ⟨hl, hfetched, hmirrors⟩ := fetchPlaced_admitted m.lidx r (fetchRenewed (sluSet 167 x s.dev)) hs hp
        dsimp only
        rw [hl, hfetched]
        exact ⟨rfl, rfl, rfl, lapsedRec_flags_odd r _, rfl, rfl, rfl, rfl, rfl, rfl, rfl, rfl, rfl, rfl, rfl, hmirrors⟩
      · obtain ⟨hfetched, hgone, hwaits⟩ := fetchPlaced_verdict m.lidx r (fetchRenewed (sluSet 167 x s.dev)) hs hp
        refine ⟨hfetched, fun hd => congrArg LRec.phase (hgone hd), fun hd => ?_⟩
        rw [hwaits (by omega)]
        obtain hd | hd := hd
        · rw [if_pos hd]
          exact ⟨rfl, rfl, rfl, rfl, rfl⟩
        · rw [if_neg (by omega)]
          exact ⟨rfl, hd, rfl, rfl, rfl⟩
  · rw [exec_mirrorFetchTimeout s h]
    refine ⟨fun hno => ?_, fun t ht => ?_⟩
    · rw [fetchTimeout_none hno]
    · intro d1
      refine ⟨fun hd => ?_, fun hd hwho => ?_, fun hd sid tag hwho => ?_⟩
      · rw [fetchTimeout_before ht hd]
      · rw [fetchTimeout_due ht hd, fetchEnd_unawaited _ (by rwa [raise_ledger]), raise_ledger]
      · rw [fetchTimeout_due ht hd, fetchEnd_awaited _ (by rwa [raise_ledger]), raise_ledger]
        rfl

theorem Sys2Proof.Claims.mirrorSettings : MirrorSettings := by
  refine ⟨fun s v h hf => ?_, fun s v h hf => ?_⟩
  · intro g d0 set on
    have hon : mirroring (ledgMod (cfgSet v g.forced) (cfgCounted v s.dev)) = true ↔ on := by
      simp [mirroring, ledgMod, cfgCounted_ledger, cfgSet, on, g]
    have hwas : mirroring (cfgCounted v s.dev) = mirroring s.dev := by rw [mirroring, mirroring, cfgCounted_ledger]
    have hexec : exec (.ledgerCfgWrite v) s = after s (mirrorSetup (cfgSet v g.forced) (cfgCounted v s.dev)) := by
      rw [exec_ledgerCfgWrite s v h hf, ledgCfgWrite_eq]
    refine ⟨fun hno => ?_, fun ho hm => ?_, fun ho hm => ?_⟩
    · rw [hexec, mirrorSetup_off (Bool.eq_false_iff.mpr (mt hon.mp hno)), cfgCounted_ledger]
      rfl
    · rw [hexec, mirrorSetup_same (hon.mpr ho) (hwas.trans hm) rfl, cfgCounted_ledger]
      rfl
    · obtain ⟨hsent, hrest, hstep⟩ := mirrorSetup_sends (hon.mpr ho) (.inl (hwas.trans hm)) rfl
      rw [cfgCounted_ledger] at hrest
      refine ⟨_, hexec, allSent_of_recs (by rw [cfgCounted_ledger]) hsent, (congrArg Ledger.maxReplay hrest :), (congrArg Ledger.serve hrest :),
        (congrArg Ledger.mirrorOn hrest :).trans ?_, (congrArg Ledger.autoFetch hrest :), hstep⟩
      exact Bool.or_eq_true_iff.mpr ho.1
  · intro g set on
    have hon : mirroring (ledgMod (peerSet v) s.dev) = true ↔ on := by
      rw [mirroring, Bool.and_eq_true]
      rfl
    refine ⟨fun hforced hv => ?_, fun hfree => ?_⟩
    · rw [exec_ledgerPeerWrite s v h hf, ledgPeerWrite_against v s.dev hforced hv]
    · have hexec : exec (.ledgerPeerWrite v) s = after s (mirrorSetup (peerSet v) s.dev) := by
        rw [exec_ledgerPeerWrite s v h hf, ledgPeerWrite_sets v s.dev hfree]
      refine ⟨fun hno => ?_, fun ho hm hpeer => ?_, fun ho hnew => ?_⟩
      · rw [hexec, mirrorSetup_off (Bool.eq_false_iff.mpr (mt hon.mp hno))]
        rfl
      · rw [hexec, mirrorSetup_same (hon.mpr ho) hm hpeer]
        rfl
      · obtain ⟨hsent, hrest, hstep⟩ := mirrorSetup_sends (hon.mpr ho) hnew rfl
        exact ⟨_, hexec, hsent, (congrArg Ledger.peer hrest :), hstep⟩

/-- Settles O58: orphans, the serving peer, the origin, the fetch and the settings. -/
theorem ledgersMirror : Obligations.LedgersMirror := by
  unfold Obligations.LedgersMirror
  exact ⟨orphansExpire, mirrorsAreServed, mirrorsAreAcknowledged, fetchesRecover, mirrorSettings⟩
end
